-- ==== Sys2Proof/Word.lean ====
section
/-! DEFINITION. The word and byte types, the sparse table every memory of the model is kept in, and their plainest
arithmetic. -/
namespace Sys2Proof

/-- A register of the PX48: 32 bits (R55). -/
abbrev Word := BitVec 32

/-- A byte of memory or of a frame. -/
abbrev Byte := BitVec 8

/-- A sparse table: keys strictly rising, no entry that equals what an unlisted key reads as. -/
abbrev KV (α : Type) := List (Nat × α)

/-- The 32-bit word of a number, modulo 2^32. -/
abbrev w32 (n : Nat) : Word := BitVec.ofNat 32 n

/-- The byte of a number, modulo 256. -/
abbrev w8 (n : Nat) : Byte := BitVec.ofNat 8 n

end Sys2Proof
end

