-- ==== Sys2Proof/Types.lean ====
section
/-! DEFINITION. The closed sets of names the spec uses (variants, initiators, islands, levels) and the records that the
commands carry as operands. -/
namespace Sys2Proof

/-- The three parts of Table 0.1. -/
inductive Variant where
  | px4840 | px4824 | px4812
  deriving DecidableEq, Repr

/-- Table 2.8: who may send a register access. -/
inductive Initiator where
  | core0 | core1 | core2 | core3 | safety | metrology | key | debug | mirror
  deriving DecidableEq, Repr

/-- The identifier of Table 2.8. -/
def Initiator.id : Initiator → Nat
  | .core0 => 0 | .core1 => 1 | .core2 => 2 | .core3 => 3 | .safety => 4
  | .metrology => 5 | .key => 6 | .debug => 7 | .mirror => 8

/-- The initiator of an identifier of Table 2.8; identifiers 0x9-0xF are never issued. -/
def Initiator.ofId : Nat → Initiator
  | 0 => .core0 | 1 => .core1 | 2 => .core2 | 3 => .core3 | 4 => .safety
  | 5 => .metrology | 6 => .key | 7 => .debug | _ => .mirror

/-- Compute cores 0-3. -/
def Initiator.isCore : Initiator → Bool
  | .core0 | .core1 | .core2 | .core3 => true
  | _ => false

/-- The islands of Table 1.1 in row order, and the interface die as island 9 (R66). -/
inductive Island where
  | aon | safety | metrology | key | compute | control | acquisition | link | pstage | iface
  deriving DecidableEq, Repr

/-- Island d of R66. -/
def Island.idx : Island → Nat
  | .aon => 0 | .safety => 1 | .metrology => 2 | .key => 3 | .compute => 4
  | .control => 5 | .acquisition => 6 | .link => 7 | .pstage => 8 | .iface => 9

/-- The island of an index 0-9. -/
def Island.ofIdx : Nat → Island
  | 0 => .aon | 1 => .safety | 2 => .metrology | 3 => .key | 4 => .compute
  | 5 => .control | 6 => .acquisition | 7 => .link | 8 => .pstage | _ => .iface

/-- The island an initiator belongs to; the debug port and the partner's mirror belong to AON and link (R75 speaks of
an initiator's own island). -/
def Initiator.island : Initiator → Island
  | .core0 | .core1 | .core2 | .core3 => .compute
  | .safety => .safety | .metrology => .metrology | .key => .key | .debug => .aon | .mirror => .link

/-- The levels of Table 1.5. -/
inductive Level where
  | normal | limp | hold | standby
  deriving DecidableEq, Repr

/-- PWR_LEVEL.CUR (Table 1.9). -/
def Level.code : Level → Nat
  | .normal => 0 | .limp => 1 | .hold => 2 | .standby => 3

/-- The level of a PWR_LEVEL.CUR code. -/
def Level.ofCode : Nat → Level
  | 0 => .normal | 1 => .limp | 2 => .hold | _ => .standby

/-- One register value of a billing SET (R377): page, offset, instance, value. -/
structure RegVal where
  page : Nat
  off : Nat
  inst : Nat
  val : Word
  deriving DecidableEq, Repr

/-- What the ITEM and DATA of a billing SET spell: register values of the object, or a role's public key. -/
inductive BilSet where
  | regs (ws : List RegVal)
  | roleKey (role : Nat) (key : List Byte)
  deriving DecidableEq, Repr

/-- The objects of Table 9.6. -/
inductive BilObj where
  | total (ch dir : Nat)
  | tariffReg (ch dir t : Nat)
  | maxDemand (ch dir t : Nat)
  | snapshot (back : Nat) (of : BilObj)
  | calib (ch : Nat)
  | tariffMode (ch : Nat)
  | session (outlet : Nat)
  | clock | calendar | schedule | metroTime | bilCfg | snapBanks | sealObj | journal | roleKeys | identity
  deriving DecidableEq, Repr

/-- A CAN frame as it stands on the bus (R540, R542): a remote frame carries no data. -/
structure CanFrame where
  ide : Bool
  id : Nat
  remote : Bool := false
  fdf : Bool := false
  brs : Bool := false
  esi : Bool := false
  dlc : Nat
  data : List Byte
  deriving DecidableEq, Repr

/-- How a transmit attempt ends (R546, R549): a bit error may come after the arbitration field. -/
inductive CanEnd where
  | success | lost | bit (afterArb : Bool) | stuff | form | ack (passiveQuiet : Bool)
  deriving DecidableEq, Repr

/-- The error a received frame ends in (R540). -/
inductive CanRxErr where
  | bit | stuff | form | crc
  deriving DecidableEq, Repr

/-- What an access to compute SRAM or a cache meets (R586, R588). -/
inductive MemErr where
  | corrected | uncorrectable | cacheCorrected | cacheUncorrectable | instructionParity
  deriving DecidableEq, Repr

/-- What a debugger asks of the debug module beside an access of the map (R70): the four compute harts can be halted, stepped
and resumed. -/
inductive DbgAsk where
  | access | halt (hart : Nat) | step (hart : Nat) | resume (hart : Nat)
  deriving DecidableEq, Repr

/-- A debugger's access of the debug module: its instant, and what it asks. -/
structure DbgAccess where
  time : Nat
  ask : DbgAsk
  deriving DecidableEq, Repr

/-- What a safety cycle finds: the pairs whose readback has matched Off for 10 ms (R421), as a mask, and how many errors the
TCM has corrected since the last cycle (Table 10.1). -/
structure SafetyObs where
  fclrOff : Nat
  tcm : Nat
  deriving DecidableEq, Repr

/-- What a signing request is for (R639): a session slot's record, or the Chromos statement of the job ring. -/
inductive SigFor where
  | session (slot : Nat)
  | statement
  deriving DecidableEq, Repr

namespace Variant

/-- Table 0.1, outlets. -/
def outlets : Variant → Nat | .px4840 => 16 | .px4824 => 8 | .px4812 => 4
/-- Table 0.1, converter modules. -/
def modules : Variant → Nat | .px4840 => 64 | .px4824 => 32 | .px4812 => 8
/-- Table 0.1, cabinet links. -/
def cabinets : Variant → Nat | .px4840 => 8 | .px4824 => 4 | .px4812 => 1
/-- Table 0.1, loop contexts. -/
def contexts : Variant → Nat | .px4840 => 128 | .px4824 => 64 | .px4812 => 32
/-- Table 0.1, sigma-delta inputs. -/
def sdInputs : Variant → Nat | .px4840 => 40 | .px4824 => 24 | .px4812 => 16
/-- Table 0.1, metering channels. -/
def mtrChannels : Variant → Nat | .px4840 => 17 | .px4824 => 9 | .px4812 => 5
/-- Table 0.1, CAN FD controllers. -/
def canCtls : Variant → Nat | .px4840 => 16 | .px4824 => 8 | .px4812 => 6
/-- Table 0.1, Ethernet MACs. -/
def macs : Variant → Nat | .px4840 => 4 | .px4824 => 4 | .px4812 => 2
/-- Table 0.1, RS-485 UARTs. -/
def uarts : Variant → Nat | .px4840 => 4 | .px4824 => 4 | .px4812 => 2
/-- Table 0.1, site PLC modems. -/
def modems : Variant → Nat | .px4840 => 2 | .px4824 => 1 | .px4812 => 0
/-- Table 0.1, Ausal lanes. -/
def lanes : Variant → Nat | .px4840 => 2 | .px4824 => 0 | .px4812 => 0
/-- Table 0.1, acquisition channels. -/
def acqChannels : Variant → Nat | .px4840 => 48 | .px4824 => 32 | .px4812 => 20
/-- Table 0.1, trigger sequencers. -/
def sequencers : Variant → Nat | .px4840 => 4 | .px4824 => 4 | .px4812 => 0
/-- Table 0.1, capture RAM in bytes. -/
def captureBytes : Variant → Nat | .px4840 => 0x400000 | .px4824 => 0x200000 | .px4812 => 0x100000
/-- Table 0.1, load switch channels. -/
def loadSwitches : Variant → Nat | .px4840 => 24 | .px4824 => 16 | .px4812 => 8
/-- Table 0.1, safety input pairs. -/
def inPairs : Variant → Nat | .px4840 => 16 | .px4824 => 12 | .px4812 => 8
/-- Table 0.1, safety output pairs. -/
def outPairs : Variant → Nat | .px4840 => 8 | .px4824 => 6 | .px4812 => 4
/-- Table 0.1, thermal inputs. -/
def thermals : Variant → Nat | .px4840 => 32 | .px4824 => 24 | .px4812 => 12

end Variant

end Sys2Proof

namespace Sys2Proof.Machine

/-- A register by name: its page, its byte offset and its reset value. A register of a channel window is one `Reg` for
all its instances. -/
structure Reg where
  page : Nat
  off : Nat
  reset : Word
  deriving DecidableEq, Repr

/-- One row of a register table: `count` registers `stride` bytes apart, each of `words` words, and which bits carry which
access code of Table 0.3 (R18). A bit in both `txn` and `sealed` is TXN+SEAL. A bit in no mask is reserved (R19). -/
structure RegRow where
  off : Nat
  count : Nat := 1
  stride : Nat := 4
  words : Nat := 1
  rw : Word := 0
  w1c : Word := 0
  w1s : Word := 0
  wo : Word := 0
  rc : Word := 0
  txn : Word := 0
  sealed : Word := 0
  ro : Word := 0
  reset : Word := 0
  banked : Bool := false
  only12 : Bool := false
  deriving DecidableEq, Repr

/-- One row of Table 2.3 together with the page's channel window. -/
structure PageInfo where
  code : Nat
  sub : Nat
  island : Island
  inst40 : Option Nat
  inst24 : Option Nat
  inst12 : Option Nat
  feat40 : Nat
  feat24 : Nat
  feat12 : Nat
  deriving DecidableEq, Repr

end Sys2Proof.Machine
end

