-- ==== Sys2Proof/Machine/Dev.lean ====
section
/-! DEFINITION. What the machine holds beside its queue of commands, as plain data: the register file and, block by
block, the working state that the spec gives a block and no register shows. Every field's default is its value at
reset. -/
namespace Sys2Proof.Machine


/-! ### Bus, transactions and fences (spec/02_register_model.md) -/

/-- What the last access of an initiator was answered with (R50, R55): a bus error, or the word read. -/
structure BusResp where
  err : Bool := false
  data : Word := 0
  deriving DecidableEq, Repr

/-- A write that has been accepted but not performed: a staged write (R82, R83), or a write held back because its island
does not run (R97). Pages 0x100 + n stand for coefficient block n. -/
structure PendWrite where
  init : Initiator
  page : Nat
  off : Nat
  inst : Nat
  val : Word
  /-- Held back only behind a fence of its initiator (R96). -/
  behind : Bool := false
  deriving DecidableEq, Repr

/-- A read that waits behind a write of its initiator to the same page (R95). -/
structure PendRead where
  init : Initiator
  page : Nat
  off : Nat
  inst : Nat
  deriving DecidableEq, Repr

/-- A write to memory that waits behind a fence of its initiator (R96): address, bytes and value. -/
structure PendStore where
  init : Initiator
  addr : Nat
  size : Nat
  val : Nat
  deriving DecidableEq, Repr

/-- An open transaction (R80-R84, R92). -/
structure OpenTxn where
  init : Initiator
  slot : Nat
  staged : List PendWrite := []
  /-- The address of the first staged write beyond the 1,024th (R84). -/
  overAt : Option Nat := none
  /-- The instant of TXN_BEGIN or of the last staged write, from which the idle timeout runs (R92). -/
  since : Nat := 0
  deriving DecidableEq, Repr

/-- A commit in the queue of TXN_COMMIT requests (R86, R89). -/
structure Commit where
  init : Initiator
  slot : Nat
  staged : List PendWrite
  overAt : Option Nat
  /-- The order in which the TXN_COMMIT writes reached the TXN page. -/
  seq : Nat
  /-- The instant at which validation succeeded. -/
  validAt : Option Nat := none
  /-- The earlier commits whose values this validation took into account (R89). -/
  onTop : List Nat := []
  /-- An earlier commit of `onTop` has failed at its boundary or been abandoned (R89). -/
  doomed : Bool := false
  /-- The commit holds mirrored writes, and the partner must acknowledge them (R708). -/
  needsAck : Bool := false
  ackAt : Option Nat := none
  deriving DecidableEq, Repr

/-- The transaction machinery of the control island and the fences. -/
structure TxnState where
  opens : List OpenTxn := []
  commits : List Commit := []
  nextSeq : Nat := 0
  /-- Writes of R97 that have not taken effect because their island does not run. -/
  held : List PendWrite := []
  /-- The fences that wait, with the instant of the fence write (R96, R97). -/
  fences : List (Initiator × Nat) := []
  /-- The initiators that have lost a held write to an island's reset: it stays unacknowledged (R97). -/
  dropped : List Initiator := []
  /-- Reads that wait behind their initiator's own held writes to the page (R95), and memory writes that wait behind a fence of
  their initiator (R96). -/
  reads : List PendRead := []
  stores : List PendStore := []
  deriving DecidableEq, Repr

/-- The clock, NVM and debug pages. -/
structure SysState where
  /-- Bytes waiting in the DBG_SWO FIFO (R71). -/
  swo : List Byte := []
  /-- The instant at which the first of them began to leave. -/
  swoAt : Nat := 0
  /-- The instant at which the present refresh pass started (R68). -/
  refreshFrom : Nat := 0
  /-- The instant from which the clocks are measured, and by island the measurement, counted from 1, that CLK_IFREQ shows
  (R66). -/
  clkFrom : Nat := 0
  clkSeen : KV Nat := []
  /-- In NVM: the life-cycle state in which the NVM was last wiped (R649). -/
  wipedLc : Nat := 0
  /-- Fuse fields with an uncorrectable word, as BootObs has them. -/
  badFuses : Nat := 0
  /-- The compute image of the bank booted: its address in flash, length and load address. -/
  image : Option (Nat × Nat × Nat) := none
  deriving DecidableEq, Repr


/-! ### Power, levels, resets and self-test (spec/01_architecture.md, spec/17_power_reset_bist.md) -/

/-- Where the power-up sequence of Table 17.4 stands. -/
inductive Phase where
  /-- VSYS has not passed the POR release, or a brown-out reset lasts. -/
  | off
  /-- The sequence waits for VSYS to be at or above PFWARN + 0.1 V (R671, R700). -/
  | waitVsys
  /-- The sequence waits at step 5 for RESET_N (R686). -/
  | waitPin
  /-- A key or safety BIST failure, or the third safety failure in 600 s, holds the device (R699, R680). -/
  | heldBist
  | heldSafety
  /-- Step 8 is done: the islands run. -/
  | running
  deriving DecidableEq, Repr

/-- What the self-test of one part finds (R694, R695, Table 17.9): 0 not run, 1 passed, 2 passed with soft repair, 3 failed;
its signatures, first failing word and memory status. -/
structure BistPart where
  part : Nat
  result : Nat
  lsig : Word := 0
  lexp : Word := 0
  maddr : Word := 0
  mstat : Word := 0
  deriving DecidableEq, Repr

/-- What a power-up meets and no register holds (R671, R686, R694-R699): the supplies and pins it samples, the outcome of the
self-test, and which records in NVM are damaged. A part that `bist` does not list passes. -/
structure BootObs where
  /-- VSYS in 10 mV. -/
  vsys : Nat := 500
  resetN : Bool := true
  bootsel : Nat := 0
  /-- VAUX is above 6.5 V. -/
  vaux : Bool := true
  /-- Bit b: VIOb is below 80 % of its nominal level (R668). -/
  vioLow : Nat := 0
  /-- The jumper of the metrology seal is intact (R385). -/
  jumper : Bool := true
  /-- The boot ROM's digest equals the mask constant (Table 16.10). -/
  romOk : Bool := true
  bist : List BistPart := []
  /-- In 0.1 ms. -/
  bistTime : Nat := 1800
  /-- The soft repairs, as REPAIR entries (R696, R697). -/
  soft : List Word := []
  /-- The debug port has downloaded the images (R654). -/
  downloaded : Bool := false
  /-- The slots whose generation record has no valid copy (R634). -/
  badGens : List Nat := []
  /-- The reservation record has no valid copy (R641). -/
  badIndex : Bool := false
  /-- The stored safety configuration fails its CRC (R400). -/
  badSafety : Bool := false
  /-- Fuse fields with an uncorrectable word: bit 0 ROOT, 1 IDSEED, 2 OWNERKEY (R626). -/
  badFuses : Nat := 0
  deriving DecidableEq, Repr

/-- One island's recovery window (R38). -/
structure IslandRec where
  /-- The instant of the fault that opened the 10 ms window. -/
  faultAt : Option Nat := none
  /-- A request opened it, no fault. -/
  asked : Bool := false
  /-- Shed by a power-fail warning and not yet restarted (R672). -/
  shed : Bool := false
  /-- Held off by its temperature sensor (R691). -/
  hot : Bool := false
  deriving DecidableEq, Repr

/-- Levels, resets and supplies. -/
structure PwrState where
  phase : Phase := .running
  /-- The level has reached Normal since the last reset (R678). -/
  reachedNormal : Bool := true
  /-- A profile change waits for its boundary (R32, R35). -/
  profPending : Option Nat := none
  /-- A Standby request has been accepted and entry is not complete (R41). -/
  standbyEntry : Bool := false
  /-- The levels of HOLD_N and RESET_N (R37, R686). -/
  holdN : Bool := true
  resetN : Bool := true
  /-- The instant RESET_N fell (R687). -/
  resetLowSince : Option Nat := none
  /-- The stuck-reset record in NVM: falling stamp, rising stamp, duration in ms (R687). -/
  stuckRec : Option (Nat × Nat × Nat) := none
  isl : KV IslandRec := []
  /-- The instants of the safety-failure resets of the last 600 s (R680). -/
  safetyResets : List Nat := []
  /-- The start of the running watchdog periods (R679). -/
  dwdSince : Nat := 0
  cwdSince : Nat := 0
  /-- The power-fail warning in progress: its start stamp and the lowest VSYS in 10 mV (R672, Table 18.6). -/
  pfw : Option (Nat × Nat) := none
  /-- VSYS has been at or above PFWARN + 0.1 V since this instant, with islands shed (R673). -/
  stableSince : Option Nat := none
  /-- The power-fail record in NVM, until a power-on reset has shown it (R684). -/
  pfRec : Bool := false
  /-- Since when an island, or the interface die, has been at or above 140 degrees (R691): island index + 1. -/
  critSince : KV Nat := []
  /-- The islands whose process-speed monitor has measured since the last system reset (R693). -/
  slackSeen : Nat := 0
  /-- The interface die is in reset through VAUX, or held by its temperature monitor (R685, R691). -/
  ifaceReset : Bool := false
  ifaceHot : Bool := false
  /-- VAUX has fallen below 6.0 V and not yet risen above 6.5 V (R685). -/
  vauxLow : Bool := false
  /-- VCORE is in regulation: the buck has started since the last power-on or brown-out reset (R669, R754). -/
  buck : Bool := true
  /-- Bit b: VIOb was below 80 % of its nominal level when the supplies were last sampled (R668). -/
  vioLow : Nat := 0
  /-- Full BIST has run once more after a key or safety failure (R699). -/
  bistRetried : Bool := false
  /-- The soft repairs of this boot, as REPAIR entries (R696, R697). -/
  softRepairs : List Word := []
  /-- The instant of the last compute-island failure, from which VREQHOLD runs (R30). -/
  vreqFrozenAt : Option Nat := none
  /-- The instant of the last grid sample, from which the 100 ms of R30 run. -/
  gridLostAt : Option Nat := some 0
  /-- The RTC in seconds; its alarm is a wake source (R42). -/
  rtc : Nat := 0
  deriving DecidableEq, Repr

/-! ### The event log (spec/18_pair_and_recovery.md) -/

/-- An event-log entry in a source's FIFO (R720-R723). -/
structure LogEntry where
  code : Nat
  sseq : Nat
  stamp : Nat
  data : List Byte
  deriving DecidableEq, Repr

/-- One source's FIFO of 16 entries (R722). -/
structure LogSrc where
  fifo : List LogEntry := []
  nextSeq : Nat := 0
  lost : Nat := 0
  lostAt : Nat := 0
  deriving DecidableEq, Repr


/-! ### Sensing and cabinet links (spec/03_sensing_and_cabinet_links.md) -/

/-- The working state of one sigma-delta channel that no register shows. -/
structure SdmChan where
  /-- The instants from which the fast-trip and control paths, and the metering path, settle (R116). -/
  settleFast : Option Nat := none
  settleMtr : Option Nat := none
  /-- Consecutive fast-trip samples at the clamp (R119). -/
  clampRun : Nat := 0
  deriving DecidableEq, Repr

/-- Snapshot and skew calibration (R113, R121). -/
structure SdmState where
  chan : KV SdmChan := []
  snapPending : Bool := false
  /-- A skew measurement runs since this instant. -/
  calFrom : Option Nat := none
  /-- REF and MEAS of the measurement, and whether either was STUCK during it. -/
  calRef : Nat := 0
  calMeas : Nat := 0
  calStuck : Bool := false
  deriving DecidableEq, Repr

/-- The working state of one cabinet link (R137-R139). -/
structure LinkRec where
  /-- Consecutive good T-frames that counted, in Training. -/
  good : Nat := 0
  /-- A good T-frame with the present frame's ECHO has arrived in time. -/
  got : Bool := false
  /-- The link goes to Dead at the next boundary. -/
  dying : Bool := false
  /-- The frame at whose boundary the link entered Dead (R139). -/
  deadAt : Nat := 0
  /-- CAB_LCFG.EN as it stood at the last boundary (R140). -/
  enWas : Bool := false
  /-- The cut-off of the present frame has passed (R131, R137). -/
  cut : Bool := false
  /-- The S-frames handed over that had not ended when the last one was: start and bytes (R130). -/
  sframes : List (Nat × List Byte) := []
  /-- The symbols of the last C-frame as the pair carried it, without S-frames inserted in it (R123, R130). -/
  line : List Nat := []
  /-- The safe telegram that waits for the link's next C-frame (R128). -/
  stg : List Byte := []
  deriving DecidableEq, Repr


/-! ### Loop engine (spec/04_loop_engine.md) -/

/-- The working state of one loop context that no register shows. -/
structure CtxRec where
  /-- The next evaluation takes qprev equal to its new q, or Iprev from IPRE (Table 4.10). -/
  qsync : Bool := false
  iload : Bool := false
  /-- The stamp at which the present saturation interval started, and whether it has raised its event (R179, R180). -/
  satFrom : Option Nat := none
  satFired : Bool := false
  /-- The present run of misses has escalated (R176). -/
  escDone : Bool := false
  /-- The settings in force at the last boundary, with which a commit is compared (R182). -/
  cfgWas : Word := 0
  srcWas : Word := 0
  /-- Coefficient groups that are unusable after an uncorrectable error, by bit (R175). -/
  badGroups : Nat := 0
  deriving DecidableEq, Repr

/-- The frame in progress. -/
structure LoopState where
  ctx : KV CtxRec := []
  /-- A boundary has been counted since the control island left reset (R165). -/
  started : Bool := false
  /-- The stamp of the last boundary and of the instant V of its frame. -/
  boundaryAt : Nat := 0
  vAt : Nat := 0
  /-- The due contexts of the frame that have not been evaluated. -/
  due : List Nat := []
  /-- The contexts that missed in this frame (R173). -/
  missed : List Nat := []
  /-- Due contexts in a lane, and not yet in a lane, at the deadline (R174). -/
  inLane : List Nat := []
  notIn : List Nat := []
  /-- The frame's outputs have been distributed (R170). -/
  distributed : Bool := true
  deriving DecidableEq, Repr


/-! ### Arbiters and tuning (spec/05_constraint_arbitration.md) -/

/-- The working state of one arbiter: outlets 0-15, the site arbiter 16. -/
structure ArbRec where
  /-- The identity of the last decision (R193). -/
  ident : Option Nat := none
  /-- The decision of the frame before: winning value, WVALID and identity (R201). -/
  prevWin : Word := 0
  prevValid : Bool := false
  prevIdent : Option Nat := none
  /-- A commit changed the arbiter's configuration at this frame's boundary (R204). -/
  fresh : Bool := false
  /-- The arbiter has decided in this frame (R197). -/
  decided : Bool := false
  /-- EN in force at the last boundary (R192). -/
  enWas : Bool := false
  /-- The vehicle request in force (R212), and whether it has lapsed to zero (R30, R713). -/
  vreq : Word := 0
  vreqDead : Bool := false
  /-- The instant of a takeover, from which VREQHOLD runs until firmware writes ARB_VREQ (R713). -/
  vreqFrom : Option Nat := none
  deriving DecidableEq, Repr

/-- The tuning session (R213-R222). -/
structure TunState where
  /-- START waits for its boundary (R218). -/
  pending : Bool := false
  /-- The session's first injected evaluation has been made. -/
  begun : Bool := false
  /-- Due evaluations of the present point, or of the PRBS session, so far. -/
  j : Nat := 0
  /-- The PRBS generator (R215). -/
  lfsr : Nat := 0
  /-- The four sums of every point: 4 i to 4 i + 3 are IN re, IN im, RET re, RET im of point i. -/
  sums : KV (Int × Int) := []
  clip : Bool := false
  narrow : Bool := false
  /-- A point's window is complete and its results are to be written (R219). -/
  ready : Bool := false
  /-- The last IN and RET handed to the acquisition engine (R222). -/
  tapIn : Word := 0
  tapRet : Word := 0
  deriving DecidableEq, Repr

/-- The arbiters. -/
structure ArbState where
  arb : KV ArbRec := []
  tun : TunState := {}
  deriving DecidableEq, Repr


/-! ### Site power sharing and regrouping (spec/06_site_power_sharing.md) -/

/-- A rebuild of one module (R226): 0 none, 1 waits for a good T-frame, 2 has its CONTST. -/
structure ModRec where
  rebuild : Nat := 0
  contst : Nat := 0
  /-- EN in force at the last boundary. -/
  enWas : Bool := false
  /-- The rebuild at Hold exit is still due (R250). -/
  afterHold : Bool := false
  deriving DecidableEq, Repr

/-- One move slot (R242). -/
structure MoveRec where
  modu : Nat
  /-- The outlet and reach index it leaves; none from Parked. -/
  src : Option (Nat × Nat)
  /-- The outlet and reach index it goes to; none towards Parked. -/
  dst : Option (Nat × Nat)
  /-- Table 6.2: 1 DOWN, 2 OPEN, 3 MATCH, 4 CLOSE, 5 UP, 6 REVERT, 7 PARKING. -/
  phase : Nat
  /-- The reach index whose contactor OPEN opens. -/
  openAt : Nat := 0
  /-- The stamps at which the move and its present phase began. -/
  startAt : Nat := 0
  phaseAt : Nat := 0
  /-- Frames since MATCH began: CLOSE shares its limit (R245). -/
  matchAt : Nat := 0
  /-- Frames of UP or REVERT so far (R243). -/
  k : Nat := 0
  /-- Consecutive good T-frames that met the phase's condition. -/
  okRun : Nat := 0
  /-- The result with which PARKING ends. -/
  parkRes : Nat := 3
  /-- OPEN goes to PARKING, after a trip of the outlet that the module leaves (Table 6.3). -/
  toPark : Bool := false
  /-- The ceiling of UP or REVERT was at or above the routed ISET in a frame. -/
  reached : Bool := false
  /-- The move was planned by the planner (the last row of Table 6.3). -/
  planned : Bool := false
  /-- A new allocation no longer plans it and its outlet falls short (Table 6.3, last row): it reverts at the next boundary. -/
  dropped : Bool := false
  deriving DecidableEq, Repr

/-- The allocator and the regroup sequencer. -/
structure ShareState where
  modu : KV ModRec := []
  move : KV (Option MoveRec) := []
  /-- The inputs of the frame before: each outlet's voltage as a fraction, each outlet's lowest claim in A (R234), and the
  site winning value while it was valid. -/
  prevV : List (Option (Int × Nat)) := []
  prevC : List Nat := []
  prevSite : Option Word := none
  /-- The claims and budgets that take effect at boundary b + 1, per outlet, and the frame b of their cycle (R232). -/
  pendClaims : Option (List (Word × Nat) × Nat) := none
  /-- The claims of the allocator, per outlet. -/
  claims : List Word := []
  /-- claim[o] of the last cycle in A, before BF24. -/
  claimA : List Nat := []
  /-- The moves that take effect at the next boundary: module, and reach index and outlet, none for PARK; planned or not. -/
  pendMoves : List (Nat × Option (Nat × Nat) × Bool) := []
  /-- The claims of a cycle since the last reset, restart or entry into the static table have taken effect (R236). -/
  cycled : Bool := false
  /-- Limp has been entered since the last boundary (R236). -/
  limped : Bool := false
  /-- The frame of the last allocation cycle (R232). -/
  cycleAt : Option Nat := none
  deriving DecidableEq, Repr

/-! ### Acquisition (spec/07_acquisition.md) -/

/-- Rate exponent, PRE, POST and channel mask that a unit captures with. -/
structure UnitCfg where
  d : Nat := 0
  pre : Nat := 0
  post : Nat := 0
  mask : Nat := 0
  deriving DecidableEq, Repr

/-- A pod that is not closed (Table 7.5). -/
structure PodRec where
  /-- Ttrig in ps. -/
  ttrig : Nat
  tsrc : Nat
  st : Nat
  fault : Bool := false
  tripset : Nat := 0
  merged : Nat := 0
  aborted : Bool := false
  /-- The settings it is captured with, and the end of its post-trigger window in ns (R275). -/
  cfg : UnitCfg := {}
  ends : Nat := 0
  deriving DecidableEq, Repr

/-- A trigger sequencer, the fault recorder in its place, or the PX4812's simple trigger (unit 0 there). -/
structure AcqUnit where
  /-- Armed from the next tick on, and armed. -/
  arming : Bool := false
  armed : Bool := false
  /-- Disarms at the next tick, or when its pod has closed (R265). -/
  disarming : Bool := false
  stopping : Bool := false
  /-- The fault recorder runs in this unit. -/
  running : Bool := false
  /-- The stamps at which the timers restarted, and timers and counters whose condition has become true (R268). -/
  tmr : KV Nat := []
  tmrTrue : Nat := 0
  cntTrue : Nat := 0
  /-- The hysteresis memory of modes 4 and 5, by comparator (R270); the stamp of the sample each last looked at, plus 1; and of a
  true level comparator the stamp of the sample that made it true, plus 1 (R273). -/
  hyst : Nat := 0
  seen : KV Nat := []
  since : KV Nat := []
  /-- The condition codes true at the tick before, as a mask (R273). -/
  prev : Nat := 0
  /-- The newest samples of each channel, oldest first: stamp in ns, none where invalid (R257). -/
  last : KV (List (Nat × Option Int)) := []
  /-- The samples held of each channel, oldest first. -/
  hist : KV (List (Nat × Option Int)) := []
  /-- The pods not closed yet, oldest first. -/
  pods : List PodRec := []
  deriving DecidableEq, Repr

/-- The acquisition engine. -/
structure AcqState where
  units : KV AcqUnit := []
  /-- The sums of four fast-trip samples of the last 128 ticks by SDM channel, newest first, none where one is invalid (R254). -/
  sums : KV (List (Option Int)) := []
  /-- The level has left Normal since the last tick (R286). -/
  left : Bool := false
  /-- Capture ticks so far: the grid of R254. -/
  ticks : Nat := 0
  /-- The stamp of the last tick. -/
  lastTick : Nat := 0
  /-- Events of conditions 0x0A-0x0D and 0x26-0x2E with their stamps in ps (R269). -/
  events : List (Nat × Nat) := []
  /-- Bits written to ACQ_SWTRG since the last tick. -/
  sw : Nat := 0
  /-- Tuning samples not yet taken: stamp, IN, RET (R258). -/
  tun : List (Nat × Word × Word) := []
  /-- The trips a tick has still to see: stamp in ns, and outlet, 16 the site (TRIPSET). -/
  trips : List (Nat × Nat) := []
  deriving DecidableEq, Repr

/-! ### Metrology (spec/08_metrology.md) -/

/-- The working state of one metering channel. -/
structure MtrChan where
  /-- The 96-bit import and export accumulators, in units of 2^-32 mWh (R296). -/
  imp : Nat := 0
  exp : Nat := 0
  /-- The creep windows, newest first: one on a DC channel, one per phase on channel 0 (R300). -/
  win : List (List (Option Nat)) := []
  /-- Gap samples of the present period (R297). -/
  gaps : Nat := 0
  /-- The present period holds export samples of a reverse event (R317). -/
  rev : Bool := false
  /-- The block of 10 sample instants of R299: sum of p, samples so far, and whether one was invalid. -/
  blkSum : Int := 0
  blkN : Nat := 0
  blkBad : Bool := false
  /-- The run of export samples that starts an event: length, first stamp, energy; and that it reached REVTIME (R316). -/
  runN : Nat := 0
  runAt : Nat := 0
  runE : Nat := 0
  startDue : Bool := false
  /-- The present period, and the one closed before it, hold export samples of that run (R317). -/
  runHere : Bool := false
  runPast : Bool := false
  /-- The event: start stamp and export energy; the run that ends it, and that it reached REVTIME. -/
  evAt : Nat := 0
  evE : Nat := 0
  endN : Nat := 0
  endAt : Nat := 0
  endDue : Bool := false
  deriving DecidableEq, Repr

/-- What a latch tick closes (R306-R308): tick stamp, period flags of Table 8.2, ticks, and per channel import, export,
gap samples and REV. -/
structure Closing where
  tick : Nat
  flags : Nat
  ticks : Nat
  chans : List (Nat × Nat × Nat × Bool)
  /-- Written configuration took effect at the tick (R311). -/
  cfg : Bool := false
  deriving DecidableEq, Repr

/-- One pulse output (R318-R320). -/
structure PulseRec where
  /-- Energy times MTR_PLSK, in 2^-32 mWh: a pulse is due at 10^6 x 2^32. -/
  acc : Nat := 0
  /-- The instant the last pulse started. -/
  startAt : Option Nat := none
  deriving DecidableEq, Repr

/-- The metering engines. -/
structure MtrState where
  chan : KV MtrChan := []
  /-- The values in force of configuration registers written since the last latch tick, by register key (R311). -/
  live : KV Word := []
  /-- The last sample of v_L1 (R304), as the numerator of R291. -/
  prevV : Option (Nat × Int) := none
  /-- v_L1 has been at or below the hysteresis since the last valid crossing. -/
  hyst : Bool := false
  lastCross : Option Nat := none
  /-- The last tick, and the first sample after a start, from which fallback is timed before there is one (R305). -/
  lastTick : Option Nat := none
  started : Option Nat := none
  lastStamp : Option Nat := none
  /-- The stop stamp of R327. -/
  stop : Option Nat := none
  /-- FLAGS of the period under way (Table 8.2). -/
  flags : Nat := 0
  /-- Periods that a tick has closed and no latch has shown yet. -/
  closing : List Closing := []
  pulse : KV PulseRec := []
  /-- The increments of the last latch, per channel (R335). -/
  inc : List (Nat × Nat) := []
  /-- Totals have been adopted since the device took the standby role, and an adoption is due (R334). -/
  adopted : Bool := false
  adoptDue : Bool := false
  /-- The AON island's power-fail record: a flush was due, with this SEQ (R326). -/
  flushDue : Option Nat := none
  deriving DecidableEq, Repr

/-! ### Billing (spec/09_billing.md) -/

/-- One closed sub-interval of a channel (R353-R356): import and export mWh, its length in metrology time, and its flags
(BIL_DFLAGS). -/
structure SubInt where
  imp : Nat
  exp : Nat
  dur : Nat
  flags : Nat
  deriving DecidableEq, Repr

/-- A charging session and its slot (R370-R375). -/
structure Sess where
  outlet : Nat
  num : Nat
  /-- The contract tag of 32 bytes. -/
  tag : List Byte
  /-- Byte 256 of the slot (R372): 1 OPEN, 2 CLOSED, 4 SIGNED, 8 COSIGNED, 16 ACKED; 0 while the start is pending. -/
  state : Nat := 0
  startSeq : Nat := 0
  startMt : Nat := 0
  startLocal : Int := 0
  startTar : Nat := 0
  impStart : Nat := 0
  expStart : Nat := 0
  tars : Nat := 0
  perTar : KV Nat := []
  gaps : Nat := 0
  flags : Nat := 0
  /-- SHA-256 of the body awaits its signature from the key island (R371, R373). -/
  signAsked : Bool := false
  /-- The instant of SIGNED while the co-signature is awaited (R373). -/
  cosigFrom : Option Nat := none
  deriving DecidableEq, Repr

/-- A pending SNAP (R366-R369). -/
structure Snap where
  target : Nat
  epoch : Nat
  /-- Sent to the partner, which has not confirmed (R369); and since when. -/
  pairAt : Option Nat := none
  confirmed : Bool := false
  deriving DecidableEq, Repr

/-- What the latch in progress has done (R344). -/
structure LatchNote where
  events : Nat := 0
  skip : Nat := 0
  starting : Nat := 0
  stopping : Nat := 0
  snapEpoch : Nat := 0
  deriving DecidableEq, Repr

/-- The billing block. -/
structure BilState where
  /-- Metrology time: its value at `mtFrom` (R340). -/
  mtBase : Nat := 0
  mtFrom : Nat := 0
  /-- Local time and metrology time of the newest tick with valid civil time (R341). -/
  prev : Option (Int × Nat) := none
  /-- The next latch with valid civil time is an outage latch, and carries NOCIV (R342). -/
  outage : Bool := true
  noCiv : Bool := true
  /-- The open demand sub-interval (R353): scheduled end, metrology time at its opening, totals at its opening. -/
  ivEnd : Option Int := none
  ivMt : Nat := 0
  ivOpen : List (Nat × Nat) := []
  /-- Flags of the open sub-interval: channels with a gap, OUT, UNVER. -/
  ivGaps : Nat := 0
  ivOut : Bool := false
  ivUnver : Bool := false
  /-- Closed sub-intervals of each channel, newest first (R354). -/
  hist : KV (List SubInt) := []
  /-- The metrology times of the maxima: (channel * 8 + tariff) * 2 + direction (R355). -/
  maxMt : KV Nat := []
  /-- Totals at the last latch, or adopted since: what the next increments are taken from. -/
  base : List (Nat × Nat) := []
  /-- MTR_CHCFG.EN of the channels at the last latch. -/
  enWas : Nat := 0
  /-- The billing period: start, gap samples by channel, flags OUT 1, ADJ 2, UNVER 4, UNLOCKED 8. -/
  bpStart : Int := 0
  bpGaps : KV Nat := []
  bpFlags : Nat := 0
  /-- CLOSEBP is pending. -/
  closeBp : Bool := false
  /-- Values in force of registers written since the last latch (R391). -/
  live : KV Word := []
  /-- The tariff bank that the newest valid entry with a bank names. -/
  bank : Option Nat := none
  snap : Option Snap := none
  epoch : Nat := 0
  /-- The instants at which the HOLD bits were set (R368). -/
  holdAt : KV Nat := []
  sess : KV (Option Sess) := []
  /-- The challenge counter and the open challenge with its instant (R378). -/
  challenge : Nat := 0
  openCh : Option (Nat × Nat) := none
  /-- Role public keys by role (Table 9.6). -/
  roleKeys : KV (List Byte) := []
  /-- The last recorded seal state, none where the seal area holds no valid record (R384). -/
  sealRec : Option Nat := none
  /-- The REARMED mark of the seal area (R384). -/
  sealArm : Bool := false
  /-- Copies of the last seal entries kept in the seal area so far. -/
  sealCopies : Nat := 0
  note : LatchNote := {}
  deriving DecidableEq, Repr

/-! ### Safety (spec/10_safety.md) -/

/-- One contact of a safety input pair, as the interface die samples it (R407, R408). -/
structure ContactRec where
  /-- The run of equal unmasked samples: raw state and length. -/
  raw : Bool := false
  run : Nat := 0
  /-- The sample before. -/
  prev : Bool := false
  /-- During the pulse of its own source: low seen within 100 us; consecutive pulses that showed stuck high. -/
  ownLow : Bool := false
  ownSeen : Bool := false
  stuck : Nat := 0
  /-- By other source: high just before its present pulse (bit), low seen during it (bit), consecutive pulses that showed a
  cross-connection. -/
  pre : Nat := 0
  low : Nat := 0
  crosses : KV Nat := []
  deriving DecidableEq, Repr

/-- One safety input pair beside its registers. -/
structure PairIn where
  a : ContactRec := {}
  b : ContactRec := {}
  /-- The last instant at which a test-pulse fault was seen. -/
  symAt : Nat := 0
  deriving DecidableEq, Repr

/-- One safety output pair beside its registers. -/
structure PairOut where
  /-- The last command change (R418). -/
  changedAt : Nat := 0
  /-- The last dark tests: instant of the last start, and of the last completed one (R419, R420). -/
  darkAt : Nat := 0
  darkDone : Nat := 0
  /-- A dark test whose readback has not reached its level: start, and whether it is that of LS. -/
  dark : Option (Nat × Bool) := none
  deriving DecidableEq, Repr

/-- One safe-telegram connection beside its registers (R431-R443). -/
structure ConnRec where
  /-- The instant at which the present state was entered. -/
  since : Nat := 0
  /-- The direction to the cabinet has been opened under the present GEN. -/
  txOpen : Bool := false
  /-- The instant of the last CMD. -/
  sentAt : Option Nat := none
  /-- A GEN is held for the cabinet's direction; its OPEN has been accepted since the connection began opening. -/
  rxHave : Bool := false
  rxOpened : Bool := false
  /-- The watchdog's start: the last accepted STAT. -/
  fedAt : Nat := 0
  /-- Valid copies that wait for their twins, oldest first: path (0 A, 1 B), bytes, arrival. -/
  wait : List (Nat × List Byte × Nat) := []
  /-- Consecutive telegrams with both copies, and with one copy only. -/
  both : Nat := 0
  single : Nat := 0
  /-- The last telegram sent on path B, as its frame carries it (R439). -/
  pathB : List Byte := []
  deriving DecidableEq, Repr

/-- The safety island. -/
structure SafState where
  /-- The instant each latched cause was latched: target * 16 + cause; outlets 0-15, the site 16 (R430). -/
  since : KV Nat := []
  /-- Causes latched for the site. -/
  siteCauses : Nat := 0
  /-- Outlets whose cause 0x1 comes from start-up, and from Hold (R430). -/
  startTrip : Nat := 0xFFFF
  holdTrip : Nat := 0
  /-- Outlets whose mapped pairs are open since the trip (R424-R427). -/
  opened : Nat := 0xFFFF
  /-- Consecutive fast-trip samples: (target * 64 + channel) * 16 + cause. -/
  runs : KV Nat := []
  /-- Consecutive conversions above TPLIM, below TPLIM - THYS, and broken reports: outlet * 32 + input. -/
  hot : KV Nat := []
  cool : KV Nat := []
  broken : KV Nat := []
  /-- Reset requests that the next safety cycle takes: the SAF_RST word, the input pairs of SIN_PRST and of the RESET service, and
  that service's output pairs (R413, R430, R621). -/
  rst : Nat := 0
  prst : Nat := 0
  fclr : Nat := 0
  /-- ON bits of the OUTPUTS service that the next safety cycle takes (R621). -/
  onReq : Option Nat := none
  /-- The instant of the last safety cycle. -/
  cycleAt : Nat := 0
  /-- Connections on which an extra CMD is to be sent at once (R438). -/
  extra : Nat := 0
  /-- Outlets whose trip holds XTRIP_OUT_N, and the instant until which it is held at least (R446). -/
  xHold : Nat := 0
  xUntil : Nat := 0
  /-- The last confirmation of the line, and the last test pulse (R447). -/
  xConf : Nat := 0
  xPulseAt : Nat := 0
  /-- FAULT_N is driven low. -/
  faultLow : Bool := false
  /-- The last pulse of each test-pulse output, by output. -/
  tpAt : KV Nat := []
  pin : KV PairIn := []
  pout : KV PairOut := []
  conn : KV ConnRec := []
  /-- The image that LOAD has checked, the one that CONFIRM has accepted, and the active one in the internal NVM. -/
  loaded : List Byte := []
  confirmed : Option (List Byte) := none
  active : List Byte := []
  deriving DecidableEq, Repr

/-! ### Thermal management (spec/11_thermal.md) -/

/-- One thermal input beside its registers. -/
structure ThmIn where
  /-- Enabled at the last frame, and since when; the input has converted since. -/
  en : Bool := false
  enAt : Nat := 0
  own : Option Nat := none
  /-- Consecutive conversions outside and inside the range of Table 11.1 (R457). -/
  bad : Nat := 0
  good : Nat := 0
  /-- Consecutive evaluations that count towards implausibility, and towards its end (R461). -/
  susp : Nat := 0
  clear : Nat := 0
  suspect : Bool := false
  /-- Values used with their instants, newest first, over the last second (R466). -/
  hist : List (Nat × Nat) := []
  /-- The value has been below the lower threshold of the present band by BHYS, with RATEX 0, since (R467). -/
  lowSince : Option Nat := none
  deriving DecidableEq, Repr

/-- One outlet of thermal management. -/
structure ThmOut where
  /-- Hot at the last evaluation; the instants from which DWELL and UPDWELL run (R470). -/
  hot : Bool := false
  dwellFrom : Nat := 0
  coolFrom : Option Nat := none
  deriving DecidableEq, Repr

/-- Thermal management. -/
structure ThmState where
  inp : KV ThmIn := []
  out : KV ThmOut := []
  /-- The next frame is the first since the island's start (R473). -/
  first : Bool := true
  /-- How often the low 32 bits of the frame number, THM_FRAME, have wrapped since that start (R455). -/
  epoch : Nat := 0
  /-- Outlets whose acknowledgement the next evaluation judges (R476). -/
  ack : Nat := 0
  startAt : Nat := 0
  /-- SEQ of the newest valid state block, and which block holds it (R475); none where neither is valid. -/
  blkSeq : Nat := 0
  blkAt : Option Nat := none
  /-- LATCHED of that block. -/
  latched : Nat := 0
  deriving DecidableEq, Repr

/-! ### Load switches (spec/12_load_switches.md) -/

/-- One load switch channel beside its registers. -/
structure LswChan where
  /-- The instant turn-on started (R497). -/
  startAt : Nat := 0
  /-- In state ON without under-voltage since (R513). -/
  onAt : Option Nat := none
  /-- The accumulator A in 10^-7 A^2 s (R502). -/
  acc : Nat := 0
  /-- Tfet in 2^-32 of 0.01 K (R503). -/
  tfet : Nat := 0
  /-- The restart delay runs since (R510). -/
  rdlyFrom : Option Nat := none
  /-- An attempt has found RETRY at RETRYLIM or above since the limit last did not block (R512). -/
  limitHit : Bool := false
  /-- The last off-state test (R515). -/
  testAt : Nat := 0
  deriving DecidableEq, Repr

/-- The load switches. -/
structure LswState where
  chan : KV LswChan := []
  /-- The command link to the power-stage island is lost (R519). -/
  linkLost : Bool := false
  deriving DecidableEq, Repr

/-! ### Vehicle links, pilots, field buses (spec/13_vehicle_and_field_links.md) -/

/-- A pair of descriptor rings, of a vehicle link or of an Ethernet queue (R526, R606). -/
structure Ring where
  txPos : Nat := 0
  rxPos : Nat := 0
  /-- Stopped by an address outside compute SRAM. -/
  stopped : Bool := false
  /-- A transmit descriptor has been taken and its frame is not yet sent; the instant it was taken. -/
  busy : Bool := false
  readyAt : Nat := 0
  deriving DecidableEq, Repr

/-- One vehicle link beside its registers. -/
structure VlkRec where
  ring : Ring := {}
  /-- The running attenuation measurement: its start and NSOUND (R525). -/
  att : Option (Nat × Nat) := none
  /-- The instant of the last good frame (VLK_ACTSUM). -/
  goodAt : Option Nat := none
  deriving DecidableEq, Repr

/-- One pilot port beside its registers. -/
structure PilRec where
  /-- The generator's output in force: GMODE, FREQ in Hz, DUTY in 0.1 %, and a rising edge of it (R531, R532). -/
  mode : Nat := 0
  freq : Nat := 500
  duty : Nat := 0
  edgeAt : Nat := 0
  /-- FREQ and DUTY that take effect at the next rising edge, and its instant. -/
  next : Option (Nat × Nat × Nat) := none
  /-- The run of equal windows: class, count, start of its first window, end of its last (R536). -/
  cls : Nat := 7
  runLen : Nat := 0
  runFrom : Nat := 0
  lastEnd : Nat := 0
  deriving DecidableEq, Repr

/-- A frame in a transmit FIFO, with the instant of its push. -/
structure CanQueued where
  frame : CanFrame
  pushedAt : Nat
  deriving DecidableEq, Repr

/-- One CAN FD controller beside its registers. -/
structure CanRec where
  norm : List CanQueued := []
  urg : List CanQueued := []
  /-- The instants at which the present heads became head (R547). -/
  headN : Nat := 0
  headU : Nat := 0
  /-- A removal of the head waits for the end of the attempt on the bus (R547). -/
  dropN : Bool := false
  dropU : Bool := false
  /-- Consecutive post-arbitration bit errors by IDE and identifier (R549). -/
  coll : KV Nat := []
  /-- Bus-off recovery runs since (R548). -/
  recover : Option Nat := none
  deriving DecidableEq, Repr

/-- One UART beside its registers. -/
structure SerRec where
  rx : List Word := []
  tx : List Byte := []
  /-- SERn_DE is high (R553). -/
  de : Bool := false
  /-- While DE is high: the start of the next byte's start bit, or the end of the last stop bit. -/
  txAt : Nat := 0
  /-- The instant of the last received character, while the IDLE timer of R554 runs. -/
  rxAt : Option Nat := none
  deriving DecidableEq, Repr

/-- The link island's ports. -/
structure PortState where
  vlk : KV VlkRec := []
  pil : KV PilRec := []
  can : KV CanRec := []
  ser : KV SerRec := []
  deriving DecidableEq, Repr

/-! ### Site power-line modems (spec/14_site_powerline.md) -/

/-- The attempt under way: its slave, the stamps of the POLL's first and last symbol. -/
structure PlcAttempt where
  slave : Nat
  tpoll : Nat
  txEnd : Nat
  deriving DecidableEq, Repr

/-- One modem beside its registers. -/
structure PlcModem where
  /-- The start of the present or last round, whether it runs, and whether it has been seen to last longer than POLLPER (R566). -/
  roundAt : Option Nat := none
  inRound : Bool := false
  late : Bool := false
  /-- The slave whose poll is under way, and its attempts so far. -/
  cur : Nat := 0
  tries : Nat := 0
  attempt : Option PlcAttempt := none
  /-- The next attempt or poll may start from here (R567). -/
  freeAt : Nat := 0
  deriving DecidableEq, Repr

/-- One slave beside its registers. -/
structure PlcSlave where
  /-- A payload pushed and not yet carried (R569). -/
  pushed : Option (List Byte) := none
  /-- The payload of the present SEQ, once a poll has used it (R568): absent before the first attempt. -/
  frame : Option (Bool × List Byte) := none
  /-- The bytes of the poll under way: identical in every attempt. -/
  bytes : List Byte := []
  /-- The last successful poll, or the enabling of the slave (R571). -/
  since : Nat := 0
  /-- The result of the last phase measurement, 0 unknown, phase + 4 where inverted, and how often it came in a row (R579). -/
  phase : Nat := 0
  run : Nat := 0
  deriving DecidableEq, Repr

/-- The modems. -/
structure PlcState where
  modem : KV PlcModem := []
  slave : KV PlcSlave := []
  /-- The last accepted edge of each zero-cross input, as its corrected stamp (R577). -/
  edge : KV (Option Nat) := []
  /-- The interval between the last two accepted edges of ZC0. -/
  period : Option Nat := none
  deriving DecidableEq, Repr

/-! ### The timebase and the mailboxes (spec/15_compute_island.md) -/

/-- The timebase (R610-R617). -/
structure TmbState where
  /-- OFFS as applied by the last write to TMB_OFFSHI (R612). -/
  offs : Int := 0
  /-- The instant of the last discipline write (R613). -/
  disciplined : Nat := 0
  /-- The armed alarms (R614). -/
  armed : Nat := 0
  /-- The partner's SYNC at its last heartbeat (R616). -/
  partnerSync : Nat := 0
  deriving DecidableEq, Repr

/-- A request in flight (R619). -/
structure MbxReq where
  len : Nat
  tag : Nat
  since : Nat
  /-- The target island has its response ready. -/
  ready : Option (List Byte) := none
  deriving DecidableEq, Repr

/-- A job engine: what its present job has come to, status and bytes written, before it completes (R594). -/
structure EngState where
  result : Option (Nat × Nat) := none
  deriving DecidableEq, Repr

/-- A memory read held at an xSPI port (R601). -/
structure HeldRead where
  init : Initiator
  addr : Nat
  size : Nat
  since : Nat
  deriving DecidableEq, Repr

/-- One xSPI port: the reads that wait for its command. -/
structure XspState where
  held : List HeldRead := []
  deriving DecidableEq, Repr

/-- The compute island's engines, ports and interrupts. -/
structure CmpState where
  /-- The claimed interrupt sources: bit n source n (R591). -/
  claimed : Nat := 0
  /-- The harts whose machine timer interrupt is pending (R593). -/
  mtip : Nat := 0
  cry : EngState := {}
  exi : EngState := {}
  xsp0 : XspState := {}
  xsp1 : XspState := {}
  /-- The rings of each Ethernet queue: MAC * 4 + queue. -/
  eth : KV Ring := []
  deriving DecidableEq, Repr

/-! ### Keys, life cycle, attestation (spec/16_keys_and_attestation.md) -/

/-- One slot of the key tree beside its registers. -/
structure KeySlot where
  /-- The derived key material; empty while not derived. -/
  key : List Byte := []
  /-- How often it has derived since the island's reset (R637). -/
  derivations : Nat := 0
  deriving DecidableEq, Repr

/-- A request that has its index (R641). -/
structure SigReq where
  what : SigFor
  q : Nat
  /-- The signing key it completes under (R642). -/
  k2 : List Byte := []
  deriving DecidableEq, Repr

/-- The reservation record of R641. -/
structure SigRec where
  next : Nat
  rootSel : Nat
  lc : Nat
  rootGen : Nat
  signGen : Nat
  deriving DecidableEq, Repr

/-- A pending LCM request (R647). -/
structure LcReq where
  target : Nat
  init : Initiator
  nonce : Nat
  since : Nat
  deriving DecidableEq, Repr

/-- The key island. -/
structure KeyState where
  slots : KV KeySlot := []
  /-- In NVM: each slot's generation, and the slots whose generation record has no valid copy (R633, R634). -/
  gens : KV Nat := []
  genBad : KV Bool := []
  /-- In NVM: the configurations of the enabled slots: KEY_NCFG and the label words (R632). -/
  cfgs : KV (List Word) := []
  /-- ROOTSEL and LC, fixed at boot (R636). -/
  rootSel : Nat := 0
  lc : Nat := 0
  /-- In NVM: the reservation record; under the test root, in the island's RAM. -/
  sigRec : Option SigRec := none
  ramRec : Option SigRec := none
  qnext : Nat := 0
  qlimit : Nat := 0
  reqs : List SigReq := []
  /-- The signatures that wait for their requesters, by session slot + 1, 0 the statement. -/
  done : KV (List Byte) := []
  /-- The top tree is built; the bottom trees that are built; the trees being built (bottom tree + 1, 0 the top tree). -/
  topBuilt : Bool := false
  built : List Nat := []
  building : List Nat := []
  /-- The randomizer of the top signature of each bottom tree (R640). -/
  topC : KV (List Byte) := []
  eng : EngState := {}
  /-- The measurements of Table 16.10. -/
  meas : KV (List Byte) := []
  lcReq : Option LcReq := none
  /-- In NVM: the stored debug unlock (R651). -/
  unlock : Bool := false
  deriving DecidableEq, Repr

/-! ### The pair (spec/18_pair_and_recovery.md) -/

/-- A heartbeat (Table 18.1), with what the timebase follower copies (R615). -/
structure Heartbeat where
  pstate : Nat
  role : Nat
  epoch : Nat
  level : Level
  cause : Word
  frame : Nat
  time : Nat
  /-- The ON command of each output pair with PAR = 1, and the trip summary. -/
  ons : Nat
  trips : Word
  sync : Nat := 0
  rate : Word := 0
  offsLo : Word := 0
  offsHi : Word := 0
  utc : Word := 0
  deriving DecidableEq, Repr

/-- What a frame mirror carries of a context: its ST_ words, output and LPE_MISSCNT. -/
structure CtxMirror where
  ctx : Nat
  st : List Word
  out : Word
  misscnt : Word
  deriving DecidableEq, Repr

/-- What it carries of an arbiter: the decision and the identity. -/
structure ArbMirror where
  arb : Nat
  win : Word
  wstat : Word
  ident : Option Nat
  deriving DecidableEq, Repr

/-- A frame mirror (Table 18.1, R249). -/
structure FrameMirror where
  frame : Nat
  ctxs : List CtxMirror
  arbs : List ArbMirror
  claims : List Word
  short : List Nat
  cycFrame : Nat
  mods : List (Nat × Word)
  moves : List (Nat × Option MoveRec)
  deriving DecidableEq, Repr

/-- What the active device sends on entry to SYNC (R709): register values and coefficient words, and its frame number. -/
structure SyncCopy where
  regs : List RegVal
  frame : Nat
  deriving DecidableEq, Repr

/-- What the active device sends for an adoption: its accumulators, tick count, tariff state, BPNUM, BIL_LASTBP, sessions,
next JSEQ and T (R334, R376, R617). -/
structure Adoption where
  accs : List (Nat × Nat)
  ticks : Nat
  banks : List (List Byte)
  bil : BilState
  bpnum : Nat
  lastbp : Nat
  jseq : Nat
  sessNext : Nat
  time : Nat
  deriving DecidableEq, Repr

/-- One Ausal lane (R703). -/
structure LaneRec where
  /-- The lane sequence number of the next message. -/
  seq : Nat := 0
  /-- The message replayed last, how often in a row, and the messages sent again with it. -/
  msg : Nat := 0
  run : Nat := 0
  resent : List Nat := []
  deriving DecidableEq, Repr

/-- The pair. -/
structure PairState where
  /-- AUS_CFG in force since the last reset (R710). -/
  cfg : Word := 0x000101F4
  lane : KV LaneRec := []
  /-- The pair sequence number of the next message, the newest 64 messages sent, and the next number to be taken (R703). -/
  seqOut : Nat := 0
  sent : List Nat := []
  seqIn : Nat := 0
  /-- The last heartbeat sent and its instant. -/
  hbOut : Option Heartbeat := none
  sentAt : Option Nat := none
  /-- The last heartbeat heard, its instant, and whether one came since the last one sent. -/
  hb : Option Heartbeat := none
  hbAt : Option Nat := none
  hbSeen : Bool := false
  /-- Mirrored writes that the partner has not acknowledged (R706). -/
  mirrorOut : List PendWrite := []
  /-- The commits of the active device that this device has acknowledged, with the instant (R708). -/
  commitsIn : List (List PendWrite × Nat) := []
  /-- The instant from which WAITT runs (Table 18.2). -/
  waitFrom : Nat := 0
  /-- The newest TOKEPOCH seen in T-frames (R713). -/
  tokSeen : Option Nat := none
  /-- The last frame mirror sent (Table 18.1), and the last own log entry sent, with its source. -/
  frameOut : Option FrameMirror := none
  logOut : Option (Nat × LogEntry) := none
  /-- The copy of R709: sent; received and waiting for its boundary; applied. -/
  copyOut : Option SyncCopy := none
  copyIn : Option SyncCopy := none
  copied : Bool := false
  /-- The frame of the last complete mirror, and consecutive missing mirrors. -/
  mirrorFrame : Nat := 0
  missRun : Nat := 0
  /-- A takeover cause that waits for the next boundary, and one whose boundary has come (R712). -/
  takeNext : Option Nat := none
  takeDue : Option Nat := none
  /-- Evidence for a demotion in this frame (epoch, link or 0xFF), the last evidence, and consecutive frames with it (R714). -/
  demoteSeen : Option (Nat × Nat) := none
  demoteBy : Nat × Nat := (0, 0)
  demoteRun : Nat := 0
  /-- The instant of an accepted HANDOVER (R715). -/
  handAt : Option Nat := none
  /-- The mirrored ON commands that the next safety cycle writes (R713). -/
  onMask : Option Nat := none
  deriving DecidableEq, Repr

/-! ### The whole device -/

/-- Everything but the queue, the memory and the fuses. -/
structure Dev where
  /-- The part (Table 0.1). -/
  variant : Variant := .px4840
  /-- The timebase T in ns (R609). -/
  time : Nat := 0
  /-- MODEL'S OWN: the use counter of the free values. -/
  fresh : Nat := 0
  /-- The register file: unlisted registers hold their reset values. -/
  regs : KV Word := []
  /-- Each initiator's last bus answer. -/
  resp : KV BusResp := []
  /-- The HI words latched by reads of LO registers (R751), by register key. -/
  hi : KV Word := []
  log : KV LogSrc := []
  pwr : PwrState := {}
  txn : TxnState := {}
  sys : SysState := {}
  sdm : SdmState := {}
  links : KV LinkRec := []
  loop : LoopState := {}
  arb : ArbState := {}
  share : ShareState := {}
  /-- The modules' outlets as of the start of the frame: outlet + 1 (R139). -/
  grouped : KV Nat := []
  /-- The import headroom has fallen to zero for want of grid samples (R30). -/
  headDead : Bool := false
  acq : AcqState := {}
  saf : SafState := {}
  thm : ThmState := {}
  lsw : LswState := {}
  mtr : MtrState := {}
  bil : BilState := {}
  tmb : TmbState := {}
  /-- Requests in flight: mailbox (0 safety, 1 metrology) * 16 + initiator. -/
  mbx : KV (Option MbxReq) := []
  ports : PortState := {}
  plc : PlcState := {}
  cmp : CmpState := {}
  key : KeyState := {}
  pair : PairState := {}
  deriving DecidableEq, Repr

/-- The device with its memories: what every command acts on. -/
structure Sys where
  /-- The byte-addressed memories of Table 2.1 and the ferroelectric NVM, in canonical form. -/
  mem : KV Byte := []
  /-- The NVM words found uncorrectable and not written whole since (R68). -/
  bad : List Nat := []
  /-- The fuse array as a number: bit n of Table 16.1 is blown where bit n is 1. -/
  fuses : Nat := 0
  dev : Dev := {}
  deriving DecidableEq, Repr

end Sys2Proof.Machine
end

