-- ==== Sys2Proof/Syntax.lean ====
section
/-! DEFINITION. The commands of the PX48: one constructor for every row of the command table, with the operands that the row
has. An operand t is the instant at which the command happens, in ns of the timebase. -/
namespace Sys2Proof

open Sys2Proof.Machine (BootObs BistPart PendWrite Heartbeat FrameMirror SyncCopy Adoption)

/-- A command sent to the block, or an event that happens at it. -/
inductive Instr where
  /-- REGISTER_WRITE (R749). Initiator i writes v at an offset of a page; pages 0x100 + n are the coefficient blocks. -/
  | registerWrite (i : Initiator) (page : Nat) (off : Nat) (v : Word)
  /-- BUS_ACCESS_ERROR (R50). An access of `size` bytes to an address; one that R50 does not allow has no effect and gets a bus error, any other is performed. -/
  | busAccessError (i : Initiator) (write : Bool) (atomic : Bool) (addr : Nat) (size : Nat) (v : Nat)
  /-- EVENT_SET (R58). A write of v to BLK_EVS of a page. -/
  | eventSet (i : Initiator) (page : Nat) (v : Word)
  /-- PAGE_LOCK (R63). A write of v to BLK_LOCK of a page. -/
  | pageLock (i : Initiator) (page : Nat) (v : Word)
  /-- CHANNEL_SELECT (R74). A write of v to BLK_CHSEL of a page. -/
  | channelSelect (i : Initiator) (page : Nat) (v : Word)
  /-- LO_READ_LATCH (R751). An aligned read of the register at an offset of a page. -/
  | loReadLatch (i : Initiator) (page : Nat) (off : Nat)
  /-- TXN_BEGIN (R80). A write of v to TXN_BEGIN. -/
  | txnBegin (i : Initiator) (v : Word)
  /-- STAGED_WRITE (R82). A write of an initiator with an open transaction. -/
  | stagedWrite (i : Initiator) (page : Nat) (off : Nat) (v : Word)
  /-- TXN_COMMIT (R86). A write of v to TXN_COMMIT. -/
  | txnCommit (i : Initiator) (v : Word)
  /-- TXN_ABORT (R80). A write of v to TXN_ABORT. -/
  | txnAbort (i : Initiator) (v : Word)
  /-- VALIDATION_DONE (R85). At t the validation of the oldest commit not yet validated ends. -/
  | validationDone (t : Nat)
  /-- COMMIT_ABANDON (R90). At t the oldest validated commit of i is looked at for abandonment. -/
  | commitAbandon (i : Initiator) (t : Nat)
  /-- TXN_IDLE_TIMEOUT (R92). At t the open transaction of i is looked at for its idle timeout. -/
  | txnIdleTimeout (i : Initiator) (t : Nat)
  /-- FENCE (R96). A write of v to SYS_FENCE. -/
  | fence (i : Initiator) (v : Word)
  /-- FENCE_COMPLETE (R97). The fence of i ends; `acked`: the partner has acknowledged its mirrored writes. -/
  | fenceComplete (i : Initiator) (acked : Bool)
  /-- FENCE_TIMEOUT (R97). At t the fence of i is looked at for its timeout. -/
  | fenceTimeout (i : Initiator) (t : Nat)
  /-- CRYSTAL_LOSS (R67). Crystal 0 (25 MHz) or 1 (32.768 kHz) has had no edge for quietNs. -/
  | crystalLoss (t : Nat) (which : Nat) (quietNs : Nat)
  /-- PLL_LOSS (R67). The PLL or oscillator of island `isl` has been out of lock for ns. -/
  | pllLoss (t : Nat) (isl : Nat) (ns : Nat)
  /-- NVM_READ_ECC (R68). A read of the NVM word at addr, by an initiator or by hardware, meets an error. -/
  | nvmReadEcc (t : Nat) (i : Option Initiator) (addr : Nat) (corrected : Bool)
  /-- NVM_REFRESH_PASS_END (R68). The refresh pass ends. -/
  | nvmRefreshPassEnd (t : Nat)
  /-- SWO_TRANSMIT (R70). A write of v to DBG_SWOTX. -/
  | swoTransmit (i : Initiator) (v : Word)
  /-- DEBUGGER_ATTACH (R71). A debugger accesses the debug module, to reach the map or to halt, step or resume a hart. -/
  | debuggerAttach (a : DbgAccess)
  /-- PROFILE_CHANGE_REQUEST (R32). A write of v to PWR_PROFILE. -/
  | profileChangeRequest (i : Initiator) (v : Word)
  /-- LEVEL_REQUEST_NORMAL (R752). A write of PWR_LEVEL.REQ 1 with HOLD_N at a level. -/
  | levelRequestNormal (i : Initiator) (holdN : Bool)
  /-- LEVEL_REQUEST_LIMP (R752). A write of PWR_LEVEL.REQ 2 with HOLD_N at a level. -/
  | levelRequestLimp (i : Initiator) (holdN : Bool)
  /-- LEVEL_REQUEST_HOLD (R752). A write of PWR_LEVEL.REQ 3. -/
  | levelRequestHold (i : Initiator)
  /-- LEVEL_REQUEST_STANDBY (R40). A write of PWR_LEVEL.REQ 4. -/
  | levelRequestStandby (i : Initiator)
  /-- STANDBY_ENTRY_DONE (R41). Standby entry completes. -/
  | standbyEntryDone (t : Nat)
  /-- WAKE_EVENT (R42). Wake source src (0 PILOT, 1 SAFETY, 2 ETH0, 3 RTC) fires. -/
  | wakeEvent (t : Nat) (src : Nat)
  /-- HOLD_PIN_LOW (R37). HOLD_N has been low for lowNs. -/
  | holdPinLow (t : Nat) (lowNs : Nat)
  /-- ISLAND_FAILURE (R38). An island fails: cause 1 watchdog, 2 ECC, 3 monitor; accErr: an accumulator error of metrology. -/
  | islandFailure (t : Nat) (isl : Island) (cause : Nat) (accErr : Bool)
  /-- RECOVERY_WINDOW_EXPIRY (R38). 10 ms after an island's fault. -/
  | recoveryWindowExpiry (t : Nat) (isl : Island)
  /-- CAUSE_CLEAR (R48). A write of v to PWR_CAUSE with HOLD_N at a level. -/
  | causeClear (i : Initiator) (v : Word) (holdN : Bool)
  /-- VREQ_HOLD_EXPIRY (R30). The vehicle requests are looked at for VREQHOLD. -/
  | vreqHoldExpiry (t : Nat)
  /-- HEADROOM_HOLD_EXPIRY (R30). The headroom is looked at for its 100 ms. -/
  | headroomHoldExpiry (t : Nat)
  /-- LOOP_FRAME_BOUNDARY (R181). A boundary at t, with the bitstream of each channel up to it. -/
  | loopFrameBoundary (t : Nat) (streams : List (Option Nat))
  /-- FRAME_CLOCK_FALLBACK (R104). The external group 0 clock has been quiet for quietNs. -/
  | frameClockFallback (t : Nat) (quietNs : Nat)
  /-- FAST_TRIP_SAMPLE (R426). The fast-trip outputs of every channel at t: the bitstream of each up to it. -/
  | fastTripSample (t : Nat) (streams : List (Option Nat))
  /-- STUCK_DETECT (R117). A channel's bitstream has had no transition for quietBits, its external clock no edge for clockQuietNs. -/
  | stuckDetect (t : Nat) (ch : Nat) (quietBits : Nat) (clockQuietNs : Nat)
  /-- STUCK_CLEAR (R117). A channel has had goodBits with transitions within the limit. -/
  | stuckClear (t : Nat) (ch : Nat) (goodBits : Nat)
  /-- SETTLE_END (R116). A channel's settling is looked at. -/
  | settleEnd (t : Nat) (ch : Nat)
  /-- SKEW_CAL_START (R113). A write of v to SDM_CALCTL. -/
  | skewCalStart (i : Initiator) (v : Word)
  /-- SKEW_CAL_DONE (R113). The measurement ends with a delay in 0.1 ns and the signals' levels in percent of full scale. -/
  | skewCalDone (t : Nat) (delay : Int) (rmsRef : Nat) (rmsMeas : Nat)
  /-- SNAPSHOT_REQUEST (R121). A write of v to SDM_SNAPCTL. -/
  | snapshotRequest (i : Initiator) (v : Word)
  /-- CONTROL_SAMPLES_VALID (R167). The control samples are valid at t; hits: (context, 0) a corrected error, (context, 1) an uncorrectable one in its state, (context, 2 + g) in coefficient group g. -/
  | controlSamplesValid (t : Nat) (hits : List (Nat × Nat))
  /-- EVALUATION_DEADLINE (R174). V + 6.0 us. -/
  | evaluationDeadline (t : Nat)
  /-- OUTPUT_DISTRIBUTION (R170). The frame's outputs are distributed. -/
  | outputDistribution (t : Nat)
  /-- MISS_ESCALATION (R176). A context's run of misses is looked at. -/
  | missEscalation (ctx : Nat)
  /-- SATURATION_LIMIT (R180). A context's saturation interval is looked at. -/
  | saturationLimit (ctx : Nat) (t : Nat)
  /-- T_FRAME_RECEIVE (R127). The symbols of a frame arrive on a cabinet link, from a running disparity on. -/
  | tFrameReceive (t : Nat) (link : Nat) (rd : Bool) (syms : List Nat)
  /-- T_FRAME_CUTOFF (R137). The cut-off of the frame on a link. -/
  | tFrameCutoff (t : Nat) (link : Nat)
  /-- S_FRAME_SEND (R130). The safety island hands over a telegram. -/
  | sFrameSend (t : Nat) (link : Nat) (tel : List Byte)
  /-- CABINET_REARM (R140). A write of v with REARM to CAB_LCFG of the selected link. -/
  | cabinetRearm (i : Initiator) (v : Word)
  /-- VEHICLE_REQUEST_WRITE (R212). A write of v to ARB_VREQ of the selected outlet. -/
  | vehicleRequestWrite (i : Initiator) (v : Word)
  /-- TUNING_START (R218). A write of v with START to LPE_TUNCTL. -/
  | tuningStart (i : Initiator) (v : Word)
  /-- TUNING_STOP (R221). A write of v with STOP to LPE_TUNCTL. -/
  | tuningStop (i : Initiator) (v : Word)
  /-- TUNING_POINT_DONE (R219). A point's accumulation has ended. -/
  | tuningPointDone (t : Nat)
  /-- ALLOCATION_CYCLE (R232). The allocation cycle of this frame. -/
  | allocationCycle (t : Nat)
  /-- MODULE_REBUILD (R226). A module's rebuild sets its state. -/
  | moduleRebuild (t : Nat) (m : Nat)
  /-- MODULE_MOVE_REQUEST (R241). A write of v with MOVE to RGP_MODCTL of the selected module. -/
  | moduleMoveRequest (i : Initiator) (v : Word)
  /-- MODULE_PARK_REQUEST (R241). A write of v with PARK to RGP_MODCTL of the selected module. -/
  | moduleParkRequest (i : Initiator) (v : Word)
  /-- MODULE_RELEASE (R225). A write of v with RELEASE to RGP_MODCTL of the selected module. -/
  | moduleRelease (i : Initiator) (v : Word)
  /-- MOVE_PHASE_ADVANCE (R242). A move slot is looked at for its phase's condition. -/
  | movePhaseAdvance (t : Nat) (slot : Nat)
  /-- MOVE_PHASE_TIMEOUT (R247). A move slot is looked at for its phase's limit. -/
  | movePhaseTimeout (t : Nat) (slot : Nat)
  /-- CAPTURE_TICK (R267). The capture tick of grid stamp t: the SDM channels' bitstreams, and pilot samples as (port, stamp, value). -/
  | captureTick (t : Nat) (sdm : List (Option Nat)) (pilot : List (Nat × Nat × Option Int))
  /-- SEQUENCER_TIMER_EXPIRY (R268). A sequencer's timer is looked at. -/
  | sequencerTimerExpiry (t : Nat) (unit : Nat) (n : Nat)
  /-- SEQUENCER_COUNTER_LIMIT (R268). A sequencer's counter is looked at. -/
  | sequencerCounterLimit (t : Nat) (unit : Nat) (n : Nat)
  /-- POD_CLOSE (R279). A unit's pod closes. -/
  | podClose (t : Nat) (unit : Nat)
  /-- SEQUENCER_ARM (R262). A write of v with ARM 1 to ACQ_SQCTL. -/
  | sequencerArm (i : Initiator) (unit : Nat) (v : Word)
  /-- SEQUENCER_DISARM (R265). A write of v with ARM 0 to ACQ_SQCTL. -/
  | sequencerDisarm (i : Initiator) (unit : Nat) (v : Word)
  /-- SOFTWARE_TRIGGER (R268). A write of v to ACQ_SWTRG. -/
  | softwareTrigger (i : Initiator) (v : Word)
  /-- POD_READ_REPORT (R260). A write of v to ACQ_RDCNT of the selected region. -/
  | podReadReport (i : Initiator) (v : Word)
  /-- TRIGGER_PIN_EDGE (R274). An edge on an ACQTRG pin. -/
  | triggerPinEdge (t : Nat) (pin : Nat) (rising : Bool) (stampPs : Nat) (widthPs : Nat)
  /-- SIMPLE_TRIGGER_ARM (R289). A write of v to ACQ_STCFG. -/
  | simpleTriggerArm (i : Initiator) (v : Word)
  /-- METERING_SAMPLE (R294). The metering samples of a 100 us instant. -/
  | meteringSample (stamp : Nat) (samples : List Int)
  /-- FALLBACK_TICK (R305). A fallback tick is looked at. -/
  | fallbackTick (t : Nat)
  /-- LATCH (R308). The latch of the oldest closed period. -/
  | latch (t : Nat)
  /-- REVERSE_EVENT_START (R316). A run of export samples is looked at. -/
  | reverseEventStart (t : Nat) (ch : Nat)
  /-- REVERSE_EVENT_END (R317). A run without export is looked at. -/
  | reverseEventEnd (t : Nat) (ch : Nat)
  /-- PULSE_START (R319). A pulse output is looked at for a pending pulse. -/
  | pulseStart (n : Nat) (t : Nat)
  /-- PULSE_END (R319). A pulse output is looked at for its width. -/
  | pulseEnd (n : Nat) (t : Nat)
  /-- PAIR_LATCH_COMPARE (R335). The active device's latch: its LATCHSEQ, settings and increments. -/
  | pairLatchCompare (t : Nat) (seq : Nat) (settings : List Word) (incs : List (Nat × Nat))
  /-- TOTALS_ADOPT (R334). The active device's totals and billing state. -/
  | totalsAdopt (t : Nat) (a : Adoption)
  /-- BILLING_GET (R377). The billing request of i in its mailbox buffer is a GET. -/
  | billingGet (i : Initiator)
  /-- BILLING_SET (R377). It is a SET; x is what its ITEM and DATA spell. -/
  | billingSet (i : Initiator) (x : BilSet)
  /-- BILLING_CHALLENGE (R378). It is a CHALLENGE. -/
  | billingChallenge (i : Initiator)
  /-- CHALLENGE_EXPIRY (R378). The open challenge is looked at. -/
  | challengeExpiry (t : Nat)
  /-- SETTARIFF (R349). It is SETTARIFF with a channel and a tariff. -/
  | settariff (i : Initiator) (ch : Nat) (tariff : Nat)
  /-- CLOSEBP (R358). It is CLOSEBP. -/
  | closebp (i : Initiator)
  /-- SNAP (R366). It is SNAP, paired or not; or the partner's target and epoch. -/
  | snap (i : Initiator) (pair : Bool) (partner : Option (Nat × Nat))
  /-- SNAP_PAIR_TIMEOUT (R369). A paired snapshot is looked at for its confirmation. -/
  | snapPairTimeout (t : Nat)
  /-- SNAP_HOLD_EXPIRY (R368). A bank's HOLD bit is looked at. -/
  | snapHoldExpiry (bank : Nat) (t : Nat)
  /-- SESSION_START (R370). It is START on an outlet, or the partner's. -/
  | sessionStart (i : Initiator) (outlet : Nat) (tag : List Byte) (fromPartner : Bool)
  /-- SESSION_STOP (R370). It is STOP on an outlet, or the partner's. -/
  | sessionStop (i : Initiator) (outlet : Nat) (fromPartner : Bool)
  /-- SESSION_ACK (R374). It is ACK of a session slot. -/
  | sessionAck (i : Initiator) (outlet : Nat) (slot : Nat)
  /-- SESSION_SIGNED (R373). The signature of a slot's record arrives. -/
  | sessionSigned (slot : Nat) (t : Nat)
  /-- COSIGN_TIMEOUT (R373). A slot is looked at for its co-signature. -/
  | cosignTimeout (slot : Nat) (t : Nat)
  /-- SEAL_LOCK (R386). It is LOCK. -/
  | sealLock (i : Initiator)
  /-- SEAL_RESEAL (R387). It is RESEAL. -/
  | sealReseal (i : Initiator)
  /-- SEAL_JUMPER_OPEN (R385). Consecutive mismatching bits of the seal jumper. -/
  | sealJumperOpen (mismatches : Nat)
  /-- SEAL_JUMPER_CLOSE (R385). Consecutive matching bits of the seal jumper. -/
  | sealJumperClose (matching : Nat)
  /-- SAFETY_CYCLE (R394). A safety cycle, and what it finds. -/
  | safetyCycle (t : Nat) (o : SafetyObs)
  /-- TEST_PULSE (R405). A pulse on a test-pulse output, and whether its own line reached low. -/
  | testPulse (t : Nat) (out : Nat) (reachedLow : Bool)
  /-- RAMP_OPEN (R425). The outlet's current has been within SOTH for withinNs. -/
  | rampOpen (t : Nat) (outlet : Nat) (withinNs : Nat)
  /-- PIN_OVERTEMP_TRIP (R427). The pin conversions of an outlet: input, reading, broken. -/
  | pinOvertempTrip (t : Nat) (outlet : Nat) (readings : List (Nat × Option Nat × Bool))
  /-- RELIEF_WINDOW_EXPIRY (R427). 0.995 s after the ramp command. -/
  | reliefWindowExpiry (t : Nat) (outlet : Nat)
  /-- READBACK_FAULT (R418). The readback of an output pair in 3 samples. -/
  | readbackFault (t : Nat) (pair : Nat) (hs : Bool) (ls : Bool) (gatesAt : Option Nat) (partnerOn : Bool)
  /-- DARK_TEST (R419). A dark test of a pair: after how many us each readback reached its level. -/
  | darkTest (t : Nat) (pair : Nat) (hsUs : Option Nat) (lsUs : Option Nat) (partnerHolds : Bool)
  /-- DARK_TEST_TIMEOUT (R419). A dark test is looked at for DTW. -/
  | darkTestTimeout (t : Nat) (pair : Nat)
  /-- DARK_TEST_OVERDUE (R420). A pair is looked at for its 24 h. -/
  | darkTestOverdue (t : Nat) (pair : Nat)
  /-- KEEPALIVE_LOSS (R415). The keep-alive is lost. -/
  | keepaliveLoss (t : Nat)
  /-- SAFETY_FAILURE (R396). A safety failure, and what the boot after its reset meets. -/
  | safetyFailure (t : Nat) (o : BootObs)
  /-- XTRIP_INPUT (R445). XTRIP_IN_N has been low for lowNs, and whether it is high again. -/
  | xtripInput (t : Nat) (lowNs : Nat) (nowHigh : Bool)
  /-- XTRIP_TEST_PULSE (R447). The test pulse on XTRIP_OUT_N. -/
  | xtripTestPulse (t : Nat)
  /-- XLINE_TIMEOUT (R447). The line is looked at for its pulses. -/
  | xlineTimeout (t : Nat)
  /-- TRIP_RESET_REQUEST (R430). A write of v to SAF_RST. -/
  | tripResetRequest (i : Initiator) (v : Word)
  /-- PAIR_RESET_REQUEST (R413). A write of v to SIN_PRST of the selected pair. -/
  | pairResetRequest (i : Initiator) (v : Word)
  /-- OUTPUT_FAULT_CLEAR (R421). A write of v to SOUT_PCTL of the selected pair, whose readback has matched Off for offNs. -/
  | outputFaultClear (i : Initiator) (v : Word) (offNs : Nat)
  /-- SAFETY_CONFIG_LOAD (R399). The request of i in the safety mailbox is LOAD. -/
  | safetyConfigLoad (i : Initiator)
  /-- SAFETY_CONFIG_CONFIRM (R399). It is CONFIRM. -/
  | safetyConfigConfirm (i : Initiator)
  /-- SAFETY_RESET_SERVICE (R621). It is RESET. -/
  | safetyResetService (i : Initiator)
  /-- SAFETY_OUTPUTS_SERVICE (R621). It is OUTPUTS. -/
  | safetyOutputsService (i : Initiator)
  /-- TELEGRAM_SEND (R438). A connection is looked at for its next CMD. -/
  | telegramSend (t : Nat) (conn : Nat)
  /-- TELEGRAM_RECEIVE (R440). A telegram copy arrives on path A (0) or B (1). -/
  | telegramReceive (t : Nat) (conn : Nat) (path : Nat) (bytes : List Byte)
  /-- SINGLE_COPY_ACCEPT (R441). Copies without a twin are looked at. -/
  | singleCopyAccept (t : Nat) (conn : Nat)
  /-- TELEGRAM_WATCHDOG_EXPIRY (R443). A connection is looked at for WDT. -/
  | telegramWatchdogExpiry (t : Nat) (conn : Nat)
  /-- CONNECTION_OPEN_TIMEOUT (R443). A connection is looked at for its 1 s of opening. -/
  | connectionOpenTimeout (t : Nat) (conn : Nat)
  /-- CONNECTION_REOPEN (R443). A LOST connection is looked at for its 100 ms. -/
  | connectionReopen (t : Nat) (conn : Nat)
  /-- GRACE_EXPIRY (R443). A SINGLE connection is looked at for GRACE. -/
  | graceExpiry (t : Nat) (conn : Nat)
  /-- THERMAL_FRAME (R485). A thermal frame: conversions as (input, code); whether the NVM writes of a shutdown verify. -/
  | thermalFrame (t : Nat) (codes : List (Nat × Nat)) (stateOk : Bool) (recOk : Bool)
  /-- BAND_FALL (R467). An input is looked at for its lower band. -/
  | bandFall (t : Nat) (input : Nat)
  /-- THROTTLE_STEP (R470). An outlet is looked at for DWELL and UPDWELL. -/
  | throttleStep (t : Nat) (outlet : Nat)
  /-- SHUTDOWN_ACK (R476). A write to THM_OCTL of the selected outlet at an instant: its bit ACK, and the bits in no field. -/
  | shutdownAck (t : Nat) (i : Initiator) (ack : Bool) (rest : BitVec 31)
  /-- COOLING_FAULT_CLEAR (R483). A write of v to THM_CCTL of the selected controller. -/
  | coolingFaultClear (i : Initiator) (v : Word)
  /-- LOAD_SWITCH_COMMAND (R492). A write of v, without its clears, to LSW_CCTL of the selected channel. -/
  | loadSwitchCommand (i : Initiator) (v : Word)
  /-- TURN_ON_COMPLETE (R497). VAUX - LSWn_OUT of the last samples, in 10 mV. -/
  | turnOnComplete (t : Nat) (ch : Nat) (drops : List Nat)
  /-- INRUSH_TIMEOUT (R497). A channel is looked at for TINR. -/
  | inrushTimeout (t : Nat) (ch : Nat)
  /-- OVERCURRENT (R500). The shunt voltages of the last samples. -/
  | overcurrent (t : Nat) (ch : Nat) (shunt : List Nat)
  /-- SHORT_CIRCUIT (R501). The shunt voltage. -/
  | shortCircuit (t : Nat) (ch : Nat) (shunt : Nat)
  /-- FET_MODEL_UPDATE (R502). The currents and output voltages of every channel, and VAUX. -/
  | fetModelUpdate (t : Nat) (cur : List Nat) (outs : List Nat) (vaux : Nat)
  /-- LOAD_FAULT_CLEAR (R505). A write of v with FCLR to LSW_CCTL. -/
  | loadFaultClear (i : Initiator) (v : Word)
  /-- THERMAL_LATCH_CLEAR (R506). A write of v with TLCLR to LSW_CCTL. -/
  | thermalLatchClear (i : Initiator) (v : Word)
  /-- RETRY_CLEAR (R513). A write of v with RTCLR to LSW_CCTL. -/
  | retryClear (i : Initiator) (v : Word)
  /-- RETRY_RESET_TIMEOUT (R513). A channel is looked at for its 10 s. -/
  | retryResetTimeout (t : Nat) (ch : Nat)
  /-- VAUX_UNDERVOLTAGE (R509). VAUX has fallen, in 10 mV. -/
  | vauxUndervoltage (t : Nat) (vaux : Nat)
  /-- VAUX_UNDERVOLTAGE_END (R510). VAUX has risen, in 10 mV. -/
  | vauxUndervoltageEnd (t : Nat) (vaux : Nat)
  /-- RESTART_DELAY_EXPIRY (R510). A channel is looked at for RDLY. -/
  | restartDelayExpiry (t : Nat) (ch : Nat)
  /-- OPEN_LOAD_ON (R514). A channel's current, and since when it has been below IOL. -/
  | openLoadOn (t : Nat) (ch : Nat) (ma : Nat) (lowNs : Nat)
  /-- OFF_STATE_TEST (R515). A channel's output voltages in the off-state test. -/
  | offStateTest (t : Nat) (ch : Nat) (floating : List Nat) (pulled : List Nat)
  /-- COMMAND_LINK_LOSS (R519). The command link has been quiet for quietNs. -/
  | commandLinkLoss (t : Nat) (quietNs : Nat)
  /-- ATTENUATION_START (R525). A write of v to VLK_ATTCTL of the selected link. -/
  | attenuationStart (i : Initiator) (v : Word)
  /-- ATTENUATION_DONE (R525). The sounds received: each carrier group's reading in dB. -/
  | attenuationDone (t : Nat) (link : Nat) (sounds : List (List (Option Nat)))
  /-- VLK_TX_POLL (R526). A write of v to VLK_KICK of the selected link. -/
  | vlkTxPoll (i : Initiator) (v : Word)
  /-- VLK_FRAME_RECEIVE (R526). A frame arrives on a vehicle link. -/
  | vlkFrameReceive (t : Nat) (link : Nat) (stamp : Nat) (goodFcs : Bool) (bytes : List Byte)
  /-- VLK_FRAME_SENT (R526). A link has sent its frame. -/
  | vlkFrameSent (t : Nat) (link : Nat) (stamp : Nat) (ok : Bool)
  /-- PILOT_WINDOW (R534). A 1 ms window of a pilot: whether edges came, the samples, and the measured period. -/
  | pilotWindow (t : Nat) (port : Nat) (rise : Bool) (fall : Bool) (hi : List Int) (lo : List Int) (all : List Int) (period : Option (Nat × Nat))
  /-- PILOT_STATE_ACCEPT (R536). A port's run of windows is looked at. -/
  | pilotStateAccept (t : Nat) (port : Nat)
  /-- PILOT_GENERATOR_WRITE (R532). A write of v to PIL_PCTL of the selected port. -/
  | pilotGeneratorWrite (i : Initiator) (v : Word)
  /-- CAN_FRAME_RECEIVE (R543). A good frame on a CAN bus. -/
  | canFrameReceive (t : Nat) (ctl : Nat) (stamp : Nat) (f : CanFrame)
  /-- CAN_PUSH_NORMAL (R545). A write of v with bit 0 to PBS_TXPUSH. -/
  | canPushNormal (i : Initiator) (v : Word)
  /-- CAN_PUSH_URGENT (R545). A write of v with bit 1 to PBS_TXPUSH. -/
  | canPushUrgent (i : Initiator) (v : Word)
  /-- CAN_TX_ATTEMPT_END (R546). A transmit attempt that began at start ends. -/
  | canTxAttemptEnd (t : Nat) (ctl : Nat) (start : Nat) (how : CanEnd)
  /-- CAN_RECOVER (R548). A write of PBS_CCTL.RECOVER. -/
  | canRecover (i : Initiator)
  /-- CAN_RECOVERY_DONE (R548). A controller is looked at for its 128 x 11 recessive bits. -/
  | canRecoveryDone (t : Nat) (ctl : Nat)
  /-- ABORTN (R547). A write of PBS_CCTL.ABORTN; onBus: the head is on the bus. -/
  | abortn (i : Initiator) (onBus : Bool)
  /-- ABORTU (R547). A write of PBS_CCTL.ABORTU. -/
  | abortu (i : Initiator) (onBus : Bool)
  /-- FLUSHN (R547). A write of PBS_CCTL.FLUSHN. -/
  | flushn (i : Initiator) (onBus : Bool)
  /-- FLUSHU (R547). A write of PBS_CCTL.FLUSHU. -/
  | flushu (i : Initiator) (onBus : Bool)
  /-- HEAD_TIMEOUT (R547). A FIFO's head is looked at for HEADTMO. -/
  | headTimeout (t : Nat) (ctl : Nat) (urgent : Bool)
  /-- UART_TX_WRITE (R553). A write of v to SER_TX of the selected UART. -/
  | uartTxWrite (i : Initiator) (v : Word)
  /-- UART_RX_CHAR (R552). A received character with its errors. -/
  | uartRxChar (t : Nat) (uart : Nat) (ch : Byte) (perr : Bool) (ferr : Bool) (brk : Bool)
  /-- UART_RX_READ (R559). A read of SER_RX of the selected UART. -/
  | uartRxRead (i : Initiator)
  /-- UART_IDLE (R554). A UART is looked at for its idle time. -/
  | uartIdle (t : Nat) (uart : Nat)
  /-- UART_TX_DONE (R553). A UART is looked at for DEPOST. -/
  | uartTxDone (t : Nat) (uart : Nat)
  /-- POLL_ROUND_START (R566). A modem is looked at for its next round. -/
  | pollRoundStart (t : Nat) (m : Nat)
  /-- POLL_ATTEMPT (R567). A modem is looked at for its next attempt. -/
  | pollAttempt (t : Nat) (m : Nat)
  /-- RESP_RECEIVE (R567). A frame arrives at a modem. -/
  | respReceive (t : Nat) (m : Nat) (phyOk : Bool) (f : List Byte)
  /-- RESPONSE_TIMEOUT (R567). A modem's attempt is looked at for its 4.5 ms. -/
  | responseTimeout (t : Nat) (m : Nat)
  /-- SLAVE_LOST (R571). A slave is looked at for LOSTT. -/
  | slaveLost (t : Nat) (slave : Nat)
  /-- DLPUSH (R569). A write of v with DLPUSH to PLM_SCTL of the selected slave. -/
  | dlpush (i : Initiator) (v : Word)
  /-- MODESET (R575). A write of v with MODESET to PLM_SCTL of the selected slave. -/
  | modeset (i : Initiator) (v : Word)
  /-- ZERO_CROSS_EDGE (R577). A rising edge on ZCp. -/
  | zeroCrossEdge (t : Nat) (p : Nat)
  /-- INTERRUPT_CLAIM (R591). A read of PIC_CLAIMc. -/
  | interruptClaim (i : Initiator) (ctx : Nat)
  /-- INTERRUPT_COMPLETE (R591). A write of v to PIC_CLAIMc. -/
  | interruptComplete (i : Initiator) (ctx : Nat) (v : Word)
  /-- CRYPTO_SHA (R595). The crypto engine's present job is a hash; eccOk: its memory reads meet no uncorrectable error. -/
  | cryptoSha (t : Nat) (eccOk : Bool)
  /-- CRYPTO_AES_GCM_ENCRYPT (R595). It is an AES-GCM encryption; short: the 16-byte IV form. -/
  | cryptoAesGcmEncrypt (t : Nat) (eccOk : Bool) (short : Bool)
  /-- CRYPTO_AES_GCM_DECRYPT (R595). It is an AES-GCM decryption. -/
  | cryptoAesGcmDecrypt (t : Nat) (eccOk : Bool) (short : Bool)
  /-- CRYPTO_ECDSA_SIGN (R596). It is an ECDSA signature. -/
  | cryptoEcdsaSign (t : Nat) (eccOk : Bool)
  /-- CRYPTO_ECDSA_VERIFY (R595). It is an ECDSA verification. -/
  | cryptoEcdsaVerify (t : Nat) (eccOk : Bool)
  /-- CRYPTO_ED448_SIGN (R595). It is an Ed448 signature. -/
  | cryptoEd448Sign (t : Nat) (eccOk : Bool)
  /-- CRYPTO_ED448_VERIFY (R595). It is an Ed448 verification. -/
  | cryptoEd448Verify (t : Nat) (eccOk : Bool)
  /-- CRYPTO_ECDH (R595). It is an ECDH. -/
  | cryptoEcdh (t : Nat) (eccOk : Bool)
  /-- CRYPTO_KEY_PAIR_GENERATION (R596). It is a key-pair generation; entropyOk: the DRBG's health. -/
  | cryptoKeyPairGeneration (t : Nat) (eccOk : Bool) (entropyOk : Bool)
  /-- CRYPTO_RANDOM_BYTES (R596). It asks for random bytes. -/
  | cryptoRandomBytes (t : Nat) (eccOk : Bool) (entropyOk : Bool)
  /-- CRYPTO_JOB_DONE (R594). The crypto engine's present job completes. -/
  | cryptoJobDone (t : Nat)
  /-- EXI_DECODE (R598). The EXI accelerator's present job is a decode. -/
  | exiDecode (t : Nat) (eccOk : Bool)
  /-- EXI_ENCODE (R598). It is an encode. -/
  | exiEncode (t : Nat) (eccOk : Bool)
  /-- EXI_JOB_DONE (R594). The EXI accelerator's present job completes. -/
  | exiJobDone (t : Nat)
  /-- XSPI_COMMAND (R601). A write of v with GO to XSP_CMD of a port. -/
  | xspiCommand (i : Initiator) (port : Nat) (v : Word)
  /-- XSPI_COMMAND_DONE (R601). A port's command ends: what the device answered, and the bytes of its array it changed. -/
  | xspiCommandDone (t : Nat) (port : Nat) (data : List Byte) (changes : List (Nat × Byte))
  /-- XSPI_READ_TIMEOUT (R601). A port's held reads are looked at for RDTMO. -/
  | xspiReadTimeout (t : Nat) (port : Nat)
  /-- ETH_FRAME_RECEIVE (R606). A frame arrives at a MAC. -/
  | ethFrameReceive (t : Nat) (mac : Nat) (stamp : Nat) (goodFcs : Bool) (bytes : List Byte)
  /-- ETH_TX_POLL (R606). A write of v to ETH_QKICK of the selected queue. -/
  | ethTxPoll (i : Initiator) (v : Word)
  /-- TIMEBASE_RATE_WRITE (R610). A write of v to TMB_RATE. -/
  | timebaseRateWrite (i : Initiator) (v : Word)
  /-- OFFSET_WRITE (R612). A write of v to TMB_OFFSHI. -/
  | offsetWrite (i : Initiator) (v : Word)
  /-- HOLDOVER_ENTRY (R613). The timebase is looked at for HOLDT. -/
  | holdoverEntry (t : Nat)
  /-- ALARM_ARM (R614). A write of v to TMB_ALMaHI. -/
  | alarmArm (i : Initiator) (a : Nat) (v : Word)
  /-- ALARM_FIRE (R614). T has reached t; alarm a is looked at. -/
  | alarmFire (t : Nat) (a : Nat)
  /-- MAILBOX_REQUEST (R619). A write of v to MBX_REQ of the safety (0) or metrology (1) mailbox. -/
  | mailboxRequest (i : Initiator) (m : Nat) (v : Word)
  /-- MAILBOX_RESPONSE (R619). The target writes its response to the request of i. -/
  | mailboxResponse (i : Initiator) (m : Nat)
  /-- MAILBOX_ACK (R619). A write of v to MBX_ACK. -/
  | mailboxAck (i : Initiator) (m : Nat) (v : Word)
  /-- MAILBOX_TIMEOUT (R620). The request of i is looked at for MBX_TMO. -/
  | mailboxTimeout (i : Initiator) (m : Nat) (t : Nat)
  /-- SLOT_ENABLE (R632). A write of v with EN to KEY_NCFG of the selected slot. -/
  | slotEnable (i : Initiator) (v : Word)
  /-- SLOT_DERIVED (R632). A slot's derivation ends. -/
  | slotDerived (t : Nat) (slot : Nat)
  /-- GENINC (R633). A write of GENINC to KEY_NCTL of the selected slot; whether the NVM write verifies. -/
  | geninc (i : Initiator) (writeOk : Bool)
  /-- HSS_VERIFY (R644). The key island's present job is an HSS verification. -/
  | hssVerify (t : Nat) (eccOk : Bool)
  /-- SLOT_PUBLIC_KEY (R645). It asks for a slot's public key. -/
  | slotPublicKey (t : Nat) (eccOk : Bool)
  /-- CHROMOS_STATEMENT (R660). It asks for a statement. -/
  | chromosStatement (t : Nat) (eccOk : Bool)
  /-- SIGNER_PUBLIC_KEY (R645). It asks for the signing key's public key. -/
  | signerPublicKey (t : Nat) (eccOk : Bool)
  /-- KEY_JOB_DONE (R594). The key island's present job completes. -/
  | keyJobDone (t : Nat)
  /-- SIGN_REQUEST (R641). A signing request; whether the reservation record's write verifies. -/
  | signRequest (t : Nat) (what : SigFor) (writeOk : Bool)
  /-- SIGNATURE_DONE (R639). The signature of the oldest request is produced. -/
  | signatureDone (t : Nat)
  /-- TREE_BUILT (R640). A tree is built: 0 the top tree, n + 1 bottom tree n. -/
  | treeBuilt (t : Nat) (tree : Nat)
  /-- LC_REQUEST_STATE (R647). A write of LCM_REQ with a target state of 1 to 5. -/
  | lcRequestState (i : Initiator) (target : Nat)
  /-- LC_REQUEST_BLOW_ROOT (R627). A write of LCM_REQ with target 6. -/
  | lcRequestBlowRoot (i : Initiator)
  /-- LC_REQUEST_DEBUG_UNLOCK (R651). A write of LCM_REQ with target 7. -/
  | lcRequestDebugUnlock (i : Initiator)
  /-- LC_CONFIRM (R647). A write of v to LCM_CONFIRM; the fuse bits that take, and what a boot after it meets. -/
  | lcConfirm (t : Nat) (i : Initiator) (v : Word) (burnt : Nat) (o : BootObs)
  /-- DEBUG_RELOCK (R651). A write of v to LCM_DBGCTL. -/
  | debugRelock (i : Initiator) (v : Word)
  /-- OWNER_SET (R652). A write of v to LCM_OWNERSET; the fuse bits that take. -/
  | ownerSet (i : Initiator) (v : Word) (burnt : Nat)
  /-- MEASUREMENT_EXTEND (R658). A write of v to ATT_EXTCTL. -/
  | measurementExtend (i : Initiator) (v : Word)
  /-- SVN_COMMIT (R657). A write of v to ATT_SVNCOMMIT. -/
  | svnCommit (i : Initiator) (v : Word)
  /-- POWER_ON_RESET (R686). VSYS passes the POR release at t; what the power-up meets. -/
  | powerOnReset (t : Nat) (o : BootObs)
  /-- BROWN_OUT_RESET (R754). VSYS falls below 2.35 V; what the power-up meets. -/
  | brownOutReset (t : Nat) (o : BootObs)
  /-- PIN_RESET (R675). RESET_N has been low for lowSamples. -/
  | pinReset (t : Nat) (lowSamples : Nat)
  /-- SOFTWARE_RESET (R674). A write of v to RST_SWRST. -/
  | softwareReset (i : Initiator) (v : Word) (o : BootObs)
  /-- DEVICE_WATCHDOG_EXPIRY (R679). The device watchdog is looked at. -/
  | deviceWatchdogExpiry (t : Nat) (o : BootObs)
  /-- DEVICE_WATCHDOG_KICK (R679). A write of v to RST_DWDKICK. -/
  | deviceWatchdogKick (i : Initiator) (v : Word)
  /-- COMPUTE_WATCHDOG_EXPIRY (R679). The compute watchdog is looked at. -/
  | computeWatchdogExpiry (t : Nat)
  /-- COMPUTE_WATCHDOG_KICK (R679). A write of v to RST_CWDKICK. -/
  | computeWatchdogKick (i : Initiator) (v : Word)
  /-- ISLAND_RESTART_REQUEST (R681). A write of v to RST_ISLRST. -/
  | islandRestartRequest (i : Initiator) (v : Word)
  /-- ISLAND_RESTART_DONE (R682). An island's restart ends, well or not. -/
  | islandRestartDone (t : Nat) (isl : Island) (ok : Bool) (o : BootObs)
  /-- POWER_FAIL_WARNING (R672). VSYS in 10 mV falls below PFWARN; the metering samples up to the flush. -/
  | powerFailWarning (t : Nat) (vsys : Nat) (samples : List (Nat × List Int))
  /-- POWER_FAIL_WARNING_END (R673). VSYS is above PFWARN + 0.1 V; the lowest value met. -/
  | powerFailWarningEnd (t : Nat) (vsys : Nat) (low : Nat) (o : BootObs)
  /-- SHED_ISLAND_RESTART (R673). VSYS is looked at for its 10 ms. -/
  | shedIslandRestart (t : Nat)
  /-- STUCK_RESET_RECORD (R687). RESET_N is looked at. -/
  | stuckResetRecord (t : Nat)
  /-- INTERFACE_DIE_RESET (R685). VAUX has fallen, in 10 mV. -/
  | interfaceDieReset (t : Nat) (vaux : Nat)
  /-- INTERFACE_DIE_RESET_END (R685). VAUX has risen, in 10 mV; the die's self-test. -/
  | interfaceDieResetEnd (t : Nat) (vaux : Nat) (part : BistPart)
  /-- TEMPERATURE_READ (R691). Sensor k reads a temperature in 0.01 K. -/
  | temperatureRead (t : Nat) (k : Nat) (temp : Nat)
  /-- SUPPLY_DEVIATION (R692). The supply of island k has been at mv for ns. -/
  | supplyDeviation (t : Nat) (k : Nat) (mv : Nat) (ns : Nat)
  /-- PROCESS_SPEED_CHECK (R693). The slack of island k in percent. -/
  | processSpeedCheck (t : Nat) (k : Nat) (slack : Nat)
  /-- BIST_RETRY (R699). 1 s after a key or safety failure. -/
  | bistRetry (t : Nat) (o : BootObs)
  /-- HARD_REPAIR (R697). A write of v to BST_HREPAIR; whether the fuses verify. -/
  | hardRepair (i : Initiator) (v : Word) (verifyOk : Bool)
  /-- HEARTBEAT_SEND (R705). The next heartbeat is sent. -/
  | heartbeatSend (t : Nat)
  /-- HEARTBEAT_RECEIVE (R615). The partner's heartbeat; how many mirrored writes it acknowledges. -/
  | heartbeatReceive (t : Nat) (seq : Nat) (acked : Nat) (h : Heartbeat)
  /-- FRAME_MIRROR_RECEIVE (R705). The active device's frame mirror. -/
  | frameMirrorReceive (t : Nat) (seq : Nat) (m : FrameMirror)
  /-- AUSAL_REPLAY (R703). Message `first` has been unacknowledged on a lane for unackedNs. -/
  | ausalReplay (t : Nat) (lane : Nat) (first : Nat) (unackedNs : Nat)
  /-- LANE_DOWN (R704). A lane has had no valid symbol for quietNs. -/
  | laneDown (t : Nat) (lane : Nat) (quietNs : Nat)
  /-- LANE_UP (R704). A lane has had `idles` good idle symbols. -/
  | laneUp (t : Nat) (lane : Nat) (idles : Nat)
  /-- MIRRORED_WRITE (R706). A write that the partner mirrors. -/
  | mirroredWrite (t : Nat) (page : Nat) (off : Nat) (inst : Nat) (v : Word)
  /-- MIRROR_COMMIT_ACK (R708). A commit's mirrored writes are acknowledged. -/
  | mirrorCommitAck (t : Nat) (i : Initiator) (ws : List PendWrite)
  /-- SYNC_COPY (R709). The copy at entry to SYNC, sent or received. -/
  | syncCopy (t : Nat) (c : SyncCopy)
  /-- WAIT_TIMEOUT (R711). A waiting device is looked at for WAITT. -/
  | waitTimeout (t : Nat)
  /-- TAKEOVER (R713). The boundary just counted; whether the partner's handover names it. -/
  | takeover (t : Nat) (handover : Bool)
  /-- DEMOTION (R714). An active device is looked at for demotion. -/
  | demotion (t : Nat)
  /-- HANDOVER (R715). A write of v to AUS_CTL. -/
  | handover (i : Initiator) (v : Word)
  /-- FIRMWARE_EVENT_PUT (R721). A write of v to EVT_SWPUT. -/
  | firmwareEventPut (i : Initiator) (v : Word)
  /-- LOG_ENTRY_WRITE (R722). The AON island writes a source's next entry. -/
  | logEntryWrite (t : Nat) (src : Nat)
  /-- PARTNER_LOG_ENTRY (R723). An entry of the partner arrives. -/
  | partnerLogEntry (t : Nat) (src : Nat) (code : Nat) (sseq : Nat) (stamp : Nat) (data : List Byte)
  /-- ETH_LINK_CHANGE (R604). A MAC's link changes. -/
  | ethLinkChange (t : Nat) (mac : Nat) (isUp : Bool) (speed : Nat)
  /-- ETH_FRAME_SENT (R606). A MAC has sent a frame. -/
  | ethFrameSent (t : Nat) (mac : Nat) (queue : Nat) (stamp : Nat)
  /-- MACHINE_TIMER_INTERRUPT (R593). T has reached t. -/
  | machineTimerInterrupt (t : Nat)
  /-- SRAM_READ_ECC (R588). An access of an initiator, or a scrubber pass, meets an error. -/
  | sramReadEcc (i : Option Initiator) (addr : Nat) (e : MemErr)
  /-- SAFETY_INPUT_SAMPLE (R408). The level of every contact. -/
  | safetyInputSample (t : Nat) (contacts : Nat)
  /-- CAN_RECEIVE_ERROR (R540). A frame on a CAN bus ends in an error. -/
  | canReceiveError (t : Nat) (ctl : Nat) (kind : CanRxErr) (dominant : Bool)
  /-- RESET_N_RISE (R686). RESET_N rises; what the resumed power-up meets. -/
  | resetNRise (t : Nat) (o : BootObs)
  deriving DecidableEq, Repr

end Sys2Proof
end

