-- ==== Sys2Proof/Config.lean ====
section
/-! DEFINITION. What the spec leaves to the part or to chance: contents and values it does not state, as constants with
no body, so that no proof can rest on a value of them. Each is named in the assumption log. -/
namespace Sys2Proof.Config

/-- The contents of the boot ROM (Table 2.1); the spec gives no byte of it. -/
opaque bootRom : Nat → Byte

/-- A word the spec leaves open, fresh at each use: the first argument says which rule leaves it open, the second is the
use counter of the state. -/
opaque freeWord : Nat → Nat → Word

/-- A sample of a path under a fine delay, of the path and average, the delay in 1/32 bit and the stream (R112): the spec does
not give the coefficients of the interpolation. -/
opaque fineDelayed : Nat → Nat → Nat → Int

/-- Bits 31:0 of the calendar digest, of the calendar's words (R352); the spec names no digest algorithm for it. -/
opaque calDigest : List Word → Word

/-- The output of the EXI accelerator: direction (1 decode, 2 encode), grammar, input; the schemas of the standards are not
in the spec (R598). -/
opaque exiOut : Nat → Nat → List Byte → List Byte

/-- Whether an EXI input is valid for its grammar (R594, status 0x08). -/
opaque exiValid : Nat → Nat → List Byte → Bool

/-- The deepest nesting of elements of an EXI stream (R598). -/
opaque exiDepth : Nat → List Byte → Nat

/-- The SHA-256 digest of Kregokel's code key, held in the boot ROM (R655). -/
opaque codeKeyDigest : Nat → Byte

/-- The SHA-256 digest of Kregokel's service key, held in the boot ROM (R653). -/
opaque serviceKeyDigest : Nat → Byte

/-- The digest of the key island's sequencer ROM (Table 16.10). -/
opaque seqRomDigest : Nat → Byte

end Sys2Proof.Config
end

