-- ==== Sys2Proof/Machine/Regs.lean ====
section
/-! DEFINITION. The register pages of the address map (Tables 2.3, 2.4 and the register table of every block chapter):
each page's block, island and instance counts, each register's offset, access codes by bit and reset value, and a name
for every register. Written from the register tables of spec/, chapter by chapter. -/
namespace Sys2Proof.Machine

/-! ### The common registers of every page (R56, Table 2.4) -/
/-- BLK_PAGEID of a page (R56). -/
def BLK_PAGEID (page : Nat) : Reg := ⟨page, 0x000, 0⟩
/-- BLK_CAP of a page (R56). -/
def BLK_CAP (page : Nat) : Reg := ⟨page, 0x004, 0⟩
/-- BLK_EVF of a page (R56). -/
def BLK_EVF (page : Nat) : Reg := ⟨page, 0x010, 0⟩
/-- BLK_EVS of a page (R56). -/
def BLK_EVS (page : Nat) : Reg := ⟨page, 0x014, 0⟩
/-- BLK_EVE of a page (R56). -/
def BLK_EVE (page : Nat) : Reg := ⟨page, 0x018, 0⟩
/-- BLK_ERR of a page (R56). -/
def BLK_ERR (page : Nat) : Reg := ⟨page, 0x01C, 0⟩
/-- BLK_CHSEL of a page (R56). -/
def BLK_CHSEL (page : Nat) : Reg := ⟨page, 0x020, 0⟩
/-- BLK_LOCK of a page (R56). -/
def BLK_LOCK (page : Nat) : Reg := ⟨page, 0x024, 0⟩

/-! ### spec/02_register_model.md -/
/-- PWR_PROFILE (R47). -/
def PWR_PROFILE : Reg := ⟨0x02, 0x040, 0x1⟩
/-- PWR_LEVEL (R47). -/
def PWR_LEVEL : Reg := ⟨0x02, 0x044, 0x0⟩
/-- PWR_STAT (R47). -/
def PWR_STAT : Reg := ⟨0x02, 0x048, 0x0⟩
/-- PWR_CAUSE (R47). -/
def PWR_CAUSE : Reg := ⟨0x02, 0x04C, 0x0⟩
/-- PWR_LIMPCFG (R47). -/
def PWR_LIMPCFG : Reg := ⟨0x02, 0x050, 0x3201F4⟩
/-- PWR_WAKECFG (R47). -/
def PWR_WAKECFG : Reg := ⟨0x02, 0x054, 0xF⟩
/-- PWR_WAKESRC (R47). -/
def PWR_WAKESRC : Reg := ⟨0x02, 0x058, 0x0⟩
/-- PWR_RESUME (R47). -/
def PWR_RESUME : Reg := ⟨0x02, 0x05C, 0x8000000⟩
/-- SYS_ID (R65). -/
def SYS_ID : Reg := ⟨0x00, 0x040, 0x0⟩
/-- SYS_STAT (R65). -/
def SYS_STAT : Reg := ⟨0x00, 0x044, 0x0⟩
/-- SYS_ABSADDR (R65). -/
def SYS_ABSADDR : Reg := ⟨0x00, 0x048, 0x0⟩
/-- SYS_ABSINFO (R65). -/
def SYS_ABSINFO : Reg := ⟨0x00, 0x04C, 0x0⟩
/-- SYS_FENCE (R65). -/
def SYS_FENCE : Reg := ⟨0x00, 0x060, 0x0⟩
/-- CLK_STAT (R66). -/
def CLK_STAT : Reg := ⟨0x01, 0x040, 0x0⟩
/-- CLK_LOSS (R66). -/
def CLK_LOSS : Reg := ⟨0x01, 0x044, 0x0⟩
/-- CLK_IFREQ (R66). -/
def CLK_IFREQ : Reg := ⟨0x01, 0x400, 0x0⟩
/-- CLK_INOM (R66). -/
def CLK_INOM : Reg := ⟨0x01, 0x404, 0x0⟩
/-- NVM_STAT (R69). -/
def NVM_STAT : Reg := ⟨0x0A, 0x040, 0x0⟩
/-- NVM_REFPOS (R69). -/
def NVM_REFPOS : Reg := ⟨0x0A, 0x044, 0x0⟩
/-- NVM_ECCCNT (R69). -/
def NVM_ECCCNT : Reg := ⟨0x0A, 0x048, 0x0⟩
/-- NVM_ECCADDR (R69). -/
def NVM_ECCADDR : Reg := ⟨0x0A, 0x04C, 0x0⟩
/-- NVM_UPROT (R69). -/
def NVM_UPROT : Reg := ⟨0x0A, 0x050, 0x0⟩
/-- DBG_STAT (R71). -/
def DBG_STAT : Reg := ⟨0x0B, 0x040, 0x0⟩
/-- DBG_SWOCFG (R71). -/
def DBG_SWOCFG : Reg := ⟨0x0B, 0x044, 0x1C200⟩
/-- DBG_SWOTX (R71). -/
def DBG_SWOTX : Reg := ⟨0x0B, 0x048, 0x0⟩
/-- DBG_SWOSTAT (R71). -/
def DBG_SWOSTAT : Reg := ⟨0x0B, 0x04C, 0x0⟩
/-- DBG_ATTCNT (R71). -/
def DBG_ATTCNT : Reg := ⟨0x0B, 0x050, 0x0⟩
/-- TXN_BEGIN (R80). -/
def TXN_BEGIN : Reg := ⟨0x06, 0x040, 0x0⟩
/-- TXN_COMMIT (R80). -/
def TXN_COMMIT : Reg := ⟨0x06, 0x044, 0x0⟩
/-- TXN_ABORT (R80). -/
def TXN_ABORT : Reg := ⟨0x06, 0x048, 0x0⟩
/-- TXN_STAT (R80). -/
def TXN_STAT : Reg := ⟨0x06, 0x04C, 0x0⟩
/-- TXN_SYNDROME (R80). -/
def TXN_SYNDROME : Reg := ⟨0x06, 0x050, 0x0⟩
/-- TXN_FRAME (R80). -/
def TXN_FRAME : Reg := ⟨0x06, 0x054, 0x0⟩
/-- TXN_SLOTS (R80). -/
def TXN_SLOTS : Reg := ⟨0x06, 0x058, 0x0⟩
/-- TXN_CFG (R80). -/
def TXN_CFG : Reg := ⟨0x06, 0x05C, 0x0⟩

/-! ### spec/03_sensing_and_cabinet_links.md -/
/-- SDM_CLKCFG (R120). -/
def SDM_CLKCFG : Reg := ⟨0x20, 0x040, 0xF⟩
/-- SDM_FLT0 (R120). -/
def SDM_FLT0 : Reg := ⟨0x20, 0x044, 0x0⟩
/-- SDM_FLT1 (R120). -/
def SDM_FLT1 : Reg := ⟨0x20, 0x048, 0x0⟩
/-- SDM_CLKSTAT (R120). -/
def SDM_CLKSTAT : Reg := ⟨0x20, 0x04C, 0x0⟩
/-- SDM_CALCTL (R120). -/
def SDM_CALCTL : Reg := ⟨0x21, 0x040, 0x0⟩
/-- SDM_CALRES (R120). -/
def SDM_CALRES : Reg := ⟨0x21, 0x044, 0x0⟩
/-- SDM_SNAPCTL (R120). -/
def SDM_SNAPCTL : Reg := ⟨0x22, 0x040, 0x0⟩
/-- SDM_SNAPFRAME (R120). -/
def SDM_SNAPFRAME : Reg := ⟨0x22, 0x044, 0x0⟩
/-- SDM_SNAP (R120). -/
def SDM_SNAP (k : Nat) : Reg := ⟨0x22, 0x080 + 0x4 * k, 0x0⟩
/-- SDM_CHCFG (R122). -/
def SDM_CHCFG : Reg := ⟨0x20, 0x400, 0x4201⟩
/-- SDM_DLY (R122). -/
def SDM_DLY : Reg := ⟨0x20, 0x404, 0x0⟩
/-- SDM_CHSTAT (R122). -/
def SDM_CHSTAT : Reg := ⟨0x20, 0x408, 0x0⟩
/-- SDM_GDCTL (R122). -/
def SDM_GDCTL : Reg := ⟨0x20, 0x40C, 0x0⟩
/-- SDM_FTS (R122). -/
def SDM_FTS : Reg := ⟨0x20, 0x410, 0x0⟩
/-- SDM_CTS (R122). -/
def SDM_CTS : Reg := ⟨0x20, 0x414, 0x0⟩
/-- SDM_MTS (R122). -/
def SDM_MTS : Reg := ⟨0x20, 0x418, 0x0⟩
/-- CAB_TOKEN (R141). -/
def CAB_TOKEN : Reg := ⟨0x24, 0x040, 0x10001⟩
/-- CAB_FPER (R141). -/
def CAB_FPER : Reg := ⟨0x24, 0x044, 0x1F4⟩
/-- CAB_UP (R141). -/
def CAB_UP : Reg := ⟨0x24, 0x048, 0x0⟩
/-- CAB_DEADF (R141). -/
def CAB_DEADF : Reg := ⟨0x24, 0x04C, 0x0⟩
/-- CAB_LCFG (R141). -/
def CAB_LCFG : Reg := ⟨0x24, 0x400, 0xFF00⟩
/-- CAB_LSTAT (R141). -/
def CAB_LSTAT : Reg := ⟨0x24, 0x404, 0x0⟩
/-- CAB_ERRCNT (R141). -/
def CAB_ERRCNT : Reg := ⟨0x24, 0x408, 0x0⟩
/-- CAB_CABSTAT (R141). -/
def CAB_CABSTAT : Reg := ⟨0x24, 0x40C, 0x0⟩
/-- CAB_MTEL0 (R142). -/
def CAB_MTEL0 : Reg := ⟨0x25, 0x400, 0x0⟩
/-- CAB_MTEL1 (R142). -/
def CAB_MTEL1 : Reg := ⟨0x25, 0x404, 0x0⟩
/-- CAB_MTEL2 (R142). -/
def CAB_MTEL2 : Reg := ⟨0x25, 0x408, 0xFF000000⟩
/-- CAB_TFRAME (R141). -/
def CAB_TFRAME (k : Nat) : Reg := ⟨0x26, 0x400 + 0x4 * k, 0x0⟩
/-- CAB_CFRAME (R141). -/
def CAB_CFRAME (k : Nat) : Reg := ⟨0x27, 0x400 + 0x4 * k, 0x0⟩

/-! ### spec/04_loop_engine.md -/
/-- LPE_FRAMECFG (R184). -/
def LPE_FRAMECFG : Reg := ⟨0x28, 0x040, 0x3E8⟩
/-- LPE_FRAMELO (R184). -/
def LPE_FRAMELO : Reg := ⟨0x28, 0x044, 0x0⟩
/-- LPE_FRAMEHI (R184). -/
def LPE_FRAMEHI : Reg := ⟨0x28, 0x048, 0x0⟩
/-- LPE_SCHED (R184). -/
def LPE_SCHED : Reg := ⟨0x28, 0x04C, 0x0⟩
/-- LPE_MISSSUM (R184). -/
def LPE_MISSSUM (k : Nat) : Reg := ⟨0x28, 0x050 + 0x4 * k, 0x0⟩
/-- LPE_SATSUM (R184). -/
def LPE_SATSUM (k : Nat) : Reg := ⟨0x28, 0x060 + 0x4 * k, 0x0⟩
/-- LPE_ESCSUM (R184). -/
def LPE_ESCSUM (k : Nat) : Reg := ⟨0x28, 0x070 + 0x4 * k, 0x0⟩
/-- LPE_CTXCFG (R185). -/
def LPE_CTXCFG : Reg := ⟨0x28, 0x400, 0x0⟩
/-- LPE_SRC (R185). -/
def LPE_SRC : Reg := ⟨0x28, 0x404, 0x0⟩
/-- LPE_MISSCFG (R185). -/
def LPE_MISSCFG : Reg := ⟨0x28, 0x408, 0x4⟩
/-- LPE_SATCFG (R185). -/
def LPE_SATCFG : Reg := ⟨0x28, 0x40C, 0x10000⟩
/-- LPE_CTXCTL (R185). -/
def LPE_CTXCTL : Reg := ⟨0x28, 0x410, 0x0⟩
/-- LPE_CSTAT (R185). -/
def LPE_CSTAT : Reg := ⟨0x28, 0x414, 0x0⟩
/-- LPE_MISSCNT (R185). -/
def LPE_MISSCNT : Reg := ⟨0x28, 0x418, 0x0⟩
/-- LPE_SATTIME (R185). -/
def LPE_SATTIME : Reg := ⟨0x28, 0x41C, 0x0⟩
/-- LPE_OUT (R185). -/
def LPE_OUT : Reg := ⟨0x28, 0x420, 0x0⟩
/-- LPE_LASTFRM (R185). -/
def LPE_LASTFRM : Reg := ⟨0x28, 0x424, 0x0⟩
/-- LPE_RANK (R185). -/
def LPE_RANK : Reg := ⟨0x28, 0x428, 0x0⟩

/-! ### spec/05_constraint_arbitration.md -/
/-- ARB_WCHGSUM (R211). -/
def ARB_WCHGSUM : Reg := ⟨0x38, 0x040, 0x0⟩
/-- ARB_NOCLSUM (R211). -/
def ARB_NOCLSUM : Reg := ⟨0x38, 0x044, 0x0⟩
/-- ARB_SLOTCFG (R211). -/
def ARB_SLOTCFG (k : Nat) : Reg := ⟨0x38, 0x400 + 0x4 * k, 0x0⟩
/-- ARB_SLOTK (R211). -/
def ARB_SLOTK (k : Nat) : Reg := ⟨0x38, 0x420 + 0x4 * k, 0x0⟩
/-- ARB_HYST (R211). -/
def ARB_HYST : Reg := ⟨0x38, 0x440, 0x0⟩
/-- ARB_MARGIN (R211). -/
def ARB_MARGIN : Reg := ⟨0x38, 0x444, 0x0⟩
/-- ARB_VSCL (R211). -/
def ARB_VSCL : Reg := ⟨0x38, 0x448, 0x0⟩
/-- ARB_VFLOOR (R211). -/
def ARB_VFLOOR : Reg := ⟨0x38, 0x44C, 0x64000006⟩
/-- ARB_CTL (R211). -/
def ARB_CTL : Reg := ⟨0x38, 0x450, 0x0⟩
/-- ARB_VREQ (R211). -/
def ARB_VREQ : Reg := ⟨0x38, 0x454, 0x0⟩
/-- ARB_WIN (R211). -/
def ARB_WIN : Reg := ⟨0x38, 0x458, 0x0⟩
/-- ARB_WSTAT (R211). -/
def ARB_WSTAT : Reg := ⟨0x38, 0x45C, 0x0⟩
/-- ARB_CLAIM (R211). -/
def ARB_CLAIM (k : Nat) : Reg := ⟨0x38, 0x460 + 0x4 * k, 0x0⟩
/-- ARB_PART (R211). -/
def ARB_PART : Reg := ⟨0x38, 0x480, 0x0⟩
/-- ARB_NARROW (R211). -/
def ARB_NARROW : Reg := ⟨0x38, 0x484, 0x0⟩
/-- ARB_ISCL (R211). -/
def ARB_ISCL : Reg := ⟨0x38, 0x488, 0x0⟩
/-- ARB_SITECFG (R211). -/
def ARB_SITECFG (k : Nat) : Reg := ⟨0x39, 0x040 + 0x4 * k, 0x0⟩
/-- ARB_SITEK (R211). -/
def ARB_SITEK (k : Nat) : Reg := ⟨0x39, 0x060 + 0x4 * k, 0x0⟩
/-- ARB_SITEHYST (R211). -/
def ARB_SITEHYST : Reg := ⟨0x39, 0x080, 0x0⟩
/-- ARB_SITEMARG (R211). -/
def ARB_SITEMARG : Reg := ⟨0x39, 0x084, 0x0⟩
/-- ARB_SITECTL (R211). -/
def ARB_SITECTL : Reg := ⟨0x39, 0x088, 0x0⟩
/-- ARB_SITEWIN (R211). -/
def ARB_SITEWIN : Reg := ⟨0x39, 0x08C, 0x0⟩
/-- ARB_SITEWST (R211). -/
def ARB_SITEWST : Reg := ⟨0x39, 0x090, 0x0⟩
/-- ARB_SITECLM (R211). -/
def ARB_SITECLM (k : Nat) : Reg := ⟨0x39, 0x094 + 0x4 * k, 0x0⟩
/-- ARB_SITEPART (R211). -/
def ARB_SITEPART : Reg := ⟨0x39, 0x0B4, 0x0⟩
/-- ARB_SITENAR (R211). -/
def ARB_SITENAR : Reg := ⟨0x39, 0x0B8, 0x0⟩
/-- ARB_GRAPHERR (R211). -/
def ARB_GRAPHERR : Reg := ⟨0x3A, 0x040, 0x0⟩
/-- ARB_ROUTE (R211). -/
def ARB_ROUTE : Reg := ⟨0x3A, 0x400, 0x0⟩
/-- LPE_TUNCTL (R223). -/
def LPE_TUNCTL : Reg := ⟨0x29, 0x040, 0x0⟩
/-- LPE_TUNAMP (R223). -/
def LPE_TUNAMP : Reg := ⟨0x29, 0x044, 0x0⟩
/-- LPE_TUNPRBS (R223). -/
def LPE_TUNPRBS : Reg := ⟨0x29, 0x048, 0x107⟩
/-- LPE_TUNSETL (R223). -/
def LPE_TUNSETL : Reg := ⟨0x29, 0x04C, 0x0⟩
/-- LPE_TUNSTAT (R223). -/
def LPE_TUNSTAT : Reg := ⟨0x29, 0x050, 0x0⟩
/-- LPE_TUNFRM (R223). -/
def LPE_TUNFRM : Reg := ⟨0x29, 0x054, 0x0⟩
/-- LPE_TPT (R223). -/
def LPE_TPT : Reg := ⟨0x2A, 0x400, 0x0⟩
/-- LPE_TRINRE (R223). -/
def LPE_TRINRE : Reg := ⟨0x2B, 0x400, 0x0⟩
/-- LPE_TRINIM (R223). -/
def LPE_TRINIM : Reg := ⟨0x2B, 0x404, 0x0⟩
/-- LPE_TRRETRE (R223). -/
def LPE_TRRETRE : Reg := ⟨0x2B, 0x408, 0x0⟩
/-- LPE_TRRETIM (R223). -/
def LPE_TRRETIM : Reg := ⟨0x2B, 0x40C, 0x0⟩
/-- LPE_TRGAIN (R223). -/
def LPE_TRGAIN : Reg := ⟨0x2B, 0x410, 0x0⟩
/-- LPE_TRPHASE (R223). -/
def LPE_TRPHASE : Reg := ⟨0x2B, 0x414, 0x0⟩
/-- LPE_TRSTAT (R223). -/
def LPE_TRSTAT : Reg := ⟨0x2B, 0x418, 0x0⟩

/-! ### spec/06_site_power_sharing.md -/
/-- SHR_CTL (R251). -/
def SHR_CTL : Reg := ⟨0x3C, 0x040, 0x0⟩
/-- SHR_STAT (R251). -/
def SHR_STAT : Reg := ⟨0x3C, 0x044, 0x0⟩
/-- SHR_HEAD (R251). -/
def SHR_HEAD : Reg := ⟨0x3C, 0x048, 0x0⟩
/-- SHR_UNALLOC (R251). -/
def SHR_UNALLOC : Reg := ⟨0x3C, 0x04C, 0x0⟩
/-- SHR_CYCFRM (R251). -/
def SHR_CYCFRM : Reg := ⟨0x3C, 0x050, 0x0⟩
/-- SHR_OCFG (R251). -/
def SHR_OCFG : Reg := ⟨0x3C, 0x400, 0x3⟩
/-- SHR_GUAR (R251). -/
def SHR_GUAR : Reg := ⟨0x3C, 0x404, 0x0⟩
/-- SHR_STATIC (R251). -/
def SHR_STATIC : Reg := ⟨0x3C, 0x408, 0x0⟩
/-- SHR_DEMAND (R251). -/
def SHR_DEMAND : Reg := ⟨0x3C, 0x40C, 0x0⟩
/-- SHR_BUDGET (R251). -/
def SHR_BUDGET : Reg := ⟨0x3C, 0x410, 0x0⟩
/-- SHR_CLAIM (R251). -/
def SHR_CLAIM : Reg := ⟨0x3C, 0x414, 0x0⟩
/-- SHR_NEED (R251). -/
def SHR_NEED : Reg := ⟨0x3C, 0x418, 0x0⟩
/-- SHR_OSTAT (R251). -/
def SHR_OSTAT : Reg := ⟨0x3C, 0x41C, 0x0⟩
/-- SHR_BUD (R251). -/
def SHR_BUD (k : Nat) : Reg := ⟨0x3D, 0x040 + 0x4 * k, 0x0⟩
/-- SHR_BUDFRM (R251). -/
def SHR_BUDFRM : Reg := ⟨0x3D, 0x080, 0x0⟩
/-- RGP_CTL (R252). -/
def RGP_CTL : Reg := ⟨0x3E, 0x040, 0x802⟩
/-- RGP_CFG (R252). -/
def RGP_CFG : Reg := ⟨0x3E, 0x044, 0x5040A02⟩
/-- RGP_TMO (R252). -/
def RGP_TMO : Reg := ⟨0x3E, 0x048, 0x2832320A⟩
/-- RGP_DWELL (R252). -/
def RGP_DWELL : Reg := ⟨0x3E, 0x04C, 0x64⟩
/-- RGP_STAT (R252). -/
def RGP_STAT : Reg := ⟨0x3E, 0x050, 0x0⟩
/-- RGP_DONE (R252). -/
def RGP_DONE : Reg := ⟨0x3E, 0x054, 0x0⟩
/-- RGP_QSUM (R252). -/
def RGP_QSUM (k : Nat) : Reg := ⟨0x3E, 0x058 + 0x4 * k, 0x0⟩
/-- RGP_MODCFG (R252). -/
def RGP_MODCFG : Reg := ⟨0x3E, 0x400, 0x3232⟩
/-- RGP_REACH (R252). -/
def RGP_REACH : Reg := ⟨0x3E, 0x404, 0x0⟩
/-- RGP_FOLLOW (R252). -/
def RGP_FOLLOW : Reg := ⟨0x3E, 0x408, 0x0⟩
/-- RGP_MODSTAT (R252). -/
def RGP_MODSTAT : Reg := ⟨0x3E, 0x40C, 0x1F00⟩
/-- RGP_MODCTL (R252). -/
def RGP_MODCTL : Reg := ⟨0x3E, 0x410, 0x0⟩
/-- RGP_MVSTAT (R252). -/
def RGP_MVSTAT : Reg := ⟨0x3F, 0x400, 0x1F1F0000⟩
/-- RGP_MVTIME (R252). -/
def RGP_MVTIME : Reg := ⟨0x3F, 0x404, 0x0⟩
/-- RGP_MVLAST (R252). -/
def RGP_MVLAST : Reg := ⟨0x3F, 0x408, 0x0⟩
/-- RGP_MVFRM (R252). -/
def RGP_MVFRM : Reg := ⟨0x3F, 0x40C, 0x0⟩

/-! ### spec/07_acquisition.md -/
/-- ACQ_ARMCNT (R289). -/
def ACQ_ARMCNT : Reg := ⟨0x40, 0x040, 0x0⟩
/-- ACQ_SWTRG (R289). -/
def ACQ_SWTRG : Reg := ⟨0x40, 0x044, 0x0⟩
/-- ACQ_PINCFG (R289). -/
def ACQ_PINCFG : Reg := ⟨0x40, 0x048, 0x55⟩
/-- ACQ_CHCFG (R289). -/
def ACQ_CHCFG : Reg := ⟨0x40, 0x400, 0x0⟩
/-- ACQ_CHSTAT (R289). -/
def ACQ_CHSTAT : Reg := ⟨0x40, 0x404, 0x0⟩
/-- ACQ_RGBASE (R289). -/
def ACQ_RGBASE : Reg := ⟨0x41, 0x400, 0x0⟩
/-- ACQ_RGSIZE (R289). -/
def ACQ_RGSIZE : Reg := ⟨0x41, 0x404, 0x0⟩
/-- ACQ_RGCFG (R289). -/
def ACQ_RGCFG : Reg := ⟨0x41, 0x408, 0x1⟩
/-- ACQ_SLOTSZ (R289). -/
def ACQ_SLOTSZ : Reg := ⟨0x41, 0x40C, 0x0⟩
/-- ACQ_NSLOT (R289). -/
def ACQ_NSLOT : Reg := ⟨0x41, 0x410, 0x0⟩
/-- ACQ_WRCNT (R289). -/
def ACQ_WRCNT : Reg := ⟨0x41, 0x414, 0x0⟩
/-- ACQ_RDCNT (R289). -/
def ACQ_RDCNT : Reg := ⟨0x41, 0x418, 0x0⟩
/-- ACQ_LOST (R289). -/
def ACQ_LOST : Reg := ⟨0x41, 0x41C, 0x0⟩
/-- ACQ_SQCTL (R289). -/
def ACQ_SQCTL (p : Nat) : Reg := ⟨0x42 + p, 0x040, 0x0⟩
/-- ACQ_SQWIN (R289). -/
def ACQ_SQWIN (p : Nat) : Reg := ⟨0x42 + p, 0x044, 0x3000100⟩
/-- ACQ_SQCHM0 (R289). -/
def ACQ_SQCHM0 (p : Nat) : Reg := ⟨0x42 + p, 0x048, 0x0⟩
/-- ACQ_SQCHM1 (R289). -/
def ACQ_SQCHM1 (p : Nat) : Reg := ⟨0x42 + p, 0x04C, 0x0⟩
/-- ACQ_SQSTAT (R289). -/
def ACQ_SQSTAT (p : Nat) : Reg := ⟨0x42 + p, 0x050, 0x0⟩
/-- ACQ_CNTLIM (R289). -/
def ACQ_CNTLIM (p : Nat) (k : Nat) : Reg := ⟨0x42 + p, 0x060 + 0x4 * k, 0xFFFFFFFF⟩
/-- ACQ_CNT (R289). -/
def ACQ_CNT (p : Nat) (k : Nat) : Reg := ⟨0x42 + p, 0x070 + 0x4 * k, 0x0⟩
/-- ACQ_TMRLIM (R289). -/
def ACQ_TMRLIM (p : Nat) (k : Nat) : Reg := ⟨0x42 + p, 0x080 + 0x4 * k, 0xFFFFFFFF⟩
/-- ACQ_CMPCFG (R289). -/
def ACQ_CMPCFG (p : Nat) (k : Nat) : Reg := ⟨0x42 + p, 0x090 + 0x8 * k, 0x0⟩
/-- ACQ_CMPLVL (R289). -/
def ACQ_CMPLVL (p : Nat) (k : Nat) : Reg := ⟨0x42 + p, 0x094 + 0x8 * k, 0x0⟩
/-- ACQ_RULEA (R289). -/
def ACQ_RULEA (p : Nat) : Reg := ⟨0x42 + p, 0x400, 0x4000000⟩
/-- ACQ_RULEB (R289). -/
def ACQ_RULEB (p : Nat) : Reg := ⟨0x42 + p, 0x404, 0x4000000⟩
/-- ACQ_STENT (R289). -/
def ACQ_STENT (p : Nat) : Reg := ⟨0x42 + p, 0x408, 0x0⟩
/-- ACQ_FLTCFG (R289). -/
def ACQ_FLTCFG : Reg := ⟨0x46, 0x040, 0x201⟩
/-- ACQ_FLTWIN (R289). -/
def ACQ_FLTWIN : Reg := ⟨0x46, 0x044, 0x10000400⟩
/-- ACQ_FLTCH0 (R289). -/
def ACQ_FLTCH0 : Reg := ⟨0x46, 0x048, 0x0⟩
/-- ACQ_FLTCH1 (R289). -/
def ACQ_FLTCH1 : Reg := ⟨0x46, 0x04C, 0x0⟩
/-- ACQ_FLTSTAT (R289). -/
def ACQ_FLTSTAT : Reg := ⟨0x46, 0x050, 0x0⟩
/-- ACQ_STCFG (R289). -/
def ACQ_STCFG : Reg := ⟨0x47, 0x040, 0x0⟩
/-- ACQ_STWIN (R289). -/
def ACQ_STWIN : Reg := ⟨0x47, 0x044, 0x3000100⟩
/-- ACQ_STCHM (R289). -/
def ACQ_STCHM : Reg := ⟨0x47, 0x048, 0x0⟩
/-- ACQ_STCMPCFG (R289). -/
def ACQ_STCMPCFG : Reg := ⟨0x47, 0x04C, 0x0⟩
/-- ACQ_STCMPLVL (R289). -/
def ACQ_STCMPLVL : Reg := ⟨0x47, 0x050, 0x0⟩
/-- ACQ_STSTAT (R289). -/
def ACQ_STSTAT : Reg := ⟨0x47, 0x054, 0x0⟩

/-! ### spec/08_metrology.md -/
/-- MTR_LATCHCFG (R338). -/
def MTR_LATCHCFG : Reg := ⟨0x48, 0x040, 0xA0032⟩
/-- MTR_LATCHSTAT (R338). -/
def MTR_LATCHSTAT : Reg := ⟨0x48, 0x044, 0x0⟩
/-- MTR_LATCHSEQ (R338). -/
def MTR_LATCHSEQ : Reg := ⟨0x48, 0x048, 0x0⟩
/-- MTR_TICKLO (R338). -/
def MTR_TICKLO : Reg := ⟨0x48, 0x04C, 0x0⟩
/-- MTR_TICKHI (R338). -/
def MTR_TICKHI : Reg := ⟨0x48, 0x050, 0x0⟩
/-- MTR_FREQ (R338). -/
def MTR_FREQ : Reg := ⟨0x48, 0x054, 0x0⟩
/-- MTR_ROLE (R338). -/
def MTR_ROLE : Reg := ⟨0x48, 0x058, 0x0⟩
/-- MTR_NVMSTAT (R338). -/
def MTR_NVMSTAT : Reg := ⟨0x48, 0x05C, 0x0⟩
/-- MTR_CHCFG (R338). -/
def MTR_CHCFG : Reg := ⟨0x48, 0x400, 0x9601⟩
/-- MTR_IRATED (R338). -/
def MTR_IRATED : Reg := ⟨0x48, 0x404, 0x0⟩
/-- MTR_CHSTAT (R338). -/
def MTR_CHSTAT : Reg := ⟨0x48, 0x408, 0x0⟩
/-- MTR_P1MS (R338). -/
def MTR_P1MS : Reg := ⟨0x48, 0x40C, 0x0⟩
/-- MTR_CREEPCNT (R338). -/
def MTR_CREEPCNT : Reg := ⟨0x48, 0x410, 0x0⟩
/-- MTR_REVTIME (R338). -/
def MTR_REVTIME : Reg := ⟨0x48, 0x414, 0x64⟩
/-- MTR_VSCL (R338). -/
def MTR_VSCL (k : Nat) : Reg := ⟨0x48, 0x420 + 0x20 * k, 0x0⟩
/-- MTR_ISCL (R338). -/
def MTR_ISCL (k : Nat) : Reg := ⟨0x48, 0x424 + 0x20 * k, 0x0⟩
/-- MTR_VGAIN (R338). -/
def MTR_VGAIN (k : Nat) : Reg := ⟨0x48, 0x428 + 0x20 * k, 0x0⟩
/-- MTR_IGAIN (R338). -/
def MTR_IGAIN (k : Nat) : Reg := ⟨0x48, 0x42C + 0x20 * k, 0x0⟩
/-- MTR_VOFF (R338). -/
def MTR_VOFF (k : Nat) : Reg := ⟨0x48, 0x430 + 0x20 * k, 0x0⟩
/-- MTR_IOFF (R338). -/
def MTR_IOFF (k : Nat) : Reg := ⟨0x48, 0x434 + 0x20 * k, 0x0⟩
/-- MTR_IMPLO (R338). -/
def MTR_IMPLO : Reg := ⟨0x49, 0x400, 0x0⟩
/-- MTR_IMPHI (R338). -/
def MTR_IMPHI : Reg := ⟨0x49, 0x404, 0x0⟩
/-- MTR_EXPLO (R338). -/
def MTR_EXPLO : Reg := ⟨0x49, 0x408, 0x0⟩
/-- MTR_EXPHI (R338). -/
def MTR_EXPHI : Reg := ⟨0x49, 0x40C, 0x0⟩
/-- MTR_IMPC (R338). -/
def MTR_IMPC : Reg := ⟨0x49, 0x410, 0x0⟩
/-- MTR_EXPC (R338). -/
def MTR_EXPC : Reg := ⟨0x49, 0x414, 0x0⟩
/-- MTR_WRAP (R338). -/
def MTR_WRAP : Reg := ⟨0x49, 0x418, 0x0⟩
/-- MTR_RES (R338). -/
def MTR_RES : Reg := ⟨0x49, 0x41C, 0x0⟩
/-- MTR_PERSTAT (R338). -/
def MTR_PERSTAT : Reg := ⟨0x49, 0x420, 0x0⟩
/-- MTR_REVSTLO (R338). -/
def MTR_REVSTLO : Reg := ⟨0x49, 0x430, 0x0⟩
/-- MTR_REVSTHI (R338). -/
def MTR_REVSTHI : Reg := ⟨0x49, 0x434, 0x0⟩
/-- MTR_REVENLO (R338). -/
def MTR_REVENLO : Reg := ⟨0x49, 0x438, 0x0⟩
/-- MTR_REVENHI (R338). -/
def MTR_REVENHI : Reg := ⟨0x49, 0x43C, 0x0⟩
/-- MTR_REVMWH (R338). -/
def MTR_REVMWH : Reg := ⟨0x49, 0x440, 0x0⟩
/-- MTR_REVCNT (R338). -/
def MTR_REVCNT : Reg := ⟨0x49, 0x444, 0x0⟩
/-- MTR_PLSCFG (R338). -/
def MTR_PLSCFG : Reg := ⟨0x4A, 0x400, 0x114⟩
/-- MTR_PLSK (R338). -/
def MTR_PLSK : Reg := ⟨0x4A, 0x404, 0x3E8⟩
/-- MTR_PLSSTAT (R338). -/
def MTR_PLSSTAT : Reg := ⟨0x4A, 0x408, 0x0⟩
/-- MTR_PLSCNT (R338). -/
def MTR_PLSCNT : Reg := ⟨0x4A, 0x40C, 0x0⟩
/-- MTR_CMPCFG (R338). -/
def MTR_CMPCFG : Reg := ⟨0x4B, 0x040, 0x3064001⟩
/-- MTR_PAIRSTAT (R338). -/
def MTR_PAIRSTAT : Reg := ⟨0x4B, 0x044, 0x0⟩
/-- MTR_CMPSEQ (R338). -/
def MTR_CMPSEQ : Reg := ⟨0x4B, 0x048, 0x0⟩
/-- MTR_CMPCH (R338). -/
def MTR_CMPCH : Reg := ⟨0x4B, 0x04C, 0x0⟩

/-! ### spec/09_billing.md -/
/-- BIL_CFG (R392). -/
def BIL_CFG : Reg := ⟨0x50, 0x040, 0x2⟩
/-- BIL_DEMCFG (R392). -/
def BIL_DEMCFG : Reg := ⟨0x50, 0x044, 0x10F⟩
/-- BIL_BPCFG (R392). -/
def BIL_BPCFG : Reg := ⟨0x50, 0x048, 0x103⟩
/-- BIL_LOCOFF (R392). -/
def BIL_LOCOFF : Reg := ⟨0x50, 0x04C, 0x0⟩
/-- BIL_STAT (R392). -/
def BIL_STAT : Reg := ⟨0x50, 0x050, 0x0⟩
/-- BIL_LOCAL (R392). -/
def BIL_LOCAL : Reg := ⟨0x50, 0x054, 0x0⟩
/-- BIL_MTIME (R392). -/
def BIL_MTIME : Reg := ⟨0x50, 0x058, 0x0⟩
/-- BIL_LASTBP (R392). -/
def BIL_LASTBP : Reg := ⟨0x50, 0x05C, 0x0⟩
/-- BIL_BPNUM (R392). -/
def BIL_BPNUM : Reg := ⟨0x50, 0x060, 0x0⟩
/-- BIL_JSEQ (R392). -/
def BIL_JSEQ : Reg := ⟨0x50, 0x064, 0x0⟩
/-- BIL_DSEQ (R392). -/
def BIL_DSEQ : Reg := ⟨0x50, 0x068, 0x0⟩
/-- BIL_TARCTL (R392). -/
def BIL_TARCTL : Reg := ⟨0x50, 0x400, 0x0⟩
/-- BIL_CALDIG (R392). -/
def BIL_CALDIG : Reg := ⟨0x51, 0x040, 0x0⟩
/-- BIL_CALENT (R392). -/
def BIL_CALENT : Reg := ⟨0x51, 0x400, 0x0⟩
/-- BIL_CALMON (R392). -/
def BIL_CALMON : Reg := ⟨0x51, 0x404, 0xFFF⟩
/-- BIL_SPDAY (R392). -/
def BIL_SPDAY : Reg := ⟨0x51, 0x408, 0x0⟩
/-- BIL_TIMPLO (R392). -/
def BIL_TIMPLO (k : Nat) : Reg := ⟨0x52, 0x400 + 0x10 * k, 0x0⟩
/-- BIL_TIMPHI (R392). -/
def BIL_TIMPHI (k : Nat) : Reg := ⟨0x52, 0x404 + 0x10 * k, 0x0⟩
/-- BIL_TEXPLO (R392). -/
def BIL_TEXPLO (k : Nat) : Reg := ⟨0x52, 0x408 + 0x10 * k, 0x0⟩
/-- BIL_TEXPHI (R392). -/
def BIL_TEXPHI (k : Nat) : Reg := ⟨0x52, 0x40C + 0x10 * k, 0x0⟩
/-- BIL_BASEILO (R392). -/
def BIL_BASEILO : Reg := ⟨0x52, 0x480, 0x0⟩
/-- BIL_BASEIHI (R392). -/
def BIL_BASEIHI : Reg := ⟨0x52, 0x484, 0x0⟩
/-- BIL_BASEELO (R392). -/
def BIL_BASEELO : Reg := ⟨0x52, 0x488, 0x0⟩
/-- BIL_BASEEHI (R392). -/
def BIL_BASEEHI : Reg := ⟨0x52, 0x48C, 0x0⟩
/-- BIL_DMI (R392). -/
def BIL_DMI (k : Nat) : Reg := ⟨0x53, 0x400 + 0x10 * k, 0x0⟩
/-- BIL_DMIT (R392). -/
def BIL_DMIT (k : Nat) : Reg := ⟨0x53, 0x404 + 0x10 * k, 0x0⟩
/-- BIL_DME (R392). -/
def BIL_DME (k : Nat) : Reg := ⟨0x53, 0x408 + 0x10 * k, 0x0⟩
/-- BIL_DMET (R392). -/
def BIL_DMET (k : Nat) : Reg := ⟨0x53, 0x40C + 0x10 * k, 0x0⟩
/-- BIL_DLASTI (R392). -/
def BIL_DLASTI : Reg := ⟨0x53, 0x480, 0x0⟩
/-- BIL_DLASTE (R392). -/
def BIL_DLASTE : Reg := ⟨0x53, 0x484, 0x0⟩
/-- BIL_DFLAGS (R392). -/
def BIL_DFLAGS : Reg := ⟨0x53, 0x488, 0x0⟩
/-- BIL_SNAPCTL (R392). -/
def BIL_SNAPCTL : Reg := ⟨0x54, 0x040, 0x0⟩
/-- BIL_SNAPSTAT (R392). -/
def BIL_SNAPSTAT : Reg := ⟨0x54, 0x044, 0x0⟩
/-- BIL_SNAPEP (R392). -/
def BIL_SNAPEP (k : Nat) : Reg := ⟨0x54, 0x048 + 0x10 * k, 0x0⟩
/-- BIL_SNAPSEQ (R392). -/
def BIL_SNAPSEQ (k : Nat) : Reg := ⟨0x54, 0x04C + 0x10 * k, 0x0⟩
/-- BIL_SNAPTLO (R392). -/
def BIL_SNAPTLO (k : Nat) : Reg := ⟨0x54, 0x050 + 0x10 * k, 0x0⟩
/-- BIL_SNAPTHI (R392). -/
def BIL_SNAPTHI (k : Nat) : Reg := ⟨0x54, 0x054 + 0x10 * k, 0x0⟩
/-- BIL_SIMPLO (R392). -/
def BIL_SIMPLO (k : Nat) : Reg := ⟨0x54, 0x400 + 0x10 * k, 0x0⟩
/-- BIL_SIMPHI (R392). -/
def BIL_SIMPHI (k : Nat) : Reg := ⟨0x54, 0x404 + 0x10 * k, 0x0⟩
/-- BIL_SEXPLO (R392). -/
def BIL_SEXPLO (k : Nat) : Reg := ⟨0x54, 0x408 + 0x10 * k, 0x0⟩
/-- BIL_SEXPHI (R392). -/
def BIL_SEXPHI (k : Nat) : Reg := ⟨0x54, 0x40C + 0x10 * k, 0x0⟩
/-- BIL_SLOTUSE (R392). -/
def BIL_SLOTUSE : Reg := ⟨0x55, 0x040, 0x0⟩
/-- BIL_SLOTSIG (R392). -/
def BIL_SLOTSIG : Reg := ⟨0x55, 0x044, 0x0⟩
/-- BIL_SESSCNT (R392). -/
def BIL_SESSCNT : Reg := ⟨0x55, 0x048, 0x0⟩
/-- BIL_SESSTAT (R392). -/
def BIL_SESSTAT : Reg := ⟨0x55, 0x400, 0x0⟩
/-- BIL_SESSNUM (R392). -/
def BIL_SESSNUM : Reg := ⟨0x55, 0x404, 0x0⟩
/-- BIL_SEALSTAT (R392). -/
def BIL_SEALSTAT : Reg := ⟨0x56, 0x040, 0x0⟩
/-- BIL_SEALBRK (R392). -/
def BIL_SEALBRK : Reg := ⟨0x56, 0x044, 0x0⟩
/-- BIL_IMGDIG (R392). -/
def BIL_IMGDIG : Reg := ⟨0x56, 0x048, 0x0⟩

/-! ### spec/10_safety.md -/
/-- SAF_STAT (R449). -/
def SAF_STAT : Reg := ⟨0x58, 0x040, 0x0⟩
/-- SAF_TRIPSUM (R449). -/
def SAF_TRIPSUM : Reg := ⟨0x58, 0x044, 0x0⟩
/-- SAF_TRIPL (R449). -/
def SAF_TRIPL : Reg := ⟨0x58, 0x048, 0x0⟩
/-- SAF_RST (R449). -/
def SAF_RST : Reg := ⟨0x58, 0x04C, 0x0⟩
/-- SAF_CFGCRC (R449). -/
def SAF_CFGCRC : Reg := ⟨0x58, 0x050, 0x0⟩
/-- SAF_FWID (R449). -/
def SAF_FWID : Reg := ⟨0x58, 0x054, 0x0⟩
/-- SAF_ECCCNT (R449). -/
def SAF_ECCCNT : Reg := ⟨0x58, 0x058, 0x0⟩
/-- SAF_OCFG (R449). -/
def SAF_OCFG : Reg := ⟨0x58, 0x400, 0x41F1F⟩
/-- SAF_FTI (R449). -/
def SAF_FTI : Reg := ⟨0x58, 0x404, 0x7FFF8000⟩
/-- SAF_FTV (R449). -/
def SAF_FTV : Reg := ⟨0x58, 0x408, 0x7FFF⟩
/-- SAF_ESTOP (R449). -/
def SAF_ESTOP : Reg := ⟨0x58, 0x40C, 0x0⟩
/-- SAF_TPMASK (R449). -/
def SAF_TPMASK : Reg := ⟨0x58, 0x410, 0x0⟩
/-- SAF_TPLIM (R449). -/
def SAF_TPLIM : Reg := ⟨0x58, 0x414, 0x320EC6⟩
/-- SAF_IFULL (R449). -/
def SAF_IFULL : Reg := ⟨0x58, 0x418, 0x0⟩
/-- SAF_IDER (R449). -/
def SAF_IDER : Reg := ⟨0x58, 0x41C, 0x0⟩
/-- SAF_ICLAIM (R449). -/
def SAF_ICLAIM : Reg := ⟨0x58, 0x420, 0x0⟩
/-- SAF_SOTH (R449). -/
def SAF_SOTH : Reg := ⟨0x58, 0x424, 0x3E80032⟩
/-- SAF_OSTAT (R449). -/
def SAF_OSTAT : Reg := ⟨0x58, 0x428, 0x101⟩
/-- SAF_OCAUSES (R449). -/
def SAF_OCAUSES : Reg := ⟨0x58, 0x42C, 0x2⟩
/-- SAF_OTSLO (R449). -/
def SAF_OTSLO : Reg := ⟨0x58, 0x430, 0x0⟩
/-- SAF_OTSHI (R449). -/
def SAF_OTSHI : Reg := ⟨0x58, 0x434, 0x0⟩
/-- SAF_SITECFG (R449). -/
def SAF_SITECFG : Reg := ⟨0x59, 0x040, 0x4000000⟩
/-- SAF_GFTI (R449). -/
def SAF_GFTI : Reg := ⟨0x59, 0x044, 0x7FFF8000⟩
/-- SAF_SITESTAT (R449). -/
def SAF_SITESTAT : Reg := ⟨0x59, 0x048, 0x0⟩
/-- SAF_XSTAT (R449). -/
def SAF_XSTAT : Reg := ⟨0x59, 0x04C, 0x0⟩
/-- SIN_TPCFG (R450). -/
def SIN_TPCFG : Reg := ⟨0x5A, 0x040, 0x1901F4⟩
/-- SIN_TPSTAT (R450). -/
def SIN_TPSTAT : Reg := ⟨0x5A, 0x044, 0x0⟩
/-- SIN_FILT (R450). -/
def SIN_FILT : Reg := ⟨0x5A, 0x048, 0x0⟩
/-- SIN_DEMSUM (R450). -/
def SIN_DEMSUM : Reg := ⟨0x5A, 0x04C, 0xFFFF⟩
/-- SIN_FLTSUM (R450). -/
def SIN_FLTSUM : Reg := ⟨0x5A, 0x050, 0x0⟩
/-- SIN_PCFG (R450). -/
def SIN_PCFG : Reg := ⟨0x5A, 0x400, 0x2034064⟩
/-- SIN_PSTAT (R450). -/
def SIN_PSTAT : Reg := ⟨0x5A, 0x404, 0x0⟩
/-- SIN_PRST (R450). -/
def SIN_PRST : Reg := ⟨0x5A, 0x408, 0x0⟩
/-- SIN_PCNT (R450). -/
def SIN_PCNT : Reg := ⟨0x5A, 0x40C, 0x0⟩
/-- SOUT_KASTAT (R451). -/
def SOUT_KASTAT : Reg := ⟨0x5C, 0x040, 0x0⟩
/-- SOUT_ONSUM (R451). -/
def SOUT_ONSUM : Reg := ⟨0x5C, 0x044, 0x0⟩
/-- SOUT_FLTSUM (R451). -/
def SOUT_FLTSUM : Reg := ⟨0x5C, 0x048, 0x0⟩
/-- SOUT_DTCFG (R451). -/
def SOUT_DTCFG : Reg := ⟨0x5C, 0x04C, 0xC8000A⟩
/-- SOUT_PCFG (R451). -/
def SOUT_PCFG : Reg := ⟨0x5C, 0x400, 0x0⟩
/-- SOUT_PCTL (R451). -/
def SOUT_PCTL : Reg := ⟨0x5C, 0x404, 0x0⟩
/-- SOUT_PSTAT (R451). -/
def SOUT_PSTAT : Reg := ⟨0x5C, 0x408, 0x0⟩
/-- STG_CFG (R452). -/
def STG_CFG : Reg := ⟨0x5E, 0x040, 0x0⟩
/-- STG_GMACLO (R452). -/
def STG_GMACLO : Reg := ⟨0x5E, 0x044, 0x0⟩
/-- STG_GMACHI (R452). -/
def STG_GMACHI : Reg := ⟨0x5E, 0x048, 0x0⟩
/-- STG_LOSTSUM (R452). -/
def STG_LOSTSUM : Reg := ⟨0x5E, 0x04C, 0x0⟩
/-- STG_CCFG (R452). -/
def STG_CCFG : Reg := ⟨0x5E, 0x400, 0x50000⟩
/-- STG_VBASE (R452). -/
def STG_VBASE : Reg := ⟨0x5E, 0x404, 0x0⟩
/-- STG_TCFG (R452). -/
def STG_TCFG : Reg := ⟨0x5E, 0x408, 0xA4014⟩
/-- STG_LOSSMASK (R452). -/
def STG_LOSSMASK : Reg := ⟨0x5E, 0x40C, 0x0⟩
/-- STG_CSTAT (R452). -/
def STG_CSTAT : Reg := ⟨0x5E, 0x410, 0x0⟩
/-- STG_TXGEN (R452). -/
def STG_TXGEN : Reg := ⟨0x5E, 0x414, 0x0⟩
/-- STG_TXSEQ (R452). -/
def STG_TXSEQ : Reg := ⟨0x5E, 0x418, 0x0⟩
/-- STG_RXGEN (R452). -/
def STG_RXGEN : Reg := ⟨0x5E, 0x41C, 0x0⟩
/-- STG_RXSEQ (R452). -/
def STG_RXSEQ : Reg := ⟨0x5E, 0x420, 0x0⟩
/-- STG_ERRCNT (R452). -/
def STG_ERRCNT : Reg := ⟨0x5E, 0x424, 0x0⟩
/-- STG_LASTSTAT0 (R452). -/
def STG_LASTSTAT0 : Reg := ⟨0x5E, 0x428, 0x0⟩
/-- STG_LASTSTAT1 (R452). -/
def STG_LASTSTAT1 : Reg := ⟨0x5E, 0x42C, 0x0⟩

/-! ### spec/11_thermal.md -/
/-- THM_BROKSUM (R487). -/
def THM_BROKSUM : Reg := ⟨0x60, 0x040, 0x0⟩
/-- THM_IMPLSUM (R487). -/
def THM_IMPLSUM : Reg := ⟨0x60, 0x044, 0x0⟩
/-- THM_HOTSUM (R487). -/
def THM_HOTSUM : Reg := ⟨0x60, 0x048, 0x0⟩
/-- THM_FRAME (R487). -/
def THM_FRAME : Reg := ⟨0x60, 0x04C, 0x0⟩
/-- THM_RECSTAT (R487). -/
def THM_RECSTAT : Reg := ⟨0x60, 0x050, 0x0⟩
/-- THM_RSEQ (R487). -/
def THM_RSEQ : Reg := ⟨0x60, 0x054, 0x0⟩
/-- THM_DIE (R487). -/
def THM_DIE (k : Nat) : Reg := ⟨0x60, 0x080 + 0x4 * k, 0x0⟩
/-- THM_ICFG (R487). -/
def THM_ICFG : Reg := ⟨0x60, 0x400, 0x1F0D6B⟩
/-- THM_INTC (R487). -/
def THM_INTC : Reg := ⟨0x60, 0x404, 0x2710⟩
/-- THM_ILIM0 (R487). -/
def THM_ILIM0 : Reg := ⟨0x60, 0x408, 0x87FF8223⟩
/-- THM_ILIM1 (R487). -/
def THM_ILIM1 : Reg := ⟨0x60, 0x40C, 0x8BE7860B⟩
/-- THM_ILIM2 (R487). -/
def THM_ILIM2 : Reg := ⟨0x60, 0x410, 0x14147E3B⟩
/-- THM_IRATE (R487). -/
def THM_IRATE : Reg := ⟨0x60, 0x414, 0x0⟩
/-- THM_IVAL (R487). -/
def THM_IVAL : Reg := ⟨0x60, 0x418, 0x0⟩
/-- THM_ISTAT (R487). -/
def THM_ISTAT : Reg := ⟨0x60, 0x41C, 0x0⟩
/-- THM_IRAW (R487). -/
def THM_IRAW : Reg := ⟨0x60, 0x420, 0x0⟩
/-- THM_IRTE (R487). -/
def THM_IRTE : Reg := ⟨0x60, 0x424, 0x0⟩
/-- THM_REL (R487). -/
def THM_REL (k : Nat) : Reg := ⟨0x61, 0x400 + 0x8 * k, 0x0⟩
/-- THM_RBND (R487). -/
def THM_RBND (k : Nat) : Reg := ⟨0x61, 0x404 + 0x8 * k, 0x0⟩
/-- THM_NCFG (R487). -/
def THM_NCFG : Reg := ⟨0x61, 0x420, 0x314⟩
/-- THM_NSTAT (R487). -/
def THM_NSTAT : Reg := ⟨0x61, 0x424, 0x0⟩
/-- THM_OMASK (R487). -/
def THM_OMASK : Reg := ⟨0x62, 0x400, 0x0⟩
/-- THM_OCMAX (R487). -/
def THM_OCMAX : Reg := ⟨0x62, 0x404, 0x0⟩
/-- THM_OSTEP (R487). -/
def THM_OSTEP : Reg := ⟨0x62, 0x408, 0x0⟩
/-- THM_ODWELL (R487). -/
def THM_ODWELL : Reg := ⟨0x62, 0x40C, 0x271007D0⟩
/-- THM_OCLAIM (R487). -/
def THM_OCLAIM : Reg := ⟨0x62, 0x410, 0x0⟩
/-- THM_OSTAT (R487). -/
def THM_OSTAT : Reg := ⟨0x62, 0x414, 0x1F000000⟩
/-- THM_OCTL (R487). -/
def THM_OCTL : Reg := ⟨0x62, 0x418, 0x0⟩
/-- THM_CCFG (R487). -/
def THM_CCFG : Reg := ⟨0x63, 0x400, 0x64⟩
/-- THM_CSRC (R487). -/
def THM_CSRC : Reg := ⟨0x63, 0x404, 0x0⟩
/-- THM_CSRCD (R487). -/
def THM_CSRCD : Reg := ⟨0x63, 0x408, 0x0⟩
/-- THM_CCURV (R487). -/
def THM_CCURV : Reg := ⟨0x63, 0x40C, 0x7E3B766B⟩
/-- THM_CDUTY (R487). -/
def THM_CDUTY : Reg := ⟨0x63, 0x410, 0x1E6414⟩
/-- THM_CSTAT (R487). -/
def THM_CSTAT : Reg := ⟨0x63, 0x414, 0x0⟩
/-- THM_CCTL (R487). -/
def THM_CCTL : Reg := ⟨0x63, 0x418, 0x0⟩

/-! ### spec/12_load_switches.md -/
/-- LSW_VAUX (R521). -/
def LSW_VAUX : Reg := ⟨0x64, 0x040, 0x0⟩
/-- LSW_ONSUM (R521). -/
def LSW_ONSUM : Reg := ⟨0x64, 0x044, 0x0⟩
/-- LSW_FLTSUM (R521). -/
def LSW_FLTSUM : Reg := ⟨0x64, 0x048, 0x0⟩
/-- LSW_TLSUM (R521). -/
def LSW_TLSUM : Reg := ⟨0x64, 0x04C, 0x0⟩
/-- LSW_UVCNT (R521). -/
def LSW_UVCNT : Reg := ⟨0x64, 0x050, 0x0⟩
/-- LSW_CCFG (R521). -/
def LSW_CCFG : Reg := ⟨0x64, 0x400, 0x70432⟩
/-- LSW_CSHUNT (R521). -/
def LSW_CSHUNT : Reg := ⟨0x64, 0x404, 0x1388⟩
/-- LSW_COC (R521). -/
def LSW_COC : Reg := ⟨0x64, 0x408, 0xA0A03E8⟩
/-- LSW_CI2T (R521). -/
def LSW_CI2T : Reg := ⟨0x64, 0x40C, 0x1900320⟩
/-- LSW_CFET (R521). -/
def LSW_CFET : Reg := ⟨0x64, 0x410, 0x506401F4⟩
/-- LSW_CTLIM (R521). -/
def LSW_CTLIM : Reg := ⟨0x64, 0x414, 0xA54B⟩
/-- LSW_COL (R521). -/
def LSW_COL : Reg := ⟨0x64, 0x418, 0x640A1E⟩
/-- LSW_CRETRY (R521). -/
def LSW_CRETRY : Reg := ⟨0x64, 0x41C, 0x514⟩
/-- LSW_CCTL (R521). -/
def LSW_CCTL : Reg := ⟨0x64, 0x420, 0x646400⟩
/-- LSW_CSTAT (R521). -/
def LSW_CSTAT : Reg := ⟨0x65, 0x400, 0x0⟩
/-- LSW_CIMEAS (R521). -/
def LSW_CIMEAS : Reg := ⟨0x65, 0x404, 0x0⟩
/-- LSW_CI2TACC (R521). -/
def LSW_CI2TACC : Reg := ⟨0x65, 0x408, 0x0⟩
/-- LSW_CTFET (R521). -/
def LSW_CTFET : Reg := ⟨0x65, 0x40C, 0x0⟩
/-- LSW_CFCNT (R521). -/
def LSW_CFCNT : Reg := ⟨0x65, 0x410, 0x0⟩

/-! ### spec/13_vehicle_and_field_links.md -/
/-- VLK_ACTSUM (R556). -/
def VLK_ACTSUM : Reg := ⟨0x68, 0x040, 0x0⟩
/-- VLK_LCFG (R556). -/
def VLK_LCFG : Reg := ⟨0x68, 0x400, 0x0⟩
/-- VLK_MACLO (R556). -/
def VLK_MACLO : Reg := ⟨0x68, 0x404, 0x0⟩
/-- VLK_MACHI (R556). -/
def VLK_MACHI : Reg := ⟨0x68, 0x408, 0x0⟩
/-- VLK_LSTAT (R556). -/
def VLK_LSTAT : Reg := ⟨0x68, 0x40C, 0x0⟩
/-- VLK_TXRING (R556). -/
def VLK_TXRING : Reg := ⟨0x68, 0x410, 0x0⟩
/-- VLK_RXRING (R556). -/
def VLK_RXRING : Reg := ⟨0x68, 0x414, 0x0⟩
/-- VLK_RINGLEN (R556). -/
def VLK_RINGLEN : Reg := ⟨0x68, 0x418, 0x0⟩
/-- VLK_KICK (R556). -/
def VLK_KICK : Reg := ⟨0x68, 0x41C, 0x0⟩
/-- VLK_ERRCNT (R556). -/
def VLK_ERRCNT : Reg := ⟨0x68, 0x420, 0x0⟩
/-- VLK_ATTCTL (R556). -/
def VLK_ATTCTL : Reg := ⟨0x68, 0x424, 0x0⟩
/-- VLK_ATT (R556). -/
def VLK_ATT (k : Nat) : Reg := ⟨0x69, 0x400 + 0x4 * k, 0xFFFFFFFF⟩
/-- PIL_BANDA (R557). -/
def PIL_BANDA (k : Nat) : Reg := ⟨0x6D, 0x040 + 0x20 * k, 0x32C82AF8⟩
/-- PIL_BANDB (R557). -/
def PIL_BANDB (k : Nat) : Reg := ⟨0x6D, 0x044 + 0x20 * k, 0x27101F40⟩
/-- PIL_BANDC (R557). -/
def PIL_BANDC (k : Nat) : Reg := ⟨0x6D, 0x048 + 0x20 * k, 0x1B581388⟩
/-- PIL_BANDD (R557). -/
def PIL_BANDD (k : Nat) : Reg := ⟨0x6D, 0x04C + 0x20 * k, 0xFA007D0⟩
/-- PIL_BANDE (R557). -/
def PIL_BANDE (k : Nat) : Reg := ⟨0x6D, 0x050 + 0x20 * k, 0x3E8FC18⟩
/-- PIL_BANDF (R557). -/
def PIL_BANDF (k : Nat) : Reg := ⟨0x6D, 0x054 + 0x20 * k, 0xD508CD38⟩
/-- PIL_BANDLOW (R557). -/
def PIL_BANDLOW (k : Nat) : Reg := ⟨0x6D, 0x058 + 0x20 * k, 0xD508CD38⟩
/-- PIL_PCFG (R557). -/
def PIL_PCFG : Reg := ⟨0x6C, 0x400, 0x30001⟩
/-- PIL_PCTL (R557). -/
def PIL_PCTL : Reg := ⟨0x6C, 0x404, 0x3E8⟩
/-- PIL_PSTAT (R557). -/
def PIL_PSTAT : Reg := ⟨0x6C, 0x408, 0x77⟩
/-- PIL_PLVL (R557). -/
def PIL_PLVL : Reg := ⟨0x6C, 0x40C, 0x0⟩
/-- PIL_PMEAS (R557). -/
def PIL_PMEAS : Reg := ⟨0x6C, 0x410, 0x0⟩
/-- PIL_PTSLO (R557). -/
def PIL_PTSLO : Reg := ⟨0x6C, 0x414, 0x0⟩
/-- PIL_PTSHI (R557). -/
def PIL_PTSHI : Reg := ⟨0x6C, 0x418, 0x0⟩
/-- PIL_PCNT (R557). -/
def PIL_PCNT : Reg := ⟨0x6C, 0x41C, 0x0⟩
/-- PBS_BOSUM (R558). -/
def PBS_BOSUM : Reg := ⟨0x6E, 0x040, 0x0⟩
/-- PBS_COLLSUM (R558). -/
def PBS_COLLSUM : Reg := ⟨0x6E, 0x044, 0x0⟩
/-- PBS_CCFG (R558). -/
def PBS_CCFG : Reg := ⟨0x6E, 0x400, 0x0⟩
/-- PBS_NBT (R558). -/
def PBS_NBT : Reg := ⟨0x6E, 0x404, 0x3E007E1F⟩
/-- PBS_DBT (R558). -/
def PBS_DBT : Reg := ⟨0x6E, 0x408, 0xA0701E07⟩
/-- PBS_CSTAT (R558). -/
def PBS_CSTAT : Reg := ⟨0x6E, 0x40C, 0x0⟩
/-- PBS_CCTL (R558). -/
def PBS_CCTL : Reg := ⟨0x6E, 0x410, 0x0⟩
/-- PBS_COLLID (R558). -/
def PBS_COLLID : Reg := ⟨0x6E, 0x414, 0x0⟩
/-- PBS_TXSTAT (R558). -/
def PBS_TXSTAT : Reg := ⟨0x6E, 0x418, 0x0⟩
/-- PBS_ERRCNT (R558). -/
def PBS_ERRCNT : Reg := ⟨0x6E, 0x41C, 0x0⟩
/-- PBS_TXCNT (R558). -/
def PBS_TXCNT : Reg := ⟨0x6E, 0x420, 0x0⟩
/-- PBS_ROFILT (R558). -/
def PBS_ROFILT (k : Nat) : Reg := ⟨0x6F, 0x400 + 0x8 * k, 0x0⟩
/-- PBS_ROMASK (R558). -/
def PBS_ROMASK (k : Nat) : Reg := ⟨0x6F, 0x404 + 0x8 * k, 0x0⟩
/-- PBS_ROSTAT (R558). -/
def PBS_ROSTAT (k : Nat) : Reg := ⟨0x70, 0x400 + 0x80 * k, 0x0⟩
/-- PBS_ROID (R558). -/
def PBS_ROID (k : Nat) : Reg := ⟨0x70, 0x404 + 0x80 * k, 0x0⟩
/-- PBS_RODLC (R558). -/
def PBS_RODLC (k : Nat) : Reg := ⟨0x70, 0x408 + 0x80 * k, 0x0⟩
/-- PBS_ROTSLO (R558). -/
def PBS_ROTSLO (k : Nat) : Reg := ⟨0x70, 0x40C + 0x80 * k, 0x0⟩
/-- PBS_ROTSHI (R558). -/
def PBS_ROTSHI (k : Nat) : Reg := ⟨0x70, 0x410 + 0x80 * k, 0x0⟩
/-- PBS_RODATA (R558). -/
def PBS_RODATA (k : Nat) (j : Nat) : Reg := ⟨0x70, 0x420 + 0x80 * k + 4 * j, 0x0⟩
/-- PBS_TXID (R558). -/
def PBS_TXID : Reg := ⟨0x71, 0x400, 0x0⟩
/-- PBS_TXCTL (R558). -/
def PBS_TXCTL : Reg := ⟨0x71, 0x404, 0x0⟩
/-- PBS_TXDATA (R558). -/
def PBS_TXDATA (k : Nat) : Reg := ⟨0x71, 0x420 + 0x4 * k, 0x0⟩
/-- PBS_TXPUSH (R558). -/
def PBS_TXPUSH : Reg := ⟨0x71, 0x460, 0x0⟩
/-- SER_CFG (R559). -/
def SER_CFG : Reg := ⟨0x74, 0x400, 0x0⟩
/-- SER_BAUD (R559). -/
def SER_BAUD : Reg := ⟨0x74, 0x404, 0x2580⟩
/-- SER_DE (R559). -/
def SER_DE : Reg := ⟨0x74, 0x408, 0x101⟩
/-- SER_TMO (R559). -/
def SER_TMO : Reg := ⟨0x74, 0x40C, 0x7⟩
/-- SER_TX (R559). -/
def SER_TX : Reg := ⟨0x74, 0x410, 0x0⟩
/-- SER_RX (R559). -/
def SER_RX : Reg := ⟨0x74, 0x414, 0x0⟩
/-- SER_STAT (R559). -/
def SER_STAT : Reg := ⟨0x74, 0x418, 0x0⟩

/-! ### spec/14_site_powerline.md -/
/-- PLM_ZCCFG (R583). -/
def PLM_ZCCFG : Reg := ⟨0x72, 0x040, 0x7⟩
/-- PLM_ZCDLY (R583). -/
def PLM_ZCDLY (k : Nat) : Reg := ⟨0x72, 0x044 + 0x4 * k, 0x0⟩
/-- PLM_ZCTSLO (R583). -/
def PLM_ZCTSLO (k : Nat) : Reg := ⟨0x72, 0x050 + 0x8 * k, 0x0⟩
/-- PLM_ZCTSHI (R583). -/
def PLM_ZCTSHI (k : Nat) : Reg := ⟨0x72, 0x054 + 0x8 * k, 0x0⟩
/-- PLM_ZCPER (R583). -/
def PLM_ZCPER : Reg := ⟨0x72, 0x068, 0x0⟩
/-- PLM_MCFG (R583). -/
def PLM_MCFG : Reg := ⟨0x72, 0x400, 0x0⟩
/-- PLM_MTIM (R583). -/
def PLM_MTIM : Reg := ⟨0x72, 0x404, 0x1F40BB8⟩
/-- PLM_MSTEP (R583). -/
def PLM_MSTEP : Reg := ⟨0x72, 0x408, 0x10020300⟩
/-- PLM_MSTAT (R583). -/
def PLM_MSTAT : Reg := ⟨0x72, 0x40C, 0x0⟩
/-- PLM_MCNT (R583). -/
def PLM_MCNT : Reg := ⟨0x72, 0x410, 0x0⟩
/-- PLM_SCFG (R583). -/
def PLM_SCFG : Reg := ⟨0x73, 0x400, 0x1⟩
/-- PLM_SPHCFG (R583). -/
def PLM_SPHCFG : Reg := ⟨0x73, 0x404, 0x4000F⟩
/-- PLM_SSTAT (R583). -/
def PLM_SSTAT : Reg := ⟨0x73, 0x408, 0x0⟩
/-- PLM_SCTL (R583). -/
def PLM_SCTL : Reg := ⟨0x73, 0x40C, 0x0⟩
/-- PLM_SSEQ (R583). -/
def PLM_SSEQ : Reg := ⟨0x73, 0x410, 0x0⟩
/-- PLM_SCNT (R583). -/
def PLM_SCNT : Reg := ⟨0x73, 0x414, 0x0⟩
/-- PLM_SPHASE (R583). -/
def PLM_SPHASE : Reg := ⟨0x73, 0x418, 0x0⟩
/-- PLM_SULLEN (R583). -/
def PLM_SULLEN : Reg := ⟨0x73, 0x41C, 0x0⟩
/-- PLM_SDL (R583). -/
def PLM_SDL (k : Nat) : Reg := ⟨0x73, 0x420 + 0x4 * k, 0x0⟩
/-- PLM_SUL (R583). -/
def PLM_SUL (k : Nat) : Reg := ⟨0x73, 0x460 + 0x4 * k, 0x0⟩
/-- PLM_SLASTLO (R583). -/
def PLM_SLASTLO : Reg := ⟨0x73, 0x4A0, 0x0⟩
/-- PLM_SLASTHI (R583). -/
def PLM_SLASTHI : Reg := ⟨0x73, 0x4A4, 0x0⟩

/-! ### spec/15_compute_island.md -/
/-- TMB_TLO (R624). -/
def TMB_TLO : Reg := ⟨0x09, 0x040, 0x0⟩
/-- TMB_THI (R624). -/
def TMB_THI : Reg := ⟨0x09, 0x044, 0x0⟩
/-- TMB_RATE (R624). -/
def TMB_RATE : Reg := ⟨0x09, 0x048, 0x0⟩
/-- TMB_OFFSLO (R624). -/
def TMB_OFFSLO : Reg := ⟨0x09, 0x04C, 0x0⟩
/-- TMB_OFFSHI (R624). -/
def TMB_OFFSHI : Reg := ⟨0x09, 0x050, 0x0⟩
/-- TMB_UTC (R624). -/
def TMB_UTC : Reg := ⟨0x09, 0x054, 0x25⟩
/-- TMB_STAT (R624). -/
def TMB_STAT : Reg := ⟨0x09, 0x058, 0x0⟩
/-- TMB_HOLD (R624). -/
def TMB_HOLD : Reg := ⟨0x09, 0x05C, 0x3E8⟩
/-- TMB_ALMLO (R624). -/
def TMB_ALMLO (k : Nat) : Reg := ⟨0x09, 0x060 + 0x8 * k, 0x0⟩
/-- TMB_ALMHI (R624). -/
def TMB_ALMHI (k : Nat) : Reg := ⟨0x09, 0x064 + 0x8 * k, 0x0⟩
/-- TMB_PFOFF (R624). -/
def TMB_PFOFF : Reg := ⟨0x09, 0x080, 0x0⟩
/-- PIC_PRIO (R624). -/
def PIC_PRIO (k : Nat) : Reg := ⟨0x18, 0x040 + 0x4 * k, 0x0⟩
/-- PIC_PEND (R624). -/
def PIC_PEND (k : Nat) : Reg := ⟨0x18, 0x0C0 + 0x4 * k, 0x0⟩
/-- PIC_THR (R624). -/
def PIC_THR (k : Nat) : Reg := ⟨0x19, 0x040 + 0x8 * k, 0x0⟩
/-- PIC_CLAIM (R624). -/
def PIC_CLAIM (k : Nat) : Reg := ⟨0x19, 0x044 + 0x8 * k, 0x0⟩
/-- PIC_ECCCNT (R624). -/
def PIC_ECCCNT : Reg := ⟨0x19, 0x080, 0x0⟩
/-- PIC_ECCADDR (R624). -/
def PIC_ECCADDR : Reg := ⟨0x19, 0x084, 0x0⟩
/-- PIC_SCRUB (R624). -/
def PIC_SCRUB : Reg := ⟨0x19, 0x088, 0x3C⟩
/-- PIC_MEMERR (R624). -/
def PIC_MEMERR : Reg := ⟨0x19, 0x08C, 0x0⟩
/-- PIC_MTCMPLO (R624). -/
def PIC_MTCMPLO (k : Nat) : Reg := ⟨0x19, 0x0A0 + 0x8 * k, 0xFFFFFFFF⟩
/-- PIC_MTCMPHI (R624). -/
def PIC_MTCMPHI (k : Nat) : Reg := ⟨0x19, 0x0A4 + 0x8 * k, 0xFFFFFFFF⟩
/-- PIC_MSIP (R624). -/
def PIC_MSIP (k : Nat) : Reg := ⟨0x19, 0x0C0 + 0x4 * k, 0x0⟩
/-- PIC_EN (R624). -/
def PIC_EN (k : Nat) : Reg := ⟨0x19, 0x400 + 0x4 * k, 0x0⟩
/-- CRY_RBASE (R624). -/
def CRY_RBASE : Reg := ⟨0x1A, 0x040, 0x0⟩
/-- CRY_RLEN (R624). -/
def CRY_RLEN : Reg := ⟨0x1A, 0x044, 0x0⟩
/-- CRY_HEAD (R624). -/
def CRY_HEAD : Reg := ⟨0x1A, 0x048, 0x0⟩
/-- CRY_TAIL (R624). -/
def CRY_TAIL : Reg := ⟨0x1A, 0x04C, 0x0⟩
/-- CRY_STAT (R624). -/
def CRY_STAT : Reg := ⟨0x1A, 0x050, 0x0⟩
/-- EXI_RBASE (R624). -/
def EXI_RBASE : Reg := ⟨0x1B, 0x040, 0x0⟩
/-- EXI_RLEN (R624). -/
def EXI_RLEN : Reg := ⟨0x1B, 0x044, 0x0⟩
/-- EXI_HEAD (R624). -/
def EXI_HEAD : Reg := ⟨0x1B, 0x048, 0x0⟩
/-- EXI_TAIL (R624). -/
def EXI_TAIL : Reg := ⟨0x1B, 0x04C, 0x0⟩
/-- EXI_STAT (R624). -/
def EXI_STAT : Reg := ⟨0x1B, 0x050, 0x0⟩
/-- XSP_CFG (R624). -/
def XSP_CFG (p : Nat) : Reg := ⟨0x1C + p, 0x040, 0x807⟩
/-- XSP_CMD (R624). -/
def XSP_CMD (p : Nat) : Reg := ⟨0x1C + p, 0x044, 0x0⟩
/-- XSP_ADDR (R624). -/
def XSP_ADDR (p : Nat) : Reg := ⟨0x1C + p, 0x048, 0x0⟩
/-- XSP_DATA0 (R624). -/
def XSP_DATA0 (p : Nat) : Reg := ⟨0x1C + p, 0x04C, 0x0⟩
/-- XSP_DATA1 (R624). -/
def XSP_DATA1 (p : Nat) : Reg := ⟨0x1C + p, 0x050, 0x0⟩
/-- XSP_STAT (R624). -/
def XSP_STAT (p : Nat) : Reg := ⟨0x1C + p, 0x054, 0x0⟩
/-- XSP_POLL (R624). -/
def XSP_POLL (p : Nat) : Reg := ⟨0x1C + p, 0x058, 0x10005⟩
/-- XSP_RDTMO (R624). -/
def XSP_RDTMO (p : Nat) : Reg := ⟨0x1C + p, 0x05C, 0x186A0⟩
/-- MBX_REQ (R624). -/
def MBX_REQ (p : Nat) : Reg := ⟨0x1E + p, 0x040, 0x0⟩
/-- MBX_STAT (R624). -/
def MBX_STAT (p : Nat) : Reg := ⟨0x1E + p, 0x044, 0x0⟩
/-- MBX_RSP (R624). -/
def MBX_RSP (p : Nat) : Reg := ⟨0x1E + p, 0x048, 0x0⟩
/-- MBX_ACK (R624). -/
def MBX_ACK (p : Nat) : Reg := ⟨0x1E + p, 0x04C, 0x0⟩
/-- MBX_TMO (R624). -/
def MBX_TMO (p : Nat) : Reg := ⟨0x1E + p, 0x050, 0x64⟩
/-- MBX_PENDSUM (R624). -/
def MBX_PENDSUM (p : Nat) : Reg := ⟨0x1E + p, 0x054, 0x0⟩
/-- MBX_BUF (R618). -/
def MBX_BUF (p : Nat) (k : Nat) : Reg := ⟨0x1E + p, 0x400 + 0x4 * k, 0x0⟩
/-- ETH_MCFG (R624). -/
def ETH_MCFG : Reg := ⟨0x78, 0x400, 0x0⟩
/-- ETH_MACLO (R624). -/
def ETH_MACLO : Reg := ⟨0x78, 0x404, 0x0⟩
/-- ETH_MACHI (R624). -/
def ETH_MACHI : Reg := ⟨0x78, 0x408, 0x0⟩
/-- ETH_MSTAT (R624). -/
def ETH_MSTAT : Reg := ⟨0x78, 0x40C, 0x0⟩
/-- ETH_PCPMAP (R624). -/
def ETH_PCPMAP : Reg := ⟨0x78, 0x410, 0xFA50⟩
/-- ETH_MCHASHLO (R624). -/
def ETH_MCHASHLO : Reg := ⟨0x78, 0x414, 0x0⟩
/-- ETH_MCHASHHI (R624). -/
def ETH_MCHASHHI : Reg := ⟨0x78, 0x418, 0x0⟩
/-- ETH_WAKE (R624). -/
def ETH_WAKE : Reg := ⟨0x78, 0x41C, 0x1⟩
/-- ETH_ERRCNT (R624). -/
def ETH_ERRCNT : Reg := ⟨0x78, 0x420, 0x0⟩
/-- ETH_QTXBASE (R624). -/
def ETH_QTXBASE : Reg := ⟨0x79, 0x400, 0x0⟩
/-- ETH_QRXBASE (R624). -/
def ETH_QRXBASE : Reg := ⟨0x79, 0x404, 0x0⟩
/-- ETH_QLEN (R624). -/
def ETH_QLEN : Reg := ⟨0x79, 0x408, 0x0⟩
/-- ETH_QKICK (R624). -/
def ETH_QKICK : Reg := ⟨0x79, 0x40C, 0x0⟩

/-! ### spec/16_keys_and_attestation.md -/
/-- LCM_STATE (R664). -/
def LCM_STATE : Reg := ⟨0x10, 0x040, 0x0⟩
/-- LCM_REQ (R664). -/
def LCM_REQ : Reg := ⟨0x10, 0x044, 0x0⟩
/-- LCM_NONCE (R664). -/
def LCM_NONCE : Reg := ⟨0x10, 0x048, 0x0⟩
/-- LCM_CONFIRM (R664). -/
def LCM_CONFIRM : Reg := ⟨0x10, 0x04C, 0x0⟩
/-- LCM_RSTAT (R664). -/
def LCM_RSTAT : Reg := ⟨0x10, 0x050, 0x0⟩
/-- LCM_DEVID (R664). -/
def LCM_DEVID (k : Nat) : Reg := ⟨0x10, 0x054 + 0x4 * k, 0x0⟩
/-- LCM_AUTHADDR (R664). -/
def LCM_AUTHADDR : Reg := ⟨0x10, 0x064, 0x0⟩
/-- LCM_DBGCTL (R664). -/
def LCM_DBGCTL : Reg := ⟨0x10, 0x068, 0x0⟩
/-- LCM_OWNERSET (R664). -/
def LCM_OWNERSET : Reg := ⟨0x10, 0x06C, 0x0⟩
/-- LCM_OWNER (R664). -/
def LCM_OWNER (k : Nat) : Reg := ⟨0x10, 0x080 + 0x4 * k, 0x0⟩
/-- KEY_STAT (R664). -/
def KEY_STAT : Reg := ⟨0x11, 0x040, 0x0⟩
/-- KEY_ROOTGEN (R664). -/
def KEY_ROOTGEN : Reg := ⟨0x11, 0x044, 0x0⟩
/-- KEY_NCFG (R664). -/
def KEY_NCFG : Reg := ⟨0x11, 0x400, 0x0⟩
/-- KEY_NLABEL (R664). -/
def KEY_NLABEL (k : Nat) : Reg := ⟨0x11, 0x404 + 0x4 * k, 0x0⟩
/-- KEY_NGEN (R664). -/
def KEY_NGEN : Reg := ⟨0x11, 0x414, 0x0⟩
/-- KEY_NHANDLE (R664). -/
def KEY_NHANDLE : Reg := ⟨0x11, 0x418, 0x0⟩
/-- KEY_NCTL (R664). -/
def KEY_NCTL : Reg := ⟨0x11, 0x41C, 0x0⟩
/-- KEY_NSTAT (R664). -/
def KEY_NSTAT : Reg := ⟨0x11, 0x420, 0x0⟩
/-- KEY_RBASE (R664). -/
def KEY_RBASE : Reg := ⟨0x12, 0x040, 0x0⟩
/-- KEY_RLEN (R664). -/
def KEY_RLEN : Reg := ⟨0x12, 0x044, 0x0⟩
/-- KEY_HEAD (R664). -/
def KEY_HEAD : Reg := ⟨0x12, 0x048, 0x0⟩
/-- KEY_TAIL (R664). -/
def KEY_TAIL : Reg := ⟨0x12, 0x04C, 0x0⟩
/-- KEY_RSTAT (R664). -/
def KEY_RSTAT : Reg := ⟨0x12, 0x050, 0x0⟩
/-- KEY_SIGNEXT (R664). -/
def KEY_SIGNEXT : Reg := ⟨0x12, 0x054, 0x0⟩
/-- KEY_SIGQ (R664). -/
def KEY_SIGQ : Reg := ⟨0x12, 0x058, 0x0⟩
/-- KEY_SIGSTAT (R664). -/
def KEY_SIGSTAT : Reg := ⟨0x12, 0x05C, 0x0⟩
/-- ATT_EXTDATA (R664). -/
def ATT_EXTDATA (k : Nat) : Reg := ⟨0x13, 0x040 + 0x4 * k, 0x0⟩
/-- ATT_EXTCTL (R664). -/
def ATT_EXTCTL : Reg := ⟨0x13, 0x060, 0x0⟩
/-- ATT_MSEL (R664). -/
def ATT_MSEL : Reg := ⟨0x13, 0x064, 0x0⟩
/-- ATT_MEAS (R664). -/
def ATT_MEAS (k : Nat) : Reg := ⟨0x13, 0x080 + 0x4 * k, 0x0⟩
/-- ATT_SVNK (R664). -/
def ATT_SVNK : Reg := ⟨0x13, 0x0A0, 0x0⟩
/-- ATT_SVNO (R664). -/
def ATT_SVNO : Reg := ⟨0x13, 0x0A4, 0x0⟩
/-- ATT_BSVNK (R664). -/
def ATT_BSVNK : Reg := ⟨0x13, 0x0A8, 0x0⟩
/-- ATT_BSVNO (R664). -/
def ATT_BSVNO : Reg := ⟨0x13, 0x0AC, 0x0⟩
/-- ATT_SVNCOMMIT (R664). -/
def ATT_SVNCOMMIT : Reg := ⟨0x13, 0x0B0, 0x0⟩
/-- ATT_BOOT (R664). -/
def ATT_BOOT : Reg := ⟨0x13, 0x0B4, 0x0⟩
/-- ATT_COSIG (R664). -/
def ATT_COSIG : Reg := ⟨0x13, 0x0B8, 0x0⟩

/-! ### spec/17_power_reset_bist.md -/
/-- RST_CAUSE (R701). -/
def RST_CAUSE : Reg := ⟨0x03, 0x040, 0x1⟩
/-- RST_PINLOW (R701). -/
def RST_PINLOW : Reg := ⟨0x03, 0x044, 0x0⟩
/-- RST_SWRST (R701). -/
def RST_SWRST : Reg := ⟨0x03, 0x048, 0x0⟩
/-- RST_DWDCFG (R701). -/
def RST_DWDCFG : Reg := ⟨0x03, 0x04C, 0x1003E8⟩
/-- RST_DWDKICK (R701). -/
def RST_DWDKICK : Reg := ⟨0x03, 0x050, 0x0⟩
/-- RST_CWDCFG (R701). -/
def RST_CWDCFG : Reg := ⟨0x03, 0x054, 0x0⟩
/-- RST_CWDKICK (R701). -/
def RST_CWDKICK : Reg := ⟨0x03, 0x058, 0x0⟩
/-- RST_ISLRST (R701). -/
def RST_ISLRST : Reg := ⟨0x03, 0x05C, 0x0⟩
/-- RST_ISLSTAT (R701). -/
def RST_ISLSTAT : Reg := ⟨0x03, 0x060, 0x0⟩
/-- RST_LASTISL (R701). -/
def RST_LASTISL : Reg := ⟨0x03, 0x064, 0x0⟩
/-- RST_SAFHIST (R701). -/
def RST_SAFHIST : Reg := ⟨0x03, 0x068, 0x0⟩
/-- MON_TCFG (R701). -/
def MON_TCFG : Reg := ⟨0x04, 0x040, 0x17D73⟩
/-- MON_VSYSCFG (R701). -/
def MON_VSYSCFG : Reg := ⟨0x04, 0x044, 0x6⟩
/-- MON_VSTAT (R701). -/
def MON_VSTAT : Reg := ⟨0x04, 0x048, 0x0⟩
/-- MON_PCFG (R701). -/
def MON_PCFG : Reg := ⟨0x04, 0x04C, 0xF⟩
/-- MON_STAT (R701). -/
def MON_STAT : Reg := ⟨0x04, 0x050, 0x0⟩
/-- MON_IT (R701). -/
def MON_IT : Reg := ⟨0x04, 0x400, 0x0⟩
/-- MON_IV (R701). -/
def MON_IV : Reg := ⟨0x04, 0x404, 0x0⟩
/-- MON_IP (R701). -/
def MON_IP : Reg := ⟨0x04, 0x408, 0x0⟩
/-- MON_ISTAT (R701). -/
def MON_ISTAT : Reg := ⟨0x04, 0x40C, 0x0⟩
/-- BST_RESULT (R701). -/
def BST_RESULT : Reg := ⟨0x05, 0x040, 0x0⟩
/-- BST_TIME (R701). -/
def BST_TIME : Reg := ⟨0x05, 0x044, 0x0⟩
/-- BST_HREPAIR (R701). -/
def BST_HREPAIR : Reg := ⟨0x05, 0x048, 0x0⟩
/-- BST_HRSTAT (R701). -/
def BST_HRSTAT : Reg := ⟨0x05, 0x04C, 0x0⟩
/-- BST_LSIG (R701). -/
def BST_LSIG : Reg := ⟨0x05, 0x400, 0x0⟩
/-- BST_LEXP (R701). -/
def BST_LEXP : Reg := ⟨0x05, 0x404, 0x0⟩
/-- BST_MADDR (R701). -/
def BST_MADDR : Reg := ⟨0x05, 0x408, 0x0⟩
/-- BST_MSTAT (R701). -/
def BST_MSTAT : Reg := ⟨0x05, 0x40C, 0x0⟩

/-! ### spec/18_pair_and_recovery.md -/
/-- AUS_CFG (R731). -/
def AUS_CFG : Reg := ⟨0x75, 0x040, 0x101F4⟩
/-- AUS_CTL (R731). -/
def AUS_CTL : Reg := ⟨0x75, 0x044, 0x0⟩
/-- AUS_STAT (R731). -/
def AUS_STAT : Reg := ⟨0x75, 0x048, 0x7000⟩
/-- AUS_EPOCH (R731). -/
def AUS_EPOCH : Reg := ⟨0x75, 0x04C, 0x1⟩
/-- AUS_LASTTO (R731). -/
def AUS_LASTTO : Reg := ⟨0x75, 0x050, 0x0⟩
/-- AUS_TOFRM (R731). -/
def AUS_TOFRM : Reg := ⟨0x75, 0x054, 0x0⟩
/-- AUS_ERRCNT (R731). -/
def AUS_ERRCNT : Reg := ⟨0x75, 0x058, 0x0⟩
/-- AUS_MISS (R731). -/
def AUS_MISS : Reg := ⟨0x75, 0x05C, 0x0⟩
/-- AUS_MIRMAP0 (R731). -/
def AUS_MIRMAP0 : Reg := ⟨0x75, 0x060, 0x0⟩
/-- AUS_MIRMAP1 (R731). -/
def AUS_MIRMAP1 : Reg := ⟨0x75, 0x064, 0xFFFFFFFF⟩
/-- AUS_MIRMAP2 (R731). -/
def AUS_MIRMAP2 : Reg := ⟨0x75, 0x068, 0x0⟩
/-- AUS_MIRMAP3 (R731). -/
def AUS_MIRMAP3 : Reg := ⟨0x75, 0x06C, 0xF⟩
/-- AUS_HBAGE (R731). -/
def AUS_HBAGE : Reg := ⟨0x75, 0x070, 0xFFFF⟩
/-- EVT_HEAD (R732). -/
def EVT_HEAD : Reg := ⟨0x07, 0x040, 0x0⟩
/-- EVT_COUNT (R732). -/
def EVT_COUNT : Reg := ⟨0x07, 0x044, 0x0⟩
/-- EVT_LOST (R732). -/
def EVT_LOST : Reg := ⟨0x07, 0x048, 0x0⟩
/-- EVT_LOSTSRC (R732). -/
def EVT_LOSTSRC : Reg := ⟨0x07, 0x04C, 0x0⟩
/-- EVT_SWDATA (R732). -/
def EVT_SWDATA (k : Nat) : Reg := ⟨0x07, 0x050 + 0x4 * k, 0x0⟩
/-- EVT_SWPUT (R732). -/
def EVT_SWPUT : Reg := ⟨0x07, 0x074, 0x0⟩
/-- EVT_RDSEQ (R732). -/
def EVT_RDSEQ : Reg := ⟨0x08, 0x040, 0x0⟩
/-- EVT_RDENT (R732). -/
def EVT_RDENT (k : Nat) : Reg := ⟨0x08, 0x080 + 0x4 * k, 0x0⟩

/-! ### The rows of each page -/
/-- The rows of page 0x00. -/
def rows00 : List RegRow := [
  { off := 0x040, ro := 0xFFFFFFFF },
  { off := 0x044, w1c := 0x1, ro := 0x70100 },
  { off := 0x048, ro := 0xFFFFFFFF },
  { off := 0x04C, ro := 0xFFFFFFFF },
  { off := 0x060, rc := 0x1, banked := true }]
/-- The rows of page 0x01. -/
def rows01 : List RegRow := [
  { off := 0x040, ro := 0xFFFFFFFF },
  { off := 0x044, w1c := 0x3FF0003 },
  { off := 0x400, ro := 0xFFFFFF },
  { off := 0x404, ro := 0xFFFFFF }]
/-- The rows of page 0x02. -/
def rows02 : List RegRow := [
  { off := 0x040, rw := 0x3, reset := 0x1 },
  { off := 0x044, wo := 0x700, ro := 0x3 },
  { off := 0x048, w1c := 0x6, ro := 0x1 },
  { off := 0x04C, w1c := 0x1FF },
  { off := 0x050, rw := 0xFF0FFF, reset := 0x3201F4 },
  { off := 0x054, rw := 0xF, reset := 0xF },
  { off := 0x058, w1c := 0xF },
  { off := 0x05C, rw := 0xFFFFFFFF, reset := 0x8000000 }]
/-- The rows of page 0x03. -/
def rows03 : List RegRow := [
  { off := 0x040, w1c := 0x7FF, reset := 0x1 },
  { off := 0x044, ro := 0xFFFFFFFF },
  { off := 0x048, wo := 0xFFFFFFFF },
  { off := 0x04C, rw := 0xFFFFFF, reset := 0x1003E8 },
  { off := 0x050, wo := 0x1 },
  { off := 0x054, rw := 0xFFFF },
  { off := 0x058, wo := 0x1 },
  { off := 0x05C, wo := 0x3FF },
  { off := 0x060, ro := 0xFFFFFFFF },
  { off := 0x064, ro := 0xFFFFFFFF },
  { off := 0x068, ro := 0xFFFFFFFF }]
/-- The rows of page 0x04. -/
def rows04 : List RegRow := [
  { off := 0x040, rw := 0x1FFFF, reset := 0x17D73 },
  { off := 0x044, rw := 0x3F, reset := 0x6 },
  { off := 0x048, ro := 0xFFFFFFFF },
  { off := 0x04C, rw := 0xFF, reset := 0xF },
  { off := 0x050, w1c := 0x3, ro := 0xFFFF0000 },
  { off := 0x400, ro := 0xFFFFFFFF },
  { off := 0x404, ro := 0xFFFFFFFF },
  { off := 0x408, ro := 0xFFFFFFFF },
  { off := 0x40C, w1c := 0x3F, ro := 0x100 }]
/-- The rows of page 0x05. -/
def rows05 : List RegRow := [
  { off := 0x040, ro := 0xFFFFFFFF },
  { off := 0x044, ro := 0xFFFFFFFF },
  { off := 0x048, wo := 0x1 },
  { off := 0x04C, ro := 0xFFFFFFFF },
  { off := 0x400, ro := 0xFFFFFFFF },
  { off := 0x404, ro := 0xFFFFFFFF },
  { off := 0x408, ro := 0xFFFFFFFF },
  { off := 0x40C, ro := 0xFFFFFFFF }]
/-- The rows of page 0x06. -/
def rows06 : List RegRow := [
  { off := 0x040, wo := 0x1 },
  { off := 0x044, wo := 0x1 },
  { off := 0x048, wo := 0x1 },
  { off := 0x04C, ro := 0xFFFFFFFF, banked := true },
  { off := 0x050, ro := 0xFFFFFFFF, banked := true },
  { off := 0x054, ro := 0xFFFFFFFF, banked := true },
  { off := 0x058, ro := 0xFFFFFFFF },
  { off := 0x05C, rw := 0xFFFF }]
/-- The rows of page 0x07. -/
def rows07 : List RegRow := [
  { off := 0x040, ro := 0xFFFFFFFF },
  { off := 0x044, ro := 0xFFFFFFFF },
  { off := 0x048, rc := 0xFFFFFFFF },
  { off := 0x04C, w1c := 0x3FF03FF },
  { off := 0x050, count := 9, rw := 0xFFFFFFFF, banked := true },
  { off := 0x074, wo := 0xFF }]
/-- The rows of page 0x08. -/
def rows08 : List RegRow := [
  { off := 0x040, rw := 0xFFFFFFFF },
  { off := 0x080, count := 16, ro := 0xFFFFFFFF }]
/-- The rows of page 0x09. -/
def rows09 : List RegRow := [
  { off := 0x040, ro := 0xFFFFFFFF },
  { off := 0x044, ro := 0xFFFFFFFF },
  { off := 0x048, rw := 0xFFFFFFFF },
  { off := 0x04C, rw := 0xFFFFFFFF },
  { off := 0x050, rw := 0xFFFFFFFF },
  { off := 0x054, rw := 0x8000FFFF, reset := 0x25 },
  { off := 0x058, w1c := 0x100, ro := 0x13 },
  { off := 0x05C, rw := 0xFFFF, reset := 0x3E8 },
  { off := 0x060, count := 4, stride := 0x8, rw := 0xFFFFFFFF },
  { off := 0x064, count := 4, stride := 0x8, rw := 0xFFFFFFFF },
  { off := 0x080, ro := 0xFFFFFFFF }]
/-- The rows of page 0x0A. -/
def rows0A : List RegRow := [
  { off := 0x040, ro := 0xFFFFFFFF },
  { off := 0x044, ro := 0xFFFFFFFF },
  { off := 0x048, rc := 0xFFFFFFFF },
  { off := 0x04C, ro := 0xFFFFFFFF },
  { off := 0x050, w1s := 0xFFFFFFFF }]
/-- The rows of page 0x0B. -/
def rows0B : List RegRow := [
  { off := 0x040, ro := 0xFFFFFFFF },
  { off := 0x044, rw := 0x80FFFFFF, reset := 0x1C200 },
  { off := 0x048, wo := 0xFF },
  { off := 0x04C, w1c := 0x100, ro := 0x7F },
  { off := 0x050, rc := 0xFFFFFFFF }]
/-- The rows of page 0x10. -/
def rows10 : List RegRow := [
  { off := 0x040, ro := 0xFFFFFFFF },
  { off := 0x044, wo := 0x7 },
  { off := 0x048, ro := 0xFFFFFFFF },
  { off := 0x04C, wo := 0xFFFFFFFF },
  { off := 0x050, ro := 0xFFFFFFFF },
  { off := 0x054, count := 4, ro := 0xFFFFFFFF },
  { off := 0x064, rw := 0xFFFFFFFF },
  { off := 0x068, wo := 0x1, ro := 0x100 },
  { off := 0x06C, wo := 0x1 },
  { off := 0x080, count := 8, rw := 0xFFFFFFFF }]
/-- The rows of page 0x11. -/
def rows11 : List RegRow := [
  { off := 0x040, ro := 0xFFFFFFFF },
  { off := 0x044, ro := 0xFFFFFFFF },
  { off := 0x400, rw := 0x870000FF, ro := 0x70000 },
  { off := 0x404, count := 4, rw := 0xFFFFFFFF },
  { off := 0x414, ro := 0xFFFFFFFF },
  { off := 0x418, ro := 0xFFFFFFFF },
  { off := 0x41C, wo := 0x1 },
  { off := 0x420, w1c := 0x30, ro := 0x3 }]
/-- The rows of page 0x12. -/
def rows12 : List RegRow := [
  { off := 0x040, rw := 0xFFFFFFE0 },
  { off := 0x044, rw := 0x3FF },
  { off := 0x048, rw := 0x3FF },
  { off := 0x04C, ro := 0xFFFFFFFF },
  { off := 0x050, ro := 0xFFFFFFFF },
  { off := 0x054, ro := 0xFFFFFFFF },
  { off := 0x058, ro := 0xFFFFFFFF },
  { off := 0x05C, ro := 0xFFFFFFFF }]
/-- The rows of page 0x13. -/
def rows13 : List RegRow := [
  { off := 0x040, count := 8, rw := 0xFFFFFFFF },
  { off := 0x060, wo := 0x101 },
  { off := 0x064, rw := 0x7 },
  { off := 0x080, count := 8, ro := 0xFFFFFFFF },
  { off := 0x0A0, ro := 0xFFFFFFFF },
  { off := 0x0A4, ro := 0xFFFFFFFF },
  { off := 0x0A8, ro := 0xFFFFFFFF },
  { off := 0x0AC, ro := 0xFFFFFFFF },
  { off := 0x0B0, wo := 0x1 },
  { off := 0x0B4, ro := 0xFFFFFFFF },
  { off := 0x0B8, rw := 0xFF }]
/-- The rows of page 0x18. -/
def rows18 : List RegRow := [
  { off := 0x040, count := 32, rw := 0x77777777 },
  { off := 0x0C0, count := 8, ro := 0xFFFFFFFF }]
/-- The rows of page 0x19. -/
def rows19 : List RegRow := [
  { off := 0x040, count := 8, stride := 0x8, rw := 0x7 },
  { off := 0x044, count := 8, stride := 0x8, rw := 0xFFFFFFFF },
  { off := 0x080, rc := 0xFFFFFFFF },
  { off := 0x084, ro := 0xFFFFFFFF },
  { off := 0x088, rw := 0xFF, reset := 0x3C },
  { off := 0x08C, w1c := 0x3 },
  { off := 0x0A0, count := 4, stride := 0x8, rw := 0xFFFFFFFF, reset := 0xFFFFFFFF },
  { off := 0x0A4, count := 4, stride := 0x8, rw := 0xFFFFFFFF, reset := 0xFFFFFFFF },
  { off := 0x0C0, count := 4, rw := 0x1 },
  { off := 0x400, count := 8, rw := 0xFFFFFFFF }]
/-- The rows of page 0x1A. -/
def rows1A : List RegRow := [
  { off := 0x040, rw := 0xFFFFFFE0 },
  { off := 0x044, rw := 0x3FF },
  { off := 0x048, rw := 0x3FF },
  { off := 0x04C, ro := 0xFFFFFFFF },
  { off := 0x050, ro := 0xFFFFFFFF }]
/-- The rows of page 0x1B. -/
def rows1B : List RegRow := [
  { off := 0x040, rw := 0xFFFFFFE0 },
  { off := 0x044, rw := 0x3FF },
  { off := 0x048, rw := 0x3FF },
  { off := 0x04C, ro := 0xFFFFFFFF },
  { off := 0x050, ro := 0xFFFFFFFF }]
/-- The rows of page 0x1C. -/
def rows1C : List RegRow := [
  { off := 0x040, rw := 0xFF01FF07, reset := 0x807 },
  { off := 0x044, rw := 0x83FFFFFF },
  { off := 0x048, rw := 0xFFFFFFFF },
  { off := 0x04C, rw := 0xFFFFFFFF },
  { off := 0x050, rw := 0xFFFFFFFF },
  { off := 0x054, w1c := 0x100, ro := 0x1 },
  { off := 0x058, rw := 0xFFFFFF, reset := 0x10005 },
  { off := 0x05C, rw := 0xFFFFFFFF, reset := 0x186A0 }]
/-- The rows of page 0x1D. -/
def rows1D : List RegRow := [
  { off := 0x040, rw := 0xFF01FF07, reset := 0x807 },
  { off := 0x044, rw := 0x83FFFFFF },
  { off := 0x048, rw := 0xFFFFFFFF },
  { off := 0x04C, rw := 0xFFFFFFFF },
  { off := 0x050, rw := 0xFFFFFFFF },
  { off := 0x054, w1c := 0x100, ro := 0x1 },
  { off := 0x058, rw := 0xFFFFFF, reset := 0x10005 },
  { off := 0x05C, rw := 0xFFFFFFFF, reset := 0x186A0 }]
/-- The rows of page 0x1E. -/
def rows1E : List RegRow := [
  { off := 0x040, wo := 0xFF003FFF },
  { off := 0x044, ro := 0xFFFFFFFF, banked := true },
  { off := 0x048, ro := 0xFFFFFFFF, banked := true },
  { off := 0x04C, wo := 0x1 },
  { off := 0x050, rw := 0xFFFF, reset := 0x64 },
  { off := 0x054, ro := 0xFFFFFFFF },
  { off := 0x400, count := 768, rw := 0xFFFFFFFF, banked := true }]
/-- The rows of page 0x1F. -/
def rows1F : List RegRow := [
  { off := 0x040, wo := 0xFF003FFF },
  { off := 0x044, ro := 0xFFFFFFFF, banked := true },
  { off := 0x048, ro := 0xFFFFFFFF, banked := true },
  { off := 0x04C, wo := 0x1 },
  { off := 0x050, rw := 0xFFFF, reset := 0x64 },
  { off := 0x054, ro := 0xFFFFFFFF },
  { off := 0x400, count := 768, rw := 0xFFFFFFFF, banked := true }]
/-- The rows of page 0x20. -/
def rows20 : List RegRow := [
  { off := 0x040, txn := 0xF0F, sealed := 0xF0F, reset := 0xF },
  { off := 0x044, w1c := 0xFFFFFFFF },
  { off := 0x048, w1c := 0xFF },
  { off := 0x04C, ro := 0xFFFFFFFF },
  { off := 0x400, rw := 0xF000, txn := 0x703, sealed := 0x3, reset := 0x4201 },
  { off := 0x404, txn := 0x1F3F, sealed := 0x1F3F },
  { off := 0x408, w1c := 0x300, ro := 0x7 },
  { off := 0x40C, ro := 0xFFFFFFFF },
  { off := 0x410, ro := 0xFFFFFFFF },
  { off := 0x414, ro := 0xFFFFFFFF },
  { off := 0x418, ro := 0xFFFFFFFF }]
/-- The rows of page 0x21. -/
def rows21 : List RegRow := [
  { off := 0x040, rw := 0x3F3F, wo := 0x10000 },
  { off := 0x044, ro := 0xFFFFFFFF }]
/-- The rows of page 0x22. -/
def rows22 : List RegRow := [
  { off := 0x040, wo := 0x1 },
  { off := 0x044, ro := 0xFFFFFFFF },
  { off := 0x080, count := 40, ro := 0xFFFFFFFF }]
/-- The rows of page 0x24. -/
def rows24 : List RegRow := [
  { off := 0x040, ro := 0xFFFFFFFF, reset := 0x10001 },
  { off := 0x044, ro := 0xFFFFFFFF, reset := 0x1F4 },
  { off := 0x048, ro := 0xFFFFFFFF },
  { off := 0x04C, w1c := 0xFF },
  { off := 0x400, wo := 0x10000, txn := 0xFF01, reset := 0xFF00 },
  { off := 0x404, ro := 0xFFFFFFFF },
  { off := 0x408, rc := 0xFFFFFFFF },
  { off := 0x40C, ro := 0xFFFFFFFF }]
/-- The rows of page 0x25. -/
def rows25 : List RegRow := [
  { off := 0x400, ro := 0xFFFFFFFF },
  { off := 0x404, ro := 0xFFFFFFFF },
  { off := 0x408, ro := 0xFFFFFFFF, reset := 0xFF000000 }]
/-- The rows of page 0x26. -/
def rows26 : List RegRow := [
  { off := 0x400, count := 42, ro := 0xFFFFFFFF }]
/-- The rows of page 0x27. -/
def rows27 : List RegRow := [
  { off := 0x400, count := 37, ro := 0xFFFFFFFF }]
/-- The rows of page 0x28. -/
def rows28 : List RegRow := [
  { off := 0x040, txn := 0xFFF, reset := 0x3E8 },
  { off := 0x044, ro := 0xFFFFFFFF },
  { off := 0x048, ro := 0xFFFFFFFF },
  { off := 0x04C, ro := 0xFFFFFFFF },
  { off := 0x050, count := 4, w1c := 0xFFFFFFFF },
  { off := 0x060, count := 4, w1c := 0xFFFFFFFF },
  { off := 0x070, count := 4, w1c := 0xFFFFFFFF },
  { off := 0x400, txn := 0x8FFFFFFF },
  { off := 0x404, txn := 0xF0FFF0FF },
  { off := 0x408, txn := 0x3FF, reset := 0x4 },
  { off := 0x40C, txn := 0x13FFFF, reset := 0x10000 },
  { off := 0x410, txn := 0x3 },
  { off := 0x414, w1c := 0x1F00, ro := 0x700FF },
  { off := 0x418, ro := 0xFFFFFFFF },
  { off := 0x41C, ro := 0xFFFFFFFF },
  { off := 0x420, ro := 0xFFFFFFFF },
  { off := 0x424, ro := 0xFFFFFFFF },
  { off := 0x428, ro := 0xFFFFFFFF }]
/-- The rows of page 0x29. -/
def rows29 : List RegRow := [
  { off := 0x040, rw := 0x5F337F00, wo := 0x3 },
  { off := 0x044, rw := 0xFFFFFF3F },
  { off := 0x048, rw := 0xFFFF0F, reset := 0x107 },
  { off := 0x04C, rw := 0xFFFF },
  { off := 0x050, ro := 0xFFFFFFFF },
  { off := 0x054, ro := 0xFFFFFFFF }]
/-- The rows of page 0x2A. -/
def rows2A : List RegRow := [
  { off := 0x400, rw := 0xFFFFFFFF }]
/-- The rows of page 0x2B. -/
def rows2B : List RegRow := [
  { off := 0x400, ro := 0xFFFFFFFF },
  { off := 0x404, ro := 0xFFFFFFFF },
  { off := 0x408, ro := 0xFFFFFFFF },
  { off := 0x40C, ro := 0xFFFFFFFF },
  { off := 0x410, ro := 0xFFFFFFFF },
  { off := 0x414, ro := 0xFFFFFFFF },
  { off := 0x418, ro := 0xFFFFFFFF }]
/-- The rows of page 0x38. -/
def rows38 : List RegRow := [
  { off := 0x040, w1c := 0x1FFFF },
  { off := 0x044, w1c := 0x1FFFF },
  { off := 0x400, count := 8, txn := 0x17F0F },
  { off := 0x420, count := 8, txn := 0xFFFFFF3F },
  { off := 0x440, txn := 0xFFFFFF3F },
  { off := 0x444, txn := 0xFFFFFF3F },
  { off := 0x448, txn := 0xFFFFFF3F },
  { off := 0x44C, txn := 0xFFFFFF3F, reset := 0x64000006 },
  { off := 0x450, txn := 0x1 },
  { off := 0x454, rw := 0xFFFFFF3F },
  { off := 0x458, ro := 0xFFFFFFFF },
  { off := 0x45C, ro := 0xFFFFFFFF },
  { off := 0x460, count := 8, ro := 0xFFFFFFFF },
  { off := 0x480, ro := 0xFFFFFFFF },
  { off := 0x484, ro := 0xFFFFFFFF },
  { off := 0x488, txn := 0xFFFFFF3F }]
/-- The rows of page 0x39. -/
def rows39 : List RegRow := [
  { off := 0x040, count := 8, txn := 0x17F0F },
  { off := 0x060, count := 8, txn := 0xFFFFFF3F },
  { off := 0x080, txn := 0xFFFFFF3F },
  { off := 0x084, txn := 0xFFFFFF3F },
  { off := 0x088, txn := 0x1 },
  { off := 0x08C, ro := 0xFFFFFFFF },
  { off := 0x090, ro := 0xFFFFFFFF },
  { off := 0x094, count := 8, ro := 0xFFFFFFFF },
  { off := 0x0B4, ro := 0xFFFFFFFF },
  { off := 0x0B8, ro := 0xFFFFFFFF }]
/-- The rows of page 0x3A. -/
def rows3A : List RegRow := [
  { off := 0x040, w1c := 0x80000000, ro := 0x1F7F0F },
  { off := 0x400, txn := 0x3F0F }]
/-- The rows of page 0x3C. -/
def rows3C : List RegRow := [
  { off := 0x040, txn := 0x1 },
  { off := 0x044, ro := 0xFFFFFFFF },
  { off := 0x048, ro := 0xFFFFFFFF },
  { off := 0x04C, ro := 0xFFFFFFFF },
  { off := 0x050, ro := 0xFFFFFFFF },
  { off := 0x400, txn := 0x80000003, reset := 0x3 },
  { off := 0x404, txn := 0xFFFFFF3F },
  { off := 0x408, txn := 0xFFFFFF3F },
  { off := 0x40C, ro := 0xFFFFFFFF },
  { off := 0x410, ro := 0xFFFFFFFF },
  { off := 0x414, ro := 0xFFFFFFFF },
  { off := 0x418, ro := 0xFFFFFFFF },
  { off := 0x41C, ro := 0xFFFFFFFF }]
/-- The rows of page 0x3D. -/
def rows3D : List RegRow := [
  { off := 0x040, count := 16, ro := 0xFFFFFFFF },
  { off := 0x080, ro := 0xFFFFFFFF }]
/-- The rows of page 0x3E. -/
def rows3E : List RegRow := [
  { off := 0x040, txn := 0xF03, reset := 0x802 },
  { off := 0x044, txn := 0xFFFFFFFF, reset := 0x5040A02 },
  { off := 0x048, txn := 0xFFFFFFFF, reset := 0x2832320A },
  { off := 0x04C, txn := 0xFFFF, reset := 0x64 },
  { off := 0x050, w1c := 0x1000000, ro := 0x7F7F0F },
  { off := 0x054, rc := 0xFFFFFFFF },
  { off := 0x058, count := 2, ro := 0xFFFFFFFF },
  { off := 0x400, txn := 0xC07FFFFF, reset := 0x3232 },
  { off := 0x404, txn := 0x9F9F9F9F },
  { off := 0x408, txn := 0xFFFFFFFF },
  { off := 0x40C, ro := 0xFFFFFFFF, reset := 0x1F00 },
  { off := 0x410, wo := 0x1311 }]
/-- The rows of page 0x3F. -/
def rows3F : List RegRow := [
  { off := 0x400, ro := 0xFFFFFFFF, reset := 0x1F1F0000 },
  { off := 0x404, ro := 0xFFFFFFFF },
  { off := 0x408, ro := 0xFFFFFFFF },
  { off := 0x40C, ro := 0xFFFFFFFF }]
/-- The rows of page 0x40. -/
def rows40 : List RegRow := [
  { off := 0x040, ro := 0xFFFFFFFF },
  { off := 0x044, wo := 0xF },
  { off := 0x048, rw := 0xFF, reset := 0x55 },
  { off := 0x400, rw := 0xF03 },
  { off := 0x404, ro := 0xFFFFFFFF }]
/-- The rows of page 0x41. -/
def rows41 : List RegRow := [
  { off := 0x400, rw := 0x3FF },
  { off := 0x404, rw := 0x7FF },
  { off := 0x408, rw := 0x1, reset := 0x1 },
  { off := 0x40C, ro := 0xFFFFFFFF },
  { off := 0x410, ro := 0xFFFFFFFF },
  { off := 0x414, ro := 0xFFFFFFFF },
  { off := 0x418, rw := 0xFFFFFFFF },
  { off := 0x41C, rc := 0xFFFFFFFF }]
/-- The rows of page 0x42. -/
def rows42 : List RegRow := [
  { off := 0x040, rw := 0x701 },
  { off := 0x044, rw := 0xFFFFFFFF, reset := 0x3000100 },
  { off := 0x048, rw := 0xFFFFFFFF },
  { off := 0x04C, rw := 0xFFFF },
  { off := 0x050, ro := 0xFFFFFFFF },
  { off := 0x060, count := 4, rw := 0xFFFFFFFF, reset := 0xFFFFFFFF },
  { off := 0x070, count := 4, ro := 0xFFFFFFFF },
  { off := 0x080, count := 4, rw := 0xFFFFFFFF, reset := 0xFFFFFFFF },
  { off := 0x090, count := 8, stride := 0x8, rw := 0x73F },
  { off := 0x094, count := 8, stride := 0x8, rw := 0xFFFFFFFF },
  { off := 0x400, rw := 0xFFFFFFFF, reset := 0x4000000 },
  { off := 0x404, rw := 0xFFFFFFFF, reset := 0x4000000 },
  { off := 0x408, rw := 0xFF }]
/-- The rows of page 0x43. -/
def rows43 : List RegRow := [
  { off := 0x040, rw := 0x701 },
  { off := 0x044, rw := 0xFFFFFFFF, reset := 0x3000100 },
  { off := 0x048, rw := 0xFFFFFFFF },
  { off := 0x04C, rw := 0xFFFF },
  { off := 0x050, ro := 0xFFFFFFFF },
  { off := 0x060, count := 4, rw := 0xFFFFFFFF, reset := 0xFFFFFFFF },
  { off := 0x070, count := 4, ro := 0xFFFFFFFF },
  { off := 0x080, count := 4, rw := 0xFFFFFFFF, reset := 0xFFFFFFFF },
  { off := 0x090, count := 8, stride := 0x8, rw := 0x73F },
  { off := 0x094, count := 8, stride := 0x8, rw := 0xFFFFFFFF },
  { off := 0x400, rw := 0xFFFFFFFF, reset := 0x4000000 },
  { off := 0x404, rw := 0xFFFFFFFF, reset := 0x4000000 },
  { off := 0x408, rw := 0xFF }]
/-- The rows of page 0x44. -/
def rows44 : List RegRow := [
  { off := 0x040, rw := 0x701 },
  { off := 0x044, rw := 0xFFFFFFFF, reset := 0x3000100 },
  { off := 0x048, rw := 0xFFFFFFFF },
  { off := 0x04C, rw := 0xFFFF },
  { off := 0x050, ro := 0xFFFFFFFF },
  { off := 0x060, count := 4, rw := 0xFFFFFFFF, reset := 0xFFFFFFFF },
  { off := 0x070, count := 4, ro := 0xFFFFFFFF },
  { off := 0x080, count := 4, rw := 0xFFFFFFFF, reset := 0xFFFFFFFF },
  { off := 0x090, count := 8, stride := 0x8, rw := 0x73F },
  { off := 0x094, count := 8, stride := 0x8, rw := 0xFFFFFFFF },
  { off := 0x400, rw := 0xFFFFFFFF, reset := 0x4000000 },
  { off := 0x404, rw := 0xFFFFFFFF, reset := 0x4000000 },
  { off := 0x408, rw := 0xFF }]
/-- The rows of page 0x45. -/
def rows45 : List RegRow := [
  { off := 0x040, rw := 0x701 },
  { off := 0x044, rw := 0xFFFFFFFF, reset := 0x3000100 },
  { off := 0x048, rw := 0xFFFFFFFF },
  { off := 0x04C, rw := 0xFFFF },
  { off := 0x050, ro := 0xFFFFFFFF },
  { off := 0x060, count := 4, rw := 0xFFFFFFFF, reset := 0xFFFFFFFF },
  { off := 0x070, count := 4, ro := 0xFFFFFFFF },
  { off := 0x080, count := 4, rw := 0xFFFFFFFF, reset := 0xFFFFFFFF },
  { off := 0x090, count := 8, stride := 0x8, rw := 0x73F },
  { off := 0x094, count := 8, stride := 0x8, rw := 0xFFFFFFFF },
  { off := 0x400, rw := 0xFFFFFFFF, reset := 0x4000000 },
  { off := 0x404, rw := 0xFFFFFFFF, reset := 0x4000000 },
  { off := 0x408, rw := 0xFF }]
/-- The rows of page 0x46. -/
def rows46 : List RegRow := [
  { off := 0x040, rw := 0x701, reset := 0x201 },
  { off := 0x044, rw := 0xFFFFFFFF, reset := 0x10000400 },
  { off := 0x048, rw := 0xFFFFFFFF },
  { off := 0x04C, rw := 0xFFFF },
  { off := 0x050, ro := 0xFFFFFFFF }]
/-- The rows of page 0x47. -/
def rows47 : List RegRow := [
  { off := 0x040, rw := 0x77F03, only12 := true },
  { off := 0x044, rw := 0xFFFFFFFF, reset := 0x3000100, only12 := true },
  { off := 0x048, rw := 0xFFFFF, only12 := true },
  { off := 0x04C, rw := 0x73F, only12 := true },
  { off := 0x050, rw := 0xFFFFFFFF, only12 := true },
  { off := 0x054, ro := 0xFFFFFFFF, only12 := true }]
/-- The rows of page 0x48. -/
def rows48 : List RegRow := [
  { off := 0x040, sealed := 0xFF07FF, reset := 0xA0032 },
  { off := 0x044, ro := 0xFFFFFFFF },
  { off := 0x048, ro := 0xFFFFFFFF },
  { off := 0x04C, ro := 0xFFFFFFFF },
  { off := 0x050, ro := 0xFFFFFFFF },
  { off := 0x054, ro := 0xFFFFFFFF },
  { off := 0x058, ro := 0xFFFFFFFF },
  { off := 0x05C, w1c := 0x3, ro := 0x34 },
  { off := 0x400, sealed := 0xFF01, reset := 0x9601 },
  { off := 0x404, sealed := 0xFFFFFFFF },
  { off := 0x408, w1c := 0x300, ro := 0x7 },
  { off := 0x40C, ro := 0xFFFFFFFF },
  { off := 0x410, rc := 0xFFFFFFFF },
  { off := 0x414, sealed := 0x3FFF, reset := 0x64 },
  { off := 0x420, count := 3, stride := 0x20, sealed := 0xFFFFFFFF },
  { off := 0x424, count := 3, stride := 0x20, sealed := 0xFFFFFFFF },
  { off := 0x428, count := 3, stride := 0x20, sealed := 0xFFFFFFFF },
  { off := 0x42C, count := 3, stride := 0x20, sealed := 0xFFFFFFFF },
  { off := 0x430, count := 3, stride := 0x20, sealed := 0xFFFFFFFF },
  { off := 0x434, count := 3, stride := 0x20, sealed := 0xFFFFFFFF }]
/-- The rows of page 0x49. -/
def rows49 : List RegRow := [
  { off := 0x400, ro := 0xFFFFFFFF },
  { off := 0x404, ro := 0xFFFFFFFF },
  { off := 0x408, ro := 0xFFFFFFFF },
  { off := 0x40C, ro := 0xFFFFFFFF },
  { off := 0x410, ro := 0xFFFFFFFF },
  { off := 0x414, ro := 0xFFFFFFFF },
  { off := 0x418, ro := 0xFFFFFFFF },
  { off := 0x41C, ro := 0xFFFFFFFF },
  { off := 0x420, ro := 0xFFFFFFFF },
  { off := 0x430, ro := 0xFFFFFFFF },
  { off := 0x434, ro := 0xFFFFFFFF },
  { off := 0x438, ro := 0xFFFFFFFF },
  { off := 0x43C, ro := 0xFFFFFFFF },
  { off := 0x440, ro := 0xFFFFFFFF },
  { off := 0x444, ro := 0xFFFFFFFF }]
/-- The rows of page 0x4A. -/
def rows4A : List RegRow := [
  { off := 0x400, sealed := 0x801F11FF, reset := 0x114 },
  { off := 0x404, sealed := 0xFFFFFFFF, reset := 0x3E8 },
  { off := 0x408, w1c := 0x10000, ro := 0x2FFFF },
  { off := 0x40C, ro := 0xFFFFFFFF }]
/-- The rows of page 0x4B. -/
def rows4B : List RegRow := [
  { off := 0x040, sealed := 0xFFFFFFFF, reset := 0x3064001 },
  { off := 0x044, w1c := 0x4, ro := 0xFFFFFF03 },
  { off := 0x048, ro := 0xFFFFFFFF },
  { off := 0x04C, ro := 0xFFFFFFFF }]
/-- The rows of page 0x50. -/
def rows50 : List RegRow := [
  { off := 0x040, sealed := 0x13F, reset := 0x2 },
  { off := 0x044, sealed := 0x10FFF, reset := 0x10F },
  { off := 0x048, rw := 0x1F1F03, reset := 0x103 },
  { off := 0x04C, rw := 0xFF },
  { off := 0x050, ro := 0xFFFFFFFF },
  { off := 0x054, ro := 0xFFFFFFFF },
  { off := 0x058, ro := 0xFFFFFFFF },
  { off := 0x05C, ro := 0xFFFFFFFF },
  { off := 0x060, ro := 0xFFFFFFFF },
  { off := 0x064, ro := 0xFFFFFFFF },
  { off := 0x068, ro := 0xFFFFFFFF },
  { off := 0x400, rw := 0x1, ro := 0x1070700 }]
/-- The rows of page 0x51. -/
def rows51 : List RegRow := [
  { off := 0x040, ro := 0xFFFFFFFF },
  { off := 0x400, rw := 0x87FF07FF },
  { off := 0x404, rw := 0xFFF, reset := 0xFFF },
  { off := 0x408, rw := 0x807F0F1F }]
/-- The rows of page 0x52. -/
def rows52 : List RegRow := [
  { off := 0x400, count := 8, stride := 0x10, ro := 0xFFFFFFFF },
  { off := 0x404, count := 8, stride := 0x10, ro := 0xFFFFFFFF },
  { off := 0x408, count := 8, stride := 0x10, ro := 0xFFFFFFFF },
  { off := 0x40C, count := 8, stride := 0x10, ro := 0xFFFFFFFF },
  { off := 0x480, ro := 0xFFFFFFFF },
  { off := 0x484, ro := 0xFFFFFFFF },
  { off := 0x488, ro := 0xFFFFFFFF },
  { off := 0x48C, ro := 0xFFFFFFFF }]
/-- The rows of page 0x53. -/
def rows53 : List RegRow := [
  { off := 0x400, count := 8, stride := 0x10, ro := 0xFFFFFFFF },
  { off := 0x404, count := 8, stride := 0x10, ro := 0xFFFFFFFF },
  { off := 0x408, count := 8, stride := 0x10, ro := 0xFFFFFFFF },
  { off := 0x40C, count := 8, stride := 0x10, ro := 0xFFFFFFFF },
  { off := 0x480, ro := 0xFFFFFFFF },
  { off := 0x484, ro := 0xFFFFFFFF },
  { off := 0x488, ro := 0xFFFFFFFF }]
/-- The rows of page 0x54. -/
def rows54 : List RegRow := [
  { off := 0x040, rw := 0x3 },
  { off := 0x044, w1c := 0x10, ro := 0xF },
  { off := 0x048, count := 2, stride := 0x10, ro := 0xFFFFFFFF },
  { off := 0x04C, count := 2, stride := 0x10, ro := 0xFFFFFFFF },
  { off := 0x050, count := 2, stride := 0x10, ro := 0xFFFFFFFF },
  { off := 0x054, count := 2, stride := 0x10, ro := 0xFFFFFFFF },
  { off := 0x400, count := 2, stride := 0x10, ro := 0xFFFFFFFF },
  { off := 0x404, count := 2, stride := 0x10, ro := 0xFFFFFFFF },
  { off := 0x408, count := 2, stride := 0x10, ro := 0xFFFFFFFF },
  { off := 0x40C, count := 2, stride := 0x10, ro := 0xFFFFFFFF }]
/-- The rows of page 0x55. -/
def rows55 : List RegRow := [
  { off := 0x040, ro := 0xFFFFFFFF },
  { off := 0x044, ro := 0xFFFFFFFF },
  { off := 0x048, ro := 0xFFFFFFFF },
  { off := 0x400, ro := 0xFFFFFFFF },
  { off := 0x404, ro := 0xFFFFFFFF }]
/-- The rows of page 0x56. -/
def rows56 : List RegRow := [
  { off := 0x040, ro := 0xFFFFFFFF },
  { off := 0x044, ro := 0xFFFFFFFF },
  { off := 0x048, ro := 0xFFFFFFFF }]
/-- The rows of page 0x58. -/
def rows58 : List RegRow := [
  { off := 0x040, ro := 0xFFFFFFFF },
  { off := 0x044, ro := 0xFFFFFFFF },
  { off := 0x048, w1c := 0x1FFFF },
  { off := 0x04C, wo := 0x1FFFF },
  { off := 0x050, ro := 0xFFFFFFFF },
  { off := 0x054, ro := 0xFFFFFFFF },
  { off := 0x058, rc := 0xFFFFFFFF },
  { off := 0x400, rw := 0x11F1F1F, reset := 0x41F1F },
  { off := 0x404, rw := 0xFFFFFFFF, reset := 0x7FFF8000 },
  { off := 0x408, rw := 0xFFFF, reset := 0x7FFF },
  { off := 0x40C, rw := 0xFFFF },
  { off := 0x410, rw := 0xFFFFFFFF },
  { off := 0x414, rw := 0xFFFFFF, reset := 0x320EC6 },
  { off := 0x418, rw := 0xFFFFFF3F },
  { off := 0x41C, rw := 0xFFFFFF3F },
  { off := 0x420, ro := 0xFFFFFFFF },
  { off := 0x424, rw := 0xFFFFFFFF, reset := 0x3E80032 },
  { off := 0x428, ro := 0xFFFFFFFF, reset := 0x101 },
  { off := 0x42C, ro := 0xFFFFFFFF, reset := 0x2 },
  { off := 0x430, ro := 0xFFFFFFFF },
  { off := 0x434, ro := 0xFFFFFFFF }]
/-- The rows of page 0x59. -/
def rows59 : List RegRow := [
  { off := 0x040, rw := 0x1F03FFFF, reset := 0x4000000 },
  { off := 0x044, rw := 0xFFFFFFFF, reset := 0x7FFF8000 },
  { off := 0x048, ro := 0xFFFFFFFF },
  { off := 0x04C, w1c := 0x4, ro := 0x3 }]
/-- The rows of page 0x5A. -/
def rows5A : List RegRow := [
  { off := 0x040, rw := 0xFF03FF, reset := 0x1901F4 },
  { off := 0x044, w1c := 0xF },
  { off := 0x048, ro := 0xFFFFFFFF },
  { off := 0x04C, ro := 0xFFFFFFFF, reset := 0xFFFF },
  { off := 0x050, w1c := 0xFFFF },
  { off := 0x400, rw := 0x831FF7FF, reset := 0x2034064 },
  { off := 0x404, ro := 0xFFFFFFFF },
  { off := 0x408, wo := 0x1 },
  { off := 0x40C, rc := 0xFFFFFFFF }]
/-- The rows of page 0x5C. -/
def rows5C : List RegRow := [
  { off := 0x040, ro := 0xFFFFFFFF },
  { off := 0x044, ro := 0xFFFFFFFF },
  { off := 0x048, w1c := 0xFF },
  { off := 0x04C, rw := 0x1FFFFFF, reset := 0xC8000A },
  { off := 0x400, rw := 0x8300FFFF },
  { off := 0x404, rw := 0x1, wo := 0x100 },
  { off := 0x408, ro := 0xFFFFFFFF }]
/-- The rows of page 0x5E. -/
def rows5E : List RegRow := [
  { off := 0x040, rw := 0xFFFFFFF },
  { off := 0x044, rw := 0xFFFFFFFF },
  { off := 0x048, rw := 0xFFFF },
  { off := 0x04C, w1c := 0xFF },
  { off := 0x400, rw := 0x80FFFFFF, reset := 0x50000 },
  { off := 0x404, rw := 0xFFFFFFFF },
  { off := 0x408, rw := 0x3FFF3FF, reset := 0xA4014 },
  { off := 0x40C, rw := 0xFFFF },
  { off := 0x410, ro := 0xFFFFFFFF },
  { off := 0x414, ro := 0xFFFFFFFF },
  { off := 0x418, ro := 0xFFFFFFFF },
  { off := 0x41C, ro := 0xFFFFFFFF },
  { off := 0x420, ro := 0xFFFFFFFF },
  { off := 0x424, rc := 0xFFFFFFFF },
  { off := 0x428, ro := 0xFFFFFFFF },
  { off := 0x42C, ro := 0xFFFFFFFF }]
/-- The rows of page 0x60. -/
def rows60 : List RegRow := [
  { off := 0x040, w1c := 0xFFFFFFFF },
  { off := 0x044, w1c := 0xFFFFFFFF },
  { off := 0x048, ro := 0xFFFFFFFF },
  { off := 0x04C, ro := 0xFFFFFFFF },
  { off := 0x050, w1c := 0x300, ro := 0xFF },
  { off := 0x054, ro := 0xFFFFFFFF },
  { off := 0x080, count := 10, ro := 0xFFFFFFFF },
  { off := 0x400, rw := 0xC31FFFFF, reset := 0x1F0D6B },
  { off := 0x404, rw := 0xFFFFF, reset := 0x2710 },
  { off := 0x408, rw := 0xFFFFFFFF, reset := 0x87FF8223 },
  { off := 0x40C, rw := 0xFFFFFFFF, reset := 0x8BE7860B },
  { off := 0x410, rw := 0xFFFFFFFF, reset := 0x14147E3B },
  { off := 0x414, rw := 0xFFFF },
  { off := 0x418, ro := 0xFFFFFFFF },
  { off := 0x41C, w1c := 0x30000, ro := 0x3FF },
  { off := 0x420, ro := 0xFFFFFFFF },
  { off := 0x424, ro := 0xFFFFFFFF }]
/-- The rows of page 0x61. -/
def rows61 : List RegRow := [
  { off := 0x400, count := 4, stride := 0x8, rw := 0x9F1F0000 },
  { off := 0x404, count := 4, stride := 0x8, rw := 0xFFFFFFFF },
  { off := 0x420, rw := 0xFFF, reset := 0x314 },
  { off := 0x424, ro := 0xFFFFFFFF }]
/-- The rows of page 0x62. -/
def rows62 : List RegRow := [
  { off := 0x400, rw := 0xFFFFFFFF },
  { off := 0x404, rw := 0xFFFFFF3F },
  { off := 0x408, rw := 0xFFFFFF3F },
  { off := 0x40C, rw := 0xFFFFFFFF, reset := 0x271007D0 },
  { off := 0x410, ro := 0xFFFFFFFF },
  { off := 0x414, w1c := 0xC0000, ro := 0x1F03FFFF, reset := 0x1F000000 },
  { off := 0x418, wo := 0x1 }]
/-- The rows of page 0x63. -/
def rows63 : List RegRow := [
  { off := 0x400, rw := 0x9F10FFFF, reset := 0x64 },
  { off := 0x404, rw := 0xFFFFFFFF },
  { off := 0x408, rw := 0xFFFF03FF },
  { off := 0x40C, rw := 0xFFFFFFFF, reset := 0x7E3B766B },
  { off := 0x410, rw := 0xFFFFFF, reset := 0x1E6414 },
  { off := 0x414, ro := 0xFFFFFFFF },
  { off := 0x418, wo := 0x1 }]
/-- The rows of page 0x64. -/
def rows64 : List RegRow := [
  { off := 0x040, ro := 0xFFFFFFFF },
  { off := 0x044, ro := 0xFFFFFFFF },
  { off := 0x048, w1c := 0xFFFFFF },
  { off := 0x04C, ro := 0xFFFFFFFF },
  { off := 0x050, rc := 0xFFFFFFFF },
  { off := 0x400, rw := 0x811FFFFF, reset := 0x70432 },
  { off := 0x404, rw := 0xFFFFF, reset := 0x1388 },
  { off := 0x408, rw := 0xFF1FFFFF, reset := 0xA0A03E8 },
  { off := 0x40C, rw := 0xFFFFFFFF, reset := 0x1900320 },
  { off := 0x410, rw := 0xFFFFFFFF, reset := 0x506401F4 },
  { off := 0x414, rw := 0xFFFF, reset := 0xA54B },
  { off := 0x418, rw := 0xFFFFFFFF, reset := 0x640A1E },
  { off := 0x41C, rw := 0xFFFF, reset := 0x514 },
  { off := 0x420, rw := 0x3FF7F01, wo := 0xE0000000, reset := 0x646400 }]
/-- The rows of page 0x65. -/
def rows65 : List RegRow := [
  { off := 0x400, w1c := 0x5C00, ro := 0xFF0023FF },
  { off := 0x404, ro := 0xFFFFFFFF },
  { off := 0x408, ro := 0xFFFFFFFF },
  { off := 0x40C, ro := 0xFFFFFFFF },
  { off := 0x410, rc := 0xFFFF }]
/-- The rows of page 0x68. -/
def rows68 : List RegRow := [
  { off := 0x040, ro := 0xFFFFFFFF },
  { off := 0x400, rw := 0x80001F03 },
  { off := 0x404, rw := 0xFFFFFFFF },
  { off := 0x408, rw := 0xFFFF },
  { off := 0x40C, ro := 0xFFFFFFFF },
  { off := 0x410, rw := 0xFFFFFFF0 },
  { off := 0x414, rw := 0xFFFFFFF0 },
  { off := 0x418, rw := 0x3FF03FF },
  { off := 0x41C, wo := 0x1 },
  { off := 0x420, rc := 0xFFFFFFFF },
  { off := 0x424, wo := 0xFF01 }]
/-- The rows of page 0x69. -/
def rows69 : List RegRow := [
  { off := 0x400, count := 15, ro := 0xFFFFFFFF, reset := 0xFFFFFFFF }]
/-- The rows of page 0x6C. -/
def rows6C : List RegRow := [
  { off := 0x400, rw := 0x80FF0113, reset := 0x30001 },
  { off := 0x404, rw := 0xC3FF07FF, reset := 0x3E8 },
  { off := 0x408, w1c := 0x200, ro := 0x1FF, reset := 0x77 },
  { off := 0x40C, ro := 0xFFFFFFFF },
  { off := 0x410, ro := 0xFFFFFFFF },
  { off := 0x414, ro := 0xFFFFFFFF },
  { off := 0x418, ro := 0xFFFFFFFF },
  { off := 0x41C, rc := 0xFFFFFFFF }]
/-- The rows of page 0x6D. -/
def rows6D : List RegRow := [
  { off := 0x040, count := 2, stride := 0x20, rw := 0xFFFFFFFF, reset := 0x32C82AF8 },
  { off := 0x044, count := 2, stride := 0x20, rw := 0xFFFFFFFF, reset := 0x27101F40 },
  { off := 0x048, count := 2, stride := 0x20, rw := 0xFFFFFFFF, reset := 0x1B581388 },
  { off := 0x04C, count := 2, stride := 0x20, rw := 0xFFFFFFFF, reset := 0xFA007D0 },
  { off := 0x050, count := 2, stride := 0x20, rw := 0xFFFFFFFF, reset := 0x3E8FC18 },
  { off := 0x054, count := 2, stride := 0x20, rw := 0xFFFFFFFF, reset := 0xD508CD38 },
  { off := 0x058, count := 2, stride := 0x20, rw := 0xFFFFFFFF, reset := 0xD508CD38 }]
/-- The rows of page 0x6E. -/
def rows6E : List RegRow := [
  { off := 0x040, ro := 0xFFFFFFFF },
  { off := 0x044, w1c := 0xFFFF },
  { off := 0x400, rw := 0xF110FFFF },
  { off := 0x404, rw := 0xFFFFFF7F, reset := 0x3E007E1F },
  { off := 0x408, rw := 0xFFFF1F0F, reset := 0xA0701E07 },
  { off := 0x40C, w1c := 0x3000000, ro := 0xFFFF03 },
  { off := 0x410, wo := 0x331 },
  { off := 0x414, ro := 0xFFFFFFFF },
  { off := 0x418, w1c := 0x100000, ro := 0x3FFFF },
  { off := 0x41C, rc := 0xFFFFFFFF },
  { off := 0x420, ro := 0xFFFFFFFF }]
/-- The rows of page 0x6F. -/
def rows6F : List RegRow := [
  { off := 0x400, count := 64, stride := 0x8, rw := 0xFFFFFFFF },
  { off := 0x404, count := 64, stride := 0x8, rw := 0x9FFFFFFF }]
/-- The rows of page 0x70. -/
def rows70 : List RegRow := [
  { off := 0x400, count := 16, stride := 0x80, w1c := 0x3, ro := 0xFF00 },
  { off := 0x404, count := 16, stride := 0x80, ro := 0xFFFFFFFF },
  { off := 0x408, count := 16, stride := 0x80, ro := 0xFFFFFFFF },
  { off := 0x40C, count := 16, stride := 0x80, ro := 0xFFFFFFFF },
  { off := 0x410, count := 16, stride := 0x80, ro := 0xFFFFFFFF },
  { off := 0x420, count := 16, stride := 0x80, words := 16, ro := 0xFFFFFFFF }]
/-- The rows of page 0x71. -/
def rows71 : List RegRow := [
  { off := 0x400, rw := 0x9FFFFFFF, banked := true },
  { off := 0x404, rw := 0x30F, banked := true },
  { off := 0x420, count := 16, rw := 0xFFFFFFFF, banked := true },
  { off := 0x460, wo := 0x3 }]
/-- The rows of page 0x72. -/
def rows72 : List RegRow := [
  { off := 0x040, rw := 0x7, reset := 0x7 },
  { off := 0x044, count := 3, rw := 0xFFFF },
  { off := 0x050, count := 3, stride := 0x8, ro := 0xFFFFFFFF },
  { off := 0x054, count := 3, stride := 0x8, ro := 0xFFFFFFFF },
  { off := 0x068, ro := 0xFFFFFFFF },
  { off := 0x400, rw := 0x811FFFFF },
  { off := 0x404, rw := 0x7FF3FFF, reset := 0x1F40BB8 },
  { off := 0x408, rw := 0xFF0F0F00, reset := 0x10020300 },
  { off := 0x40C, w1c := 0x200, ro := 0xFFFF05FF },
  { off := 0x410, rc := 0xFFFFFFFF }]
/-- The rows of page 0x73. -/
def rows73 : List RegRow := [
  { off := 0x400, rw := 0x80FF0103, reset := 0x1 },
  { off := 0x404, rw := 0xF001F, reset := 0x4000F },
  { off := 0x408, w1c := 0xF0, ro := 0xFFFFFF0F },
  { off := 0x40C, wo := 0x7F0011 },
  { off := 0x410, ro := 0xFFFFFFFF },
  { off := 0x414, rc := 0xFFFFFFFF },
  { off := 0x418, ro := 0xFFFFFFFF },
  { off := 0x41C, ro := 0xFFFFFFFF },
  { off := 0x420, count := 16, rw := 0xFFFFFFFF },
  { off := 0x460, count := 16, ro := 0xFFFFFFFF },
  { off := 0x4A0, ro := 0xFFFFFFFF },
  { off := 0x4A4, ro := 0xFFFFFFFF }]
/-- The rows of page 0x74. -/
def rows74 : List RegRow := [
  { off := 0x400, rw := 0x81013100 },
  { off := 0x404, rw := 0xFFFFFF, reset := 0x2580 },
  { off := 0x408, rw := 0xFFFF, reset := 0x101 },
  { off := 0x40C, rw := 0xFF, reset := 0x7 },
  { off := 0x410, wo := 0xFF },
  { off := 0x414, ro := 0xFFFFFFFF },
  { off := 0x418, w1c := 0x20000, ro := 0x5FFFF }]
/-- The rows of page 0x75. -/
def rows75 : List RegRow := [
  { off := 0x040, rw := 0x8113FFFF, reset := 0x101F4 },
  { off := 0x044, wo := 0x1 },
  { off := 0x048, w1c := 0x60000, ro := 0x1FFFF, reset := 0x7000 },
  { off := 0x04C, ro := 0xFFFFFFFF, reset := 0x1 },
  { off := 0x050, ro := 0xFFFFFFFF },
  { off := 0x054, ro := 0xFFFFFFFF },
  { off := 0x058, rc := 0xFFFFFFFF },
  { off := 0x05C, rc := 0xFFFFFFFF },
  { off := 0x060, ro := 0xFFFFFFFF },
  { off := 0x064, rw := 0xFFFFFFFF, reset := 0xFFFFFFFF },
  { off := 0x068, rw := 0xFF },
  { off := 0x06C, rw := 0x1FFFFF, reset := 0xF },
  { off := 0x070, ro := 0xFFFFFFFF, reset := 0xFFFF }]
/-- The rows of page 0x78. -/
def rows78 : List RegRow := [
  { off := 0x400, rw := 0xB1100000 },
  { off := 0x404, rw := 0xFFFFFFFF },
  { off := 0x408, rw := 0xFFFF },
  { off := 0x40C, w1c := 0x300, ro := 0x7 },
  { off := 0x410, rw := 0xFFFF, reset := 0xFA50 },
  { off := 0x414, rw := 0xFFFFFFFF },
  { off := 0x418, rw := 0xFFFFFFFF },
  { off := 0x41C, rw := 0xFFFF0003, reset := 0x1 },
  { off := 0x420, rc := 0xFFFFFFFF }]
/-- The rows of page 0x79. -/
def rows79 : List RegRow := [
  { off := 0x400, rw := 0xFFFFFFF0 },
  { off := 0x404, rw := 0xFFFFFFF0 },
  { off := 0x408, rw := 0x3FF03FF },
  { off := 0x40C, wo := 0x1 }]

/-- The rows of a page at offsets 0x040-0xFFF; a page with none holds only its common registers. -/
def pageRows : Nat → List RegRow
  | 0x00 => rows00
  | 0x01 => rows01
  | 0x02 => rows02
  | 0x03 => rows03
  | 0x04 => rows04
  | 0x05 => rows05
  | 0x06 => rows06
  | 0x07 => rows07
  | 0x08 => rows08
  | 0x09 => rows09
  | 0x0A => rows0A
  | 0x0B => rows0B
  | 0x10 => rows10
  | 0x11 => rows11
  | 0x12 => rows12
  | 0x13 => rows13
  | 0x18 => rows18
  | 0x19 => rows19
  | 0x1A => rows1A
  | 0x1B => rows1B
  | 0x1C => rows1C
  | 0x1D => rows1D
  | 0x1E => rows1E
  | 0x1F => rows1F
  | 0x20 => rows20
  | 0x21 => rows21
  | 0x22 => rows22
  | 0x24 => rows24
  | 0x25 => rows25
  | 0x26 => rows26
  | 0x27 => rows27
  | 0x28 => rows28
  | 0x29 => rows29
  | 0x2A => rows2A
  | 0x2B => rows2B
  | 0x38 => rows38
  | 0x39 => rows39
  | 0x3A => rows3A
  | 0x3C => rows3C
  | 0x3D => rows3D
  | 0x3E => rows3E
  | 0x3F => rows3F
  | 0x40 => rows40
  | 0x41 => rows41
  | 0x42 => rows42
  | 0x43 => rows43
  | 0x44 => rows44
  | 0x45 => rows45
  | 0x46 => rows46
  | 0x47 => rows47
  | 0x48 => rows48
  | 0x49 => rows49
  | 0x4A => rows4A
  | 0x4B => rows4B
  | 0x50 => rows50
  | 0x51 => rows51
  | 0x52 => rows52
  | 0x53 => rows53
  | 0x54 => rows54
  | 0x55 => rows55
  | 0x56 => rows56
  | 0x58 => rows58
  | 0x59 => rows59
  | 0x5A => rows5A
  | 0x5C => rows5C
  | 0x5E => rows5E
  | 0x60 => rows60
  | 0x61 => rows61
  | 0x62 => rows62
  | 0x63 => rows63
  | 0x64 => rows64
  | 0x65 => rows65
  | 0x68 => rows68
  | 0x69 => rows69
  | 0x6C => rows6C
  | 0x6D => rows6D
  | 0x6E => rows6E
  | 0x6F => rows6F
  | 0x70 => rows70
  | 0x71 => rows71
  | 0x72 => rows72
  | 0x73 => rows73
  | 0x74 => rows74
  | 0x75 => rows75
  | 0x78 => rows78
  | 0x79 => rows79
  | _ => []

/-- Table 2.3 with the window of each page: block code, index in the block, island, instances on the PX4840, PX4824 and
PX4812 (none: no channel window), BLK_CAP.FEAT. -/
def pageInfo : Nat → Option PageInfo
  | 0x00 => some ⟨0x01, 0x0, .aon, none, none, none, 0x0, 0x0, 0x0⟩
  | 0x01 => some ⟨0x02, 0x0, .aon, some 10, some 10, some 10, 0x0, 0x0, 0x0⟩
  | 0x02 => some ⟨0x03, 0x0, .aon, none, none, none, 0x0, 0x0, 0x0⟩
  | 0x03 => some ⟨0x04, 0x0, .aon, none, none, none, 0x0, 0x0, 0x0⟩
  | 0x04 => some ⟨0x05, 0x0, .aon, some 10, some 10, some 10, 0x0, 0x0, 0x0⟩
  | 0x05 => some ⟨0x06, 0x0, .aon, some 10, some 10, some 10, 0x0, 0x0, 0x0⟩
  | 0x06 => some ⟨0x07, 0x0, .control, none, none, none, 0x0, 0x0, 0x0⟩
  | 0x07 => some ⟨0x08, 0x0, .aon, none, none, none, 0x0, 0x0, 0x0⟩
  | 0x08 => some ⟨0x08, 0x1, .aon, none, none, none, 0x0, 0x0, 0x0⟩
  | 0x09 => some ⟨0x09, 0x0, .compute, none, none, none, 0x0, 0x0, 0x0⟩
  | 0x0A => some ⟨0x0A, 0x0, .aon, none, none, none, 0x0, 0x0, 0x0⟩
  | 0x0B => some ⟨0x0B, 0x0, .aon, none, none, none, 0x0, 0x0, 0x0⟩
  | 0x10 => some ⟨0x0C, 0x0, .key, none, none, none, 0x0, 0x0, 0x0⟩
  | 0x11 => some ⟨0x0D, 0x0, .key, some 256, some 256, some 256, 0x0, 0x0, 0x0⟩
  | 0x12 => some ⟨0x0D, 0x1, .key, none, none, none, 0x0, 0x0, 0x0⟩
  | 0x13 => some ⟨0x0E, 0x0, .key, none, none, none, 0x0, 0x0, 0x0⟩
  | 0x18 => some ⟨0x0F, 0x0, .compute, none, none, none, 0x0, 0x0, 0x0⟩
  | 0x19 => some ⟨0x0F, 0x1, .compute, some 8, some 8, some 8, 0x0, 0x0, 0x0⟩
  | 0x1A => some ⟨0x10, 0x0, .compute, none, none, none, 0x0, 0x0, 0x0⟩
  | 0x1B => some ⟨0x11, 0x0, .compute, none, none, none, 0x0, 0x0, 0x0⟩
  | 0x1C => some ⟨0x12, 0x0, .compute, none, none, none, 0x0, 0x0, 0x0⟩
  | 0x1D => some ⟨0x12, 0x1, .compute, none, none, none, 0x0, 0x0, 0x0⟩
  | 0x1E => some ⟨0x13, 0x0, .compute, some 8, some 8, some 8, 0x0, 0x0, 0x0⟩
  | 0x1F => some ⟨0x13, 0x1, .compute, some 8, some 8, some 8, 0x0, 0x0, 0x0⟩
  | 0x20 => some ⟨0x14, 0x0, .control, some 40, some 24, some 16, 0xF, 0x7, 0x3⟩
  | 0x21 => some ⟨0x14, 0x1, .control, none, none, none, 0x0, 0x0, 0x0⟩
  | 0x22 => some ⟨0x14, 0x2, .control, none, none, none, 0x0, 0x0, 0x0⟩
  | 0x23 => some ⟨0x14, 0x3, .control, none, none, none, 0x0, 0x0, 0x0⟩
  | 0x24 => some ⟨0x15, 0x0, .control, some 8, some 4, some 1, 0x0, 0x0, 0x0⟩
  | 0x25 => some ⟨0x15, 0x1, .control, some 64, some 32, some 8, 0x0, 0x0, 0x0⟩
  | 0x26 => some ⟨0x15, 0x2, .control, some 8, some 4, some 1, 0x0, 0x0, 0x0⟩
  | 0x27 => some ⟨0x15, 0x3, .control, some 8, some 4, some 1, 0x0, 0x0, 0x0⟩
  | 0x28 => some ⟨0x16, 0x0, .control, some 128, some 64, some 32, 0x0, 0x0, 0x0⟩
  | 0x29 => some ⟨0x16, 0x1, .control, none, none, none, 0x0, 0x0, 0x0⟩
  | 0x2A => some ⟨0x16, 0x2, .control, some 32, some 32, some 32, 0x0, 0x0, 0x0⟩
  | 0x2B => some ⟨0x16, 0x3, .control, some 32, some 32, some 32, 0x0, 0x0, 0x0⟩
  | 0x2C => some ⟨0x16, 0x4, .control, none, none, none, 0x0, 0x0, 0x0⟩
  | 0x2D => some ⟨0x16, 0x5, .control, none, none, none, 0x0, 0x0, 0x0⟩
  | 0x2E => some ⟨0x16, 0x6, .control, none, none, none, 0x0, 0x0, 0x0⟩
  | 0x2F => some ⟨0x16, 0x7, .control, none, none, none, 0x0, 0x0, 0x0⟩
  | 0x30 => some ⟨0x16, 0x8, .control, none, none, none, 0x0, 0x0, 0x0⟩
  | 0x31 => some ⟨0x16, 0x9, .control, none, none, none, 0x0, 0x0, 0x0⟩
  | 0x32 => some ⟨0x16, 0xA, .control, none, none, none, 0x0, 0x0, 0x0⟩
  | 0x33 => some ⟨0x16, 0xB, .control, none, none, none, 0x0, 0x0, 0x0⟩
  | 0x34 => some ⟨0x16, 0xC, .control, none, none, none, 0x0, 0x0, 0x0⟩
  | 0x35 => some ⟨0x16, 0xD, .control, none, none, none, 0x0, 0x0, 0x0⟩
  | 0x36 => some ⟨0x16, 0xE, .control, none, none, none, 0x0, 0x0, 0x0⟩
  | 0x37 => some ⟨0x16, 0xF, .control, none, none, none, 0x0, 0x0, 0x0⟩
  | 0x38 => some ⟨0x17, 0x0, .control, some 16, some 8, some 4, 0x0, 0x0, 0x0⟩
  | 0x39 => some ⟨0x17, 0x1, .control, none, none, none, 0x0, 0x0, 0x0⟩
  | 0x3A => some ⟨0x17, 0x2, .control, some 128, some 64, some 32, 0x0, 0x0, 0x0⟩
  | 0x3B => some ⟨0x17, 0x3, .control, none, none, none, 0x0, 0x0, 0x0⟩
  | 0x3C => some ⟨0x18, 0x0, .control, some 16, some 8, some 4, 0x0, 0x0, 0x0⟩
  | 0x3D => some ⟨0x18, 0x1, .control, none, none, none, 0x0, 0x0, 0x0⟩
  | 0x3E => some ⟨0x19, 0x0, .control, some 64, some 32, some 8, 0x0, 0x0, 0x0⟩
  | 0x3F => some ⟨0x19, 0x1, .control, some 8, some 8, some 8, 0x0, 0x0, 0x0⟩
  | 0x40 => some ⟨0x1A, 0x0, .acquisition, some 48, some 32, some 20, 0x1828, 0x1818, 0x410⟩
  | 0x41 => some ⟨0x1A, 0x1, .acquisition, some 4, some 4, some 1, 0x0, 0x0, 0x0⟩
  | 0x42 => some ⟨0x1A, 0x2, .acquisition, some 16, some 16, some 16, 0x0, 0x0, 0x0⟩
  | 0x43 => some ⟨0x1A, 0x3, .acquisition, some 16, some 16, some 16, 0x0, 0x0, 0x0⟩
  | 0x44 => some ⟨0x1A, 0x4, .acquisition, some 16, some 16, some 16, 0x0, 0x0, 0x0⟩
  | 0x45 => some ⟨0x1A, 0x5, .acquisition, some 16, some 16, some 16, 0x0, 0x0, 0x0⟩
  | 0x46 => some ⟨0x1A, 0x6, .acquisition, none, none, none, 0x0, 0x0, 0x0⟩
  | 0x47 => some ⟨0x1A, 0x7, .acquisition, none, none, none, 0x0, 0x0, 0x1⟩
  | 0x48 => some ⟨0x1B, 0x0, .metrology, some 17, some 9, some 5, 0x0, 0x0, 0x0⟩
  | 0x49 => some ⟨0x1B, 0x1, .metrology, some 17, some 9, some 5, 0x0, 0x0, 0x0⟩
  | 0x4A => some ⟨0x1B, 0x2, .metrology, some 4, some 4, some 4, 0x0, 0x0, 0x0⟩
  | 0x4B => some ⟨0x1B, 0x3, .metrology, none, none, none, 0x1, 0x0, 0x0⟩
  | 0x4C => some ⟨0x1B, 0x4, .metrology, none, none, none, 0x0, 0x0, 0x0⟩
  | 0x4D => some ⟨0x1B, 0x5, .metrology, none, none, none, 0x0, 0x0, 0x0⟩
  | 0x4E => some ⟨0x1B, 0x6, .metrology, none, none, none, 0x0, 0x0, 0x0⟩
  | 0x4F => some ⟨0x1B, 0x7, .metrology, none, none, none, 0x0, 0x0, 0x0⟩
  | 0x50 => some ⟨0x1C, 0x0, .metrology, some 17, some 9, some 5, 0x0, 0x0, 0x0⟩
  | 0x51 => some ⟨0x1C, 0x1, .metrology, some 32, some 32, some 32, 0x0, 0x0, 0x0⟩
  | 0x52 => some ⟨0x1C, 0x2, .metrology, some 17, some 9, some 5, 0x0, 0x0, 0x0⟩
  | 0x53 => some ⟨0x1C, 0x3, .metrology, some 17, some 9, some 5, 0x0, 0x0, 0x0⟩
  | 0x54 => some ⟨0x1C, 0x4, .metrology, some 17, some 9, some 5, 0x0, 0x0, 0x0⟩
  | 0x55 => some ⟨0x1C, 0x5, .metrology, some 16, some 8, some 4, 0x0, 0x0, 0x0⟩
  | 0x56 => some ⟨0x1C, 0x6, .metrology, none, none, none, 0x0, 0x0, 0x0⟩
  | 0x57 => some ⟨0x1C, 0x7, .metrology, none, none, none, 0x0, 0x0, 0x0⟩
  | 0x58 => some ⟨0x1D, 0x0, .safety, some 16, some 8, some 4, 0x0, 0x0, 0x0⟩
  | 0x59 => some ⟨0x1D, 0x1, .safety, none, none, none, 0x0, 0x0, 0x0⟩
  | 0x5A => some ⟨0x1E, 0x0, .safety, some 16, some 12, some 8, 0x0, 0x0, 0x0⟩
  | 0x5B => some ⟨0x1E, 0x1, .safety, none, none, none, 0x0, 0x0, 0x0⟩
  | 0x5C => some ⟨0x1F, 0x0, .safety, some 8, some 6, some 4, 0x0, 0x0, 0x0⟩
  | 0x5D => some ⟨0x1F, 0x1, .safety, none, none, none, 0x0, 0x0, 0x0⟩
  | 0x5E => some ⟨0x20, 0x0, .safety, some 8, some 4, some 1, 0x0, 0x0, 0x0⟩
  | 0x5F => some ⟨0x20, 0x1, .safety, none, none, none, 0x0, 0x0, 0x0⟩
  | 0x60 => some ⟨0x21, 0x0, .pstage, some 32, some 24, some 12, 0x0, 0x0, 0x0⟩
  | 0x61 => some ⟨0x21, 0x1, .pstage, some 16, some 16, some 16, 0x0, 0x0, 0x0⟩
  | 0x62 => some ⟨0x21, 0x2, .pstage, some 16, some 8, some 4, 0x0, 0x0, 0x0⟩
  | 0x63 => some ⟨0x21, 0x3, .pstage, some 8, some 8, some 8, 0x0, 0x0, 0x0⟩
  | 0x64 => some ⟨0x22, 0x0, .pstage, some 24, some 16, some 8, 0x1, 0x0, 0x0⟩
  | 0x65 => some ⟨0x22, 0x1, .pstage, some 24, some 16, some 8, 0x0, 0x0, 0x0⟩
  | 0x66 => some ⟨0x22, 0x2, .pstage, none, none, none, 0x0, 0x0, 0x0⟩
  | 0x67 => some ⟨0x22, 0x3, .pstage, none, none, none, 0x0, 0x0, 0x0⟩
  | 0x68 => some ⟨0x23, 0x0, .link, some 16, some 8, some 4, 0x0, 0x0, 0x0⟩
  | 0x69 => some ⟨0x23, 0x1, .link, some 16, some 8, some 4, 0x0, 0x0, 0x0⟩
  | 0x6A => some ⟨0x23, 0x2, .link, none, none, none, 0x0, 0x0, 0x0⟩
  | 0x6B => some ⟨0x23, 0x3, .link, none, none, none, 0x0, 0x0, 0x0⟩
  | 0x6C => some ⟨0x24, 0x0, .link, some 16, some 8, some 4, 0x0, 0x0, 0x0⟩
  | 0x6D => some ⟨0x24, 0x1, .link, none, none, none, 0x0, 0x0, 0x0⟩
  | 0x6E => some ⟨0x25, 0x0, .link, some 16, some 8, some 6, 0x0, 0x0, 0x0⟩
  | 0x6F => some ⟨0x25, 0x1, .link, some 16, some 8, some 6, 0x0, 0x0, 0x0⟩
  | 0x70 => some ⟨0x25, 0x2, .link, some 64, some 32, some 24, 0x0, 0x0, 0x0⟩
  | 0x71 => some ⟨0x25, 0x3, .link, some 16, some 8, some 6, 0x0, 0x0, 0x0⟩
  | 0x72 => some ⟨0x26, 0x0, .link, some 2, some 1, none, 0x0, 0x0, 0x0⟩
  | 0x73 => some ⟨0x26, 0x1, .link, some 64, some 32, none, 0x0, 0x0, 0x0⟩
  | 0x74 => some ⟨0x27, 0x0, .link, some 4, some 4, some 2, 0x0, 0x0, 0x0⟩
  | 0x75 => some ⟨0x28, 0x0, .link, none, none, none, 0x0, 0x0, 0x0⟩
  | 0x78 => some ⟨0x29, 0x0, .compute, some 4, some 4, some 2, 0x0, 0x0, 0x0⟩
  | 0x79 => some ⟨0x29, 0x1, .compute, some 16, some 16, some 8, 0x0, 0x0, 0x0⟩
  | _ => none

end Sys2Proof.Machine
end

