-- ==== Sys2Proof/Machine/Ops.lean ====
section
/-! DEFINITION. The named operations every meaning is written in: sparse tables, bit fields, memory, the register file,
time, and the presence of pages, instances and islands. -/
namespace Sys2Proof.Machine

/-! ### Sparse tables -/

/-- The value at a key; an unlisted key reads as the default. -/
def kvGet {α : Type} (m : KV α) (k : Nat) (d : α) : α :=
  match m with
  | [] => d
  | (k', v) :: r => if k' = k then v else kvGet r k d

/-- List a value at its place in key order, replacing what the key held. -/
def kvPut {α : Type} (m : KV α) (k : Nat) (v : α) : KV α :=
  match m with
  | [] => [(k, v)]
  | (k', v') :: r =>
    if k < k' then (k, v) :: (k', v') :: r
    else if k = k' then (k, v) :: r
    else (k', v') :: kvPut r k v

/-- Remove a key. -/
def kvDel {α : Type} (m : KV α) (k : Nat) : KV α :=
  match m with
  | [] => []
  | (k', v') :: r => if k' = k then kvDel r k else (k', v') :: kvDel r k

/-- Write a key: the default value is not listed. -/
def kvSet {α : Type} [DecidableEq α] (m : KV α) (k : Nat) (v d : α) : KV α :=
  if v = d then kvDel m k else kvPut m k v

/-- Apply a function to the value at a key. -/
def kvMod {α : Type} [DecidableEq α] (m : KV α) (k : Nat) (d : α) (f : α → α) : KV α :=
  kvSet m k (f (kvGet m k d)) d

/-- Keys strictly rising: the canonical order. -/
def kvSorted {α : Type} : KV α → Bool
  | [] => true
  | [_] => true
  | (a, _) :: (b, y) :: r => decide (a < b) && kvSorted ((b, y) :: r)

/-! ### Bit fields -/

/-- Bits hi:lo of a word as a number. -/
def bits (w : Word) (hi lo : Nat) : Nat := (w.toNat >>> lo) % 2 ^ (hi + 1 - lo)

/-- Bit n of a word. -/
def bitOf (w : Word) (n : Nat) : Bool := w.toNat.testBit n

/-- The mask of bits hi:lo. -/
def maskOf (hi lo : Nat) : Word := w32 ((2 ^ (hi + 1 - lo) - 1) <<< lo)

/-- A word with bits hi:lo replaced. -/
def putBits (w : Word) (hi lo v : Nat) : Word :=
  (w &&& ~~~(maskOf hi lo)) ||| w32 ((v % 2 ^ (hi + 1 - lo)) <<< lo)

/-- A word with bit n set or cleared. -/
def putBit (w : Word) (n : Nat) (b : Bool) : Word :=
  if b then w ||| w32 (1 <<< n) else w &&& ~~~(w32 (1 <<< n))

/-- The number of a bit. -/
abbrev b2n (b : Bool) : Nat := if b then 1 else 0

/-- A field read as a two's complement number of n bits. -/
def sext (v n : Nat) : Int := if v % 2 ^ n < 2 ^ (n - 1) then (v % 2 ^ n : Nat) else (v % 2 ^ n : Nat) - (2 ^ n : Nat)

/-- The n-bit two's complement field of an integer. -/
def twos (i : Int) (n : Nat) : Nat := (i % (2 ^ n : Nat)).toNat

/-- An integer held to an interval. -/
def clampI (x lo hi : Int) : Int := if x < lo then lo else if hi < x then hi else x

/-- A number held to an interval. -/
def clampN (x lo hi : Nat) : Nat := if x < lo then lo else if hi < x then hi else x

/-- The bits of a mask below n, in rising order. -/
def maskList (m n : Nat) : List Nat := (List.range n).filter (fun i => m.testBit i)

/-! ### Bytes -/

/-- The n low bytes of a number, least significant first. -/
def leBytes (n v : Nat) : List Byte := (List.range n).map (fun i => w8 (v >>> (8 * i)))

/-- The number that bytes spell, least significant first. -/
def leNat : List Byte → Nat
  | [] => 0
  | b :: r => b.toNat + 256 * leNat r

/-- The number that bytes spell, most significant first. -/
def beNat (l : List Byte) : Nat := leNat l.reverse

/-- The n low bytes of a number, most significant first. -/
def beBytes (n v : Nat) : List Byte := (leBytes n v).reverse

/-- Bytes from i on, n of them, zero where the list has ended. -/
def slice (l : List Byte) (i n : Nat) : List Byte := (List.range n).map (fun k => l.getD (i + k) 0)

/-- The little-endian number in n bytes from i on. -/
def leAt (l : List Byte) (i n : Nat) : Nat := leNat (slice l i n)

/-- Serial-number order over 2^32: a is newer than b (R324, R478). -/
def serialNewer (a b : Nat) : Bool :=
  let x := (a + 2 ^ 32 - b % 2 ^ 32) % 2 ^ 32
  decide (1 ≤ x) && decide (x < 2 ^ 31)

/-! ### Memory -/

/-- One byte of the address map (Table 2.1). The boot ROM is fixed; a byte that nothing has written reads 0. -/
def memByte (m : KV Byte) (a : Nat) : Byte := if a < 0x10000 then Config.bootRom a else kvGet m a 0

/-- Write one byte; the boot ROM keeps its contents. -/
def memPut (m : KV Byte) (a : Nat) (b : Byte) : KV Byte := if a < 0x10000 then m else kvSet m a b 0

/-- n bytes from an address on. -/
def memRead (m : KV Byte) (a n : Nat) : List Byte := (List.range n).map (fun i => memByte m (a + i))

/-- Write bytes from an address on, in rising order. -/
def memWrite (m : KV Byte) (a : Nat) : List Byte → KV Byte
  | [] => m
  | b :: r => memWrite (memPut m a b) (a + 1) r

/-- The little-endian number in n bytes of memory. -/
def memNat (m : KV Byte) (a n : Nat) : Nat := leNat (memRead m a n)

/-- Wipe every byte in a range to zero. -/
def memWipe (m : KV Byte) (lo hi : Nat) : KV Byte := m.filter (fun p => decide (p.1 < lo) || decide (hi ≤ p.1))

/-- The canonical form of memory: addresses strictly rising, no zero listed, the boot ROM not listed. -/
def memWf (m : KV Byte) : Bool := kvSorted m && m.all (fun p => decide (p.2 ≠ 0) && decide (0x10000 ≤ p.1))

/-! ### The register file -/

/-- The key of a register's instance i and initiator bank b. -/
def Reg.key (r : Reg) (i b : Nat) : Nat := ((r.page * 4096 + r.off) * 256 + i) * 16 + b

/-- The page of a key. -/
def keyPage (k : Nat) : Nat := k / (4096 * 4096)

/-- The byte offset of a key. -/
def keyOff (k : Nat) : Nat := k / 4096 % 4096

/-- The bank of a key. -/
def keyBank (k : Nat) : Nat := k % 16

/-- A banked register: instance i, bank b. -/
def Dev.rdB (d : Dev) (r : Reg) (i b : Nat) : Word := kvGet d.regs (r.key i b) r.reset

/-- Write a banked register. -/
def Dev.wrB (d : Dev) (r : Reg) (i b : Nat) (v : Word) : Dev :=
  { d with regs := kvSet d.regs (r.key i b) v r.reset }

/-- A register of instance i (0 outside a channel window). -/
def Dev.rd (d : Dev) (r : Reg) (i : Nat) : Word := d.rdB r i 0

/-- Write a register of instance i. -/
def Dev.wr (d : Dev) (r : Reg) (i : Nat) (v : Word) : Dev := d.wrB r i 0 v

/-- Bits hi:lo of a register. -/
def Dev.fld (d : Dev) (r : Reg) (i hi lo : Nat) : Nat := bits (d.rd r i) hi lo

/-- Write bits hi:lo of a register. -/
def Dev.setFld (d : Dev) (r : Reg) (i hi lo v : Nat) : Dev := d.wr r i (putBits (d.rd r i) hi lo v)

/-- Bit n of a register. -/
def Dev.bit (d : Dev) (r : Reg) (i n : Nat) : Bool := bitOf (d.rd r i) n

/-- Set or clear bit n of a register. -/
def Dev.setBit (d : Dev) (r : Reg) (i n : Nat) (b : Bool) : Dev := d.wr r i (putBit (d.rd r i) n b)

/-- Count up bits hi:lo of a register, saturating. -/
def Dev.incFld (d : Dev) (r : Reg) (i hi lo : Nat) : Dev :=
  d.setFld r i hi lo (min (d.fld r i hi lo + 1) (2 ^ (hi + 1 - lo) - 1))

/-- Count up a whole register, saturating. -/
def Dev.inc (d : Dev) (r : Reg) (i : Nat) : Dev := d.incFld r i 31 0

/-- A banked register of initiator b. -/
def Dev.rdI (d : Dev) (r : Reg) (b : Initiator) : Word := d.rdB r 0 b.id

/-- Write a banked register of initiator b. -/
def Dev.wrI (d : Dev) (r : Reg) (b : Initiator) (v : Word) : Dev := d.wrB r 0 b.id v

/-- Do f only where c holds. -/
def Dev.when (d : Dev) (c : Bool) (f : Dev → Dev) : Dev := if c then f d else d

/-- Do f for every element in order. -/
def Dev.each {α : Type} (d : Dev) (l : List α) (f : α → Dev → Dev) : Dev := l.foldl (fun e x => f x e) d

/-- The timebase has reached t: T never runs back (R610). -/
def Dev.at (d : Dev) (t : Nat) : Dev := { d with time := max d.time t }

/-- The next free value of a rule, and the counter advanced. -/
def Dev.free (d : Dev) (tag : Nat) : Word × Dev := (Config.freeWord tag d.fresh, { d with fresh := d.fresh + 1 })

/-! ### The device with its memories -/

/-- A command's effect on everything but the memories. -/
def Sys.onDev (s : Sys) (f : Dev → Dev) : Sys := { s with dev := f s.dev }

/-- Store bytes from an address on; a damaged NVM word written whole is sound again (R68). -/
def Sys.store (s : Sys) (a : Nat) (l : List Byte) : Sys :=
  { s with mem := memWrite s.mem a l, bad := s.bad.filter (fun w => !(decide (a ≤ w) && decide (w + 4 ≤ a + l.length))) }

/-- Wipe a range of memory to zero. -/
def Sys.wipe (s : Sys) (lo hi : Nat) : Sys := { s with mem := memWipe s.mem lo hi }

/-- Blow fuses: a blown bit stays blown (R625). -/
def Sys.blow (s : Sys) (m : Nat) : Sys := { s with fuses := s.fuses ||| m }

/-- Do f only where c holds. -/
def Sys.when (s : Sys) (c : Bool) (f : Sys → Sys) : Sys := if c then f s else s

/-- Do f for every element in order. -/
def Sys.each {α : Type} (s : Sys) (l : List α) (f : α → Sys → Sys) : Sys := l.foldl (fun e x => f x e) s

/-- n bytes of memory. -/
def Sys.read (s : Sys) (a n : Nat) : List Byte := memRead s.mem a n

/-! ### Presence -/

/-- A page of Table 2.3 that this variant populates (R53, R54). -/
def pagePresent (v : Variant) (p : Nat) : Bool :=
  (pageInfo p).isSome &&
    !(decide (v = .px4812) && (decide (0x42 ≤ p ∧ p ≤ 0x45) || decide (p = 0x72 ∨ p = 0x73))) &&
    !(decide (v ≠ .px4840) && decide (p = 0x75))

/-- The instances of a page's channel window (BLK_CAP.INST), none where the page has no window. -/
def instCount (v : Variant) (p : Nat) : Option Nat :=
  match pageInfo p with
  | none => none
  | some q => match v with | .px4840 => q.inst40 | .px4824 => q.inst24 | .px4812 => q.inst12

/-- The island a page belongs to (Table 2.3); the coefficient window belongs to the control island. -/
def pageIsland (p : Nat) : Island :=
  match pageInfo p with
  | none => if 0x100 ≤ p then .control else .aon
  | some q => q.island

/-- RST_ISLSTAT of island d: 0 running, 1 restarting, 2 held off, 3 off in Standby. -/
def Dev.islStat (d : Dev) (x : Island) : Nat := d.fld RST_ISLSTAT 0 (2 * x.idx + 1) (2 * x.idx)

/-- An island runs. -/
def Dev.up (d : Dev) (x : Island) : Bool := decide (d.pwr.phase = .running) && decide (d.islStat x = 0)

/-- The present level, PWR_LEVEL.CUR (Table 1.9). -/
def Dev.level (d : Dev) : Level := Level.ofCode (d.fld PWR_LEVEL 0 1 0)

/-- The present profile, PWR_PROFILE.SEL (Table 1.8). -/
def Dev.profile (d : Dev) : Nat := d.fld PWR_PROFILE 0 1 0

/-- The seal is open to an initiator: in Unlocked to every one, in Broken to the metrology island (Table 9.8). -/
def Dev.sealOpen (d : Dev) (i : Initiator) : Bool :=
  decide (d.fld BIL_SEALSTAT 0 2 0 = 0) || (decide (d.fld BIL_SEALSTAT 0 2 0 = 2) && decide (i = .metrology))

end Sys2Proof.Machine
end

