-- ==== Sys2Proof/Machine/Sha2.lean ====
section
/-! DEFINITION. SHA-256, which the spec's digests and measurements name (R371, R378, R386, R658), and SHA-384 and SHA-512, which
the crypto engine computes beside it (R595): one hash over words of w bits (FIPS 180-4). Its constants are the fractions of roots
of the first primes, as the standard defines them. -/
namespace Sys2Proof.Machine

/-- A word of 64 bits. -/
abbrev W64 : Type := BitVec 64

/-! ### Constants -/

/-- The greatest x of at most b further bits with (acc + x) ^ k at most n: the digits of a k-th root, highest first. -/
def rootDigits (k n : Nat) : Nat → Nat → Nat
  | 0, acc => acc
  | b + 1, acc => rootDigits k n b (if (acc + 2 ^ b) ^ k ≤ n then acc + 2 ^ b else acc)

/-- The first 64 bits of the fraction of the k-th root of p, for a root below 32. -/
def rootFraction (k p : Nat) : Nat := rootDigits k (p * 2 ^ (64 * k)) 69 0 % 2 ^ 64

/-- The 80 primes below 410. -/
def shaPrimes : List Nat :=
  (List.range 410).filter (fun n => decide (2 ≤ n) && (List.range n).all (fun m => decide (m < 2) || decide (n % m ≠ 0)))

/-- The first w bits, of 64, of the fractions of roots of primes. -/
def shaWords (w k : Nat) (primes : List Nat) : List (BitVec w) :=
  primes.map (fun p => BitVec.ofNat w (rootFraction k p / 2 ^ (64 - w)))

/-! ### The compression -/

/-- What tells the hashes apart: the rounds, and the rotations of the four mixing functions; the last figure of the schedule's two is
a shift. -/
structure ShaShape where
  rounds : Nat
  mixA : Nat × Nat × Nat
  mixE : Nat × Nat × Nat
  old15 : Nat × Nat × Nat
  old2 : Nat × Nat × Nat
  deriving DecidableEq, Repr

/-- The shape on 32-bit words. -/
def shape32 : ShaShape := ⟨64, (2, 13, 22), (6, 11, 25), (7, 18, 3), (17, 19, 10)⟩
/-- The shape on 64-bit words. -/
def shape64 : ShaShape := ⟨80, (28, 34, 39), (14, 18, 41), (1, 8, 7), (19, 61, 6)⟩

/-- Three rotations of a word, added bit by bit. -/
def mixRot {w : Nat} (r : Nat × Nat × Nat) (x : BitVec w) : BitVec w :=
  x.rotateRight r.1 ^^^ x.rotateRight r.2.1 ^^^ x.rotateRight r.2.2
/-- Two rotations and a shift. -/
def mixShift {w : Nat} (r : Nat × Nat × Nat) (x : BitVec w) : BitVec w :=
  x.rotateRight r.1 ^^^ x.rotateRight r.2.1 ^^^ (x >>> r.2.2)

/-- The eight words of a hash in the making: four that were A in the last rounds, and four that were E, newest first. -/
structure ShaRegs (w : Nat) where
  a0 : BitVec w
  a1 : BitVec w
  a2 : BitVec w
  a3 : BitVec w
  e0 : BitVec w
  e1 : BitVec w
  e2 : BitVec w
  e3 : BitVec w
  deriving DecidableEq, Repr

/-- A round with the sum of its constant and its schedule word. -/
def ShaRegs.round {w : Nat} (s : ShaShape) (r : ShaRegs w) (kw : BitVec w) : ShaRegs w :=
  let choice := (r.e0 &&& r.e1) ||| (~~~r.e0 &&& r.e2)
  let majority := (r.a0 &&& r.a1) ||| (r.a2 &&& (r.a0 ||| r.a1))
  let t := kw + choice + mixRot s.mixE r.e0 + r.e3
  { a0 := t + majority + mixRot s.mixA r.a0, a1 := r.a0, a2 := r.a1, a3 := r.a2
    e0 := t + r.a3, e1 := r.e0, e2 := r.e1, e3 := r.e2 }

/-- Word-wise sum. -/
def ShaRegs.add {w : Nat} (x y : ShaRegs w) : ShaRegs w :=
  ⟨x.a0 + y.a0, x.a1 + y.a1, x.a2 + y.a2, x.a3 + y.a3, x.e0 + y.e0, x.e1 + y.e1, x.e2 + y.e2, x.e3 + y.e3⟩

/-- The words in order. -/
def ShaRegs.words {w : Nat} (x : ShaRegs w) : List (BitVec w) := [x.a0, x.a1, x.a2, x.a3, x.e0, x.e1, x.e2, x.e3]

/-- Eight words as a start. -/
def ShaRegs.start {w : Nat} (l : List (BitVec w)) : ShaRegs w :=
  let at' (k : Nat) : BitVec w := l.getD k 0
  ⟨at' 0, at' 1, at' 2, at' 3, at' 4, at' 5, at' 6, at' 7⟩

/-- n words of a block's schedule, from a window of its next 16. -/
def shaSchedule {w : Nat} (s : ShaShape) : Nat → List (BitVec w) → List (BitVec w)
  | 0, _ => []
  | n + 1, win =>
    let next := win.getD 0 0 + mixShift s.old15 (win.getD 1 0) + win.getD 9 0 + mixShift s.old2 (win.getD 14 0)
    win.getD 0 0 :: shaSchedule s n (win.drop 1 ++ [next])

/-- Take in a block of 16 words. -/
def ShaRegs.take {w : Nat} (s : ShaShape) (ks : List (BitVec w)) (r : ShaRegs w) (blk : List Byte) : ShaRegs w :=
  let win := (List.range 16).map (fun i => BitVec.ofNat w (beNat (slice blk (w / 8 * i) (w / 8))))
  r.add ((List.zipWith (· + ·) ks (shaSchedule s s.rounds win)).foldl (ShaRegs.round s) r)

/-- The message with a 1 bit, zeros, and its bit length in two words, to whole blocks of n bytes. -/
def shaPad (n : Nat) (l : List Byte) : List Byte :=
  l ++ 0x80 :: List.replicate ((2 * n - 1 - n / 8 - l.length % n) % n) 0 ++ beBytes (n / 8) (8 * l.length)

/-- Take in k blocks of n bytes. -/
def ShaRegs.takeAll {w : Nat} (s : ShaShape) (ks : List (BitVec w)) (n : Nat) : Nat → List Byte → ShaRegs w → ShaRegs w
  | 0, _, r => r
  | k + 1, l, r => takeAll s ks n k (l.drop n) (r.take s ks (l.take n))

/-- The hash of a message from a start, in bytes. -/
def shaHash {w : Nat} (s : ShaShape) (ks : List (BitVec w)) (r : ShaRegs w) (l : List Byte) : List Byte :=
  let p := shaPad (2 * w) l
  (r.takeAll s ks (2 * w) (p.length / (2 * w)) p).words.flatMap (fun x => beBytes (w / 8) x.toNat)

/-! ### The three hashes -/

/-- The round constants on 32-bit words. -/
def shaK32 : List (BitVec 32) := shaWords 32 3 (shaPrimes.take 64)
/-- The round constants on 64-bit words. -/
def shaK64 : List (BitVec 64) := shaWords 64 3 shaPrimes

/-- SHA-256, 32 bytes. -/
def sha256 (l : List Byte) : List Byte := shaHash shape32 shaK32 (.start (shaWords 32 2 (shaPrimes.take 8))) l
/-- SHA-512, 64 bytes. -/
def sha512 (l : List Byte) : List Byte := shaHash shape64 shaK64 (.start (shaWords 64 2 (shaPrimes.take 8))) l
/-- SHA-384, 48 bytes. -/
def sha384 (l : List Byte) : List Byte := (shaHash shape64 shaK64 (.start (shaWords 64 2 ((shaPrimes.drop 8).take 8))) l).take 48

end Sys2Proof.Machine
end

