-- ==== Sys2Proof/Machine/Ecc.lean ====
section
/-! DEFINITION. HMAC and HKDF (RFC 2104, RFC 5869), the curves P-256 and P-384, ECDSA with the nonces of RFC 6979, and
ECDH, which the crypto engine and the key tree compute (R595, R596, R631). -/
namespace Sys2Proof.Machine

/-! ### HMAC and HKDF -/

/-- HMAC with a hash of the given block length. -/
def hmac (hash : List Byte → List Byte) (block : Nat) (key msg : List Byte) : List Byte :=
  let k0 := if block < key.length then hash key else key
  let k := k0 ++ List.replicate (block - k0.length) 0
  hash (k.map (· ^^^ 0x5C) ++ hash (k.map (· ^^^ 0x36) ++ msg))

/-- HMAC with SHA-256. -/
def hmac256 : List Byte → List Byte → List Byte := hmac sha256 64

/-- n blocks of HKDF-Expand, the last block made and its number. -/
def hkdfBlocks (prk info : List Byte) : Nat → Nat → List Byte → List Byte
  | 0, _, _ => []
  | n + 1, i, t =>
    let t' := hmac256 prk (t ++ info ++ [w8 i])
    t' ++ hkdfBlocks prk info n (i + 1) t'

/-- HKDF-Expand with SHA-256. -/
def hkdfExpand (prk info : List Byte) (l : Nat) : List Byte := (hkdfBlocks prk info ((l + 31) / 32) 1 []).take l

/-- HKDF-Extract with a salt of 32 zero bytes (R631). -/
def hkdfExtract (ikm : List Byte) : List Byte := hmac256 (List.replicate 32 0) ikm

/-! ### Arithmetic modulo a prime -/

/-- a^e mod p, over n bits of e. -/
def powModAux (p : Nat) : Nat → Nat → Nat → Nat
  | 0, _, _ => 1 % p
  | n + 1, a, e => (if e % 2 = 1 then a else 1) * powModAux p n (a * a % p) (e / 2) % p

/-- a^e mod p. -/
def powMod (p a e : Nat) : Nat := powModAux p 521 (a % p) e

/-- The inverse modulo a prime. -/
def invMod (p a : Nat) : Nat := powMod p a (p - 2)

/-- a - b modulo p. -/
def subMod (p a b : Nat) : Nat := (a + (p - b % p)) % p

/-! ### Short Weierstrass curves with a = -3 -/

/-- A curve: prime, coefficient b, order, base point, and the bytes of a coordinate. -/
structure Curve where
  p : Nat
  b : Nat
  n : Nat
  gx : Nat
  gy : Nat
  len : Nat

/-- P-256. -/
def p256 : Curve :=
  { p := 0xFFFFFFFF00000001000000000000000000000000FFFFFFFFFFFFFFFFFFFFFFFF
    b := 0x5AC635D8AA3A93E7B3EBBD55769886BC651D06B0CC53B0F63BCE3C3E27D2604B
    n := 0xFFFFFFFF00000000FFFFFFFFFFFFFFFFBCE6FAADA7179E84F3B9CAC2FC632551
    gx := 0x6B17D1F2E12C4247F8BCE6E563A440F277037D812DEB33A0F4A13945D898C296
    gy := 0x4FE342E2FE1A7F9B8EE7EB4A7C0F9E162BCE33576B315ECECBB6406837BF51F5
    len := 32 }

/-- P-384. -/
def p384 : Curve :=
  { p := 0xFFFFFFFFFFFFFFFFFFFFFFFFFFFFFFFFFFFFFFFFFFFFFFFFFFFFFFFFFFFFFFFEFFFFFFFF0000000000000000FFFFFFFF
    b := 0xB3312FA7E23EE7E4988E056BE3F82D19181D9C6EFE8141120314088F5013875AC656398D8A2ED19D2A85C8EDD3EC2AEF
    n := 0xFFFFFFFFFFFFFFFFFFFFFFFFFFFFFFFFFFFFFFFFFFFFFFFFC7634D81F4372DDF581A0DB248B0A77AECEC196ACCC52973
    gx := 0xAA87CA22BE8B05378EB1C71EF320AD746E1D3B628BA79B9859F741E082542A385502F25DBF55296C3A545E3872760AB7
    gy := 0x3617DE4A96262C6F5D9E98BF9292DC29F8F41DBD289A147CE9DA3113B5F0B8C00A60B1CE1D7E819D7A431D7C90EA0E5F
    len := 48 }

/-- A point in Jacobian coordinates; Z = 0 is the point at infinity. -/
structure JPoint where
  x : Nat
  y : Nat
  z : Nat
  deriving DecidableEq, Repr

/-- Twice a point. -/
def Curve.dbl (c : Curve) (a : JPoint) : JPoint :=
  let p := c.p
  if a.z = 0 ∨ a.y = 0 then ⟨1, 1, 0⟩
  else
    let d := a.z * a.z % p
    let g := a.y * a.y % p
    let be := a.x * g % p
    let al := 3 * (subMod p a.x d) * (a.x + d) % p
    let x3 := subMod p (al * al) (8 * be)
    let z3 := subMod p ((a.y + a.z) * (a.y + a.z)) (g + d)
    ⟨x3, subMod p (al * subMod p (4 * be) x3) (8 * g * g), z3⟩

/-- The sum of two points. -/
def Curve.add (c : Curve) (a b : JPoint) : JPoint :=
  let p := c.p
  if a.z = 0 then b
  else if b.z = 0 then a
  else
    let z1 := a.z * a.z % p
    let z2 := b.z * b.z % p
    let u1 := a.x * z2 % p
    let u2 := b.x * z1 % p
    let s1 := a.y * b.z % p * z2 % p
    let s2 := b.y * a.z % p * z1 % p
    if u1 = u2 then (if s1 = s2 then c.dbl a else ⟨1, 1, 0⟩)
    else
      let h := subMod p u2 u1
      let r := subMod p s2 s1
      let h2 := h * h % p
      let h3 := h2 * h % p
      let v := u1 * h2 % p
      let x3 := subMod p (r * r) (h3 + 2 * v)
      ⟨x3, subMod p (r * subMod p v x3) (s1 * h3), h * a.z % p * b.z % p⟩

/-- A multiple, over n bits of the scalar from the highest. -/
def Curve.mulAux (c : Curve) (a : JPoint) (k : Nat) : Nat → JPoint → JPoint
  | 0, r => r
  | n + 1, r =>
    let r2 := c.dbl r
    c.mulAux a k n (if k.testBit n then c.add r2 a else r2)

/-- k times a point. -/
def Curve.mul (c : Curve) (k : Nat) (a : JPoint) : JPoint := c.mulAux a k (8 * c.len) ⟨1, 1, 0⟩

/-- Affine coordinates; (0, 0) for the point at infinity. -/
def Curve.affine (c : Curve) (a : JPoint) : Nat × Nat :=
  let i := invMod c.p a.z
  let i2 := i * i % c.p
  (a.x * i2 % c.p, a.y * i2 % c.p * i % c.p)

/-- The base point. -/
def Curve.g (c : Curve) : JPoint := ⟨c.gx, c.gy, 1⟩

/-- A point in affine coordinates lies on the curve. -/
def Curve.on (c : Curve) (x y : Nat) : Bool :=
  decide (x < c.p) && decide (y < c.p) && decide (y * y % c.p = subMod c.p (x * x * x + c.b) (3 * x))

/-- The public key of a private scalar: x, then y. -/
def Curve.pub (c : Curve) (k : Nat) : List Byte :=
  let q := c.affine (c.mul k c.g)
  beBytes c.len q.1 ++ beBytes c.len q.2

/-! ### ECDSA and ECDH -/

/-- The hash that goes with a curve, and its block length. -/
def Curve.hash (c : Curve) : List Byte → List Byte := if c.len = 32 then sha256 else sha384
/-- The block length of that hash. -/
def Curve.block (c : Curve) : Nat := if c.len = 32 then 64 else 128

/-- The nonces of RFC 6979: the first one that gives a signature, within n tries. -/
def ecdsaTry (c : Curve) (d e : Nat) : Nat → List Byte → List Byte → Option (Nat × Nat)
  | 0, _, _ => none
  | n + 1, k, v =>
    let v1 := hmac c.hash c.block k v
    let q := beNat v1
    let r := (c.affine (c.mul q c.g)).1 % c.n
    let s := invMod c.n q * (e + r * d) % c.n
    if 0 < q ∧ q < c.n ∧ r ≠ 0 ∧ s ≠ 0 then some (r, s)
    else
      let k1 := hmac c.hash c.block k (v1 ++ [0])
      ecdsaTry c d e n k1 (hmac c.hash c.block k1 v1)

/-- ECDSA over a digest: r, then s (R596). -/
def ecdsaSign (c : Curve) (d : Nat) (digest : List Byte) : List Byte :=
  let e := beNat digest % c.n
  let x := beBytes c.len d ++ beBytes c.len e
  let v0 := List.replicate c.len (1 : Byte)
  let k1 := hmac c.hash c.block (List.replicate c.len 0) (v0 ++ [0] ++ x)
  let v1 := hmac c.hash c.block k1 v0
  let k2 := hmac c.hash c.block k1 (v1 ++ [1] ++ x)
  let v2 := hmac c.hash c.block k2 v1
  match ecdsaTry c d e 64 k2 v2 with
  | some (r, s) => beBytes c.len r ++ beBytes c.len s
  | none => []

/-- Verify r, s over a digest under a public key x, y. -/
def ecdsaVerify (c : Curve) (key digest rs : List Byte) : Bool :=
  let x := beNat (slice key 0 c.len)
  let y := beNat (slice key c.len c.len)
  let r := beNat (slice rs 0 c.len)
  let s := beNat (slice rs c.len c.len)
  if c.on x y && decide (0 < r) && decide (r < c.n) && decide (0 < s) && decide (s < c.n) then
    let w := invMod c.n s
    let q := c.add (c.mul (beNat digest % c.n * w % c.n) c.g) (c.mul (r * w % c.n) ⟨x, y, 1⟩)
    decide (q.z ≠ 0) && decide ((c.affine q).1 % c.n = r)
  else false

/-- The shared x coordinate; nothing where the peer's key is no point of the curve. -/
def ecdh (c : Curve) (k : Nat) (peer : List Byte) : Option (List Byte) :=
  let x := beNat (slice peer 0 c.len)
  let y := beNat (slice peer c.len c.len)
  if c.on x y then some (beBytes c.len (c.affine (c.mul k ⟨x, y, 1⟩)).1) else none

end Sys2Proof.Machine
end

