-- ==== Sys2Proof/Machine/Hss.lean ====
section
/-! DEFINITION. HSS signatures with LMS trees (RFC 8554, NIST SP 800-208): the verifier of R644 and the signer of R638. -/
namespace Sys2Proof.Machine

/-- A one-time signature type: hash length n, Winternitz parameter w, chains p, checksum shift ls. -/
structure OtsType where
  n : Nat
  w : Nat
  p : Nat
  ls : Nat
  deriving DecidableEq, Repr

/-- The type of a code: LMOTS_SHA256_N32 and N24 (R644). -/
def otsType : Nat → Option OtsType
  | 1 => some ⟨32, 1, 265, 7⟩ | 2 => some ⟨32, 2, 133, 6⟩ | 3 => some ⟨32, 4, 67, 4⟩ | 4 => some ⟨32, 8, 34, 0⟩
  | 5 => some ⟨24, 1, 200, 8⟩ | 6 => some ⟨24, 2, 101, 6⟩ | 7 => some ⟨24, 4, 51, 4⟩ | 8 => some ⟨24, 8, 26, 0⟩
  | _ => none

/-- The hash length and height of a tree type: LMS_SHA256_M32 and M24 of heights 5 to 25 (R644). -/
def lmsType (c : Nat) : Option (Nat × Nat) :=
  if 5 ≤ c ∧ c ≤ 9 then some (32, 5 * (c - 4)) else if 10 ≤ c ∧ c ≤ 14 then some (24, 5 * (c - 9)) else none

/-- The hash cut to n bytes. -/
def hashN (n : Nat) (l : List Byte) : List Byte := (sha256 l).take n

/-- The w-bit digits of a byte, highest first. -/
def byteDigits (w : Nat) (b : Byte) : List Nat :=
  (List.range (8 / w)).map (fun i => b.toNat / 2 ^ (8 - w * (i + 1)) % 2 ^ w)

/-- The digits that the chains sign: of the digest, then of its checksum. -/
def otsDigits (t : OtsType) (q : List Byte) : List Nat :=
  let ds := q.flatMap (byteDigits t.w)
  let sum := ds.foldl (fun s d => s + (2 ^ t.w - 1 - d)) 0
  (ds ++ (beBytes 2 (sum <<< t.ls)).flatMap (byteDigits t.w)).take t.p

/-- k steps of a chain from step j. -/
def otsChain (t : OtsType) (pre : List Byte) (i : Nat) : Nat → Nat → List Byte → List Byte
  | 0, _, x => x
  | k + 1, j, x => otsChain t pre i k (j + 1) (hashN t.n (pre ++ beBytes 2 i ++ beBytes 1 j ++ x))

/-- The digest that a one-time signature signs. -/
def otsDigest (t : OtsType) (pre c msg : List Byte) : List Byte := hashN t.n (pre ++ [0x81, 0x81] ++ c ++ msg)

/-- The one-time public key that a signature leads to. -/
def otsCandidate (t : OtsType) (pre c ys msg : List Byte) : List Byte :=
  let ds := otsDigits t (otsDigest t pre c msg)
  let zs := (List.range t.p).flatMap (fun i =>
    let a := ds.getD i 0
    otsChain t pre i (2 ^ t.w - 1 - a) a (slice ys (t.n * i) t.n))
  hashN t.n (pre ++ [0x80, 0x80] ++ zs)

/-- From node r up a path of sibling hashes to the root. -/
def lmsClimb (m : Nat) (id : List Byte) : Nat → Nat → List Byte → List Byte → List Byte
  | 0, _, _, x => x
  | k + 1, r, path, x =>
    let s := path.take m
    let x' := hashN m (id ++ beBytes 4 (r / 2) ++ [0x83, 0x83] ++ (if r % 2 = 1 then s ++ x else x ++ s))
    lmsClimb m id k (r / 2) (path.drop m) x'

/-- The types of an LMS public key, where its hash lengths agree. -/
def lmsTypes (key : List Byte) : Option (OtsType × Nat × Nat) :=
  match lmsType (beNat (slice key 0 4)), otsType (beNat (slice key 4 4)) with
  | some (m, h), some t => if m = t.n then some (t, m, h) else none
  | _, _ => none

/-- The length of an LMS signature under types. -/
def lmsSigLen (t : OtsType) (m h : Nat) : Nat := 4 + 4 + t.n + t.p * t.n + 4 + h * m

/-- An LMS signature verifies. -/
def lmsVerify (key msg sig : List Byte) : Bool :=
  match lmsTypes key with
  | none => false
  | some (t, m, h) =>
    let q := beNat (slice sig 0 4)
    let id := slice key 8 16
    let pre := id ++ slice sig 0 4
    let o := 8 + t.n + t.p * t.n
    let k := otsCandidate t pre (slice sig 8 t.n) (slice sig (8 + t.n) (t.p * t.n)) msg
    let leaf := hashN m (id ++ beBytes 4 (2 ^ h + q) ++ [0x82, 0x82] ++ k)
    decide (sig.length = lmsSigLen t m h) && decide (key.length = 24 + m) && decide (slice sig 4 4 = slice key 4 4) &&
      decide (slice sig o 4 = slice key 0 4) && decide (q < 2 ^ h) &&
      decide (lmsClimb m id h (2 ^ h + q) (slice sig (o + 4) (h * m)) leaf = slice key 24 m)

/-- Down n more levels: each signature signs the next public key, the last one the message. -/
def hssDown (msg : List Byte) : Nat → List Byte → List Byte → Bool
  | n, key, sig =>
    match lmsTypes key with
    | none => false
    | some (t, m, h) =>
      let l := lmsSigLen t m h
      match n with
      | 0 => lmsVerify key msg sig
      | n + 1 =>
        let rest := sig.drop l
        let next := match lmsTypes rest with | some (_, m', _) => rest.take (24 + m') | none => []
        lmsVerify key next (sig.take l) && hssDown msg n next (rest.drop next.length)

/-- An HSS signature of a message verifies under a public key of 1 to 8 levels (R644). -/
def hssVerify (key msg sig : List Byte) : Bool :=
  let l := beNat (slice key 0 4)
  decide (4 ≤ key.length) && decide (1 ≤ l) && decide (l ≤ 8) && decide (4 ≤ sig.length) &&
    decide (beNat (slice sig 0 4) + 1 = l) && hssDown msg (l - 1) (key.drop 4) (sig.drop 4)

/-! ### The signer's key (R638) -/

/-- The signer's one-time type, LMOTS_SHA256_N32_W4. -/
def sigOts : OtsType := ⟨32, 4, 67, 4⟩

/-- A tree of the signer: SEED and identifier of tree t under slot 2's key. -/
def sigSeed (k2 : List Byte) (t : Nat) : List Byte := hkdfExpand k2 ([0x48, 0x53, 0x53, 0x54] ++ leBytes 4 t) 32
/-- The identifier I of tree t. -/
def sigId (k2 : List Byte) (t : Nat) : List Byte := hkdfExpand k2 ([0x48, 0x53, 0x53, 0x49] ++ leBytes 4 t) 16

/-- The private start of chain i of leaf q (RFC 8554, Appendix A). -/
def sigStart (seed id : List Byte) (q i : Nat) : List Byte := sha256 (id ++ beBytes 4 q ++ beBytes 2 i ++ [0xFF] ++ seed)

/-- The hash of leaf q in a tree of height h. -/
def sigLeaf (seed id : List Byte) (h q : Nat) : List Byte :=
  let pre := id ++ beBytes 4 q
  let zs := (List.range 67).flatMap (fun i => otsChain sigOts pre i 15 0 (sigStart seed id q i))
  sha256 (id ++ beBytes 4 (2 ^ h + q) ++ [0x82, 0x82] ++ sha256 (pre ++ [0x80, 0x80] ++ zs))

/-- The hash of node r, which is k levels above the leaves, in a tree of height h. -/
def sigNode (seed id : List Byte) (h : Nat) : Nat → Nat → List Byte
  | 0, r => sigLeaf seed id h (r - 2 ^ h)
  | k + 1, r => sha256 (id ++ beBytes 4 r ++ [0x83, 0x83] ++ sigNode seed id h k (2 * r) ++ sigNode seed id h k (2 * r + 1))

/-- The LMS public key of tree t, of height h and tree type `typ`. -/
def lmsPub (k2 : List Byte) (typ h t : Nat) : List Byte :=
  let id := sigId k2 t
  beBytes 4 typ ++ beBytes 4 3 ++ id ++ sigNode (sigSeed k2 t) id h h 1

/-- The LMS signature of a message with leaf q of tree t and randomizer c. -/
def lmsSign (k2 : List Byte) (typ h t q : Nat) (c msg : List Byte) : List Byte :=
  let seed := sigSeed k2 t
  let id := sigId k2 t
  let pre := id ++ beBytes 4 q
  let ds := otsDigits sigOts (otsDigest sigOts pre c msg)
  let ys := (List.range 67).flatMap (fun i => otsChain sigOts pre i (ds.getD i 0) 0 (sigStart seed id q i))
  let path := (List.range h).flatMap (fun k =>
    let r := (2 ^ h + q) / 2 ^ k
    sigNode seed id h k (if r % 2 = 1 then r - 1 else r + 1))
  beBytes 4 q ++ beBytes 4 3 ++ c ++ ys ++ beBytes 4 typ ++ path

/-- The 60-byte HSS public key of the signing key: two levels of height 15. -/
def signerPub (k2 : List Byte) : List Byte := beBytes 4 2 ++ lmsPub k2 7 15 0

/-- The signature of index q over a message: the top tree signs the public key of bottom tree q / 32,768, whose leaf
q mod 32,768 signs the message; the two randomizers are the entropy's. -/
def signerSign (k2 : List Byte) (q : Nat) (cTop c msg : List Byte) : List Byte :=
  let j := q / 32768
  let pub := lmsPub k2 7 15 (j + 1)
  beBytes 4 1 ++ lmsSign k2 7 15 0 j cTop pub ++ pub ++ lmsSign k2 7 15 (j + 1) (q % 32768) c msg

end Sys2Proof.Machine
end

