-- ==== Sys2Proof/Machine/Flags.lean ====
section
/-! DEFINITION. Flags: the event flags of a page, its error syndrome, its interrupt request, the event log, and the level
causes. -/
namespace Sys2Proof.Machine

/-- An event that a trigger condition of Table 7.3 names reaches the acquisition island with its stamp (R269). -/
def Dev.acqNote (d : Dev) (code : Nat) : Dev :=
  if d.up .acquisition then { d with acq := { d.acq with events := d.acq.events ++ [(code, d.time * 1000)] } } else d

/-- The trigger condition that names an event flag of a page (Table 7.3). -/
def acqCode (page n : Nat) : Option Nat :=
  if page = 0x28 ∧ (n = 1 ∨ n = 3) then some 0x28
  else if page = 0x38 ∧ n = 0 then some 0x29
  else if page = 0x3E ∧ (n = 0 ∨ n = 1) then some 0x2B
  else if page = 0x24 ∧ n = 0 then some 0x2C
  else none

/-- Hardware raises bit n of BLK_EVF of a page (R58); the event sources of an absent page never assert (R11). -/
def Dev.ev (d : Dev) (page n : Nat) : Dev :=
  if pagePresent d.variant page then
    let d1 := d.setBit (BLK_EVF page) 0 n true
    match acqCode page n with
    | none => d1
    | some c => d1.acqNote c
  else d

/-- A page requests an interrupt while a bit is 1 in both BLK_EVF and BLK_EVE (R59). -/
def Dev.pageIrq (d : Dev) (page : Nat) : Bool :=
  decide (d.rd (BLK_EVF page) 0 &&& d.rd (BLK_EVE page) 0 ≠ 0)

/-- The word that BLK_ERR holds for an error (Table 2.7). -/
def errWord (kind : Nat) (i : Initiator) (off : Nat) : Word :=
  w32 (2 ^ 31 + (kind % 8) * 2 ^ 28 + i.id * 2 ^ 24 + off % 4096)

/-- Record an error at a page: only the first is kept until VALID is cleared (R61). -/
def Dev.err (d : Dev) (page kind : Nat) (i : Initiator) (off : Nat) : Dev :=
  if d.bit (BLK_ERR page) 0 31 then d else d.wr (BLK_ERR page) 0 (errWord kind i off)

/-- Record an error that no initiator's access caused: Table 2.7 states no INIT for it, and that field is free. -/
def Dev.errHw (d : Dev) (page kind off : Nat) : Dev :=
  if d.bit (BLK_ERR page) 0 31 then d
  else
    let (w, d1) := d.free 61
    d1.wr (BLK_ERR page) 0 (w32 (2 ^ 31 + (kind % 8) * 2 ^ 28 + w.toNat % 16 * 2 ^ 24 + off % 4096))

/-- A write to an absent page or instance sets SYS_STAT.ABSWR; the first one's address and initiator are kept until the
flag is cleared (R6-R8), and raises BLK_EVF.ABSWR (R65). -/
def Dev.absWrite (d : Dev) (addr : Nat) (i : Initiator) (inst : Nat) (staged : Bool) : Dev :=
  let d1 := if d.bit SYS_STAT 0 0 then d
    else (d.wr SYS_ABSADDR 0 (w32 addr)).wr SYS_ABSINFO 0 (w32 (i.id + 256 * (inst % 256) + 65536 * b2n staged))
  (d1.setBit SYS_STAT 0 0 true).ev 0x00 0

/-! ### The event log's sources (R722) -/

/-- The state of a source's FIFO; the partner's source s is kept at 16 + s. -/
def Dev.logSrc (d : Dev) (s : Nat) : LogSrc := kvGet d.log s {}

/-- Queue an entry at a source: a full FIFO of 16 drops it and counts it; the entry queued next after a drop is preceded
by an entry of code 0x0F with the count and the stamp of the first one dropped (R722). -/
def Dev.logPutAt (d : Dev) (s code stamp : Nat) (data : List Byte) : Dev :=
  let q := d.logSrc s
  let need := if q.lost = 0 then 1 else 2
  if q.fifo.length + need ≤ 16 then
    let lostEnt : List LogEntry := if q.lost = 0 then [] else
      [{ code := 0x0F, sseq := q.nextSeq, stamp := q.lostAt, data := leBytes 1 (s % 16) ++ leBytes 2 (min q.lost 65535) }]
    let e : LogEntry := { code, sseq := q.nextSeq + (need - 1), stamp, data }
    let q1 : LogSrc := { fifo := q.fifo ++ lostEnt ++ [e], nextSeq := q.nextSeq + need, lost := 0, lostAt := 0 }
    { d with log := kvSet d.log s q1 {} }
  else
    let q1 : LogSrc := { q with lost := q.lost + 1, lostAt := if q.lost = 0 then stamp else q.lostAt }
    let d1 := { d with log := kvSet d.log s q1 {} }
    ((d1.inc EVT_LOST 0).setBit EVT_LOSTSRC 0 (s % 16) true).ev 0x07 1

/-- Queue an entry stamped now. -/
def Dev.logPut (d : Dev) (s code : Nat) (data : List Byte) : Dev := d.logPutAt s code d.time data

/-! ### Levels (R37, R752) -/

/-- A PWR_CAUSE bit of Table 1.11 is 1. -/
def Dev.cause (d : Dev) (n : Nat) : Bool := d.bit PWR_CAUSE 0 n

/-- A Limp cause bit is 1: COMPUTE or ESCAL (R752). -/
def Dev.limpCause (d : Dev) : Bool := d.cause 0 || d.cause 1

/-- A Hold cause bit is 1: CTRL, LINK, PSTAGE, METRO, BIST, SAFREQ or HOLDPIN (R752). -/
def Dev.holdCause (d : Dev) : Bool :=
  d.cause 2 || d.cause 3 || d.cause 4 || d.cause 5 || d.cause 6 || d.cause 7 || d.cause 8

/-- Show a level in PWR_LEVEL.CUR, note that Normal is left (R286) and queue the event-log entry of a level change (Table 18.6, code 0x03). -/
def Dev.showLevel (d : Dev) (l : Level) : Dev :=
  if d.level = l then d
  else
    let d1 := (d.setFld PWR_LEVEL 0 1 0 l.code).acqNote 0x2D
    let d2 := if d.level = .normal then { d1 with acq := { d1.acq with left := true } } else d1
    d2.logPut 0 0x03
      (leBytes 1 d.level.code ++ leBytes 1 l.code ++ leBytes 4 (d.rd PWR_CAUSE 0).toNat)

end Sys2Proof.Machine
end

