-- ==== Sys2Proof/Machine/Operands.lean ====
section
/-! DEFINITION. The operand of a register command: which page, offset and instance it names for its initiator, what the
page's presence, rights, lock and transaction rules make of it, and how a written word acts field by field. -/
namespace Sys2Proof.Machine

/-! ### Register rows -/

/-- A row covers an offset. -/
def RegRow.covers (r : RegRow) (off : Nat) : Bool :=
  decide (r.off ≤ off) &&
    (let x := off - r.off
     decide (x / r.stride < r.count) && decide (x % r.stride % 4 = 0) && decide (x % r.stride / 4 < r.words))

/-- The rows of a coefficient block (Table 4.16): coefficient words are TXN in their mantissa and exponent bits, state
words are read only. -/
def coefRows : List RegRow :=
  [{ off := 0x000, count := 4, txn := 0xFFFFFF3F }, { off := 0x010, count := 5, txn := 0xFFFFFF3F },
   { off := 0x030, count := 5, txn := 0xFFFFFF3F }, { off := 0x050, count := 6, txn := 0xFFFFFF3F },
   { off := 0x070, count := 5, txn := 0xFFFFFF3F }, { off := 0x090, txn := 0xFFFFFF3F },
   { off := 0x100, count := 14, ro := 0xFFFFFF3F }]

/-- The row of the register at an offset of a page, or of a coefficient block (pages 0x100 + n). -/
def rowOf (v : Variant) (page off : Nat) : Option RegRow :=
  (if 0x100 ≤ page then coefRows else pageRows page).find? (fun r => r.covers off && (!r.only12 || decide (v = .px4812)))

/-- The register at a page and offset, with the reset value of its row; offsets that hold nothing reset to 0. -/
def regAt (v : Variant) (page off : Nat) : Reg :=
  ⟨page, off, match rowOf v page off with | some r => r.reset | none => 0⟩

/-- Bits of a row that a write can change at all. -/
def RegRow.writable (r : RegRow) : Word := r.rw ||| r.w1c ||| r.w1s ||| r.wo ||| r.txn ||| r.sealed

/-- The address of a register of a page, or of a word of coefficient block page - 0x100. -/
def addrOf (page off : Nat) : Nat :=
  if 0x100 ≤ page then 0x50000000 + (page - 0x100) * 0x1000 + off else 0x40000000 + page * 0x1000 + off

/-- The page that records the errors of an address: the page itself, page 0x28 for the coefficient window (R55). -/
def errPage (page : Nat) : Nat := if 0x100 ≤ page then 0x28 else page

/-! ### How a write acts field by field (R18, R77, R78, R749) -/

/-- The new value of a register and the error kind of the write: 4 for a SEAL field, 5 for a TXN field that the write
would change and may not. In a commit the TXN fields take the write. DESIGN CHOICE (log entry 193): where one write would
change a closed field of each code, R749 allows KIND 4 and KIND 5, and the model records 4. -/
def fieldWrite (r : RegRow) (old v : Word) (sealOpen inTxn : Bool) : Word × Nat :=
  let sealOk : Word := if sealOpen then r.sealed else 0
  let txnOk : Word := if inTxn then r.txn else 0
  let take := r.rw ||| (r.txn &&& txnOk &&& (~~~r.sealed ||| sealOk)) ||| (r.sealed &&& sealOk &&& (~~~r.txn ||| txnOk))
  let new := ((old &&& ~~~take) ||| (v &&& take)) &&& ~~~(v &&& r.w1c) ||| (v &&& r.w1s)
  let badSeal := (old ^^^ v) &&& r.sealed &&& ~~~sealOk
  let badTxn := (old ^^^ v) &&& r.txn &&& ~~~txnOk
  (new, if badSeal ≠ 0 then 4 else if badTxn ≠ 0 then 5 else 0)

/-! ### Rights -/

/-- The outputs of I/O bank b are high impedance and its inputs read as in reset: VIOb is below 80 % of its nominal level (R668). -/
def Dev.bankOff (d : Dev) (b : Nat) : Bool := d.pwr.vioLow.testBit b

/-- The pages an initiator may reach: while debug is disabled the port reaches page 0x10 only (R70); in SCRAPPED only page
0x10 answers (Table 16.6). -/
def Dev.reaches (d : Dev) (i : Initiator) (page : Nat) : Bool :=
  !((decide (i = .debug) && !d.bit DBG_STAT 0 0 || decide (d.fld LCM_STATE 0 2 0 = 5)) && decide (page ≠ 0x10))

/-- A register the limits of R750 cover: offsets 0x040-0xFFF, BLK_CTRL and BLK_LOCK. -/
def limited (off : Nat) : Bool := decide (0x040 ≤ off) || decide (off = 0x008) || decide (off = 0x024)

/-- An offset that holds a register with a bit that a write can act on; of the common registers these are BLK_EVF to BLK_LOCK
(Table 2.4). -/
def writableAt (v : Variant) (page off : Nat) : Bool :=
  if off < 0x040 ∧ page < 0x100 then decide (0x010 ≤ off ∧ off ≤ 0x024)
  else match rowOf v page off with
    | some r => decide (r.writable ≠ 0)
    | none => false

/-- A register of a metrology page that only clears W1C bits, which every initiator may do (R312). -/
def onlyW1c (v : Variant) (page off : Nat) : Bool :=
  match rowOf v page off with
  | some r => decide (r.w1c ≠ 0) && decide (r.rw ||| r.sealed ||| r.txn ||| r.wo = 0)
  | none => false

/-- R280, R312, R391, R398 and R663 allow only certain initiators (R750). -/
def Dev.denied (d : Dev) (i : Initiator) (page off : Nat) : Bool :=
  limited off &&
    (if page = 0x46 then decide (i ≠ .safety)
     else if 0x48 ≤ page ∧ page ≤ 0x4F then
       decide (i ≠ .metrology) && (decide (off < 0x040) || (writableAt d.variant page off && !onlyW1c d.variant page off))
     else if 0x50 ≤ page ∧ page ≤ 0x57 then
       decide (i ≠ .metrology) && (decide (off < 0x040) || (writableAt d.variant page off && !onlyW1c d.variant page off)) &&
         !(decide (page = 0x54) && decide (off = 0x040))
     else if 0x58 ≤ page ∧ page ≤ 0x5F then decide (i ≠ .safety)
     else if page = 0x11 ∨ page = 0x13 then !(i.isCore || (decide (i = .debug) && d.bit DBG_STAT 0 0))
     else if page = 0x12 then !i.isCore
     else false)

/-- A page lock covers every writable register but BLK_EVF, BLK_EVS, BLK_EVE, BLK_ERR, BLK_CHSEL and SYS_FENCE (R63). -/
def Dev.locked (d : Dev) (page off : Nat) : Bool :=
  decide (page < 0x100) && d.bit (BLK_LOCK page) 0 0 && writableAt d.variant page off &&
    !(decide (0x010 ≤ off ∧ off ≤ 0x020) || (decide (page = 0x00) && decide (off = 0x060)))

/-- AUS_MIRMAP marks a page as mirrored (Table 18.10); the coefficient window always is (R706). -/
def Dev.mirrored (d : Dev) (page : Nat) : Bool :=
  if 0x100 ≤ page then true
  else if 0x20 ≤ page ∧ page ≤ 0x3F then d.bit AUS_MIRMAP1 0 (page - 0x20)
  else if 0x40 ≤ page ∧ page ≤ 0x47 then d.bit AUS_MIRMAP2 0 (page - 0x40)
  else if 0x60 ≤ page ∧ page ≤ 0x74 then d.bit AUS_MIRMAP3 0 (page - 0x60)
  else false

/-- AUS_STAT.PSTATE (Table 18.2). -/
def Dev.pstate (d : Dev) : Nat := d.fld AUS_STAT 0 2 0

/-- A single device, or the ACTIVE one of a pair: it runs the loop engine, generators and modems (Table 18.4). -/
def Dev.master (d : Dev) : Bool := decide (d.pstate = 0) || decide (d.pstate = 4)

/-- The partner's PSTATE, 7 not heard. -/
def Dev.partnerState (d : Dev) : Nat := d.fld AUS_STAT 0 14 12

/-- In SYNC and STANDBY a device's own initiators may not write what the partner mirrors to it (R707). -/
def Dev.mirrorHeld (d : Dev) (i : Initiator) (page : Nat) : Bool :=
  (decide (d.pstate = 2) || decide (d.pstate = 3)) && decide (i ≠ .mirror) && d.mirrored page

/-- The active device mirrors the writes of initiators 0x0-0x3 and 0x7 while the partner is in SYNC or STANDBY, but never
those to BLK_EVF, BLK_EVS, BLK_ERR and BLK_CHSEL (R706). -/
def Dev.mirrors (d : Dev) (i : Initiator) (page off : Nat) : Bool :=
  decide (d.pstate = 4) && (decide (d.partnerState = 2) || decide (d.partnerState = 3)) &&
    (i.isCore || decide (i = .debug)) && d.mirrored page &&
    !(decide (off = 0x010) || decide (off = 0x014) || decide (off = 0x01C) || decide (off = 0x020))

/-! ### The gate of a register write -/

/-- What becomes of a register write before its own effect. -/
inductive Gate where
  /-- A bus error (R50). -/
  | busError
  /-- The page or the instance is absent (R6, R7). -/
  | absent (inst : Nat)
  /-- Staged by the initiator's open transaction (R82, R83). -/
  | stage (inst : Nat) (absent : Bool)
  /-- Held back: the island does not run, or a fence of the initiator has not completed (R96, R97). -/
  | hold (inst : Nat)
  /-- No effect, recorded with a KIND of Table 2.7. -/
  | refuse (kind : Nat)
  /-- Performed on an instance. -/
  | pass (inst : Nat)
  deriving DecidableEq, Repr

/-- The instance that BLK_CHSEL of the initiator names on a page (R72-R74). -/
def Dev.chsel (d : Dev) (i : Initiator) (page : Nat) : Nat := bits (d.rdI (BLK_CHSEL page) i) 7 0

/-- The instance an access names: CHSEL in a channel window, 0 outside. -/
def Dev.instOf (d : Dev) (i : Initiator) (page off : Nat) : Nat :=
  if 0x400 ≤ off ∧ page < 0x100 ∧ (instCount d.variant page).isSome then d.chsel i page else 0

/-- The page or the named instance is absent (R6, R7, R51, R54, R76). -/
def Dev.isAbsent (d : Dev) (page off inst : Nat) : Bool :=
  if 0x100 ≤ page then decide (d.variant.contexts ≤ page - 0x100)
  else if !pagePresent d.variant page then true
  else match instCount d.variant page with
    | some n => decide (0x400 ≤ off) && decide (n ≤ inst)
    | none => false

/-- The initiator's open transaction. -/
def Dev.openTxn (d : Dev) (i : Initiator) : Option OpenTxn := d.txn.opens.find? (fun o => decide (o.init = i))

/-- Replace the initiator's open transaction. -/
def Dev.setOpen (d : Dev) (i : Initiator) (o : OpenTxn) : Dev :=
  { d with txn := { d.txn with opens := d.txn.opens.map (fun (x : OpenTxn) => if x.init = i then o else x) } }

/-- Writes that an open transaction stages (R82): all but offsets 0x000-0x03F, the TXN page and SYS_FENCE. -/
def stageable (page off : Nat) : Bool :=
  decide (0x100 ≤ page) || (decide (0x040 ≤ off) && decide (page ≠ 0x06) && !(decide (page = 0x00) && decide (off = 0x060)))

/-- A fence of the initiator has not completed (R96). -/
def Dev.fenced (d : Dev) (i : Initiator) : Bool := d.txn.fences.any (fun f => decide (f.1 = i))

/-- The gate of a write to a page at an offset. -/
def Dev.gateAt (d : Dev) (i : Initiator) (page off inst : Nat) (mayStage : Bool) : Gate :=
  if !d.reaches i page then .busError
  else if mayStage && (d.openTxn i).isSome && stageable page off then .stage inst (d.isAbsent page off inst)
  else if d.isAbsent page off inst then .absent inst
  else if d.fenced i || !d.up (pageIsland page) then .hold inst
  else if d.locked page off then .refuse 3
  else if d.denied i page off then .refuse 2
  else if d.mirrorHeld i page then .refuse 7
  else .pass inst

/-- The gate of an initiator's write to a register. -/
def Dev.gateOf (d : Dev) (i : Initiator) (r : Reg) : Gate :=
  d.gateAt i r.page r.off (d.instOf i r.page r.off) true

/-- The answer the initiator sees. -/
def Dev.answer (d : Dev) (i : Initiator) (err : Bool) (data : Word) : Dev :=
  { d with resp := kvSet d.resp i.id { err, data } {} }

/-- A read has found an uncorrectable NVM word: ECCU, its address, and a bus error to the initiator that read (R68). -/
def Dev.nvmUncorrectable (d : Dev) (i : Option Initiator) (a : Nat) : Dev :=
  let d1 := (d.wr NVM_ECCADDR 0 (w32 a)).ev 0x0A 0
  match i with | some x => d1.answer x true 0 | none => d1

/-- Stage a write: the 1,025th and later are discarded and set OVF (R82-R84). One to an absent page or instance sets ABSWR
(R6, R7, R83), a discarded one too (log entry 194). -/
def Dev.stage (d : Dev) (w : PendWrite) (absent : Bool) : Dev :=
  match d.openTxn w.init with
  | none => d
  | some o =>
    let full := decide (1024 ≤ o.staged.length)
    let o' : OpenTxn := if full then { o with overAt := some (o.overAt.getD (addrOf w.page w.off)), since := d.time }
      else { o with staged := o.staged ++ [w], since := d.time }
    let d1 := d.setOpen w.init o'
    let stat := d1.rdI TXN_STAT w.init
    let d2 := d1.wrI TXN_STAT w.init (if full then putBit stat 15 true else putBits stat 26 16 (o.staged.length + 1))
    if absent then d2.absWrite (addrOf w.page w.off) w.init w.inst true else d2

/-- Perform a write through its gate: `act` is the register's own effect on the instance. -/
def Dev.gatedAt (d : Dev) (i : Initiator) (page off inst : Nat) (mayStage : Bool) (v : Word) (act : Nat → Dev → Dev) : Dev :=
  let w : PendWrite := { init := i, page, off, inst, val := v }
  match d.gateAt i page off inst mayStage with
  | .busError => d.answer i true 0
  | .absent n => (d.answer i false 0).absWrite (addrOf page off) i n false
  | .stage _ a => (d.answer i false 0).stage w a
  | .hold _ => { d.answer i false 0 with txn := { d.txn with held := d.txn.held ++ [{ w with behind := d.fenced i }] } }
  | .refuse k => (d.answer i false 0).err (errPage page) k i off
  | .pass n =>
    let d1 := act n (d.answer i false 0)
    let send := d.mirrors i page off
    if send then { d1 with pair := { d1.pair with mirrorOut := d1.pair.mirrorOut ++ [w] } } else d1

/-- Perform a write through its gate, whose effect may reach the memories. -/
def Sys.gatedAt (s : Sys) (i : Initiator) (page off inst : Nat) (mayStage : Bool) (v : Word) (act : Nat → Sys → Sys) : Sys :=
  match s.dev.gateAt i page off inst mayStage with
  | .pass n =>
    let w : PendWrite := { init := i, page, off, inst, val := v }
    let send := s.dev.mirrors i page off
    (act n (s.onDev (fun d => d.answer i false 0))).onDev (fun d =>
      if send then { d with pair := { d.pair with mirrorOut := d.pair.mirrorOut ++ [w] } } else d)
  | _ => s.onDev (fun d => d.gatedAt i page off inst mayStage v (fun _ e => e))

/-- An initiator's write of v to a register that has a row of its own, whose effect may reach the memories. -/
def Sys.gated (s : Sys) (i : Initiator) (r : Reg) (v : Word) (act : Nat → Sys → Sys) : Sys :=
  s.gatedAt i r.page r.off (s.dev.instOf i r.page r.off) true v act

/-- An initiator's write of v to a register that has a row of its own. -/
def Dev.gated (d : Dev) (i : Initiator) (r : Reg) (v : Word) (act : Nat → Dev → Dev) : Dev :=
  d.gatedAt i r.page r.off (d.instOf i r.page r.off) true v act

/-- The field-by-field effect of a write to a register (R749): each field takes it under its own code, and a SEAL or TXN
field the write would change and may not is recorded. -/
def Dev.fieldsWrite (d : Dev) (i : Initiator) (page off inst : Nat) (inTxn : Bool) (v : Word) : Dev :=
  match rowOf d.variant page off with
  | none => d
  | some r =>
    let b := if r.banked then i.id else 0
    let reg := regAt d.variant page off
    let (new, kind) := fieldWrite r (d.rdB reg inst b) v (d.sealOpen i) inTxn
    let d1 := d.wrB reg inst b new
    if kind = 0 then d1 else d1.err (errPage page) kind i off

end Sys2Proof.Machine
end

