-- ==== Sys2Proof/Machine/Mailbox.lean ====
section
/-! DEFINITION. The two mailboxes of pages 0x1E (safety) and 0x1F (metrology), R618-R623. -/
namespace Sys2Proof.Machine

/-- The key of an initiator's request in mailbox m: 0 safety, 1 metrology. -/
def mbxKey (m : Nat) (i : Initiator) : Nat := m * 16 + i.id

/-- The request of an initiator that is in flight. -/
def Dev.mbxReq (d : Dev) (m : Nat) (i : Initiator) : Option MbxReq := kvGet d.mbx (mbxKey m i) none

/-- Replace it. -/
def Dev.setMbx (d : Dev) (m : Nat) (i : Initiator) (r : Option MbxReq) : Dev :=
  { d with mbx := kvSet d.mbx (mbxKey m i) r none }

/-- The island that answers a mailbox. -/
def mbxTarget (m : Nat) : Island := if m = 0 then .safety else .metrology

/-- Byte k of an initiator's request (seg 0) or response (seg 4) buffer (R618). -/
def Dev.mbxByte (d : Dev) (m : Nat) (i : Initiator) (seg k : Nat) : Byte :=
  w8 ((d.rdB (MBX_BUF m (k % 3072 / 4)) (seg + k / 3072) i.id).toNat >>> (8 * (k % 4)))

/-- Bytes of an initiator's request. -/
def Dev.mbxBytes (d : Dev) (m : Nat) (i : Initiator) (from' n : Nat) : List Byte :=
  (List.range n).map (fun k => d.mbxByte m i 0 (from' + k))

/-- Show a response in the initiator's response buffer, from word k on. -/
def Dev.mbxFill (d : Dev) (m : Nat) (i : Initiator) (bs : List Byte) : Dev :=
  d.each (List.range ((bs.length + 3) / 4)) (fun k e =>
    e.wrB (MBX_BUF m (k % 768)) (4 + k / 768) i.id (w32 (leAt bs (4 * k) 4)))

/-- Complete an initiator's request: MBX_RSP, STATE 2 and DONE (R619, R620). -/
def Dev.mbxComplete (d : Dev) (m : Nat) (i : Initiator) (hwres : Nat) (bs : List Byte) : Dev :=
  let d1 := (d.setMbx m i none).mbxFill m i bs
  let d2 := d1.wrB (MBX_RSP m) 0 i.id (w32 (hwres * 2 ^ 24 + bs.length))
  let d3 := d2.wrB (MBX_STAT m) 0 i.id (putBits (d2.rdB (MBX_STAT m) 0 i.id) 1 0 2)
  (d3.setBit (MBX_PENDSUM m) 0 i.id false).ev (0x1E + m) 0

/-- A write to MBX_REQ (R619, R620). -/
def Dev.mbxAsk (e : Dev) (i : Initiator) (m : Nat) (v : Word) : Dev :=
  let len := bits v 13 0
  if bits (e.rdB (MBX_STAT m) 0 i.id) 1 0 ≠ 0 ∨ len = 0 ∨ 12288 < len then e.err (0x1E + m) 7 i 0x040
  else
    let e1 := e.wrB (MBX_STAT m) 0 i.id (w32 (1 + 256 * bits v 31 24))
    let e2 := (e1.setBit (MBX_PENDSUM m) 0 i.id true).setMbx m i (some { len, tag := bits v 31 24, since := e.time })
    if e.up (mbxTarget m) then e2 else e2.mbxComplete m i 1 []

/-- MAILBOX_REQUEST: that write through its gate. -/
def Dev.mailboxRequest (d : Dev) (i : Initiator) (m : Nat) (v : Word) : Dev :=
  d.gated i (MBX_REQ m) v (fun _ e => e.mbxAsk i m v)

/-- The target island has a response of RESULT and body to the initiator's request (R621). -/
def Dev.mbxAnswer (d : Dev) (m : Nat) (i : Initiator) (result : Nat) (body : List Byte) : Dev :=
  match d.mbxReq m i with
  | some r =>
    if r.ready.isNone then
      d.setMbx m i (some { r with ready := some (d.mbxBytes m i 0 2 ++ leBytes 1 result ++ [0] ++ body) })
    else d
  | none => d

/-- The length of the body that a service asks for, from the body's own bytes; none for an unknown service (Table 15.8). -/
def mbxLength (m service : Nat) (body : List Byte) : Option Nat :=
  if m = 0 then
    if service = 1 then some (20 + 12 * leAt body 4 4)
    else if service = 2 then some 4
    else if service = 3 then some 7
    else if service = 4 then some 1
    else none
  else if service = 1 then some (12 + leAt body 10 2)
  else none

/-- RESULT of a request that no service takes: 0x01 unknown service, 0x02 wrong length (R621); a billing request may carry
an AUTH after its data. -/
def Dev.mbxRefuse (d : Dev) (m : Nat) (i : Initiator) (r : MbxReq) : Option Nat :=
  let b := d.mbxBytes m i 0 (min r.len 24)
  let body := b.drop 4
  match mbxLength m (leAt b 0 2) body with
  | none => some 1
  | some n => if r.len = n + 4 ∨ (m = 1 ∧ n + 4 < r.len) then none else some 2

/-- MAILBOX_RESPONSE: the target writes its response (R619). -/
def Dev.mailboxResponse (d : Dev) (i : Initiator) (m : Nat) : Dev :=
  match d.mbxReq m i with
  | none => d
  | some r =>
    if !d.up (mbxTarget m) then d
    else match r.ready, d.mbxRefuse m i r with
      | some bs, _ => d.mbxComplete m i 0 bs
      | none, some k => d.mbxComplete m i 0 (d.mbxBytes m i 0 2 ++ leBytes 1 k ++ [0])
      | none, none => d

/-- A write to MBX_ACK returns STATE to 0 (R619). -/
def Dev.mbxRelease (e : Dev) (i : Initiator) (m : Nat) (v : Word) : Dev :=
  if bitOf v 0 ∧ bits (e.rdB (MBX_STAT m) 0 i.id) 1 0 = 2 then
    e.wrB (MBX_STAT m) 0 i.id (putBits (e.rdB (MBX_STAT m) 0 i.id) 1 0 0)
  else e

/-- MAILBOX_ACK: that write through its gate. -/
def Dev.mailboxAck (d : Dev) (i : Initiator) (m : Nat) (v : Word) : Dev :=
  d.gated i (MBX_ACK m) v (fun _ e => e.mbxRelease i m v)

/-- MAILBOX_TIMEOUT: hardware completes a request that is unanswered after MBX_TMO ms, 0 acting as 1 (R620). -/
def Dev.mailboxTimeout (d : Dev) (i : Initiator) (m t : Nat) : Dev :=
  let d0 := d.at t
  match d0.mbxReq m i with
  | some r => if r.since + max 1 (d0.fld (MBX_TMO m) 0 15 0) * 1000000 ≤ t then d0.mbxComplete m i 2 [] else d0
  | none => d0

/-- The target island of mailbox m stops running: its requests in flight complete at once with HWRES 1 (R620). -/
def Dev.mbxTargetDown (d : Dev) (m : Nat) : Dev :=
  d.each ((List.range 9).map Initiator.ofId) (fun i e => if (e.mbxReq m i).isSome then e.mbxComplete m i 1 [] else e)

/-- A request in flight of a service, not yet answered, and its body. -/
def Dev.mbxService (d : Dev) (m : Nat) (i : Initiator) (service : Nat) : Option (List Byte) :=
  match d.mbxReq m i with
  | some r =>
    if r.ready.isNone ∧ d.up (mbxTarget m) ∧ (d.mbxRefuse m i r).isNone ∧ leNat (d.mbxBytes m i 0 2) = service
    then some (d.mbxBytes m i 4 (r.len - 4)) else none
  | none => none

end Sys2Proof.Machine
end

