-- ==== Sys2Proof/Machine/Calendar.lean ====
section
/-! DEFINITION. Civil dates from seconds counted from 2000-01-01 00:00:00 (R339), the tariff calendar (R350, R351) and the
billing boundaries (R358). -/
namespace Sys2Proof.Machine

/-- Seconds of a day. -/
def daySecs : Int := 86400

/-- Year, month and day of a day number counted from 2000-01-01, in the Gregorian calendar. -/
def civilOf (day : Int) : Int × Nat × Nat :=
  let z := day + 730425
  let era := z / 146097
  let doe := (z - era * 146097).toNat
  let yoe := (doe - doe / 1460 + doe / 36524 - doe / 146096) / 365
  let doy := doe - (365 * yoe + yoe / 4 - yoe / 100)
  let mp := (5 * doy + 2) / 153
  let m := if mp < 10 then mp + 3 else mp - 9
  ((yoe : Int) + era * 400 + (if m ≤ 2 then 1 else 0), m, doy - (153 * mp + 2) / 5 + 1)

/-- The day number of a date. -/
def dayOf (y : Int) (m d : Nat) : Int :=
  let y' := if m ≤ 2 then y - 1 else y
  let era := y' / 400
  let yoe := (y' - era * 400).toNat
  let doy := (153 * (if 2 < m then m - 3 else m + 9) + 2) / 5 + d - 1
  era * 146097 + ((yoe * 365 + yoe / 4 - yoe / 100 + doy : Nat) : Int) - 730425

/-- The weekday of a day number, 0 Monday: 2000-01-01 was a Saturday. -/
def weekday (day : Int) : Nat := ((day + 5) % 7).toNat

/-! ### The tariff calendar -/

/-- A BIL register's value in force: a write takes effect at the next latch (R391). -/
def Dev.bilF (d : Dev) (r : Reg) (i : Nat) : Word := kvGet d.bil.live (r.key i 0) (d.rd r i)

/-- A date listed in an enabled BIL_SPDAY entry (R350). -/
def Dev.specialDay (d : Dev) (day : Int) : Bool :=
  let (y, m, dd) := civilOf day
  (List.range 32).any (fun k =>
    let w := d.bilF BIL_SPDAY k
    bitOf w 31 && (decide (bits w 22 16 = 0x7F) || decide ((bits w 22 16 : Int) = y - 2000)) &&
      decide (bits w 11 8 = m) && decide (bits w 4 0 = dd))

/-- An enabled calendar entry matches a day. -/
def Dev.calMatches (d : Dev) (day : Int) (k : Nat) : Bool :=
  let w := d.bilF BIL_CALENT k
  let (_, m, _) := civilOf day
  bitOf w 31 && bitOf (d.bilF BIL_CALMON k) (m - 1) &&
    bitOf w (16 + (if d.specialDay day then 7 else weekday day))

/-- The switch point of a day with the latest minute in lo..hi, the lowest index deciding between equals: minute, entry. -/
def Dev.daySwitch (d : Dev) (day : Int) (lo hi : Nat) : Option (Nat × Nat) :=
  (List.range 32).foldl (fun acc k =>
    let m := bits (d.bilF BIL_CALENT k) 10 0
    if d.calMatches day k ∧ lo ≤ m ∧ m ≤ hi then
      match acc with
      | some (m', _) => if m' < m then some (m, k) else acc
      | none => some (m, k)
    else acc) none

/-- The calendar tariff at a local time: that of the most recent switch point, searched back over 8 days (R351). -/
def Dev.calTariff (d : Dev) (loc : Int) : Option Nat :=
  let day := loc / daySecs
  let minute := ((loc % daySecs) / 60).toNat
  let r := (List.range 9).foldl (fun (acc : Option (Nat × Nat)) (k : Nat) =>
    match acc with
    | some _ => acc
    | none => d.daySwitch (day - (k : Int)) (if k = 8 then minute else 0) (if k = 0 then minute else 1439)) none
  r.map (fun p => bits (d.bilF BIL_CALENT p.2) 26 24)

/-! ### Billing boundaries (R358) -/

/-- The months since January 2000 of a local time, and whether day DAY, HOUR:00 of that month has come. -/
def monthsTo (loc : Int) (dayN hour : Nat) : Int :=
  let (y, m, _) := civilOf (loc / daySecs)
  let b := (dayOf y m dayN) * daySecs + hour * 3600
  (y - 2000) * 12 + (m - 1 : Nat) + (if b ≤ loc then 1 else 0)

/-- The number of scheduled boundaries at or before a local time, counted from a fixed origin. -/
def bpCount (mode dayN hour : Nat) (loc : Int) : Int :=
  if mode = 1 then (loc - hour * 3600) / daySecs
  else if mode = 2 then (loc - ((dayN + 2) % 7 * 86400 + hour * 3600 : Nat)) / (7 * daySecs)
  else if mode = 3 then monthsTo loc dayN hour
  else 0

/-- The local time of the boundary with a count of `bpCount`. -/
def bpTime (mode dayN hour : Nat) (n : Int) : Int :=
  if mode = 1 then n * daySecs + hour * 3600
  else if mode = 2 then n * (7 * daySecs) + ((dayN + 2) % 7 * 86400 + hour * 3600 : Nat)
  else
    let k := n - 1
    dayOf (2000 + k / 12) ((k % 12).toNat + 1) dayN * daySecs + hour * 3600

/-! ### The clocks (R339-R341) -/

/-- Civil time of an instant (R612). -/
def Dev.civil (d : Dev) (t : Nat) : Int :=
  ((t : Int) + d.tmb.offs) / 1000000000 - sext (d.fld TMB_UTC 0 15 0) 16 - 946684800

/-- TMB_UTC.CIVVALID. -/
def Dev.civValid (d : Dev) : Bool := d.bit TMB_UTC 0 31

/-- Local time: civil time + 900 s x BIL_LOCOFF in force. -/
def Dev.localTime (d : Dev) (t : Nat) : Int := d.civil t + 900 * sext (bits (d.bilF BIL_LOCOFF 0) 7 0) 8

/-- Metrology time at an instant (R340). -/
def Dev.mtime (d : Dev) (t : Nat) : Nat := d.bil.mtBase + (t - d.bil.mtFrom) / 1000000000

end Sys2Proof.Machine
end

