-- ==== Sys2Proof/Machine/Bf24.lean ====
section
/-! DEFINITION. BF24 arithmetic (R147-R154): 24-bit mantissas with a shared 6-bit exponent, the 56-bit accumulator with
46 fraction bits, renormalisation of a vector to one exponent, and exact comparison. -/
namespace Sys2Proof.Machine

/-- A BF24 value: (m / 2^23) * 2^e (R147). -/
structure BF where
  m : Int
  e : Int
  deriving DecidableEq, Repr

/-- An exact value inside the accumulator: n * 2^(-46) * 2^e. -/
structure Acc where
  n : Int
  e : Int
  deriving DecidableEq, Repr

/-- The value of a BF24 word (Table 4.2). -/
def bfOf (w : Word) : BF := ⟨sext (bits w 31 8) 24, sext (bits w 5 0) 6⟩

/-- The word of a BF24 value. -/
def BF.word (x : BF) : Word := w32 (twos x.m 24 * 256 + twos x.e 6)

/-- Zero, with the exponent of an all-zero vector (R151). -/
def BF.zero : BF := ⟨0, -32⟩

/-- n / 2^s rounded to nearest, ties to even (R152). -/
def rneShift (n : Int) (s : Nat) : Int :=
  let q := n / (2 ^ s : Nat)
  let r := n - q * (2 ^ s : Nat)
  let h : Int := (2 ^ s : Nat)
  if 2 * r < h then q else if h < 2 * r then q + 1 else if q % 2 = 0 then q else q + 1

/-- n * 2^s rounded to an integer, nearest, ties to even. -/
def rneScale (n s : Int) : Int := if 0 ≤ s then n * (2 ^ s.toNat : Nat) else rneShift n (-s).toNat

/-- The integer nearest to a / b, ties to even. -/
def rneDiv (a : Int) (b : Nat) : Int :=
  let q := a / (b : Int)
  let r := a - q * b
  if 2 * r < b then q else if (b : Int) < 2 * r then q + 1 else if q % 2 = 0 then q else q + 1

/-- A value as an accumulator term. -/
def BF.term (x : BF) : Acc := ⟨x.m * (2 ^ 23 : Nat), x.e⟩

/-- The exact product of two mantissas (R150). -/
def BF.mul (x y : BF) : Acc := ⟨x.m * y.m, x.e + y.e⟩

/-- The negated term. -/
def Acc.neg (x : Acc) : Acc := ⟨-x.n, x.e⟩

/-- The largest exponent among the terms that are not zero (R150). -/
def accExp : List Acc → Option Int
  | [] => none
  | t :: r => if t.n = 0 then accExp r else
      match accExp r with
      | none => some t.e
      | some e => some (max t.e e)

/-- The sum of terms: each is aligned to the largest exponent and rounded at the 46th fraction bit (R150, R152). -/
def accSum (ts : List Acc) : Acc :=
  match accExp ts with
  | none => ⟨0, -32⟩
  | some e => ⟨ts.foldl (fun s t => s + rneScale t.n (t.e - e)) 0, e⟩

/-- The mantissa of an accumulator value at an exponent, rounded. -/
def Acc.mant (x : Acc) (e : Int) : Int := rneScale x.n (x.e - e - 23)

/-- A mantissa in range. -/
def mantOk (m : Int) : Bool := decide (-(2 ^ 23 : Nat) ≤ m) && decide (m < (2 ^ 23 : Nat))

/-- The smallest exponent of -32..31 at which every mantissa of the vector is in range (R151, R152). -/
def renormExp (v : List Acc) : Option Int :=
  ((List.range 64).map (fun (k : Nat) => Int.ofNat k - 32)).find? (fun e => v.all (fun x => mantOk (x.mant e)))

/-- Renormalise a vector to one shared exponent; beyond +31 the values saturate and the flag is set (R151-R153). -/
def renorm (v : List Acc) : List BF × Bool :=
  match renormExp v with
  | some e => (v.map (fun x => ⟨x.mant e, e⟩), false)
  | none => (v.map (fun x => ⟨clampI (x.mant 31) (-(2 ^ 23 : Nat)) (2 ^ 23 - 1 : Nat), 31⟩), true)

/-- Renormalise one value. -/
def renorm1 (x : Acc) : BF × Bool :=
  match renorm [x] with
  | (y :: _, o) => (y, o)
  | ([], o) => (BF.zero, o)

/-- Exact comparison of two accumulator values: a < b (R154). -/
def Acc.lt (a b : Acc) : Bool :=
  let e := min a.e b.e
  decide (a.n * (2 ^ (a.e - e).toNat : Nat) < b.n * (2 ^ (b.e - e).toNat : Nat))

/-- Exact comparison of two BF24 values (R154). -/
def BF.lt (a b : BF) : Bool := a.term.lt b.term

/-- Equal as values. -/
def BF.eqv (a b : BF) : Bool := !a.lt b && !b.lt a

/-- Equal as values. -/
def Acc.eqv (a b : Acc) : Bool := !a.lt b && !b.lt a

/-- The smaller of two. -/
def BF.min (a b : BF) : BF := if b.lt a then b else a

/-- Negative. -/
def BF.neg? (a : BF) : Bool := decide (a.m < 0)

/-- Positive. -/
def BF.pos? (a : BF) : Bool := decide (0 < a.m)

/-- A value held to an interval (the upper limit is applied last but one, the lower limit is the floor). -/
def Acc.clamp (x lo hi : Acc) : Acc := if x.lt lo then lo else if hi.lt x then hi else x

/-- The BF24 value nearest to a rational number a / b, at the smallest exponent that holds it (R151, R152). -/
def bfRat (a : Int) (b : Nat) : BF :=
  if a = 0 then BF.zero
  else
    let at' := fun (e : Int) => if e ≤ 23 then rneDiv (a * (2 ^ (23 - e).toNat : Nat)) b else rneDiv a (b * 2 ^ (e - 23).toNat)
    match ((List.range 64).map (fun (k : Nat) => Int.ofNat k - 32)).find? (fun e => mantOk (at' e)) with
    | some e => ⟨at' e, e⟩
    | none => ⟨clampI (at' 31) (-(2 ^ 23 : Nat)) (2 ^ 23 - 1 : Nat), 31⟩

/-- The exact value of a BF24 as a fraction: numerator and a power-of-two denominator. -/
def BF.num (x : BF) : Int := if 23 ≤ x.e then x.m * (2 ^ (x.e - 23).toNat : Nat) else x.m

/-- The denominator of the fraction. -/
def BF.den (x : BF) : Nat := if 23 ≤ x.e then 1 else 2 ^ (23 - x.e).toNat

/-- An accumulator value as a fraction: numerator and denominator. -/
def Acc.frac (x : Acc) : Int × Nat :=
  if 46 ≤ x.e then (x.n * (2 ^ (x.e - 46).toNat : Nat), 1) else (x.n, 2 ^ (46 - x.e).toNat)

/-- The sum of two fractions. -/
def fracAdd (a b : Int × Nat) : Int × Nat := (a.1 * (b.2 : Int) + b.1 * (a.2 : Int), a.2 * b.2)

/-- floor (x * k) for an integer k, at least 0. -/
def BF.floorMul (x : BF) (k : Nat) : Nat := (x.num * k / (x.den : Int)).toNat

/-- A coefficient of a group, aligned to the largest exponent among the group's words whose mantissa is not 0 (R149). -/
def groupCoef (ws : List Word) (k : Nat) : BF :=
  match accExp (ws.map (fun w => (bfOf w).term)) with
  | none => BF.zero
  | some e => let x := bfOf (ws.getD k 0); ⟨rneScale x.m (x.e - e), e⟩

end Sys2Proof.Machine
end

