-- ==== Sys2Proof/Machine/Crc.lean ====
section
/-! DEFINITION. The two checksums of the frames and records: CRC-32 (R126) and CRC-32C (R435), both reflected, with all
ones as initial value and final XOR. -/
namespace Sys2Proof.Machine

/-- One bit of a reflected CRC with the reversed polynomial p. -/
def crcBit (p : Nat) (c : Nat) : Nat := if c % 2 = 1 then (c / 2) ^^^ p else c / 2

/-- One byte. -/
def crcByte (p : Nat) (c : Nat) (b : Byte) : Nat :=
  let x := c ^^^ b.toNat
  crcBit p (crcBit p (crcBit p (crcBit p (crcBit p (crcBit p (crcBit p (crcBit p x)))))))

/-- A reflected CRC over bytes. -/
def crcOf (p : Nat) (l : List Byte) : Nat := (l.foldl (crcByte p) 0xFFFFFFFF) ^^^ 0xFFFFFFFF

/-- CRC-32 of R126: polynomial 0x04C1_1DB7. -/
def crc32 (l : List Byte) : Nat := crcOf 0xEDB88320 l

/-- CRC-32C of R435: polynomial 0x1EDC_6F41. -/
def crc32c (l : List Byte) : Nat := crcOf 0x82F63B78 l

end Sys2Proof.Machine
end

