-- ==== Sys2Proof/Machine/Filter.lean ====
section
/-! DEFINITION. The filter paths of a sigma-delta channel (R106-R108, R112): the weight of each bit of a bitstream in a sinc
output, the encoding of a ones density, and the samples of the fast-trip and the control path. A stream is the number whose
bit i is the bit that arrived i modulator cycles ago; `none` stands for the stream of a modulator at zero input, ones and zeros in
turn, whose density is one half. -/
namespace Sys2Proof.Machine

/-- A bitstream up to the present cycle. -/
abbrev Stream := Option Nat

/-- The weight of the bit i cycles old in a sinc2 output of ratio n: two moving sums of n bits. -/
def sinc2Tap (n i : Nat) : Nat := (i + 1) - 2 * (i + 1 - n)

/-- The weight in a sinc3 output: three moving sums of n bits. -/
def sinc3Tap (n i : Nat) : Nat :=
  let c (x : Nat) : Nat := x * (x - 1) / 2
  c (i + 2) + 3 * c (i + 2 - 2 * n) - 3 * c (i + 2 - n)

/-- The weight in a sinc4 output: four moving sums of n bits. -/
def sinc4Tap (n i : Nat) : Nat :=
  let c (x : Nat) : Nat := x * (x - 1) * (x - 2) / 6
  c (i + 3) + 6 * c (i + 3 - 2 * n) - 4 * c (i + 3 - n) - 4 * c (i + 3 - 3 * n)

/-- The weights of the ones among the last `len` bits of a stream, added up. -/
def onesWeight (tap : Nat → Nat) (len st : Nat) : Nat :=
  if st = 0 then 0 else (List.range len).foldl (fun s i => if st.testBit i then s + tap i else s) 0

/-- The sinc2 output of ratio 16 in 1/256 of full density (the fast-trip path of Table 3.3). -/
def sinc2Ones (st : Nat) : Nat := onesWeight (sinc2Tap 16) 31 st

/-- The sinc3 output of ratio 128 in 1/2^21 of full density (the control path). -/
def sinc3Ones (st : Nat) : Nat := onesWeight (sinc3Tap 128) 382 st

/-- The sinc4 output of ratio 512 in 1/2^36 of full density (the metering path, before its resampler). -/
def sinc4Ones (st : Nat) : Nat := onesWeight (sinc4Tap 512) 2045 st

/-- A ones density of ones / full as a signed number of b bits: round((2d - 1) * 2^(b - 1)), clamped (R107). -/
def encodeDensity (ones full b : Nat) : Int :=
  clampI (rneDiv ((2 * (ones : Int) - full) * (2 ^ (b - 1) : Nat)) full) (-(2 ^ (b - 1) : Nat)) ((2 ^ (b - 1) : Nat) - 1)

/-- A stream as the filters see it: inverted by POL, and delayed by the coarse delay on every path (R112, Table 3.6). -/
def delayed (pol : Bool) (coarse : Nat) (st : Nat) : Nat :=
  (if pol then 2 ^ 8192 - 1 - st % 2 ^ 8192 else st) >>> coarse

/-- A fast-trip sample (R106, R107). -/
def fastOf (pol : Bool) (coarse : Nat) : Stream → Int
  | none => 0
  | some st => encodeDensity (sinc2Ones (delayed pol coarse st)) (2 ^ 8) 16

/-- The frame average: the mean of w sinc3 outputs, 128 cycles apart (R108). A fine delay is an interpolation whose coefficients
the spec does not give: that value is free. -/
def controlOf (pol : Bool) (coarse fine w : Nat) : Stream → Int
  | none => 0
  | some st =>
    let x := delayed pol coarse st
    if fine = 0 then
      encodeDensity (((List.range w).map (fun k => sinc3Ones (x >>> (128 * k)))).foldl (· + ·) 0) (w * 2 ^ 21) 24
    else clampI (Config.fineDelayed w fine x) (-8388608) 8388607

/-- The n newest fast-trip outputs of a stream, 16 cycles apart, added up: what the capture stream averages (R254). -/
def fastSum (pol : Bool) (coarse n : Nat) : Stream → Int
  | none => 0
  | some st => ((List.range n).map (fun k => encodeDensity (sinc2Ones (delayed pol coarse st >>> (16 * k))) (2 ^ 8) 16)).foldl (· + ·) 0

end Sys2Proof.Machine
end

