-- ==== Sys2Proof/Machine/Symbol.lean ====
section
/-! DEFINITION. The line code of the cabinet links (R123, R127): the 8b/10b code of IEEE 802.3 clause 36, that the spec names
and does not print. A symbol is the number whose bit 0 is the bit sent first; `true` is running disparity plus. -/
namespace Sys2Proof.Machine

/-- The six-bit code of each five-bit value at running disparity minus, its first bit in bit 0. -/
def code6 : List Nat :=
  [0b111001, 0b101110, 0b101101, 0b100011, 0b101011, 0b100101, 0b100110, 0b000111,
   0b100111, 0b101001, 0b101010, 0b001011, 0b101100, 0b001101, 0b001110, 0b111010] ++
  [0b110110, 0b110001, 0b110010, 0b010011, 0b110100, 0b010101, 0b010110, 0b010111,
   0b110011, 0b011001, 0b011010, 0b011011, 0b011100, 0b011101, 0b011110, 0b110101]

/-- The four-bit code of each three-bit value of a data byte at running disparity minus. -/
def code4 : List Nat := [0b1101, 0b1001, 0b1010, 0b0011, 0b1011, 0b0101, 0b0110, 0b0111]

/-- The ones of a code. -/
def onesIn (n x : Nat) : Nat := ((List.range n).filter (fun i => x.testBit i)).length

/-- A code of n bits by running disparity: the complement at plus where the code is not balanced, or where the pair of balanced
codes alternates. -/
def pickCode (n c : Nat) (alternates rd : Bool) : Nat :=
  if rd && (decide (2 * onesIn n c ≠ n) || alternates) then 2 ^ n - 1 - c else c

/-- The running disparity after a code: it turns on an unbalanced one. -/
def rdAfter (n c : Nat) (rd : Bool) : Bool := if 2 * onesIn n c = n then rd else !rd

/-- The six-bit code of x. -/
def enc6 (rd : Bool) (x : Nat) : Nat := pickCode 6 (code6.getD x 0) (decide (x = 7)) rd

/-- The four-bit code of y after x: for y = 7 the second form where the first would make a run of five (R123). -/
def enc4 (rd : Bool) (x y : Nat) : Nat :=
  let alt := decide (y = 7) && (if rd then [11, 13, 14].contains x else [17, 18, 20].contains x)
  pickCode 4 (if alt then 0b1110 else code4.getD y 0) (decide (y = 3)) rd

/-- The symbol of a data byte and the running disparity after it. -/
def encByte (rd : Bool) (b : Nat) : Nat × Bool :=
  let a := enc6 rd (b % 32)
  let r := rdAfter 6 a rd
  let c := enc4 r (b % 32) (b / 32 % 8)
  (a + 64 * c, rdAfter 4 c r)

/-- The control symbols of the links: K27.7 starts C- and T-frames, K28.2 an S-frame, K29.7 ends all three, K28.5 is idle. -/
inductive Comma where
  | startFrame | startS | endFrame | idle
  deriving DecidableEq, Repr

/-- The symbol of a control character at running disparity minus. -/
def Comma.code : Comma → Nat
  | .startFrame => 0b011011 + 64 * 0b0001
  | .startS => 0b111100 + 64 * 0b1010
  | .endFrame => 0b011101 + 64 * 0b0001
  | .idle => 0b111100 + 64 * 0b0101

/-- The symbol of a control character and the running disparity after it: its form at plus is the complement. -/
def encComma (rd : Bool) (k : Comma) : Nat × Bool :=
  let c := if rd then 1023 - k.code else k.code
  (c, rdAfter 10 c rd)

/-- The symbols of bytes, from a running disparity on. -/
def encBytes (rd : Bool) : List Byte → List Nat × Bool
  | [] => ([], rd)
  | b :: r =>
    let (s, d) := encByte rd b.toNat
    let (l, e) := encBytes d r
    (s :: l, e)

/-- The symbols of a frame: its start character, its bytes, K29.7. -/
def encFrame (rd : Bool) (start : Comma) (bs : List Byte) : List Nat × Bool :=
  let (s, d) := encComma rd start
  let (l, e) := encBytes d bs
  let (z, f) := encComma e .endFrame
  (s :: l ++ [z], f)

/-- The byte a data symbol spells at a running disparity, none where the symbol is not valid there. -/
def decByte (rd : Bool) (s : Nat) : Option Byte :=
  let a := s % 64
  let c := s / 64
  match (List.range 32).find? (fun x => decide (enc6 rd x = a)) with
  | none => none
  | some x => match (List.range 8).find? (fun y => decide (enc4 (rdAfter 6 a rd) x y = c)) with
    | none => none
    | some y => some (w8 (x + 32 * y))

/-- The bytes that data symbols spell up to the end character, none where one is not valid or nothing may follow it. -/
def decBytes (rd : Bool) : List Nat → Option (List Byte)
  | [] => none
  | [s] => if s = (encComma rd .endFrame).1 then some [] else none
  | s :: r => match decByte rd s with
    | none => none
    | some b => (decBytes (rdAfter 10 s rd) r).map (fun l => b :: l)

/-- The bytes of a frame of symbols that starts with K27.7 and ends with K29.7, every symbol valid with correct running disparity
(R127); none otherwise. -/
def frameOf (rd : Bool) (syms : List Nat) : Option (List Byte) :=
  match syms with
  | [] => none
  | s :: r => if s = (encComma rd .startFrame).1 then decBytes (rdAfter 10 s rd) r else none

end Sys2Proof.Machine
end

