-- ==== Sys2Proof/Machine/Sense.lean ====
section
/-! DEFINITION. Sigma-delta sensing and the cabinet links (spec/03_sensing_and_cabinet_links.md): supervision of the
bitstreams, samples, snapshots and skew calibration; T-frames, S-frames and the link state machine. -/
namespace Sys2Proof.Machine

/-! ### Channels -/

/-- A channel's working state. -/
def Dev.sdmC (d : Dev) (c : Nat) : SdmChan := kvGet d.sdm.chan c {}

/-- Replace a channel's working state. -/
def Dev.setSdmC (d : Dev) (c : Nat) (x : SdmChan) : Dev :=
  { d with sdm := { d.sdm with chan := kvSet d.sdm.chan c x {} } }

/-- The clock group of a channel (Table 3.2). -/
def sdmGroup (c : Nat) : Nat := if c < 8 then 0 else if c < 16 then 1 else if c < 24 then 2 else 3

/-- SDM_CLKSTAT bits 3:0 after a change of SDM_CLKCFG from `old` (Table 3.4): the clock of a group that the write enabled, or whose
source it changed, is present; that of a disabled group is not; every other group keeps what its supervision last found, so that an
external clock found lost stays absent (R117). That a clock counts as present until its loss is found is log entry 199's. -/
def Dev.showClocks (d : Dev) (old : Word) : Dev :=
  d.each (List.range 4) (fun g e =>
    if !e.bit SDM_CLKCFG 0 g then e.setBit SDM_CLKSTAT 0 g false
    else if !bitOf old g || (bitOf old (8 + g) != e.bit SDM_CLKCFG 0 (8 + g)) then e.setBit SDM_CLKSTAT 0 g true
    else e)

/-- Latch a channel's fault in SDM_FLT0 or SDM_FLT1. -/
def Dev.sdmFault (d : Dev) (c : Nat) : Dev :=
  if c < 32 then d.setBit SDM_FLT0 0 c true else d.setBit SDM_FLT1 0 (c - 32) true

/-- SDM_CHSTAT.STUCK. -/
def Dev.sdmStuck (d : Dev) (c : Nat) : Bool := d.bit SDM_CHSTAT c 0

/-- Mark a channel's control and metering samples invalid (R118). -/
def Dev.sdmInvalidate (d : Dev) (c : Nat) : Dev := (d.setBit SDM_CTS c 31 false).setBit SDM_MTS c 31 false

/-- A channel delivers samples on its fast-trip and control paths: enabled, its group enabled, not STUCK, not settling. -/
def Dev.sdmLive (d : Dev) (c : Nat) : Bool :=
  decide (c < d.variant.sdInputs) && d.up .control && d.bit SDM_CHCFG c 0 && d.bit SDM_CLKCFG 0 (sdmGroup c) &&
    !d.sdmStuck c && (d.sdmC c).settleFast.isNone

/-- The same on its metering path. -/
def Dev.sdmLiveM (d : Dev) (c : Nat) : Bool :=
  decide (c < d.variant.sdInputs) && d.up .control && d.bit SDM_CHCFG c 0 && d.bit SDM_CLKCFG 0 (sdmGroup c) &&
    !d.sdmStuck c && (d.sdmC c).settleMtr.isNone

/-- A channel becomes STUCK after STUCKLIM * 32 bits without a transition, or 200 ns without an edge of its group's
external clock (R117). -/
def Dev.stuckDetect (d : Dev) (c quietBits clockQuietNs : Nat) : Dev :=
  let lim := max 1 (d.fld SDM_CHCFG c 15 12) * 32
  let ext := d.bit SDM_CLKCFG 0 (8 + sdmGroup c)
  if c < d.variant.sdInputs ∧ d.up .control ∧ (lim ≤ quietBits ∨ (ext ∧ 200 ≤ clockQuietNs)) then
    let d0 := if ext ∧ 200 ≤ clockQuietNs then d.setBit SDM_CLKSTAT 0 (sdmGroup c) false else d
    let d1 := (((d0.setBit SDM_CHSTAT c 0 true).setBit SDM_CHSTAT c 8 true).sdmFault c).sdmInvalidate c
    let d2 := if d.sdm.calFrom.isSome ∧ (c = d.sdm.calRef ∨ c = d.sdm.calMeas)
      then { d1 with sdm := { d1.sdm with calStuck := true } } else d1
    d2.ev 0x20 0
  else d

/-- STUCK clears after 1,024 bits with a transition within the limit (R117); the clock that brought them is present. -/
def Dev.stuckClear (d : Dev) (c goodBits : Nat) : Dev :=
  if 1024 ≤ goodBits then (d.setBit SDM_CHSTAT c 0 false).setBit SDM_CLKSTAT 0 (sdmGroup c) true else d

/-- A change of EN, POL or SDM_DLY starts settling on every path (R116). -/
def Dev.startSettle (d : Dev) (c : Nat) : Dev :=
  ((d.setSdmC c { d.sdmC c with settleFast := some d.time, settleMtr := some d.time }).setBit SDM_CHSTAT c 2 true).sdmInvalidate c

/-- Settling ends 60 µs after the change on the fast-trip and control paths and 1 ms after it on the metering path (R116). -/
def Dev.settleEnd (d : Dev) (c : Nat) : Dev :=
  let x := d.sdmC c
  let f := x.settleFast.bind (fun s => if s + 60000 ≤ d.time then none else some s)
  let m := x.settleMtr.bind (fun s => if s + 1000000 ≤ d.time then none else some s)
  (d.setSdmC c { x with settleFast := f, settleMtr := m }).setBit SDM_CHSTAT c 2 (f.isSome || m.isSome)

/-- A channel's fast-trip sample from its bitstream, under POL and the coarse delay (R106, R107, R112). -/
def Dev.fastValue (d : Dev) (xs : List Stream) (c : Nat) : Int :=
  fastOf (d.bit SDM_CHCFG c 1) (d.fld SDM_DLY c 5 0) (xs.getD c none)

/-- The stamp of a fast-trip sample that leaves its filter at t: the filter's 0.75 µs and the coarse delay before it (R111). -/
def Dev.fastStamp (d : Dev) (c t : Nat) : Nat := t - (750 + 50 * d.fld SDM_DLY c 5 0)

/-- Take a fast-trip sample: SDM_FTS, and OVR after 2 samples at the clamp (R119). OVR belongs to live samples: on a channel that goes
STUCK, settles or is disabled it keeps its value until the next one (log entry 200). -/
def Dev.fastSample (d : Dev) (c : Nat) (v : Int) : Dev :=
  let at' := decide (v = -32768) || decide (v = 32767)
  let n := if at' then (d.sdmC c).clampRun + 1 else 0
  let d1 := (d.setFld SDM_FTS c 15 0 (twos v 16)).setSdmC c { d.sdmC c with clampRun := min n 2 }
  let was := d.bit SDM_CHSTAT c 1
  if 2 ≤ n then
    let d2 := ((d1.setBit SDM_CHSTAT c 1 true).setBit SDM_CHSTAT c 9 true).sdmFault c
    if was then d2 else d2.ev 0x20 1
  else d1.setBit SDM_CHSTAT c 1 false

/-- A control sample as SDM_CTS shows it: bits 23:0 and VALID. -/
def ctsWord (x : Int) (valid : Bool) : Word := w32 (twos (clampI x (-8388608) 8388607) 24 + 2 ^ 31 * b2n valid)

/-- SDM_CHCFG.AVG as it acts (Table 3.6). -/
def Dev.avgW (d : Dev) (c : Nat) : Nat := max 1 (d.fld SDM_CHCFG c 10 8)

/-- A channel's frame average from its bitstream, under POL, AVG and its delays (R106-R108, R112). -/
def Dev.controlValue (d : Dev) (xs : List Stream) (c : Nat) : Int :=
  controlOf (d.bit SDM_CHCFG c 1) (d.fld SDM_DLY c 5 0) (d.fld SDM_DLY c 12 8) (d.avgW c) (xs.getD c none)

/-- The frame-averaged control samples at a boundary; the control path stops in Hold and Standby (R29). Bits 23:0 beside VALID 0 are
the filter's output at a boundary, and the last value in Hold and Standby (log entry 201). -/
def Dev.controlSamples (d : Dev) (xs : List Stream) : Dev :=
  let run := decide (d.level ≠ .hold) && decide (d.level ≠ .standby)
  d.each (List.range d.variant.sdInputs) (fun c e =>
    if run then e.wr SDM_CTS c (ctsWord (e.controlValue xs c) (e.sdmLive c)) else e.setBit SDM_CTS c 31 false)

/-- The present control sample of a channel, where valid. -/
def Dev.ctl (d : Dev) (c : Nat) : Option Int :=
  if d.bit SDM_CTS c 31 then some (sext (d.fld SDM_CTS c 23 0) 24) else none

/-- A pending snapshot takes every control sample and the frame number together (R121). -/
def Dev.takeSnapshot (d : Dev) : Dev :=
  if d.sdm.snapPending then
    let d1 := d.each (List.range d.variant.sdInputs) (fun c e => e.wr (SDM_SNAP c) 0 (e.rd SDM_CTS c))
    let d2 := d1.wr SDM_SNAPFRAME 0 (d1.rd LPE_FRAMELO 0)
    ({ d2 with sdm := { d2.sdm with snapPending := false } }).ev 0x22 0
  else d

/-- SDM_SNAPCTL.TAKE: a snapshot pends; a second request merges with it (R121). -/
def Dev.snapRequest (d : Dev) (v : Word) : Dev :=
  if bitOf v 0 then { d with sdm := { d.sdm with snapPending := true } } else d

/-- SDM_CALCTL: REF and MEAS take the write, START begins a measurement (R113). START clears SDM_CALRES at once, and one written
while a measurement runs begins it anew (log entry 202). -/
def Dev.calStart (d : Dev) (i : Initiator) (v : Word) : Dev :=
  let d1 := d.fieldsWrite i 0x21 0x040 0 false v
  if bitOf v 16 then
    let r := d1.fld SDM_CALCTL 0 5 0
    let m := d1.fld SDM_CALCTL 0 13 8
    ({ d1 with sdm := { d1.sdm with calFrom := some d1.time, calRef := r, calMeas := m,
                                    calStuck := d1.sdmStuck r || d1.sdmStuck m } }).wr SDM_CALRES 0 0
  else d1

/-- A measurement ends after 2^20 modulator cycles with the delay in 0.1 ns, or fails on STUCK or a signal below 10 %
of full scale (R113); a failed measurement shows a delay of 0 (log entry 202). -/
def Dev.calDone (d : Dev) (delay : Int) (rmsRef rmsMeas : Nat) : Dev :=
  match d.sdm.calFrom with
  | none => d
  | some s =>
    if s + 52428800 ≤ d.time then
      let fail := d.sdm.calStuck || decide (rmsRef < 10) || decide (rmsMeas < 10)
      let res := 2 ^ 31 + 2 ^ 30 * b2n fail + (if fail then 0 else twos (clampI delay (-32768) 32767) 16)
      ((({ d with sdm := { d.sdm with calFrom := none } }).setBit SDM_CALCTL 0 16 false).wr SDM_CALRES 0 (w32 res)).ev 0x21 0
    else d

/-- The control-path group delay in 1/64 ns (R106, R111, R112): 9.525 µs, 3.2 µs for each further average, the coarse and
the fine delay. -/
def Dev.groupDelay64 (d : Dev) (c : Nat) : Nat :=
  609600 + (d.avgW c - 1) * 204800 + d.fld SDM_DLY c 5 0 * 3200 + d.fld SDM_DLY c 12 8 * 100

/-- SDM_GDCTL: that delay rounded to the nearest ns, halves up (R111). -/
def Dev.gdctl (d : Dev) (c : Nat) : Word := w32 ((d.groupDelay64 c + 32) / 64 % 65536)

/-- An instant in 1/64 ns in whole ns: the nearest one, halves up (R111). -/
def ns64 (x : Nat) : Nat := (x + 32) / 64

/-- The stamp in 1/64 ns of the control sample of the frame whose boundary is at t (R111). -/
def Dev.controlStamp64 (d : Dev) (c t : Nat) : Nat := 64 * t - d.groupDelay64 c

/-! ### Frames and links -/

/-- The number of the present loop frame (R165). -/
def Dev.frame (d : Dev) : Nat := (d.rd LPE_FRAMELO 0).toNat + 2 ^ 32 * (d.rd LPE_FRAMEHI 0).toNat

/-- The base frame period in ns: PERIOD cycles of 50 ns (R164). -/
def Dev.periodNs (d : Dev) : Nat := d.fld LPE_FRAMECFG 0 11 0 * 50

/-- A link's working state. -/
def Dev.link (d : Dev) (l : Nat) : LinkRec := kvGet d.links l {}

/-- Replace a link's working state. -/
def Dev.setLink (d : Dev) (l : Nat) (x : LinkRec) : Dev := { d with links := kvSet d.links l x {} }

/-- CAB_LSTAT.STATE: 0 Off, 1 Training, 2 Up, 3 Dead. -/
def Dev.linkState (d : Dev) (l : Nat) : Nat := d.fld CAB_LSTAT l 1 0

/-- The modules of a cabinet: slot s of cabinet l is module 8 l + s. -/
def linkModules (l : Nat) : List Nat := (List.range 8).map (fun s => 8 * l + s)

/-- The good frames of R127, their symbols being valid: exact length, matching CRC, and the CABIDX of the link. -/
def frameGood (l : Nat) (len : Nat) (bs : List Byte) : Bool :=
  decide (bs.length = len) && decide (leAt bs (len - 4) 4 = crc32 (bs.take (len - 4))) &&
    decide ((bs.getD 1 0).toNat % 8 = l)

/-- Write a frame into a byte window as little-endian words. -/
def Dev.showFrame (d : Dev) (r : Nat → Reg) (l words : Nat) (bs : List Byte) : Dev :=
  d.each (List.range words) (fun k e => e.wr (r k) l (w32 (leAt bs (4 * k) 4)))

/-- CAB_MTEL0-2 of a module from its telemetry bytes, all three together, AGE 0 (R142). -/
def Dev.telemetry (d : Dev) (m : Nat) (t : List Byte) : Dev :=
  ((d.wr CAB_MTEL0 m (w32 (leAt t 2 2 + 65536 * leAt t 4 2))).wr CAB_MTEL1 m
    (w32 (leAt t 1 1 + 256 * leAt t 8 1 + 65536 * leAt t 6 2))).wr CAB_MTEL2 m
    (w32 (leAt t 9 1 + 256 * leAt t 10 1))

/-- PRESENT of the module in the link's last good T-frame (Table 3.10, byte 0 bit 7). -/
def Dev.present (d : Dev) (m : Nat) : Bool :=
  bitOf (d.rd (CAB_TFRAME (3 + 3 * (m % 8))) (m / 8)) 7

/-- IAVAIL, IMEAS, VMEAS, CONTST and CONTDISC of the last good telemetry. -/
def Dev.iavail (d : Dev) (m : Nat) : Nat := d.fld CAB_MTEL1 m 31 16
/-- IMEAS in 0.1 A. -/
def Dev.imeas (d : Dev) (m : Nat) : Int := sext (d.fld CAB_MTEL0 m 15 0) 16
/-- VMEAS in 0.05 V. -/
def Dev.vmeas (d : Dev) (m : Nat) : Nat := d.fld CAB_MTEL0 m 31 16
/-- CONTST: contactors shown closed, by reach index. -/
def Dev.contst (d : Dev) (m : Nat) : Nat := d.fld CAB_MTEL1 m 11 8
/-- STATUS.CONTDISC. -/
def Dev.contdisc (d : Dev) (m : Nat) : Bool := d.bit CAB_MTEL1 m 4

/-- Epoch a is newer than b when (a - b) mod 2^16 lies in 1-32,767 (R132). -/
def newer (a b : Nat) : Bool :=
  let x := (a % 65536 + 65536 - b % 65536) % 65536
  decide (1 ≤ x) && decide (x ≤ 32767)

/-- Note an epoch seen in a T-frame or a heartbeat: AUS_EPOCH bits 31:16 keep the newest (Table 18.10). -/
def Dev.seeEpoch (d : Dev) (e : Nat) : Dev :=
  if newer e (d.fld AUS_EPOCH 0 31 16) then d.setFld AUS_EPOCH 0 31 16 e else d

/-- What a good T-frame shows of the mastership (R711, R713, R714): its TOKEPOCH, a newer epoch under the partner's role
against an ACTIVE device, and cabinets that still obey the partner while this device waits. -/
def Dev.noteToken (d : Dev) (l : Nat) (bs : List Byte) : Dev :=
  let e := leAt bs 10 2
  let theirs := decide ((bs.getD 8 0).toNat = 1 - b2n (d.bit AUS_STAT 0 4))
  let p := d.pair
  let seen := match p.tokSeen with | some x => if newer e x then e else x | none => e
  let p1 : PairState := { p with tokSeen := some seen }
  let p2 := if d.pstate = 4 ∧ theirs ∧ newer e (d.fld AUS_EPOCH 0 15 0) then { p1 with demoteSeen := some (e, l) } else p1
  let p3 := if d.pstate = 1 ∧ theirs ∧ ¬ (leAt bs 6 2).testBit 1 then { p2 with waitFrom := d.time } else p2
  { d with pair := p3 }

/-- Role B names itself 0x01, role A and a single device 0x00 (Table 3.7). -/
def Dev.tokMaster (d : Dev) : Nat := b2n (d.bit AUS_STAT 0 4)

/-- A module's rebuild is triggered (R226). -/
def Dev.triggerRebuild (d : Dev) (m : Nat) : Dev :=
  { d with share := { d.share with modu := kvMod d.share.modu m {} (fun x => { x with rebuild := 1 }) } }

/-- The link's modules see their first good T-frame after a rebuild trigger: its CONTST is kept (R226). -/
def Dev.captureContst (d : Dev) (l : Nat) : Dev :=
  d.each (linkModules l) (fun m e =>
    let x := kvGet e.share.modu m {}
    if x.rebuild = 1 then
      { e with share := { e.share with modu := kvSet e.share.modu m { x with rebuild := 2, contst := e.contst m } {} } }
    else e)

/-- 4 consecutive good T-frames that count move a link from Training to Up (R137, Table 3.12). -/
def Dev.linkUp (d : Dev) (l : Nat) : Dev :=
  let d1 := ((d.setFld CAB_LSTAT l 1 0 2).setBit CAB_UP 0 l true).setFld CAB_LSTAT l 6 4 0
  (d1.each (linkModules l) (fun m e => if e.bit RGP_MODCFG m 31 then e.triggerRebuild m else e)).ev 0x24 1

/-- A good T-frame (R129, R131, R137, R142). A second one with the frame's ECHO in time counts no further towards the four that
Training needs (log entry 203). -/
def Dev.goodTFrame (d : Dev) (l : Nat) (bs : List Byte) : Dev :=
  let d1 := d.showFrame CAB_TFRAME l 42 bs
  let d2 := d1.each (List.range 8) (fun s e => e.telemetry (8 * l + s) (slice bs (12 + 12 * s) 12))
  let cab := leAt bs 6 2
  let d3 := ((d2.setFld CAB_CABSTAT l 15 0 cab).setBit CAB_LSTAT l 8 (cab.testBit 0)).setBit CAB_LSTAT l 9 (cab.testBit 1)
  let d4 := if cab.testBit 0 ∧ ¬ d.bit CAB_LSTAT l 8 then d3.ev 0x24 2 else d3
  let d5 := ((d4.seeEpoch (leAt bs 10 2)).noteToken l bs).captureContst l
  let inTime := decide (d5.time + 1000 ≤ d5.loop.boundaryAt + d5.periodNs)
  if leAt bs 2 4 = (d5.rd LPE_FRAMELO 0).toNat ∧ inTime ∧ ¬ (d5.link l).got then
    let x := d5.link l
    let d6 := (d5.setLink l { x with got := true, good := if d5.linkState l = 1 then x.good + 1 else 0 }).setFld CAB_LSTAT l 6 4 0
    if d6.linkState l = 1 ∧ 4 ≤ (d6.link l).good then d6.linkUp l else d6
  else d5

/-- A frame's symbols arrive on a link at t, the receiver's running disparity before them being rd: a good T-frame is taken, any other
frame is discarded whole and counted (R127). -/
def Dev.tFrame (d : Dev) (l : Nat) (rd : Bool) (syms : List Nat) : Dev :=
  if l < d.variant.cabinets ∧ d.up .control then
    match (frameOf rd syms).filter (frameGood l 168) with
    | some bs => d.goodTFrame l bs
    | none => (d.incFld CAB_ERRCNT l 15 0).ev 0x24 3
  else d

/-- A miss in Training ends its run of good T-frames; the fourth consecutive one in Up sends the link to Dead at the next boundary
(Table 3.12). -/
def Dev.tMiss (d : Dev) (l : Nat) : Dev :=
  let d1 := d.incFld CAB_ERRCNT l 31 16
  if d1.linkState l = 1 then d1.setLink l { d1.link l with good := 0 }
  else if d1.linkState l = 2 then
    let d2 := d1.incFld CAB_LSTAT l 6 4
    if 4 ≤ d2.fld CAB_LSTAT l 6 4 then d2.setLink l { d2.link l with dying := true } else d2
  else d1

/-- The cut-off of a frame, 1 µs before the next boundary and once in a frame (R131, R137, R138, R142): without a T-frame that counts
AGE grows on every link, and on one that is not Off the miss is counted. -/
def Dev.tCutoff (d : Dev) (l : Nat) : Dev :=
  let x := d.link l
  if l < d.variant.cabinets ∧ d.up .control ∧ d.loop.boundaryAt + d.periodNs ≤ d.time + 1000 ∧ ¬ x.cut then
    let d1 := d.setLink l { x with cut := true }
    if x.got then d1
    else
      let d2 := d1.each (linkModules l) (fun m e => e.incFld CAB_MTEL2 m 31 24)
      if d2.linkState l = 0 then d2 else d2.tMiss l
  else d

/-- A telegram leaves as an S-frame in any link state: at once, or at the end of the S-frames before it, each of which takes 1.28 µs
(R130). What this list shows of an S-frame, its start and its bytes, stays until it has been sent and another is handed over. -/
def Dev.sSend (d : Dev) (l : Nat) (bs : List Byte) : Dev :=
  let x := d.link l
  let left := x.sframes.filter (fun p => decide (d.time < p.1 + 1280))
  let start := left.foldl (fun m p => max m (p.1 + 1280)) d.time
  d.setLink l { x with sframes := left ++ [(start, bs)] }

/-- The bytes of an S-frame (R130): CABIDX, STGLEN, the 56-byte telegram field and the CRC. -/
def sFrameBytes (l : Nat) (tel : List Byte) : List Byte :=
  let body := [w8 (l + 16), w8 (min tel.length 56)] ++ slice tel 0 56
  body ++ leBytes 4 (crc32 body)

/-- The safety island hands over a telegram: it leaves as an S-frame in every link state while the controller is out of
reset, whether or not the control island runs (R130). -/
def Dev.sFrame (d : Dev) (l : Nat) (tel : List Byte) : Dev :=
  if l < d.variant.cabinets ∧ d.pwr.phase = .running then d.sSend l (sFrameBytes l tel) else d

/-- A telegram that waits for a C-frame which will not come leaves as an S-frame (R130, R431). -/
def Dev.flushStg (d : Dev) (l : Nat) : Dev :=
  let x := d.link l
  if x.stg = [] then d else (d.setLink l { x with stg := [] }).sFrame l x.stg

/-- Entry to Dead at a boundary: UP is cleared and DEAD set (Table 3.12, R139). -/
def Dev.linkDead (d : Dev) (l : Nat) : Dev :=
  let d1 := ((d.setFld CAB_LSTAT l 1 0 3).setBit CAB_UP 0 l false).setBit CAB_DEADF 0 l true
  let d2 := d1.setLink l { d1.link l with dying := false, deadAt := d1.frame }
  (d2.setBit (BLK_EVF 0x24) 0 1 false).ev 0x24 0

/-- A link's own changes of state at a boundary, after commits: EN 0 is Off, EN 1 starts Training from Off, a link that
missed four frames enters Dead (Table 3.12). -/
def Dev.linkBoundary (d : Dev) (l : Nat) : Dev :=
  let en := d.bit CAB_LCFG l 0
  let d0 := d.setLink l { d.link l with got := false, cut := false, enWas := en }
  if !en then
    ((((d0.setFld CAB_LSTAT l 1 0 0).setFld CAB_LSTAT l 6 4 0).setBit CAB_UP 0 l false).setLink l
      { d0.link l with good := 0, dying := false }).flushStg l
  else if d0.linkState l = 0 then
    ((d0.setFld CAB_LSTAT l 1 0 1).setFld CAB_LSTAT l 6 4 0).setLink l { d0.link l with good := 0 }
  else if (d0.link l).dying && decide (d0.linkState l = 2) then d0.linkDead l
  else d0

/-- REARM in Dead moves the link to Training; in any other state it has no effect (R140). -/
def Dev.rearm (d : Dev) (l : Nat) : Dev :=
  if d.linkState l = 3 then
    ((d.setFld CAB_LSTAT l 1 0 1).setFld CAB_LSTAT l 6 4 0).setLink l { d.link l with good := 0 }
  else d

/-- A CAB_LCFG write: REARM acts at once, EN and MODEN as R749 states (R140). -/
def Dev.cabLcfg (d : Dev) (i : Initiator) (l : Nat) (inTxn : Bool) (v : Word) : Dev :=
  let d1 := d.fieldsWrite i 0x24 0x400 l inTxn v
  if bitOf v 16 then d1.rearm l else d1

/-- What a restart of the control island leaves of the links: the S-frames on their way, and as one more of them the telegram that
waited for a C-frame; everything else starts anew (R130, Table 3.12). -/
def Dev.linksRestart (d : Dev) : KV LinkRec :=
  let e := d.each (List.range d.variant.cabinets) (fun l z => z.flushStg l)
  (List.range d.variant.cabinets).foldl (fun m l => kvSet m l { sframes := (e.link l).sframes } {}) []

/-- The symbols of an S-frame on the pair, from the running disparity at its start (R130). -/
def sFrameSymbols (rd : Bool) (bs : List Byte) : List Nat := (encFrame rd .startS bs).1

/-- Loss of the external group 0 clock moves frame counting to the internal divider (R104). FRMINT then stays set until a reset or a
restart of the control island (log entry 204). -/
def Dev.frameClockFallback (d : Dev) (quietNs : Nat) : Dev :=
  if d.bit SDM_CLKCFG 0 8 ∧ 50 ≤ quietNs then
    ((d.setBit SDM_CLKSTAT 0 0 false).setBit SDM_CLKSTAT 0 16 true).ev 0x20 2
  else d

end Sys2Proof.Machine
end

