-- ==== Sys2Proof/Machine/Metrology.lean ====
section
/-! DEFINITION. The metering engines (spec/08_metrology.md): conversion, energy, gating, reverse power, zero crossings and
latch ticks, pulse outputs, total records in NVM, the flush on supply loss, and dual metering. -/
namespace Sys2Proof.Machine

/-! ### Channels and configuration in force -/

/-- A metering channel's working state. -/
def Dev.mtrC (d : Dev) (c : Nat) : MtrChan := kvGet d.mtr.chan c {}

/-- Replace it. -/
def Dev.setMtrC (d : Dev) (c : Nat) (x : MtrChan) : Dev :=
  { d with mtr := { d.mtr with chan := kvSet d.mtr.chan c x {} } }

/-- The present metering channels. -/
def Dev.mtrChans (d : Dev) : List Nat := List.range d.variant.mtrChannels

/-- The voltage and current SDM channels of a metering channel, by phase (Table 8.1). -/
def mtrIo (c : Nat) : List (Nat × Nat) := if c = 0 then [(0, 3), (1, 4), (2, 5)] else [(6 + 2 * c, 7 + 2 * c)]

/-- The value of a configuration register in force: a write takes effect at the next latch tick (R311). -/
def Dev.inForce (d : Dev) (r : Reg) (i : Nat) : Word := kvGet d.mtr.live (r.key i 0) (d.rd r i)

/-- The register at page and offset is an MTR configuration register: every such field is SEAL (R312). -/
def mtrConfig (v : Variant) (page off : Nat) : Bool :=
  decide (0x48 ≤ page ∧ page ≤ 0x4B) && (match rowOf v page off with | some r => decide (r.sealed ≠ 0) | none => false)

/-- Keep the value in force of a configuration register that is about to be written, and show PEND (R311). -/
def Dev.keepInForce (d : Dev) (page off inst : Nat) : Dev :=
  let r := regAt d.variant page off
  let k := r.key inst 0
  { d with mtr := { d.mtr with live := kvPut d.mtr.live k (kvGet d.mtr.live k (d.rd r inst)) } }.setBit MTR_LATCHSTAT 0 1 true

/-- MTR_LATCHCFG.N in force, 1 to 1,024. -/
def Dev.latchN (d : Dev) : Nat := bits (d.inForce MTR_LATCHCFG 0) 10 0

/-- MTR_CHCFG.EN in force. -/
def Dev.mtrEn (d : Dev) (c : Nat) : Bool := bitOf (d.inForce MTR_CHCFG c) 0

/-- REVTIME in force in sample instants of 100 us: 0 acts as 1, above 10,000 as 10,000 (Table 8.5). -/
def Dev.revSamples (d : Dev) (c : Nat) : Nat := clampN (bits (d.inForce MTR_REVTIME c) 13 0) 1 10000 * 10

/-- The common denominator of R291: 1,000 x 10^9 x 256 x 2^23. -/
def calDen : Nat := 1000000000000 * 2 ^ 31

/-- A calibrated sample of R291 as a numerator over calDen. -/
def calNum (scl gain off : Word) (s : Int) : Int := (scl.toNat : Int) * (1000000000 + gain.toInt) * (256 * s + off.toInt)

/-- v of phase ph in volts, over calDen. -/
def Dev.vNum (d : Dev) (c ph : Nat) (s : Int) : Int :=
  calNum (d.inForce (MTR_VSCL ph) c) (d.inForce (MTR_VGAIN ph) c) (d.inForce (MTR_VOFF ph) c) s

/-- i of phase ph in amperes, over calDen. -/
def Dev.iNum (d : Dev) (c ph : Nat) (s : Int) : Int :=
  calNum (d.inForce (MTR_ISCL ph) c) (d.inForce (MTR_IGAIN ph) c) (d.inForce (MTR_IOFF ph) c) s

/-! ### Energy per sample (R294-R302) -/

/-- Show a metering sample in SDM_MTS with its validity (R107, R111, R118). -/
def Dev.meterSamples (d : Dev) (xs : List Int) : Dev :=
  d.each (List.range d.variant.sdInputs) (fun c e => e.wr SDM_MTS c (ctsWord (xs.getD c 0) (e.sdmLiveM c)))

/-- The metering sample of an SDM channel, where valid. -/
def Dev.mts (d : Dev) (c : Nat) : Option Int :=
  if d.bit SDM_MTS c 31 then some (sext (d.fld SDM_MTS c 23 0) 24) else none

/-- The phases of a channel's sample as (v, i) over calDen; none where the sample is invalid for metering (R297). -/
def Dev.phases (d : Dev) (c : Nat) (stamp : Nat) : Option (List (Int × Int)) :=
  if !d.mtrEn c || (match d.mtr.stop with | some t => decide (t ≤ stamp) | none => false) then none
  else (mtrIo c).zipIdx.foldr (fun (x : (Nat × Nat) × Nat) acc =>
    match acc, d.mts x.1.1, d.mts x.1.2 with
    | some l, some sv, some si => some ((d.vNum c x.2 sv, d.iNum c x.2 si) :: l)
    | _, _, _ => none) (some [])

/-- The valid entries of a creep window: their sum and their count. -/
def winSum (w : List (Option Nat)) : Nat × Nat :=
  w.foldl (fun (a : Nat × Nat) x => match x with | some v => (a.1 + v, a.2 + 1) | none => a) (0, 0)

/-- The creep gate of R300: ICREEP = IRATED x CREEP x 10^-6, compared exactly. -/
def Dev.gateOpen (d : Dev) (c : Nat) (wins : List (List (Option Nat))) : Bool :=
  let thr := (d.inForce MTR_IRATED c).toNat * bits (d.inForce MTR_CHCFG c) 15 8
  decide (thr = 0) || wins.any (fun w =>
    let (s, n) := winSum w
    decide (0 < n) &&
      (if c = 0 then decide (thr * thr * n * (calDen * calDen) ≤ s * 1000000000000000000)
       else decide (thr * n * calDen ≤ s * 1000000000)))

/-- Push a sample's currents into the creep windows: 100 of |i| on a DC channel, 200 of i squared per phase on channel 0;
an invalid sample is left out of the means (R300). -/
def pushWins (c : Nat) (wins : List (List (Option Nat))) (ph : Option (List (Int × Int))) : List (List (Option Nat)) :=
  (List.range (mtrIo c).length).map (fun k =>
    let x : Option Nat := ph.map (fun l => let i := ((l.getD k (0, 0)).2).natAbs; if c = 0 then i * i else i)
    (x :: wins.getD k []).take (if c = 0 then 200 else 100))

/-- An invalid sample: the gap count, GAPL and, for the period's first, GAP (METERING_GAP, R297). -/
def Dev.meteringGap (d : Dev) (c n : Nat) : Dev :=
  let x := d.mtrC c
  let d1 := (d.setMtrC c { x with gaps := x.gaps + n }).setBit MTR_CHSTAT c 8 true
  if x.gaps = 0 then d1.ev 0x48 1 else d1

/-- MTR_P1MS of every block of 10 sample instants without an invalid one; a block without a value on channel 0 starts the
100 ms of R30, a value ends them (R299). -/
def Dev.p1ms (d : Dev) (c stamp : Nat) (p : Option Int) : Dev :=
  let x := d.mtrC c
  let y : MtrChan := match p with
    | some v => { x with blkSum := x.blkSum + v, blkN := x.blkN + 1 }
    | none => { x with blkBad := true }
  if stamp / 100000 % 10 = 9 then
    let d1 := d.setMtrC c { y with blkSum := 0, blkN := 0, blkBad := false }
    if !y.blkBad && decide (y.blkN = 10) then
      let d2 := d1.wr MTR_P1MS c (w32 (twos (rneDiv y.blkSum (10 * calDen * calDen)) 32))
      if c = 0 then { d2 with headDead := false, pwr := { d2.pwr with gridLostAt := none } } else d2
    else if c = 0 ∧ d1.pwr.gridLostAt.isNone then { d1 with pwr := { d1.pwr with gridLostAt := some stamp } }
    else d1
  else d.setMtrC c y

/-- The runs of R316 at a sample with the gate open: `dir` is 1 for a registered import, -1 for a registered export of energy u, 0 for
a sample whose p is 0. Export samples count towards a start and a registered import breaks it; a sample that registers no export
counts towards the end. -/
def reverseRuns (x : MtrChan) (evNow : Bool) (need stamp : Nat) (dir : Int) (u : Nat) : MtrChan :=
  if evNow then
    if dir < 0 then
      if x.endDue then x else { x with endN := 0, evE := x.evE + u, rev := true }
    else
      let at' := if x.endN = 0 then stamp else x.endAt
      { x with endN := x.endN + 1, endAt := at', endDue := x.endDue || decide (need ≤ x.endN + 1) }
  else if 0 < dir then
    if x.startDue then x else { x with runN := 0, runE := 0, runHere := false, runPast := false }
  else if dir < 0 then
    let at' := if x.runN = 0 then stamp else x.runAt
    let e := if x.runN = 0 then u else x.runE + u
    { x with runN := x.runN + 1, runAt := at', runE := e, runHere := true, startDue := x.startDue || decide (need ≤ x.runN + 1) }
  else x

/-- A pulse output's configuration: enabled, channel, direction. -/
def Dev.pulseCfg (d : Dev) (n : Nat) : Word := d.inForce MTR_PLSCFG n

/-- Energy registered on a channel reaches the pulse outputs that count it: each full quantum Q = 10^6 / MTR_PLSK mWh
requests a pulse, and requests beyond 65,535 waiting ones are discarded (R318, R320). -/
def Dev.pulseEnergy (d : Dev) (c : Nat) (exporting : Bool) (u : Nat) : Dev :=
  d.each (List.range 4) (fun n e =>
    let cfg := e.pulseCfg n
    if bitOf cfg 31 ∧ bits cfg 20 16 = c ∧ bitOf cfg 12 = exporting then
      let x := kvGet e.mtr.pulse n ({} : PulseRec)
      let q := 1000000 * 2 ^ 32
      let a := x.acc + u * (e.inForce MTR_PLSK n).toNat
      let want := e.fld MTR_PLSSTAT n 15 0 + a / q
      let e1 := { e with mtr := { e.mtr with pulse := kvSet e.mtr.pulse n { x with acc := a % q } {} } }
      let e2 := e1.setFld MTR_PLSSTAT n 15 0 (min want 65535)
      if 65535 < want then
        let first := !e2.bit MTR_PLSSTAT n 16
        (e2.setBit MTR_PLSSTAT n 16 true).when first (fun f => f.ev 0x48 4)
      else e2
    else e)

/-- One channel's part of a metering sample (R294-R302, R316). -/
def Dev.meterChan (d : Dev) (stamp c : Nat) : Dev :=
  let ph := d.phases c stamp
  let x := d.mtrC c
  let wins := pushWins c x.win ph
  let d1 := d.setMtrC c { x with win := wins }
  match ph with
  | none => (d1.meteringGap c 1).p1ms c stamp none
  | some l =>
    let p : Int := l.foldl (fun a (v : Int × Int) => a + v.1 * v.2) 0
    let gate := d1.gateOpen c wins
    let d2 := (d1.setBit MTR_CHSTAT c 0 gate).p1ms c stamp (some p)
    let evNow := d2.bit MTR_CHSTAT c 2
    let need := d2.revSamples c
    if !gate then (if p ≠ 0 then d2.inc MTR_CREEPCNT c else d2)
    else if p = 0 then d2.setMtrC c (reverseRuns (d2.mtrC c) evNow need stamp 0 0)
    else
      let u := (rneDiv ((p.natAbs : Int) * (2 ^ 32 : Nat)) (calDen * calDen * 36000)).toNat
      let y := d2.mtrC c
      let y1 : MtrChan := if 0 < p then { y with imp := (y.imp + u) % 2 ^ 96 } else { y with exp := (y.exp + u) % 2 ^ 96 }
      let y2 := reverseRuns y1 evNow need stamp (if 0 < p then 1 else -1) u
      ((d2.setMtrC c y2).setBit MTR_CHSTAT c 1 (decide (p < 0))).pulseEnergy c (decide (p < 0)) u

/-! ### Line cycles and latch ticks (R304-R311) -/

/-- Put the written configuration in force: the period that begins carries CALCHG, and an output whose configuration
changed clears its accumulator and backlog (R311, R322). -/
def Dev.putInForce (d : Dev) : Dev :=
  if d.mtr.live = [] then d
  else
    let changed := (List.range 4).filter (fun n =>
      (d.mtr.live.any (fun p => decide (p.1 = (MTR_PLSCFG).key n 0) || decide (p.1 = (MTR_PLSK).key n 0))))
    let d1 := { d with mtr := { d.mtr with live := [], flags := d.mtr.flags ||| 2 } }
    let d2 := d1.each changed (fun n e =>
      let x := kvGet e.mtr.pulse n ({} : PulseRec)
      let e1 := { e with mtr := { e.mtr with pulse := kvSet e.mtr.pulse n { x with acc := 0 } {} } }
      (e1.setFld MTR_PLSSTAT n 15 0 0).when (!bitOf (e1.pulseCfg n) 31) (fun f => f.setBit MTR_PLSSTAT n 17 false))
    d2.setBit MTR_LATCHSTAT 0 1 false

/-- A latch tick at an instant: the Nth closes the period (R306), whose totals wait for the latch, and puts written
configuration in force for the next one (R311). -/
def Dev.tick (d : Dev) (t : Nat) (fb : Bool) : Dev :=
  let flags := if fb then d.mtr.flags ||| 1 else d.mtr.flags
  let n := d.fld MTR_LATCHSTAT 0 26 16 + 1
  let d1 := { d with mtr := { d.mtr with lastTick := some t, flags } }
  if d1.latchN ≤ n then
    let chans := d1.mtrChans.map (fun c => let x := d1.mtrC c; (x.imp, x.exp, x.gaps, x.rev))
    let cl : Closing := { tick := t, flags, ticks := n, chans, cfg := decide (d1.mtr.live ≠ []) }
    let d2 := { d1 with mtr := { d1.mtr with closing := d1.mtr.closing ++ [cl], flags := 0 } }
    let d3 := d2.each d2.mtrChans (fun c e =>
      let x := e.mtrC c
      e.setMtrC c { x with gaps := 0, rev := false, runPast := x.runHere, runHere := false })
    (d3.setFld MTR_LATCHSTAT 0 26 16 0).putInForce
  else d1.setFld MTR_LATCHSTAT 0 26 16 n

/-- MTR_LATCHSTAT.FALLBACK. -/
def Dev.inFallback (d : Dev) : Bool := d.bit MTR_LATCHSTAT 0 0

/-- The instant of the next fallback tick: 25 ms after the last tick, or before there is one after the first sample (log entry 42), and
every 20 ms after that (R305). -/
def Dev.fallbackDue (d : Dev) : Option Nat :=
  (d.mtr.lastTick <|> d.mtr.started).map (fun t => t + (if d.inFallback then 20000000 else 25000000))

/-- Place the fallback tick that is due at or before an instant (R305); entering fallback raises FALLBACK (R306) and
MTR_FREQ reads 0 (R310). -/
def Dev.fallbackTick (d : Dev) (t : Nat) : Dev :=
  match d.fallbackDue with
  | none => d
  | some due =>
    if due ≤ t then
      let d1 := if d.inFallback then d else
        (({ d with mtr := { d.mtr with lastCross := none } }.setBit MTR_LATCHSTAT 0 0 true).wr MTR_FREQ 0 0).ev 0x48 3
      d1.tick due true
    else d

/-- A crossing of v_L1 with the hysteresis met, at an instant (R304): valid where it lies 14.286 ms to 25 ms after the
previous valid one, or is the first after a start or after fallback; in grid mode a valid crossing 10 ms after the last
tick is a tick, and in fallback one that follows another ends fallback (R305). -/
def Dev.crossing (d : Dev) (t : Nat) : Dev :=
  let prev : Option Nat := match d.mtr.lastCross with
    | some p => if d.inFallback ∧ 25000000 < t - p then none else some p
    | none => none
  let valid : Bool := match prev with
    | none => true
    | some p => decide (p + 14286000 ≤ t ∧ t ≤ p + 25000000)
  if !valid then d
  else
    let far : Bool := match d.mtr.lastTick with | none => true | some k => decide (k + 10000000 ≤ t)
    let isTick := far && (!d.inFallback || prev.isSome)
    let d1 := { d with mtr := { d.mtr with lastCross := some t, hyst := false } }
    let d2 := d1.when isTick (fun e => e.setBit MTR_LATCHSTAT 0 0 false)
    let d3 : Dev := match prev with
      | some p => if d2.inFallback then d2 else d2.wr MTR_FREQ 0 (w32 (rneDiv 1000000000000 (t - p)).toNat)
      | none => d2
    d3.when isTick (fun e => e.tick t false)

/-- The blocks of R299 over n missed instants from stamp a on: a block they touch gives no value; the first one of channel 0 to end
starts the 100 ms of R30. -/
def Dev.missP1ms (d : Dev) (c a n : Nat) : Dev :=
  let x := d.mtrC c
  let i := a / 100000 % 10
  if i + n < 10 then d.setMtrC c { x with blkBad := true }
  else
    let d1 := d.setMtrC c { x with blkSum := 0, blkN := 0, blkBad := decide ((i + n) % 10 ≠ 0) }
    if c = 0 ∧ d1.pwr.gridLostAt.isNone then { d1 with pwr := { d1.pwr with gridLostAt := some (a + (9 - i) * 100000) } } else d1

/-- A channel over n missed instants from stamp a on: gaps, creep windows without a value, and blocks (R297-R300). -/
def Dev.missChan (d : Dev) (c a n : Nat) : Dev :=
  let x := d.mtrC c
  let len := if c = 0 then 200 else 100
  let win := (List.range (mtrIo c).length).map (fun k => (List.replicate (min n len) none ++ x.win.getD k []).take len)
  ((d.setMtrC c { x with win }).meteringGap c n).missP1ms c a n

/-- Every sample instant before t that brought no sample is a gap on every channel (R298, R330, R331), and no crossing lies across it. -/
def Dev.missUntil (d : Dev) (t : Nat) : Dev :=
  match d.mtr.lastStamp with
  | none => d
  | some l =>
    let n := (t - (l + 100000) + 99999) / 100000
    if n = 0 then d
    else
      let d1 := d.each d.mtrChans (fun c e => e.missChan c (l + 100000) n)
      { d1 with mtr := { d1.mtr with lastStamp := some (l + n * 100000), prevV := none } }

/-- The fallback ticks due at or before t, each after the instants before it (R305, R307); k bounds their number. -/
def Dev.placeTicks (t : Nat) : Nat → Dev → Dev
  | 0, d => d
  | k + 1, d =>
    match d.fallbackDue with
    | none => d
    | some due => if due ≤ t then Dev.placeTicks t k ((d.missUntil due).fallbackTick due) else d

/-- Every fallback tick due at or before t. -/
def Dev.fallbackTicks (d : Dev) (t : Nat) : Dev :=
  d.placeTicks t ((t - ((d.mtr.lastTick <|> d.mtr.started).getD t)) / 20000000 + 1)

/-- The missed instants before a sample, and the fallback ticks between them. -/
def Dev.missUntilTicks (d : Dev) (stamp : Nat) : Dev :=
  match d.mtr.lastStamp with
  | some l => if l + 100000 < stamp then (d.fallbackTicks (stamp - 100000)).missUntil stamp else d
  | none => d

/-- The sample of v_L1: a positive-going crossing since the sample before it (ZERO_CROSSING), fallback ticks that are due,
and the hysteresis memory (R304, R305, R307). -/
def Dev.zeroCrossing (d : Dev) (stamp : Nat) : Dev :=
  let v : Option Int := if d.mtrEn 0 then (d.mts 0).map (fun s => d.vNum 0 0 s) else none
  let d0 := if d.mtr.started.isNone then { d with mtr := { d.mtr with started := some stamp } } else d
  let cross : Option Nat := match v, d0.mtr.prevV with
    | some v1, some (t0, v0) =>
      if v0 < 0 ∧ 0 ≤ v1 ∧ d0.mtr.hyst ∧ t0 + 100000 = stamp then
        some (t0 + (rneDiv (-v0 * ((stamp - t0 : Nat) : Int)) (v1 - v0).toNat).toNat) else none
    | _, _ => none
  let d1 : Dev := match cross with
    | some t => (d0.fallbackTicks (t - 1)).crossing t
    | none => d0
  let d2 := d1.fallbackTicks stamp
  match v with
  | none => { d2 with mtr := { d2.mtr with prevV := none } }
  | some v1 =>
    let z := bits (d2.inForce MTR_LATCHCFG 0) 23 16
    let low := decide (v1 ≤ -((z * (d2.inForce (MTR_VSCL 0) 0).toNat * 1000000 * 2 ^ 31 : Nat) : Int))
    { d2 with mtr := { d2.mtr with prevV := some (stamp, v1), hyst := d2.mtr.hyst || low } }

/-- The device on which the channels take a sample stamped `stamp`: the missed instants before it, the ticks due and the new samples
stand (R298, R305, R307). -/
def Dev.sampleReady (d : Dev) (stamp : Nat) (xs : List Int) : Dev := (((d.at stamp).missUntilTicks stamp).meterSamples xs).zeroCrossing stamp

/-- METERING_SAMPLE (R294): the sample of every SDM channel's metering path stamped `stamp`. Sample instants for which no
sample came are gaps of the periods they lie in (R298, R307, R330, R331). -/
def Dev.meteringSample (d : Dev) (stamp : Nat) (xs : List Int) : Dev :=
  let d0 := d.at stamp
  let late : Bool := match d0.mtr.lastStamp with | some t => decide (stamp ≤ t) | none => false
  if !d0.up .metrology || late || decide (stamp % 100000 ≠ 0) then d0
  else
    let d1 := d.sampleReady stamp xs
    let d2 := d1.each d1.mtrChans (fun c e => e.meterChan stamp c)
    { d2 with mtr := { d2.mtr with lastStamp := some stamp } }

/-- FALLBACK_TICK (R305): every fallback tick due by t, once every sample stamped before it has been taken (R307). -/
def Dev.fallbackTickAt (d : Dev) (t : Nat) : Dev :=
  let d0 := d.at t
  if d0.up .metrology then d0.fallbackTicks t else d0

/-! ### Reverse power (R316, R317) -/

/-- The period closed last carries REV, in its record where it waits for the latch, else in MTR_PERSTAT (R317, log entry 220). -/
def Dev.markRev (d : Dev) (c : Nat) : Dev :=
  match d.mtr.closing.reverse with
  | [] => d.setBit MTR_PERSTAT c 2 true
  | cl :: r =>
    let chans := cl.chans.zipIdx.map (fun x => if x.2 = c then (x.1.1, x.1.2.1, x.1.2.2.1, true) else x.1)
    { d with mtr := { d.mtr with closing := r.reverse ++ [{ cl with chans }] } }

/-- REVERSE_EVENT_START: a run of REVTIME of export samples starts an event. -/
def Dev.reverseStart (d : Dev) (c : Nat) : Dev :=
  let x := d.mtrC c
  if d.up .metrology ∧ c < d.variant.mtrChannels ∧ x.startDue ∧ !d.bit MTR_CHSTAT c 2 then
    let y : MtrChan := { x with evAt := x.runAt, evE := x.runE, rev := x.rev || x.runHere, runN := 0, runE := 0, startDue := false,
                                endN := 0, endDue := false, runHere := false, runPast := false }
    let d1 := (d.setMtrC c y).when x.runPast (fun e => e.markRev c)
    ((d1.setBit MTR_CHSTAT c 2 true).setBit MTR_CHSTAT c 9 true).ev 0x48 2
  else d

/-- REVERSE_EVENT_END: a REVTIME run without a registered export ends it, and its entry goes to the event log. -/
def Dev.reverseEnd (d : Dev) (c : Nat) : Dev :=
  let x := d.mtrC c
  if d.up .metrology ∧ c < d.variant.mtrChannels ∧ x.endDue ∧ d.bit MTR_CHSTAT c 2 then
    let mwh := x.evE / 2 ^ 32
    let y : MtrChan := { x with evE := 0, endN := 0, endDue := false, runN := 0, runE := 0, startDue := false }
    let d1 := ((d.setMtrC c y).setBit MTR_CHSTAT c 2 false).wr MTR_REVSTLO c (w32 x.evAt)
    let d2 := ((d1.wr MTR_REVSTHI c (w32 (x.evAt / 2 ^ 32))).wr MTR_REVENLO c (w32 x.endAt)).wr MTR_REVENHI c (w32 (x.endAt / 2 ^ 32))
    let d3 := (d2.wr MTR_REVMWH c (w32 (min mwh 0xFFFFFFFF))).wr MTR_REVCNT c (d2.rd MTR_REVCNT c + 1)
    d3.logPut 2 0x10 (leBytes 1 c ++ leBytes 8 x.evAt ++ leBytes 8 x.endAt ++ leBytes 8 mwh)
  else d

/-! ### Pulse outputs (R319) -/

/-- MTR_PLSCFG.WIDTH in ns. -/
def Dev.pulseWidth (d : Dev) (n : Nat) : Nat := bits (d.pulseCfg n) 7 0 * 1000000

/-- PULSE_START: a waiting pulse starts on the 100 us grid, max(4 ms, 2 x WIDTH) after the last start. -/
def Dev.pulseStart (d : Dev) (n t : Nat) : Dev :=
  let d0 := d.at t
  let x := kvGet d0.mtr.pulse n ({} : PulseRec)
  let spaced : Bool := match x.startAt with
    | none => true
    | some s => decide (s + max 4000000 (2 * d0.pulseWidth n) ≤ t)
  if d0.up .metrology ∧ n < 4 ∧ bitOf (d0.pulseCfg n) 31 ∧ t % 100000 = 0 ∧ 0 < d0.fld MTR_PLSSTAT n 15 0 ∧
      !d0.bit MTR_PLSSTAT n 17 ∧ spaced then
    let d1 := { d0 with mtr := { d0.mtr with pulse := kvSet d0.mtr.pulse n { x with startAt := some t } {} } }
    let d2 := d1.setFld MTR_PLSSTAT n 15 0 (d1.fld MTR_PLSSTAT n 15 0 - 1)
    (d2.setBit MTR_PLSSTAT n 17 true).wr MTR_PLSCNT n (d2.rd MTR_PLSCNT n + 1)
  else d0

/-- PULSE_END: after WIDTH ms the output returns to its inactive level. -/
def Dev.pulseEnd (d : Dev) (n t : Nat) : Dev :=
  let d0 := d.at t
  match (kvGet d0.mtr.pulse n ({} : PulseRec)).startAt with
  | some s =>
    if n < 4 ∧ d0.bit MTR_PLSSTAT n 17 ∧ s + d0.pulseWidth n ≤ t then d0.setBit MTR_PLSSTAT n 17 false else d0
  | none => d0

/-- The level of pin PULSEn: POL 1 is active high; its inactive level while disabled, in reset or unpowered (R322). -/
def Dev.pulsePin (d : Dev) (n : Nat) : Bool :=
  (d.up .metrology && bitOf (d.pulseCfg n) 31 && d.bit MTR_PLSSTAT n 17) == bitOf (d.pulseCfg n) 8

/-! ### Total records (R323-R326, Table 8.2) -/

/-- Total bank b at an address of the metrology partition (R323). -/
def totalBank (b : Nat) : Nat := 0x14000000 + 0x400 * b

/-- A bank is valid when its TAG and CRC are correct (R324). -/
def bankValid (r : List Byte) : Bool := decide (leAt r 0 2 = 0x7E4D) && decide (leAt r 1020 4 = crc32 (r.take 1020))

/-- The newest valid record of the three banks: bank and bytes. -/
def newestTotal (m : KV Byte) : Option (Nat × List Byte) :=
  (List.range 3).foldl (fun acc b =>
    let r := memRead m (totalBank b) 1024
    if !bankValid r then acc
    else match acc with
      | none => some (b, r)
      | some (b', r') => if serialNewer (leAt r 4 4) (leAt r' 4 4) then some (b, r) else some (b', r')) none

/-- SEQ of the next record: one above the newest valid one. -/
def nextTotalSeq (m : KV Byte) : Nat := match newestTotal m with | some (_, r) => (leAt r 4 4 + 1) % 2 ^ 32 | none => 0

/-- The bank of A and B for a latch record: the one that does not hold the newest valid record, and where F holds that,
the one that does not hold the newer of A and B (R324, R325). -/
def latchBank (m : KV Byte) : Nat :=
  let a := memRead m (totalBank 0) 1024
  let b := memRead m (totalBank 1) 1024
  if !bankValid a then 0 else if !bankValid b then 1
  else if serialNewer (leAt b 4 4) (leAt a 4 4) then 0 else 1

/-- One channel block of Table 8.2. -/
def totalBlock (imp exp gaps : Nat) (rev : Bool) : List Byte :=
  leBytes 8 (imp / 2 ^ 32) ++ leBytes 8 (exp / 2 ^ 32) ++ leBytes 4 imp ++ leBytes 4 exp ++
    leBytes 2 (min gaps 65535) ++ leBytes 1 (b2n (decide (0 < gaps)) + 2 * b2n rev) ++ List.replicate 5 0

/-- A total record (Table 8.2). -/
def totalRecord (kind seq tick mtime flags ticks : Nat) (chans : List (Nat × Nat × Nat × Bool)) : List Byte :=
  let head := leBytes 2 0x7E4D ++ leBytes 1 kind ++ leBytes 1 chans.length ++ leBytes 4 seq ++ leBytes 8 tick ++
    leBytes 4 mtime ++ leBytes 2 flags ++ leBytes 2 ticks ++ List.replicate 8 0
  let blocks := (chans.map (fun (x : Nat × Nat × Nat × Bool) => totalBlock x.1 x.2.1 x.2.2.1 x.2.2.2)).flatten
  let body := head ++ blocks ++ List.replicate (1020 - 32 - 32 * chans.length) 0
  body ++ leBytes 4 (crc32 body)

/-- Write a total record into a bank; MTR_NVMSTAT names the bank of the newest record. -/
def Sys.writeTotal (s : Sys) (bank kind tick mtime flags ticks : Nat) (chans : List (Nat × Nat × Nat × Bool)) : Sys :=
  let rec' := totalRecord kind (nextTotalSeq s.mem) tick mtime flags ticks chans
  (s.store (totalBank bank) rec').onDev (fun d => d.setFld MTR_NVMSTAT 0 5 4 bank)

/-- The registers of a channel show a closed period (R308, R313, R314). -/
def Dev.showTotals (d : Dev) (c flags : Nat) (x : Nat × Nat × Nat × Bool) : Dev :=
  let (imp, exp, gaps, rev) := x
  let iw := imp / 2 ^ 32
  let ew := exp / 2 ^ 32
  let res (a : Nat) : Nat := a % 2 ^ 32 * 1000 / 2 ^ 32
  let per := b2n (decide (0 < gaps)) + 2 * (flags % 2) + 4 * b2n rev + 8 * (flags / 2 % 32) + 65536 * min gaps 65535
  ((((((((d.wr MTR_IMPLO c (w32 iw)).wr MTR_IMPHI c (w32 (iw / 2 ^ 32))).wr MTR_EXPLO c (w32 ew)).wr MTR_EXPHI c (w32 (ew / 2 ^ 32))).wr
    MTR_IMPC c (w32 (iw / 1000))).wr MTR_EXPC c (w32 (ew / 1000))).wr
    MTR_WRAP c (w32 (iw / (1000 * 2 ^ 32) % 65536 + 65536 * (ew / (1000 * 2 ^ 32) % 65536)))).wr
    MTR_RES c (w32 (res imp + 65536 * res exp))).wr MTR_PERSTAT c (w32 per)

/-- The 64-bit value of a LO and HI register pair. -/
def Dev.rd64 (d : Dev) (lo hi : Reg) (i : Nat) : Nat := (d.rd lo i).toNat + 2 ^ 32 * (d.rd hi i).toNat

/-- Write a LO and HI register pair. -/
def Dev.wr64 (d : Dev) (lo hi : Reg) (i v : Nat) : Dev := (d.wr lo i (w32 v)).wr hi i (w32 (v / 2 ^ 32))

/-- MTR_IMP and MTR_EXP of a channel. -/
def Dev.totals (d : Dev) (c : Nat) : Nat × Nat := (d.rd64 MTR_IMPLO MTR_IMPHI c, d.rd64 MTR_EXPLO MTR_EXPHI c)

/-- Show a closed period on every channel in one step, with the latch's own registers and LATCH (R308); the increments of
the latch are kept for the pair's comparison (R335). -/
def Dev.showLatch (d : Dev) (cl : Closing) (seq : Nat) : Dev :=
  let inc := d.mtrChans.map (fun c =>
    let b := d.bil.base.getD c (0, 0)
    let x := cl.chans.getD c (0, 0, 0, false)
    ((x.1 / 2 ^ 32 + 2 ^ 64 - b.1) % 2 ^ 64, (x.2.1 / 2 ^ 32 + 2 ^ 64 - b.2) % 2 ^ 64))
  let d1 := d.each d.mtrChans (fun c e => e.showTotals c cl.flags (cl.chans.getD c (0, 0, 0, false)))
  let d2 := ((d1.wr MTR_LATCHSEQ 0 (w32 seq)).wr64 MTR_TICKLO MTR_TICKHI 0 cl.tick).ev 0x48 0
  let base := d2.mtrChans.map (fun c => d2.totals c)
  { d2 with mtr := { d2.mtr with inc }, bil := { d2.bil with base } }

/-- What the accumulators hold now, in the form of a record's channel blocks. -/
def Dev.openChans (d : Dev) : List (Nat × Nat × Nat × Bool) :=
  d.mtrChans.map (fun c => let x := d.mtrC c; (x.imp, x.exp, x.gaps, x.rev))

/-! ### Dual metering (R332-R337) -/

/-- The settings of R333: calibration, N, ZCHYST, CREEP, IRATED and SDM delays. -/
def Dev.pairSettings (d : Dev) : List Word :=
  d.inForce MTR_LATCHCFG 0 ::
    (d.mtrChans.map (fun c => [d.inForce MTR_CHCFG c &&& 0xFF00, d.inForce MTR_IRATED c] ++
      ((List.range (mtrIo c).length).map (fun p => [d.inForce (MTR_VSCL p) c, d.inForce (MTR_ISCL p) c, d.inForce (MTR_VGAIN p) c,
        d.inForce (MTR_IGAIN p) c, d.inForce (MTR_VOFF p) c, d.inForce (MTR_IOFF p) c])).flatten)).flatten ++
    (List.range d.variant.sdInputs).map (fun c => d.rd SDM_DLY c)

/-- A difference of more than CMPABS mWh + CMPREL ppm of the active's increment (R335). -/
def cmpMismatch (cmpabs cmprel own act : Nat) : Bool :=
  decide (cmpabs * 1000000 + cmprel * act < ((own : Int) - (act : Int)).natAbs * 1000000)

/-- PAIR_LATCH_COMPARE (R333, R335, R336): the standby compares the increments of its last latch with those of the
active's latch of the same SEQ. -/
def Dev.pairCompare (d : Dev) (seq : Nat) (settings : List Word) (incs : List (Nat × Nat)) : Dev :=
  if d.up .metrology ∧ d.variant = .px4840 ∧ d.fld MTR_ROLE 0 1 0 = 2 ∧ d.pstate ≠ 1 ∧ d.mtr.adopted then
    if settings ≠ d.pairSettings then (d.setBit MTR_PAIRSTAT 0 1 true).setBit MTR_PAIRSTAT 0 0 false
    else
      let d1 := ((d.setBit MTR_PAIRSTAT 0 1 false).setBit MTR_PAIRSTAT 0 0 true).wr MTR_CMPSEQ 0 (w32 seq)
      let cfg := d1.inForce MTR_CMPCFG 0
      let bad : List (Nat × Bool) := (d1.mtrChans.map (fun c =>
        let own := d1.mtr.inc.getD c (0, 0)
        let act := incs.getD c (0, 0)
        (if cmpMismatch (bits cfg 11 0) (bits cfg 23 12) own.1 act.1 then [(c, false)] else []) ++
          (if cmpMismatch (bits cfg 11 0) (bits cfg 23 12) own.2 act.2 then [(c, true)] else []))).flatten
      match bad.getLast? with
      | none => d1.setFld MTR_PAIRSTAT 0 15 8 0
      | some (c, e) =>
        let d2 := ((d1.incFld MTR_PAIRSTAT 0 15 8).incFld MTR_PAIRSTAT 0 31 16).wr MTR_CMPCH 0 (w32 (c + 256 * b2n e))
        let d3 := d2.ev 0x48 5
        if max 1 (bits cfg 31 24) ≤ d3.fld MTR_PAIRSTAT 0 15 8 then
          let d4 := (d3.setBit MTR_PAIRSTAT 0 2 true).ev 0x48 6
          { d4 with mtr := { d4.mtr with adoptDue := true, adopted := false } }
        else d3
  else d

/-- Adopt the active's accumulators and tick count (R334): the previous totals go to the event log, and the first period
closed after it carries RESYNC. -/
def Dev.adoptTotals (d : Dev) (accs : List (Nat × Nat)) (ticks : Nat) : Dev :=
  let d1 := d.each d.mtrChans (fun c e =>
    let x := e.mtrC c
    let e1 := e.logPut 2 0x11 (leBytes 1 c ++ leBytes 8 (x.imp / 2 ^ 32) ++ leBytes 8 (x.exp / 2 ^ 32) ++ leBytes 4 (e.rd MTR_LATCHSEQ 0).toNat)
    let a := accs.getD c (0, 0)
    e1.setMtrC c { x with imp := a.1 % 2 ^ 96, exp := a.2 % 2 ^ 96 })
  let d2 := (d1.setFld MTR_LATCHSTAT 0 26 16 ticks).setFld MTR_PAIRSTAT 0 15 8 0
  let base := accs.map (fun (a : Nat × Nat) => (a.1 / 2 ^ 32 % 2 ^ 64, a.2 / 2 ^ 32 % 2 ^ 64))
  { d2 with bil := { d2.bil with base }, mtr := { d2.mtr with flags := d2.mtr.flags ||| 32, adopted := true, adoptDue := false } }

end Sys2Proof.Machine
end

