-- ==== Sys2Proof/Machine/Billing.lean ====
section
/-! DEFINITION. The billing block at a latch (spec/09_billing.md, R344): tariffs, demand, billing periods, sessions,
snapshots, and what it writes to the metrology NVM partition: tariff banks, snapshot slots, session bodies and journal
entries. -/
namespace Sys2Proof.Machine

/-! ### Registers -/

/-- The tariff in force on a channel, BIL_TARCTL.TCUR. -/
def Dev.tcur (d : Dev) (c : Nat) : Nat := d.fld BIL_TARCTL c 10 8

/-- The import and export register of tariff t (R348). -/
def Dev.tarReg (d : Dev) (c t : Nat) : Nat × Nat :=
  (d.rd64 (BIL_TIMPLO t) (BIL_TIMPHI t) c, d.rd64 (BIL_TEXPLO t) (BIL_TEXPHI t) c)

/-- Add an increment to a tariff's registers, modulo 2^64. -/
def Dev.addTariff (d : Dev) (c t : Nat) (inc : Nat × Nat) : Dev :=
  let r := d.tarReg c t
  (d.wr64 (BIL_TIMPLO t) (BIL_TIMPHI t) c ((r.1 + inc.1) % 2 ^ 64)).wr64 (BIL_TEXPLO t) (BIL_TEXPHI t) c ((r.2 + inc.2) % 2 ^ 64)

/-- The seal state BIL_SEALSTAT.STATE (Table 9.8). -/
def Dev.sealState (d : Dev) : Nat := d.fld BIL_SEALSTAT 0 2 0

/-- Values carry UNVER: the seal is Broken or Unverified. -/
def Dev.unver (d : Dev) : Bool := decide (2 ≤ d.sealState)

/-- Note EVENTS bits of the latch in progress (Table 9.3). -/
def Dev.noteEv (d : Dev) (n : Nat) : Dev :=
  { d with bil := { d.bil with note := { d.bil.note with events := d.bil.note.events ||| 2 ^ n } } }

/-- The configuration of BIL_DEMCFG in force: LEN in seconds, NSUB, sliding. -/
def Dev.demLen (d : Dev) : Nat := bits (d.bilF BIL_DEMCFG 0) 7 0 * 60
/-- NSUB, 0 acting as 1. -/
def Dev.demNsub (d : Dev) : Nat := max 1 (bits (d.bilF BIL_DEMCFG 0) 11 8)
/-- MODE 1: sliding. -/
def Dev.demSliding (d : Dev) : Bool := bitOf (d.bilF BIL_DEMCFG 0) 16

/-- The difference of two 64-bit totals. -/
def diff64 (a b : Nat) : Nat := (a + 2 ^ 64 - b) % 2 ^ 64

/-! ### Journal (R363, Table 9.3) -/

/-- The ring slot of a journal entry (Table 9.2). -/
def journalSlot (jseq : Nat) : Nat := 0x14036000 + jseq % 1664 * 64

/-- Append a journal entry with the next JSEQ: `rest` is bytes 36 to 59. -/
def Sys.journal (s : Sys) (kind : Nat) (mt : Nat) (loc : Int) (bank events bpnum : Nat) (diff : Int) (rest : List Byte) : Sys :=
  let d := s.dev
  let j := ((d.rd BIL_JSEQ 0).toNat + 1) % 2 ^ 32
  let body := leBytes 2 0x7E4A ++ leBytes 1 kind ++ leBytes 1 d.variant.mtrChannels ++ leBytes 4 j ++
    leBytes 4 (d.rd MTR_LATCHSEQ 0).toNat ++ leBytes 4 mt ++ leBytes 4 (twos loc 32) ++
    leBytes 1 (bits (d.bilF BIL_LOCOFF 0) 7 0) ++ leBytes 1 bank ++ leBytes 2 events ++ leBytes 4 (twos diff 32) ++
    leBytes 4 bpnum ++ leBytes 4 (d.rd BIL_DSEQ 0).toNat ++ slice rest 0 24
  (s.store (journalSlot j) (body ++ leBytes 4 (crc32 body))).onDev (fun e => (e.wr BIL_JSEQ 0 (w32 j)).ev 0x50 0)

/-- An entry is valid when its TAG and CRC are correct (R363). -/
def entryValid (e : List Byte) : Bool := decide (leAt e 0 2 = 0x7E4A) && decide (leAt e 60 4 = crc32 (e.take 60))

/-- The newest valid entry that meets p. -/
def newestEntry (m : KV Byte) (p : List Byte → Bool) : Option (List Byte) :=
  (List.range 1664).foldl (fun (acc : Option (List Byte)) k =>
    let e := memRead m (0x14036000 + 64 * k) 64
    if entryValid e && p e then
      match acc with
      | none => some e
      | some b => if serialNewer (leAt e 4 4) (leAt b 4 4) then some e else some b
    else acc) none

/-! ### Tariff banks (R364) -/

/-- The address of tariff bank T0 or T1 (Table 9.2). -/
def tariffBank (b : Nat) : Nat := 0x14002000 + 0x2000 * b

/-- The maxima of a channel: import W, stamp, export W, stamp, per tariff. -/
def Dev.maximaBytes (d : Dev) (c : Nat) : List Byte :=
  ((List.range 8).map (fun t => leBytes 4 (d.rd (BIL_DMI t) c).toNat ++ leBytes 4 (d.rd (BIL_DMIT t) c).toNat ++
    leBytes 4 (d.rd (BIL_DME t) c).toNat ++ leBytes 4 (d.rd (BIL_DMET t) c).toNat)).flatten

/-- The tariff registers of a channel, each as import then export. -/
def Dev.tariffBytes (d : Dev) (c : Nat) : List Byte :=
  ((List.range 8).map (fun t => leBytes 8 (d.tarReg c t).1 ++ leBytes 8 (d.tarReg c t).2)).flatten

/-- The totals of a channel in 16 bytes. -/
def Dev.totalBytes (d : Dev) (c : Nat) : List Byte := leBytes 8 (d.totals c).1 ++ leBytes 8 (d.totals c).2

/-- One channel's 448 bytes of a tariff bank. -/
def Dev.bankBlock (d : Dev) (c : Nat) : List Byte :=
  let o := d.bil.ivOpen.getD c (0, 0)
  let h := kvGet d.bil.hist c []
  let hist := ((List.range 15).map (fun k =>
    match h[k]? with
    | some x => leBytes 4 x.imp ++ leBytes 4 x.exp
    | none => List.replicate 8 0)).flatten
  d.totalBytes c ++ d.tariffBytes c ++ d.maximaBytes c ++ leBytes 8 o.1 ++ leBytes 8 o.2 ++ hist ++
    leBytes 1 (d.tcur c) ++ List.replicate 39 0

/-- The tariff bank that the entry of JSEQ j commits. -/
def Dev.bankBytes (d : Dev) (j : Nat) : List Byte :=
  let head := leBytes 2 0x7E54 ++ [0, 0] ++ leBytes 4 j ++ leBytes 4 (d.rd MTR_LATCHSEQ 0).toNat ++ List.replicate 52 0
  let blocks := (d.mtrChans.map (fun c => d.bankBlock c)).flatten
  let body := head ++ blocks ++ List.replicate (8188 - 64 - 448 * d.variant.mtrChannels) 0
  body ++ leBytes 4 (crc32 body)

/-! ### Step 1: tariffs and sessions take the increments (R348, R371) -/

/-- The open session of an outlet and its slot. -/
def Dev.sessOf (d : Dev) (outlet : Nat) : Option (Nat × Sess) :=
  (List.range 32).findSome? (fun k =>
    match kvGet d.bil.sess k none with
    | some x => if x.outlet = outlet ∧ x.state = 1 then some (k, x) else none
    | none => none)

/-- Replace the session of a slot. -/
def Dev.setSess (d : Dev) (k : Nat) (x : Option Sess) : Dev :=
  { d with bil := { d.bil with sess := kvSet d.bil.sess k x none } }

/-- The flags a closed period gives a session (Table 9.4): UNVER, UNLOCKED, GAP, REV, ROLECHG, FBTICK. -/
def sessFlags (unver unlocked gap rev : Bool) (perFlags : Nat) : Nat :=
  b2n unver + 2 * b2n unlocked + 4 * b2n gap + 8 * b2n rev + 128 * (perFlags / 16 % 2) + 256 * (perFlags % 2)

/-- Step 1: each channel's increments go to the tariff in force, and to an open session on its outlet. -/
def Dev.billAdd (d : Dev) (cl : Closing) : Dev :=
  d.each d.mtrChans (fun c e =>
    let inc := e.mtr.inc.getD c (0, 0)
    let t := e.tcur c
    let x := cl.chans.getD c (0, 0, 0, false)
    let e1 := e.addTariff c t inc
    let e2 : Dev := { e1 with bil := { e1.bil with
      bpGaps := kvMod e1.bil.bpGaps c 0 (fun n => n + x.2.2.1)
      ivGaps := if 0 < x.2.2.1 then e1.bil.ivGaps ||| 2 ^ c else e1.bil.ivGaps } }
    if c = 0 then e2
    else match e2.sessOf (c - 1) with
      | none => e2
      | some (k, y) =>
        e2.setSess k (some { y with
          perTar := kvMod y.perTar t 0 (fun n => (n + inc.1) % 2 ^ 64)
          tars := y.tars ||| 2 ^ t
          gaps := y.gaps + x.2.2.1
          flags := y.flags ||| sessFlags e2.unver (decide (e2.sealState = 0)) (decide (0 < x.2.2.1)) x.2.2.2 cl.flags }))

/-! ### Step 3: demand (R353-R356) -/

/-- The demand of energy E mWh over T seconds, in W, rounded down (R354). -/
def demandW (e t : Nat) : Nat := e * 18 / (5 * t)

/-- Take a demand of a direction into the maximum of a tariff (R355). -/
def Dev.takeMax (d : Dev) (c t dir w : Nat) (stamp : Int) (mt : Nat) : Dev :=
  let r := if dir = 0 then BIL_DMI t else BIL_DME t
  let rt := if dir = 0 then BIL_DMIT t else BIL_DMET t
  if (d.rd r c).toNat < w then
    let d1 := (d.wr r c (w32 w)).wr rt c (w32 (twos stamp 32))
    { d1 with bil := { d1.bil with maxMt := kvSet d1.bil.maxMt ((c * 8 + t) * 2 + dir) mt 0 } }
  else d

/-- Close the open sub-interval of a channel, scheduled to end at `ends`, with the flags of R356. -/
def Dev.closeSub (d : Dev) (c : Nat) (ends : Int) (mt : Nat) (adj : Bool) : Dev :=
  let o := d.bil.ivOpen.getD c (0, 0)
  let now := d.totals c
  let fl := 2 * b2n (d.bil.ivGaps.testBit c) + 4 * b2n d.bil.ivOut + 8 * b2n adj + 16 * b2n d.bil.ivUnver
  let x : SubInt := { imp := diff64 now.1 o.1, exp := diff64 now.2 o.2, dur := mt - d.bil.ivMt, flags := fl }
  let h := (x :: kvGet d.bil.hist c []).take 15
  let d1 := { d with bil := { d.bil with hist := kvPut d.bil.hist c h } }
  let n := if d1.demSliding then d1.demNsub else 1
  if h.length < n then d1
  else
    let iv := h.take n
    let t := n * d1.demLen
    let sum (f : SubInt → Nat) : Nat := iv.foldl (fun a y => a + f y) 0
    let irr := decide (2 < ((sum SubInt.dur : Int) - (t : Int)).natAbs)
    let flags := iv.foldl (fun a y => a ||| y.flags) (b2n irr)
    let wi := demandW (sum SubInt.imp) t
    let we := demandW (sum SubInt.exp) t
    let d2 := ((d1.wr BIL_DLASTI c (w32 wi)).wr BIL_DLASTE c (w32 we)).wr BIL_DFLAGS c (w32 flags)
    (d2.takeMax c (d2.tcur c) 0 wi ends mt).takeMax c (d2.tcur c) 1 we ends mt

/-- Open a sub-interval at a local time: it ends at the next multiple of LEN from local midnight (R353). -/
def Dev.openSub (d : Dev) (loc : Int) (mt : Nat) : Dev :=
  let len : Int := max 60 d.demLen
  { d with bil := { d.bil with
      ivEnd := some ((loc / len + 1) * len), ivMt := mt, ivOpen := d.mtrChans.map (fun c => d.totals c)
      ivGaps := 0, ivOut := false, ivUnver := false } }

/-- Step 3 at a latch of local time `loc`: an adjustment closes the open interval with ADJ, a due end closes it (R343,
Table 9.1). -/
def Dev.billDemand (d : Dev) (loc : Int) (mt : Nat) (adj outage : Bool) : Dev :=
  let d0 : Dev := { d with bil := { d.bil with ivUnver := d.bil.ivUnver || d.unver, ivOut := d.bil.ivOut || outage } }
  match d0.bil.ivEnd with
  | none => d0.openSub loc mt
  | some ends =>
    if adj ∨ ends ≤ loc then
      let d1 := d0.each d0.mtrChans (fun c e => e.closeSub c ends mt adj)
      (((d1.inc BIL_DSEQ 0).noteEv 0).ev 0x50 1).openSub loc mt
    else d0

/-! ### Step 4: billing periods (R358-R361, R365) -/

/-- One channel's 288 bytes of a billing snapshot. -/
def Dev.snapBlock (d : Dev) (c : Nat) : List Byte :=
  d.totalBytes c ++ d.tariffBytes c ++ d.maximaBytes c ++ leBytes 4 (min (kvGet d.bil.bpGaps c 0) 0xFFFFFFFF) ++
    leBytes 1 d.bil.bpFlags ++ List.replicate 11 0

/-- A billing snapshot slot of 8 KiB (R365). -/
def Dev.snapBytes (d : Dev) (ends : Int) (mt flags skip : Nat) : List Byte :=
  let head := leBytes 2 0x7E42 ++ leBytes 1 d.variant.mtrChannels ++ [0] ++ leBytes 4 (d.rd BIL_BPNUM 0).toNat ++
    leBytes 4 (twos d.bil.bpStart 32) ++ leBytes 4 (twos ends 32) ++ leBytes 4 mt ++ leBytes 4 (d.rd MTR_LATCHSEQ 0).toNat ++
    leBytes 2 flags ++ leBytes 2 skip ++ List.replicate 36 0
  let blocks := (d.mtrChans.map (fun c => d.snapBlock c)).flatten
  let body := head ++ blocks ++ List.replicate (8188 - 64 - 288 * d.variant.mtrChannels) 0
  body ++ leBytes 4 (crc32 body)

/-- The address of a billing snapshot slot. -/
def snapSlot (bpnum : Nat) : Nat := 0x14006000 + bpnum % 24 * 0x2000

/-- Close the billing period at a boundary: BPNUM, the snapshot, and the maxima back to 0 (R359). -/
def Sys.closePeriod (s : Sys) (ends : Int) (mt flags skip : Nat) : Sys :=
  let d := s.dev.wr BIL_BPNUM 0 (s.dev.rd BIL_BPNUM 0 + 1)
  let s1 := s.store (snapSlot (d.rd BIL_BPNUM 0).toNat) (d.snapBytes ends mt flags skip)
  let d1 := d.each d.mtrChans (fun c e => e.each (List.range 8) (fun t f =>
    (((f.wr (BIL_DMI t) c 0).wr (BIL_DMIT t) c 0).wr (BIL_DME t) c 0).wr (BIL_DMET t) c 0))
  let d2 : Dev := { d1 with bil := { d1.bil with
    maxMt := [], bpStart := ends, bpGaps := [], bpFlags := 0, closeBp := false
    note := { d1.bil.note with skip, events := d1.bil.note.events ||| 2 } } }
  { s1 with dev := (d2.wr BIL_LASTBP 0 (w32 (twos ends 32))).ev 0x50 2 }

/-- Step 4: a scheduled boundary later than BIL_LASTBP that local time has reached since the previous tick, or a pending
CLOSEBP, closes the period (R358, R360, Table 9.1). -/
def Sys.billPeriod (s : Sys) (prev loc : Int) (mt : Nat) (civ outage adj : Bool) : Sys :=
  let d := s.dev
  let cfg := d.bilF BIL_BPCFG 0
  let mode := bits cfg 1 0
  let dayN := bits cfg 12 8
  let hour := bits cfg 20 16
  let last : Int := (d.rd BIL_LASTBP 0).toInt
  let n := if civ then bpCount mode dayN hour loc - bpCount mode dayN hour (max prev last) else 0
  let fl := d.bil.bpFlags ||| (b2n outage + 2 * b2n adj + 4 * b2n d.unver + 8 * b2n (decide (d.sealState = 0)))
  let s1 : Sys := { s with dev := { d with bil := { d.bil with bpFlags := fl } } }
  if 0 < n then s1.closePeriod (bpTime mode dayN hour (bpCount mode dayN hour loc)) mt (fl + 16 * b2n d.bil.closeBp) (n - 1).toNat
  else if d.bil.closeBp then s1.closePeriod loc mt (fl + 16) 0
  else s1

/-! ### Step 5: tariffs (R349-R352) -/

/-- The words of the tariff calendar. -/
def Dev.calWords (d : Dev) : List Word :=
  ((List.range 32).map (fun k => [d.rd BIL_CALENT k, d.rd BIL_CALMON k, d.rd BIL_SPDAY k])).flatten

/-- A written calendar or special day takes effect before step 5 of the latch, with CFGCHG and the new digest (R352). -/
def Dev.calInForce (d : Dev) : Dev :=
  if d.bil.live.any (fun p => decide (keyPage p.1 = 0x51)) then
    ({ d with bil := { d.bil with live := d.bil.live.filter (fun p => decide (keyPage p.1 ≠ 0x51)) } }.wr BIL_CALDIG 0
      (Config.calDigest d.calWords)).noteEv 10
  else d

/-- Step 5: the tariff that the calendar or a pending command gives is put in force; CALNONE shows whether a switch point was missing
at this latch. -/
def Dev.billTariff (d : Dev) (loc : Int) (civ : Bool) : Dev :=
  (d.setBit BIL_STAT 0 1 false).each d.mtrChans (fun c e =>
    let cmd := bitOf (e.bilF BIL_TARCTL c) 0
    let (t, missing) : Nat × Bool :=
      if cmd then (if e.bit BIL_TARCTL c 24 then e.fld BIL_TARCTL c 18 16 else e.tcur c, false)
      else if civ then
        match e.calTariff loc with
        | some t => (t, false)
        | none => (0, true)
      else (e.tcur c, false)
    let e1 := if missing then (e.setBit BIL_STAT 0 1 true).noteEv 11 else e
    let old := e1.tcur c
    let e2 := ((e1.setFld BIL_TARCTL c 10 8 t).setFld BIL_TARCTL c 18 16 t).setBit BIL_TARCTL c 24 false
    if t = old then e2 else (e2.noteEv 2).ev 0x50 3)

/-! ### Step 6: sessions, snapshots and configuration -/

/-- The NVM slot of a session (Table 9.2). -/
def sessSlot (k : Nat) : Nat := 0x14050000 + k * 6144

/-- The device identity (R628), from LCM_DEVID. -/
def Dev.devId (d : Dev) : List Byte := ((List.range 4).map (fun k => leBytes 4 (d.rd (LCM_DEVID k) 0).toNat)).flatten

/-- The session record body of Table 9.4. -/
def Dev.sessBody (d : Dev) (x : Sess) (loc : Int) (mt jseq : Nat) (image : List Byte) : List Byte :=
  let c := x.outlet + 1
  let tot := d.totals c
  leBytes 2 0x7E53 ++ [1] ++ leBytes 1 x.outlet ++ leBytes 4 x.num ++ leBytes 4 x.flags ++
    leBytes 4 x.startSeq ++ leBytes 4 (d.rd MTR_LATCHSEQ 0).toNat ++ leBytes 4 x.startMt ++ leBytes 4 mt ++
    leBytes 4 (twos x.startLocal 32) ++ leBytes 4 (twos loc 32) ++ leBytes 1 (bits (d.bilF BIL_LOCOFF 0) 7 0) ++
    leBytes 1 x.tars ++ leBytes 1 x.startTar ++ [0] ++
    leBytes 8 x.impStart ++ leBytes 8 tot.1 ++ leBytes 8 x.expStart ++ leBytes 8 tot.2 ++
    ((List.range 8).map (fun t => leBytes 8 (kvGet x.perTar t 0))).flatten ++ d.devId ++ slice x.tag 0 32 ++
    leBytes 4 (min x.gaps 0xFFFFFFFF) ++ leBytes 4 jseq ++ slice image 0 32 ++ List.replicate 32 0

/-- The digest of the sealed configuration image kept in NVM (R386). -/
def Sys.imageDigest (s : Sys) : List Byte := s.read (0x14001000 + 4064) 32

/-- Open the sessions whose START is pending, with this latch's totals, and close those whose STOP is pending (R370,
R371); the closing entry is the next one. -/
def Sys.billSessions (s : Sys) (loc : Int) (mt : Nat) : Sys :=
  let img := s.imageDigest
  s.each (List.range 32) (fun k q =>
    match kvGet q.dev.bil.sess k none with
    | none => q
    | some x =>
      let d := q.dev
      let st := d.fld BIL_SESSTAT x.outlet 1 0
      let c := x.outlet + 1
      if x.state = 0 then
        let y : Sess := { x with state := 1, startSeq := (d.rd MTR_LATCHSEQ 0).toNat, startMt := mt, startLocal := loc,
                                 startTar := d.tcur c, impStart := (d.totals c).1, expStart := (d.totals c).2 }
        let d1 := (d.setSess k (some y)).setFld BIL_SESSTAT x.outlet 1 0 2
        let d2 := { d1 with bil := { d1.bil with note := { d1.bil.note with starting := d1.bil.note.starting ||| 2 ^ x.outlet } } }
        { q with dev := d2.noteEv 9 }.store (sessSlot k + 256) [1]
      else if x.state = 1 ∧ st = 3 then
        let j := ((d.rd BIL_JSEQ 0).toNat + 1) % 2 ^ 32
        let body := d.sessBody x loc mt j img
        let y : Sess := { x with state := 2, signAsked := decide (d.fld MTR_ROLE 0 1 0 ≠ 2) }
        let d1 := ((d.setSess k (some y)).setFld BIL_SESSTAT x.outlet 1 0 0).setBit BIL_SLOTSIG 0 k true
        let d2 := { d1 with bil := { d1.bil with note := { d1.bil.note with stopping := d1.bil.note.stopping ||| 2 ^ x.outlet } } }
        ({ q with dev := d2.noteEv 9 }.store (sessSlot k) body).store (sessSlot k + 256) [2]
      else q)

/-- Take a pending snapshot at the first tick at or after its target (R366-R369). -/
def Dev.billSnap (d : Dev) (tick : Nat) : Dev :=
  match d.bil.snap with
  | none => d
  | some x =>
    if x.target ≤ tick then
      let b := 1 - d.fld BIL_SNAPSTAT 0 0 0
      let d1 := d.each d.mtrChans (fun c e =>
        (e.wr64 (BIL_SIMPLO b) (BIL_SIMPHI b) c (e.totals c).1).wr64 (BIL_SEXPLO b) (BIL_SEXPHI b) c (e.totals c).2)
      let d2 := ((d1.wr (BIL_SNAPEP b) 0 (w32 x.epoch)).wr (BIL_SNAPSEQ b) 0 (d1.rd MTR_LATCHSEQ 0)).wr64 (BIL_SNAPTLO b) (BIL_SNAPTHI b) 0 tick
      let d3 := ((d2.setFld BIL_SNAPSTAT 0 0 0 b).setBit BIL_SNAPSTAT 0 1 false).setBit BIL_SNAPSTAT 0 2 (x.pairAt.isSome || x.confirmed)
      let d4 : Dev := { d3 with bil := { d3.bil with snap := none, note := { d3.bil.note with snapEpoch := x.epoch } } }
      (d4.noteEv 8).ev 0x50 5
    else d

/-- The channels with MTR_CHCFG.EN in force, as bits. -/
def Dev.enMask (d : Dev) : Nat := d.mtrChans.foldl (fun a c => if d.mtrEn c then a ||| 2 ^ c else a) 0

/-- The other configuration changes take effect (R391, R354): a change of BIL_DEMCFG, or of a channel's EN, clears the
sliding history. -/
def Dev.billConfig (d : Dev) (cfgTick : Bool) : Dev :=
  let dem := d.bil.live.any (fun p => decide (p.1 = BIL_DEMCFG.key 0 0) && decide (p.2 ≠ d.rd BIL_DEMCFG 0))
  let en := d.enMask
  let did := cfgTick || decide (d.bil.live ≠ [])
  let hist := if dem then [] else d.bil.hist.filter (fun p => decide (d.bil.enWas.testBit p.1 = en.testBit p.1))
  let d1 : Dev := { d with bil := { d.bil with live := [], hist, enWas := en } }
  if did then d1.noteEv 10 else d1

/-! ### The latch (R344) -/

/-- Every open session takes flags of Table 9.4: OUTAGE 16, RECON 32, ADJ 64 (R361, R375). -/
def Dev.markSessions (d : Dev) (flags : Nat) : Dev :=
  if flags = 0 then d
  else d.each (List.range 32) (fun k e =>
    match kvGet e.bil.sess k none with
    | some x => if x.state = 1 then e.setSess k (some { x with flags := x.flags ||| flags }) else e
    | none => e)

/-- The tariffs in force, 3 bits per channel. -/
def Dev.tarMask (d : Dev) : Nat := d.mtrChans.foldl (fun a c => a + d.tcur c * 8 ^ c) 0

/-- BILLING_LATCH (R344): the seven steps for a closing period whose registers and latch record stand. -/
def Sys.billingLatch (s : Sys) (cl : Closing) (loc : Int) (mt : Nat) (civ recon : Bool) : Sys :=
  let d0 := { s.dev with bil := { s.dev.bil with note := {} } }.billAdd cl
  let (prev, outage, adj, diff) : Int × Bool × Bool × Int :=
    match civ, d0.bil.prev with
    | true, some (l, m) =>
      let df := (loc - l) - ((mt : Int) - (m : Int))
      let tol : Int := max 1 (bits (d0.bilF BIL_CFG 0) 5 0)
      (l, d0.bil.outage, !d0.bil.outage && (decide (tol ≤ df) || decide (df ≤ -tol)), df)
    | true, none => (loc, d0.bil.outage, false, 0)
    | false, _ => (loc, false, false, 0)
  let d1 := if outage then (d0.noteEv 5).when d0.bil.noCiv (fun e => e.noteEv 6) else d0
  let d2 := (if adj then (d1.noteEv (if diff < 0 then 3 else 4)).ev 0x50 4 else d1).markSessions
    (16 * b2n outage + 32 * b2n recon + 64 * b2n adj)
  let d3 := if civ then d2.billDemand loc mt adj outage else d2
  let s4 := { s with dev := d3 }.billPeriod prev loc mt civ outage adj
  let d5 := s4.dev.calInForce.billTariff loc civ
  let s6 := { s4 with dev := d5 }.billSessions loc mt
  let d6 := (s6.dev.billSnap cl.tick).billConfig cl.cfg
  let d7 : Dev := { d6 with bil := { d6.bil with
      prev := if civ then some (loc, mt) else d6.bil.prev
      outage := if civ then false else true
      noCiv := if civ then false else true } }
  let d8 := (((d7.setBit BIL_STAT 0 0 civ).setBit BIL_STAT 0 2 d7.unver).setBit BIL_STAT 0 3 (decide (d7.sealState = 0))).wr BIL_LOCAL 0 (w32 (twos loc 32))
  let d9 := d8.wr BIL_MTIME 0 (w32 mt)
  let note := d9.bil.note
  if note.events % 2048 = 0 then { s6 with dev := d9 }
  else
    let b := match d9.bil.bank with | some 0 => 1 | _ => 0
    let j := ((d9.rd BIL_JSEQ 0).toNat + 1) % 2 ^ 32
    let ev := note.events + 4096 * b2n d9.unver + 8192 * b2n (decide (d9.sealState = 0)) + (if recon then 128 else 0)
    let rest := leBytes 8 d9.tarMask ++ leBytes 2 note.starting ++ leBytes 2 note.stopping ++ leBytes 2 note.skip ++ [0, 0] ++
      leBytes 4 note.snapEpoch ++ leBytes 4 (d9.rd BIL_CALDIG 0).toNat
    let s10 := { s6 with dev := { d9 with bil := { d9.bil with bank := some b } } }.store (tariffBank b) (d9.bankBytes j)
    let s11 := s10.journal 1 mt loc b ev (d9.rd BIL_BPNUM 0).toNat diff rest
    s11.onDev (fun e => e.when recon (fun f => f.ev 0x50 8))

/-- The latch record of a closed period, and the registers (R308, R324); LATCH_RECORD_WRITE. -/
def Sys.latchRecord (s : Sys) (cl : Closing) : Sys :=
  let seq := nextTotalSeq s.mem
  let s1 := s.writeTotal (latchBank s.mem) 1 cl.tick (s.dev.mtime cl.tick) cl.flags cl.ticks cl.chans
  s1.onDev (fun d => ({ d with mtr := { d.mtr with closing := d.mtr.closing.drop 1 } }).showLatch cl seq)

/-- LATCH (R308): the oldest closed period. No journal write starts after a power-fail warning (R345). -/
def Sys.latch (s : Sys) (t : Nat) : Sys :=
  let s0 := s.onDev (fun d => d.at t)
  match s0.dev.mtr.closing with
  | [] => s0
  | cl :: _ =>
    if s0.dev.up .metrology ∧ s0.dev.pwr.pfw.isNone ∧ cl.tick ≤ t then
      (s0.latchRecord cl).billingLatch cl (s0.dev.localTime cl.tick) (s0.dev.mtime cl.tick) s0.dev.civValid false
    else s0

/-! ### Flush and restore (R326, R327, R331, R340, R346, R347) -/

/-- The flush of R327: latch records of closed periods first, then the flush record in F, with the stop stamp. The billing block has
not seen those periods: should the supply recover, the next latch takes their increments (R330, R345). -/
def Sys.flush (s : Sys) : Sys :=
  if s.dev.up .metrology then
    let s1 := s.each s.dev.mtr.closing (fun cl q => q.latchRecord cl)
    let d := { s1.dev with bil := { s1.dev.bil with base := s.dev.bil.base } }
    let stop := match d.mtr.lastStamp with | some l => l + 100000 | none => d.time
    let seq := nextTotalSeq s1.mem
    let d1 : Dev := { d with mtr := { d.mtr with stop := some stop, flushDue := some seq } }
    { s1 with dev := d1 }.writeTotal 2 2 stop (d1.mtime stop) d1.mtr.flags (d1.fld MTR_LATCHSTAT 0 26 16) d1.openChans
  else s

/-- Load a tariff bank's block into a channel's registers and demand state; the base total of R348 is the bank's total less
its tariff registers. -/
def Dev.loadBlock (d : Dev) (c : Nat) (b : List Byte) : Dev :=
  let d1 := d.each (List.range 8) (fun t e =>
    let r := 16 + 16 * t
    let m := 144 + 16 * t
    let e1 := (e.wr64 (BIL_TIMPLO t) (BIL_TIMPHI t) c (leAt b r 8)).wr64 (BIL_TEXPLO t) (BIL_TEXPHI t) c (leAt b (r + 8) 8)
    (((e1.wr (BIL_DMI t) c (w32 (leAt b m 4))).wr (BIL_DMIT t) c (w32 (leAt b (m + 4) 4))).wr (BIL_DME t) c (w32 (leAt b (m + 8) 4))).wr
      (BIL_DMET t) c (w32 (leAt b (m + 12) 4)))
  let si := (List.range 8).foldl (fun a t => a + (d1.tarReg c t).1) 0
  let se := (List.range 8).foldl (fun a t => a + (d1.tarReg c t).2) 0
  let d2 := (d1.wr64 BIL_BASEILO BIL_BASEIHI c (diff64 (leAt b 0 8) (si % 2 ^ 64))).wr64 BIL_BASEELO BIL_BASEEHI c (diff64 (leAt b 8 8) (se % 2 ^ 64))
  let old := kvGet d2.bil.hist c []
  let h := (List.range old.length).map (fun k =>
    ({ imp := leAt b (288 + 8 * k) 4, exp := leAt b (292 + 8 * k) 4, dur := d2.demLen, flags := ((old[k]?).map SubInt.flags).getD 0 } : SubInt))
  let d3 := { d2 with bil := { d2.bil with hist := kvSet d2.bil.hist c h [] } }
  (d3.setFld BIL_TARCTL c 10 8 (b.getD 408 0).toNat).setFld BIL_TARCTL c 18 16 (b.getD 408 0).toNat

/-- Restore the billing block from the newest valid entry and the tariff bank that it or an older one names (R346). -/
def Sys.restoreBilling (s : Sys) : Sys :=
  let newest := newestEntry s.mem (fun _ => true)
  let withBank := newestEntry s.mem (fun e => decide (leAt e 21 1 < 2))
  let d0 : Dev := match newest with
    | some e => ((s.dev.wr BIL_JSEQ 0 (w32 (leAt e 4 4))).wr BIL_BPNUM 0 (w32 (leAt e 28 4))).wr BIL_DSEQ 0 (w32 (leAt e 32 4))
    | none => s.dev
  match withBank with
  | none => { s with dev := { d0 with bil := { d0.bil with bank := none } } }
  | some e =>
    let b := leAt e 21 1
    let bank := s.read (tariffBank b) 8192
    let blk (c : Nat) : List Byte := slice bank (64 + 448 * c) 448
    let d1 := d0.each d0.mtrChans (fun c q => q.loadBlock c (blk c))
    let base := d1.mtrChans.map (fun c => (leAt (blk c) 0 8, leAt (blk c) 8 8))
    let ivOpen := d1.mtrChans.map (fun c => (leAt (blk c) 272 8, leAt (blk c) 280 8))
    let loc := sext (leAt e 16 4) 32
    { s with dev := { d1 with bil := { d1.bil with bank := some b, base, ivOpen, prev := some (loc, leAt e 12 4) } } }

/-- Metrology time after a restart: one above the newest found in any valid total record or entry; 0 where there is none
(R340). -/
def mtimeAfter (m : KV Byte) : Nat :=
  let a := (List.range 3).foldl (fun a b =>
    let r := memRead m (totalBank b) 1024
    if bankValid r then max a (leAt r 16 4 + 1) else a) 0
  match newestEntry m (fun _ => true) with
  | some e => max a (leAt e 12 4 + 1)
  | none => a

/-- The channel blocks of a total record as closing values. -/
def recordChans (r : List Byte) : List (Nat × Nat × Nat × Bool) :=
  (List.range (leAt r 3 1)).map (fun c =>
    let o := 32 + 32 * c
    (leAt r o 8 * 2 ^ 32 + leAt r (o + 16) 4, leAt r (o + 8) 8 * 2 ^ 32 + leAt r (o + 20) 4, leAt r (o + 24) 2, (leAt r (o + 26) 1).testBit 1))

/-- The newest valid latch record among the banks. -/
def newestLatch (m : KV Byte) : Option (List Byte) :=
  (List.range 3).foldl (fun (acc : Option (List Byte)) b =>
    let r := memRead m (totalBank b) 1024
    if bankValid r ∧ leAt r 2 1 = 1 then
      match acc with
      | none => some r
      | some r' => if serialNewer (leAt r 4 4) (leAt r' 4 4) then some r else some r'
    else acc) none

/-- After a restart the registers show the last latch, where NVM holds its record (R308, R313). -/
def Sys.showLast (s : Sys) : Sys :=
  match newestLatch s.mem with
  | none => s
  | some r =>
    let ch := recordChans r
    s.onDev (fun d => ((d.each d.mtrChans (fun c e => e.showTotals c (leAt r 20 2) (ch.getD c (0, 0, 0, false)))).wr MTR_LATCHSEQ 0
      (w32 (leAt r 4 4))).wr64 MTR_TICKLO MTR_TICKHI 0 (leAt r 8 8))

/-- Complete the latch whose entry is missing, from the newest latch record (R346). Seal entries and failed authentications belong to
no latch. -/
def Sys.reconcile (s : Sys) : Sys :=
  match newestLatch s.mem, newestEntry s.mem (fun e => decide (leAt e 2 1 = 1)), s.dev.bil.prev with
  | some r, some e, some (loc, mt) =>
    if serialNewer (leAt r 4 4) (leAt e 8 4) then
      let cl : Closing := { tick := leAt r 8 8, flags := leAt r 20 2, ticks := leAt r 22 2, chans := recordChans r }
      let s1 := s.onDev (fun d => d.showLatch cl (leAt r 4 4))
      let s2 := s1.onDev (fun d => { d with bil := { d.bil with outage := false, noCiv := false } })
      let s3 := s2.billingLatch cl (loc + ((leAt r 16 4 : Int) - (mt : Int))) (leAt r 16 4) true true
      s3.onDev (fun d => { d with bil := { d.bil with outage := true, noCiv := s.dev.bil.noCiv } })
    else s
  | _, _, _ => s

/-- The residual of R347: energy since the bank's latch goes to the tariff in force. -/
def Dev.residual (d : Dev) : Dev :=
  d.each d.mtrChans (fun c e =>
    let x := e.mtrC c
    let b := e.bil.base.getD c (0, 0)
    let now := (x.imp / 2 ^ 32, x.exp / 2 ^ 32)
    let e1 := e.addTariff c (e.tcur c) (diff64 now.1 b.1, diff64 now.2 b.2)
    { e1 with bil := { e1.bil with base := e1.mtrChans.map (fun k => if k = c then now else e1.bil.base.getD k (0, 0)) } })

/-- BIL_STAT.UNVER and UNLOCKED follow the seal state. -/
def Dev.showSeal (d : Dev) : Dev := (d.setBit BIL_STAT 0 2 d.unver).setBit BIL_STAT 0 3 (decide (d.sealState = 0))

/-- The restore of R326 at power-up and at every metrology-island restart: the accumulators and the tick count from the
newest valid total record, then the billing block. At a restart (`resume`) the run of sample instants goes on, so that those of
the restart are gaps (R331), and a written configuration still waits for its tick (R311). -/
def Sys.restoreMetrology (s : Sys) (resume : Bool) : Sys :=
  let d := s.dev
  let due := d.mtr.flushDue
  let mt := mtimeAfter s.mem
  let fresh : MtrState := { adopted := d.mtr.adopted, adoptDue := d.mtr.adoptDue
                            live := if resume then d.mtr.live else [], lastStamp := if resume then d.mtr.lastStamp else none }
  let bil : BilState := { d.bil with
    mtBase := mt, mtFrom := d.time, outage := true
    ivOut := true, snap := none, live := [], note := {} }
  let d0 : Dev := { d with mtr := fresh, bil }.setBit MTR_LATCHSTAT 0 1 (resume && decide (d.mtr.live ≠ []))
  match newestTotal s.mem with
  | none =>
    let d1 : Dev := { d0 with mtr := { d0.mtr with flags := 8 }, bil := { d0.bil with base := [] } }
    { s with dev := ((d1.setBit MTR_NVMSTAT 0 1 true).ev 0x48 8).showSeal }.restoreBilling
  | some (b, r) =>
    let chans := recordChans r
    let d1 := d0.each d0.mtrChans (fun c e => let x := chans.getD c (0, 0, 0, false)
      e.setMtrC c { imp := x.1, exp := x.2.1, gaps := if leAt r 2 1 = 2 then x.2.2.1 else 0, rev := leAt r 2 1 == 2 && x.2.2.2 })
    let d2 := d1.setFld MTR_NVMSTAT 0 5 4 b
    let d3 : Dev :=
      if leAt r 2 1 = 2 then
        let e := ((d2.setFld MTR_LATCHSTAT 0 26 16 (leAt r 22 2)).setBit MTR_NVMSTAT 0 0 true).ev 0x48 7
        { e with mtr := { e.mtr with flags := leAt r 20 2 % 64 ||| 4 } }
      else
        let lost : Bool := match due with | some q => decide (q ≠ leAt r 4 4) && serialNewer q (leAt r 4 4) | none => false
        if lost then
          let e := (d2.setBit MTR_NVMSTAT 0 1 true).ev 0x48 8
          { e with mtr := { e.mtr with flags := 8 } }
        else d2
    let s4 := ({ s with dev := d3.showSeal }.showLast.restoreBilling).reconcile
    s4.onDev Dev.residual

end Sys2Proof.Machine
end

