-- ==== Sys2Proof/Machine/Seal.lean ====
section
/-! DEFINITION. The metrology seal (R383-R389): the sealed configuration image, the seal states and their journal entries;
and how a write to a configuration register of the MTR and BIL pages acts (R311, R357, R391). -/
namespace Sys2Proof.Machine

/-! ### Configuration writes of the metrology island -/

/-- A write that has no effect and is recorded with KIND 7 (Tables 8.4, 8.5, 8.7, 9.10; R357). -/
def Dev.metroBad (d : Dev) (page off inst : Nat) (v : Word) : Bool :=
  let nBad (n len : Nat) : Bool := decide (len * 1000 < n * 20)
  if page = 0x48 ∧ off = 0x040 then
    decide (bits v 10 0 = 0 ∨ 1024 < bits v 10 0 ∨ 100 < bits v 23 16) || nBad (bits v 10 0) (d.fld BIL_DEMCFG 0 7 0)
  else if page = 0x48 ∧ off = 0x400 then decide (200 < bits v 15 8)
  else if page = 0x48 ∧ 0x440 ≤ off ∧ off < 0x480 then decide (inst ≠ 0)
  else if page = 0x4A ∧ off = 0x400 then
    decide (bits v 7 0 < 2 ∨ 200 < bits v 7 0 ∨ d.variant.mtrChannels ≤ bits v 20 16)
  else if page = 0x4A ∧ off = 0x404 then decide (v.toNat = 0 ∨ 100000 < v.toNat)
  else if page = 0x50 ∧ off = 0x044 then
    !([1, 2, 3, 4, 5, 6, 10, 12, 15, 20, 30, 60].contains (bits v 7 0)) || nBad (d.fld MTR_LATCHCFG 0 10 0) (bits v 7 0)
  else false

/-- A BIL configuration register, whose writes take effect at the next latch (R391). -/
def bilConfig (v : Variant) (page off : Nat) : Bool :=
  decide (0x50 ≤ page ∧ page ≤ 0x57) && decide (page ≠ 0x54) &&
    (match rowOf v page off with | some r => decide (r.rw ||| r.sealed ≠ 0) | none => false)

/-- Keep the value in force of a BIL register that is about to be written. -/
def Dev.keepBil (d : Dev) (page off inst : Nat) : Dev :=
  let r := regAt d.variant page off
  let k := r.key inst 0
  { d with bil := { d.bil with live := kvPut d.bil.live k (kvGet d.bil.live k (d.rd r inst)) } }

/-- A write to a SEAL field clears REARMED (R387). -/
def Dev.sealTouched (d : Dev) (page off : Nat) : Dev :=
  match rowOf d.variant page off with
  | some r =>
    if r.sealed ≠ 0 then { d.setBit BIL_SEALSTAT 0 6 false with bil := { d.bil with sealArm := false } } else d
  | none => d

/-- A write to a register of pages 0x48-0x57 that has passed its gate. -/
def Dev.metroWrite (d : Dev) (i : Initiator) (page off inst : Nat) (v : Word) : Dev :=
  match rowOf d.variant page off with
  | none => d
  | some r =>
    if r.sealed ≠ 0 ∧ !d.sealOpen i then d.fieldsWrite i page off inst false v
    else if d.metroBad page off inst v then d.err page 7 i off
    else
      let d1 := if mtrConfig d.variant page off then d.keepInForce page off inst
        else if bilConfig d.variant page off then d.keepBil page off inst else d
      let d2 := d1.fieldsWrite i page off inst false v
      let d3 := if page = 0x54 ∧ off = 0x040 then
          let held := (List.range 2).foldl (fun (m : KV Nat) b =>
            if !bitOf v b then kvDel m b else if d.bit BIL_SNAPCTL 0 b then m else kvPut m b d2.time) d2.bil.holdAt
          { d2 with bil := { d2.bil with holdAt := held } }
        else d2
      d3.sealTouched page off

/-! ### The sealed configuration image (R386) -/

/-- Every register with a SEAL field of a page: offset, instance and the SEAL bits. -/
def sealRegs (v : Variant) (page : Nat) : List (Nat × Nat × Word) :=
  let rows := (pageRows page).filter (fun r => decide (r.sealed ≠ 0))
  let insts (off : Nat) : List Nat := if 0x400 ≤ off then List.range ((instCount v page).getD 1) else [0]
  (rows.map (fun r => ((List.range r.count).map (fun k =>
    let off := r.off + k * r.stride
    (insts off).map (fun i => (off, i, r.sealed)))).flatten)).flatten

/-- The SEAL fields of the SDM, MTR and BIL pages, in address order. -/
def sealFields (v : Variant) : List (Nat × Nat × Nat × Word) :=
  ([0x20, 0x48, 0x49, 0x4A, 0x4B, 0x50, 0x51, 0x52, 0x53, 0x54, 0x55, 0x56].map (fun p =>
    (sealRegs v p).map (fun x => (p, x)))).flatten

/-- The body of the image: every SEAL field, then the role public keys, each as role, length and bytes. -/
def Dev.imageBody (d : Dev) : List Byte :=
  let ws := ((sealFields d.variant).map (fun x => leBytes 4 ((d.rd (regAt d.variant x.1 x.2.1) x.2.2.1) &&& x.2.2.2).toNat)).flatten
  let ks := (d.bil.roleKeys.map (fun k => leBytes 1 k.1 ++ leBytes 1 k.2.length ++ k.2)).flatten
  slice (ws ++ ks) 0 4060

/-- The sealed configuration image of 4 KiB: body, CRC-32 and SHA-256 digest. -/
def Dev.imageBytes (d : Dev) : List Byte :=
  let b := d.imageBody
  b ++ leBytes 4 (crc32 b) ++ sha256 b

/-- Write the image from the present SEAL fields; BIL_IMGDIG shows its digest's first word. -/
def Sys.writeImage (s : Sys) : Sys :=
  let b := s.dev.imageBytes
  (s.store 0x14001000 b).onDev (fun d => d.wr BIL_IMGDIG 0 (w32 (leAt b 4064 4)))

/-- The image in NVM passes its CRC. -/
def Sys.imageValid (s : Sys) : Bool :=
  let b := s.read 0x14001000 4096
  decide (leAt b 4060 4 = crc32 (b.take 4060))

/-- Load the image into the SEAL fields (R388). -/
def Sys.loadImage (s : Sys) : Sys :=
  let b := s.read 0x14001000 4096
  s.onDev (fun d =>
    let d1 := (sealFields d.variant).zipIdx.foldl (fun (e : Dev) x =>
      let f := x.1
      let r := regAt e.variant f.1 f.2.1
      let v := w32 (leAt b (4 * x.2) 4)
      e.wr r f.2.2.1 ((e.rd r f.2.2.1 &&& ~~~f.2.2.2) ||| (v &&& f.2.2.2))) d
    d1.wr BIL_IMGDIG 0 (w32 (leAt b 4064 4)))

/-! ### Seal states (R383, R389) -/

/-- A KIND 0x02 journal entry and its copy in the seal area, and SEALCHG; an entry into Broken counts (R389). -/
def Sys.sealEntry (s : Sys) (old new cause : Nat) : Sys :=
  let d := s.dev
  let d1 := d.setFld BIL_SEALSTAT 0 2 0 new
  let d2 := if new = 2 ∧ old ≠ 2 then d1.inc BIL_SEALBRK 0 else d1
  let rest := leBytes 1 old ++ leBytes 1 new ++ leBytes 1 cause ++ [0] ++ leBytes 4 (d2.rd BIL_SEALBRK 0).toNat ++
    leBytes 4 (d2.rd BIL_IMGDIG 0).toNat
  let mt := d2.mtime d2.time
  let s1 := { s with dev := d2 }.journal 2 mt (d2.localTime d2.time) 0xFF
    (4096 * b2n (decide (2 ≤ new)) + 8192 * b2n (decide (new = 0))) (d2.rd BIL_BPNUM 0).toNat 0 rest
  let e := s1.read (journalSlot (s1.dev.rd BIL_JSEQ 0).toNat) 64
  let s2 := s1.store (0x14000C00 + s1.dev.bil.sealCopies % 16 * 64) e
  s2.onDev (fun q =>
    let q1 : Dev := { q with bil := { q.bil with sealRec := some new, sealCopies := q.bil.sealCopies + 1 } }
    let q2 := if 2 ≤ new then q1.setBit BIL_STAT 0 2 true else q1
    (if new = 0 then q2 else q2.setBit BIL_STAT 0 3 false).ev 0x50 7)

/-- SEAL_JUMPER_OPEN (R385): 3 consecutive mismatching bits; Sealed and Unverified become Broken. -/
def Sys.jumperOpen (s : Sys) (mismatches : Nat) : Sys :=
  if s.dev.up .metrology ∧ 3 ≤ mismatches then
    let was := s.dev.bit BIL_SEALSTAT 0 5
    let s1 := s.onDev (fun d => d.setBit BIL_SEALSTAT 0 5 false)
    let st := s.dev.sealState
    if was ∧ (st = 1 ∨ st = 3) then s1.sealEntry st 2 2 else s1
  else s

/-- SEAL_JUMPER_CLOSE (R385): 1,000 consecutive matching bits; Broken becomes Sealed if REARMED, otherwise Unverified. -/
def Sys.jumperClose (s : Sys) (matching : Nat) : Sys :=
  if s.dev.up .metrology ∧ 1000 ≤ matching then
    let was := s.dev.bit BIL_SEALSTAT 0 5
    let s1 := s.onDev (fun d => d.setBit BIL_SEALSTAT 0 5 true)
    if !was ∧ s.dev.sealState = 2 then s1.sealEntry 2 (if s.dev.bit BIL_SEALSTAT 0 6 then 1 else 3) 5 else s1
  else s

/-- The METLOCK fuse, as at least 2 of its 3 copies hold it (R626, Table 16.1). -/
def Sys.metlock (s : Sys) : Bool :=
  decide (2 ≤ b2n (s.fuses.testBit 736) + b2n (s.fuses.testBit 737) + b2n (s.fuses.testBit 738))

/-- The seal at boot (R384, R388): Unlocked while the fuse is unblown; otherwise the image is loaded, and the state follows
from the jumper, the image, the last recorded state and REARMED. -/
def Sys.sealBoot (s : Sys) (jumper : Bool) : Sys :=
  let armed := s.dev.bil.sealArm
  let fuse := s.metlock
  let s1 := s.onDev (fun d => ((d.setBit BIL_SEALSTAT 0 4 fuse).setBit BIL_SEALSTAT 0 5 jumper).setBit BIL_SEALSTAT 0 6 armed)
  if !fuse then s1.onDev (fun d => d.setFld BIL_SEALSTAT 0 2 0 0)
  else
    let ok := s1.imageValid
    let s2 := if ok then s1.loadImage else s1.onDev (fun d => d.setBit BIL_SEALSTAT 0 7 true)
    let last := s1.dev.bil.sealRec.getD 2
    let arm := s1.dev.bil.sealRec.isSome && armed
    let (new, cause) : Nat × Nat :=
      if !ok then (2, 4)
      else if !jumper then (2, 3)
      else if last = 1 then (1, 5)
      else if last = 3 then (3, 5)
      else if arm then (1, 5) else (3, 5)
    if s1.dev.bil.sealRec = some new then s2.onDev (fun d => (d.setFld BIL_SEALSTAT 0 2 0 new).when (decide (2 ≤ new)) (fun e => e.setBit BIL_STAT 0 2 true))
    else s2.sealEntry last new cause

end Sys2Proof.Machine
end

