-- ==== Sys2Proof/Machine/Graph.lean ====
section
/-! DEFINITION. The routing graph of the loop engine (R157, R165-R169, R206, R207): coefficient blocks, settings of a
context, feeders of arbiters, dependencies, ranks and the schedule. -/
namespace Sys2Proof.Machine

/-! ### Coefficient blocks (Table 4.16) -/

/-- The register of a word of coefficient block n. -/
def coefReg (n off : Nat) : Reg := ⟨0x100 + n, off, 0⟩

/-- A word of a coefficient block. -/
def Dev.cw (d : Dev) (n off : Nat) : Word := d.rd (coefReg n off) 0

/-- A state word as a BF24 value. -/
def Dev.st (d : Dev) (n off : Nat) : BF := bfOf (d.cw n off)

/-- Write a state word. -/
def Dev.setSt (d : Dev) (n off : Nat) (x : BF) : Dev := d.wr (coefReg n off) 0 x.word

/-- The offsets of each coefficient group: IN, F0, F1, PI, ILIM, D, FF, OLIM, IP. -/
def groupOffs : Nat → List Nat
  | 0 => [0x000, 0x004, 0x008, 0x00C]
  | 1 => [0x010, 0x014, 0x018, 0x01C, 0x020]
  | 2 => [0x030, 0x034, 0x038, 0x03C, 0x040]
  | 3 => [0x050, 0x054]
  | 4 => [0x058, 0x05C]
  | 5 => [0x060, 0x064]
  | 6 => [0x070]
  | 7 => [0x074, 0x078, 0x07C, 0x080]
  | _ => [0x090]

/-- Word k of a coefficient group, aligned as R149 states. -/
def Dev.coef (d : Dev) (n g k : Nat) : BF := groupCoef ((groupOffs g).map (d.cw n)) k

/-- Every coefficient offset of a block. -/
def coefOffs : List Nat := (List.range 9).flatMap groupOffs

/-- Every state offset of a block. -/
def stateOffs : List Nat := (List.range 14).map (fun k => 0x100 + 4 * k)

/-! ### Settings -/

/-- LPE_CTXCFG.EN (Table 4.13). -/
def Dev.ctxEn (d : Dev) (n : Nat) : Bool := decide (n < d.variant.contexts) && d.bit LPE_CTXCFG n 31

/-- The enabled contexts, ascending. -/
def Dev.enabled (d : Dev) : List Nat := (List.range d.variant.contexts).filter d.ctxEn

/-- A context is due in frame f when f mod 2^DIV is PHASE (R165). -/
def Dev.dueIn (d : Dev) (n f : Nat) : Bool :=
  decide (f % 2 ^ d.fld LPE_CTXCFG n 19 16 = d.fld LPE_CTXCFG n 15 8)

/-- The registers of slot k of an arbiter: 0-15 outlets, 16 the site. -/
def Dev.slotCfg (d : Dev) (a k : Nat) : Word := if a = 16 then d.rd (ARB_SITECFG k) 0 else d.rd (ARB_SLOTCFG k) a
/-- The constant of a slot. -/
def Dev.slotK (d : Dev) (a k : Nat) : BF := bfOf (if a = 16 then d.rd (ARB_SITEK k) 0 else d.rd (ARB_SLOTK k) a)
/-- SRC of a slot. -/
def Dev.slotSrc (d : Dev) (a k : Nat) : Nat := bits (d.slotCfg a k) 3 0
/-- IDX of a slot. -/
def Dev.slotIdx (d : Dev) (a k : Nat) : Nat := bits (d.slotCfg a k) 14 8
/-- EN of an arbiter. -/
def Dev.arbEn (d : Dev) (a : Nat) : Bool :=
  if a = 16 then d.bit ARB_SITECTL 0 0 else decide (a < d.variant.outlets) && d.bit ARB_CTL a 0
/-- The present arbiters, the site arbiter first (R197). -/
def Dev.arbiters (d : Dev) : List Nat := 16 :: List.range d.variant.outlets

/-- The slots of an arbiter that a context feeds. -/
def Dev.feedsSlots (d : Dev) (a c : Nat) : List Nat :=
  (List.range 8).filter (fun k => decide (d.slotSrc a k = 8) && decide (d.slotIdx a k = c))

/-- The enabled contexts that feed an arbiter's slots. -/
def Dev.feeders (d : Dev) (a : Nat) : List Nat := d.enabled.filter (fun c => !(d.feedsSlots a c).isEmpty)

/-- An outlet arbiter has a slot of source 4. -/
def Dev.hasSrc4 (d : Dev) (a : Nat) : Bool := (List.range 8).any (fun k => decide (d.slotSrc a k = 4))

/-- The enabled contexts whose claims an arbiter's decision depends on (R196, R206). -/
def Dev.feedersAll (d : Dev) (a : Nat) : List Nat :=
  if a ≠ 16 ∧ d.hasSrc4 a then d.feeders a ++ d.feeders 16 else d.feeders a

/-- The module whose share context a context is, while RGP_MODCFG.EN and SHV are 1. -/
def Dev.shareModules (d : Dev) (c : Nat) : List Nat :=
  (List.range d.variant.modules).filter (fun m =>
    d.bit RGP_MODCFG m 31 && d.bit RGP_MODCFG m 30 && decide (d.fld RGP_MODCFG m 22 16 = c))

/-- The valid FOLLOW contexts of a module (R228). -/
def Dev.follows (d : Dev) (m : Nat) : List Nat :=
  ((List.range 4).filter (fun i => d.bit RGP_FOLLOW m (8 * i + 7))).map (fun i => d.fld RGP_FOLLOW m (8 * i + 6) (8 * i))

/-- The enabled contexts that context c depends on (R206, R228). -/
def Dev.deps (d : Dev) (c : Nat) : List Nat :=
  let src := d.fld LPE_SRC c 15 12
  let idx := d.fld LPE_SRC c 7 0
  let own := match src with
    | 1 => d.feedersAll idx
    | 2 => d.feeders 16
    | 3 => [idx]
    | _ => []
  (own ++ (d.shareModules c).flatMap d.follows).filter d.ctxEn

/-- Ranks as a list of context and rank. -/
abbrev Ranks := List (Nat × Nat)

/-- The rank of a context; a disabled one has none and reads 0. -/
def rankIn (r : Ranks) (c : Nat) : Nat := ((r.find? (fun p => decide (p.1 = c))).map (·.2)).getD 0

/-- One relaxation: each rank is one above the highest among the dependencies (R166). -/
def relax (ds : List (Nat × List Nat)) (r : Ranks) : Ranks :=
  ds.map (fun p => (p.1, p.2.foldl (fun m x => max m (rankIn r x + 1)) 0))

/-- Relax n times. -/
def relaxN (ds : List (Nat × List Nat)) : Nat → Ranks → Ranks
  | 0, r => r
  | n + 1, r => relaxN ds n (relax ds r)

/-- The ranks of the enabled contexts: on a graph without a cycle as many relaxations as there are contexts settle them. -/
def Dev.ranks (d : Dev) : Ranks :=
  let en := d.enabled
  let ds := en.map (fun c => (c, d.deps c))
  relaxN ds en.length (en.map (fun c => (c, 0)))

/-- The slots a set of due contexts takes (R168). -/
def schedLen (counts : List Nat) : Nat :=
  let ns := counts.filter (fun n => decide (0 < n))
  if ns.isEmpty then 0 else (ns.map (fun n => (n + 3) / 4 + 11)).foldl (· + ·) 0 + 2 * (ns.length - 1)

/-- The schedule length of frame f (R168). -/
def Dev.schedOf (d : Dev) (r : Ranks) (f : Nat) : Nat :=
  let due := r.filter (fun p => d.dueIn p.1 f)
  schedLen ((List.range 4).map (fun k => (due.filter (fun p => decide (p.2 = k))).length))

/-- The longest frame of the 256-frame cycle and its first occurrence (R169). -/
def Dev.longest (d : Dev) (r : Ranks) : Nat × Nat :=
  (List.range 256).foldl (fun b f => let n := d.schedOf r f; if b.1 < n then (n, f) else b) (0, 0)

/-- Show LPE_RANK and LPE_SCHED after a commit (R166, R169). A disabled context has no rank, and the spec does not say what its LPE_RANK
reads then: it keeps its last value (log entry 208). -/
def Dev.showSched (d : Dev) : Dev :=
  let r := d.ranks
  let (n, f) := d.longest r
  let top := r.foldl (fun m p => max m p.2) 0
  (d.each r (fun p e => e.setFld LPE_RANK p.1 1 0 p.2)).wr LPE_SCHED 0
    (w32 (min n 255 + 256 * f + 65536 * (top % 4)))

/-- The level of an arbiter (R196). -/
def Dev.arbLevel (d : Dev) (r : Ranks) (a : Nat) : Nat :=
  (d.feedersAll a).foldl (fun m c => max m (rankIn r c + 1)) 0

end Sys2Proof.Machine
end

