-- ==== Sys2Proof/Machine/Arb.lean ====
section
/-! DEFINITION. The constraint arbiters (spec/05_constraint_arbitration.md, R188-R212): claims, the winning value, the
winner identity with its hysteresis, and which context is narrowed. -/
namespace Sys2Proof.Machine

/-- An arbiter's working state. -/
def Dev.arbR (d : Dev) (a : Nat) : ArbRec := kvGet d.arb.arb a {}
/-- Replace it. -/
def Dev.setArbR (d : Dev) (a : Nat) (x : ArbRec) : Dev := { d with arb := { d.arb with arb := kvSet d.arb.arb a x {} } }

/-- A device whose loop engine runs: single or ACTIVE (R717). -/
def Dev.engineRuns (d : Dev) : Bool := d.up .control && d.master

/-- The winning value as every reader sees it (R199, R192). -/
def Dev.win (d : Dev) (a : Nat) : BF := bfOf (if a = 16 then d.rd ARB_SITEWIN 0 else d.rd ARB_WIN a)
/-- WVALID. -/
def Dev.wvalid (d : Dev) (a : Nat) : Bool := if a = 16 then d.bit ARB_SITEWST 0 3 else d.bit ARB_WSTAT a 3

/-- An outlet's voltage in V from its control sample, exact: ARB_VSCL * s / 2^23 (Table 5.1, source 4). -/
def Dev.outletV (d : Dev) (o : Nat) : Option Acc := (d.ctl (8 + 2 * o)).map (fun s => (bfOf (d.rd ARB_VSCL o)).mul ⟨s, 0⟩)
/-- An outlet's current in A: ARB_ISCL * s / 2^23 (source 9). -/
def Dev.outletI (d : Dev) (o : Nat) : Option Acc := (d.ctl (9 + 2 * o)).map (fun s => (bfOf (d.rd ARB_ISCL o)).mul ⟨s, 0⟩)

/-- The larger of a voltage and the outlet's floor, as a fraction (Table 5.1). -/
def Dev.vFloored (d : Dev) (o : Nat) (v : Acc) : Int × Nat :=
  let f := (bfOf (d.rd ARB_VFLOOR o)).term
  if v.lt f then f.frac else v.frac

/-- The power drawn by the outlets in W: the sum of V * I where both samples are valid and both scales positive. -/
def Dev.pdcW (d : Dev) : Int × Nat :=
  (List.range d.variant.outlets).foldl (fun s o =>
    match d.outletV o, d.outletI o with
    | some v, some i =>
      if (bfOf (d.rd ARB_VSCL o)).pos? && (bfOf (d.rd ARB_ISCL o)).pos? then
        fracAdd s (v.frac.1 * i.frac.1, v.frac.2 * i.frac.2)
      else s
    | _, _ => s) (0, 1)

/-- The grid headroom of a site slot in kW: K - max(0, Pgrid - Pdc) (source 9). -/
def Dev.gridHeadroom (d : Dev) (k : Nat) : BF :=
  let pg : Int := (d.rd MTR_P1MS 0).toInt
  let pd := d.pdcW
  let po : Int × Nat := (pg * (pd.2 : Int) - pd.1, pd.2)
  let po' : Int × Nat := if po.1 < 0 then (0, 1) else po
  let c := (d.slotK 16 k).term.frac
  let x := fracAdd (c.1 * 1000, c.2) (-po'.1, po'.2)
  bfRat x.1 (x.2 * 1000)

/-- The link of a module still counts for availability: Up, or Dead since this very frame (R139). -/
def Dev.linkCounts (d : Dev) (l : Nat) : Bool :=
  decide (d.linkState l = 2) || (decide (d.linkState l = 3) && decide ((d.link l).deadAt = d.frame))

/-- The module availability of an outlet in 0.1 A: IAVAIL over the modules grouped on it at the start of the frame (R227). -/
def Dev.availability (d : Dev) (o : Nat) : Nat :=
  ((List.range d.variant.modules).filter (fun m => decide (kvGet d.grouped m 0 = o + 1) && d.linkCounts (m / 8))).foldl
    (fun s m => s + d.iavail m) 0

/-- VZERO of port n: while its accepted state is neither C nor D, the vehicle request claims zero (R537). -/
def Dev.pilotZero (d : Dev) (n : Nat) : Bool :=
  d.bit PIL_PCFG n 8 && decide (d.fld PIL_PSTAT n 2 0 ≠ 2) && decide (d.fld PIL_PSTAT n 2 0 ≠ 3)

/-- The claim of slot k of arbiter a: none where the slot takes no part (Table 5.1, R190, R191). -/
def Dev.claim (d : Dev) (a k : Nat) : Option BF :=
  let raw : Option BF := match d.slotSrc a k with
    | 1 => some (if (d.arbR a).vreqDead || d.pilotZero a then BF.zero else bfOf (d.arbR a).vreq)
    | 2 => some (if d.up .pstage then bfOf (d.rd THM_OCLAIM a) else BF.zero)
    | 3 => some (bfOf (d.rd SHR_CLAIM a))
    | 4 => some (match d.outletV a with
        | none => BF.zero
        | some v =>
          if d.wvalid 16 then
            let w := (d.win 16).term.frac
            let f := d.vFloored a v
            if 0 < f.1 then bfRat (w.1 * 1000 * (f.2 : Int)) (w.2 * f.1.toNat) else BF.zero
          else BF.zero)
    | 5 => some (if d.up .safety then bfOf (d.rd SAF_ICLAIM a) else BF.zero)
    | 6 => some (bfRat (d.availability a) 10)
    | 7 => some (d.slotK a k)
    | 8 =>
      let c := d.slotIdx a k
      if d.ctxEn c then some (bfOf (d.rd LPE_OUT c))
      else if bitOf (d.slotCfg a k) 16 then none else some BF.zero
    | 9 =>
      if d.pwr.gridLostAt.isNone then some (d.gridHeadroom k)
      else if d.headDead then some BF.zero else some (bfOf (d.rd (ARB_SITECLM k) 0))
    | _ => none
  raw.map (fun x => if x.neg? then BF.zero else x)

/-- The lowest of the claims that take part (R192). -/
def lowest : List (Nat × BF) → Option BF
  | [] => none
  | (_, x) :: r => match lowest r with
    | none => some x
    | some y => some (if y.lt x then y else x)

/-- The identity after a decision (R193): it stays s0 while s0 takes part and its claim is within HYST of the winning
value, else it is the lowest slot whose claim equals it. -/
def newIdent (s0 : Option Nat) (hyst m : BF) (cs : List (Nat × BF)) : Option Nat :=
  let stay : Bool := match s0 with
    | none => false
    | some s => match cs.find? (fun (p : Nat × BF) => decide (p.1 = s)) with
      | none => false
      | some p => !(accSum [m.term, hyst.term]).lt p.2.term
  if stay then s0 else (cs.find? (fun (p : Nat × BF) => p.2.eqv m)).map (fun (p : Nat × BF) => p.1)

/-- Write an arbiter's status registers. -/
def Dev.showArb (d : Dev) (a : Nat) (win : Word) (stat : Nat) (claims : List Word) (part : Nat) : Dev :=
  if a = 16 then
    (((d.wr ARB_SITEWIN 0 win).wr ARB_SITEWST 0 (w32 stat)).wr ARB_SITEPART 0 (w32 part)).each (List.range 8)
      (fun k e => e.wr (ARB_SITECLM k) 0 (claims.getD k 0))
  else
    (((d.wr ARB_WIN a win).wr ARB_WSTAT a (w32 stat)).wr ARB_PART a (w32 part)).each (List.range 8)
      (fun k e => e.wr (ARB_CLAIM k) a (claims.getD k 0))

/-- One decision of an arbiter (R192-R195); none in Hold and Standby (R200). -/
def Dev.decide1 (d : Dev) (a : Nat) : Dev :=
  let x := d.arbR a
  let stat := if a = 16 then d.rd ARB_SITEWST 0 else d.rd ARB_WSTAT a
  let wchg := bits stat 31 16
  if !d.arbEn a || decide (d.level = .hold) || decide (d.level = .standby) then d
  else
    let cl := (List.range 8).map (fun k => d.claim a k)
    let cs := (List.range 8).filterMap (fun k => (cl.getD k none).map (fun c => (k, c)))
    let words := cl.map (fun c => (c.map BF.word).getD 0)
    let part := cs.foldl (fun s p => s + 2 ^ p.1) 0
    match lowest cs with
    | none =>
      let d1 := (d.showArb a 0 (65536 * wchg) words 0).setArbR a { x with ident := none, decided := true }
      (d1.setBit ARB_NOCLSUM 0 a true).ev 0x38 1
    | some m =>
      let hyst := bfOf (if a = 16 then d.rd ARB_SITEHYST 0 else d.rd ARB_HYST a)
      let id := newIdent x.ident hyst m cs
      let s := id.getD 0
      let held := match cs.find? (fun p => decide (p.1 = s)) with
        | some p => m.lt p.2
        | none => false
      let chg := x.ident.isSome && decide (x.ident ≠ id)
      let wchg' := if chg then min (wchg + 1) 65535 else wchg
      let d1 := (d.showArb a m.word (65536 * wchg' + 16 * b2n held + 8 + s) words part).setArbR a
        { x with ident := id, decided := true }
      if chg then (d1.setBit ARB_WCHGSUM 0 a true).ev 0x38 0 else d1

/-- Every arbiter of a level up to n that has not decided in this frame decides, the site arbiter first (R197). -/
def Dev.decideUpTo (d : Dev) (r : Ranks) (n : Nat) : Dev :=
  d.each d.arbiters (fun a e => if !(e.arbR a).decided && decide (e.arbLevel r a ≤ n) then e.decide1 a else e)

/-- The arbiters that have not decided do so when the last rank ends, or at the deadline (R197). -/
def Dev.decideRest (d : Dev) : Dev :=
  d.each d.arbiters (fun a e => if !(e.arbR a).decided then e.decide1 a else e)

/-- The arbiter and slot that a context feeds, the first found. -/
def Dev.fedSlot (d : Dev) (c : Nat) : Option (Nat × Nat) :=
  (d.arbiters.flatMap (fun a => (d.feedsSlots a c).map (fun k => (a, k)))).head?

/-- A due evaluation is narrowed when the decision of frame f - 1 was valid with an identity other than the context's
slot, unless a commit changed the arbiter at this frame's boundary (R201, R204). The answer is Wref and MARGIN. -/
def Dev.narrowing (d : Dev) (c : Nat) : Option (BF × BF) :=
  match d.fedSlot c with
  | none => none
  | some (a, k) =>
    let x := d.arbR a
    if x.prevValid && decide (x.prevIdent ≠ some k) && !x.fresh then
      some (bfOf x.prevWin, bfOf (if a = 16 then d.rd ARB_SITEMARG 0 else d.rd ARB_MARGIN a))
    else none

/-- ARB_NARROW: whether the slot's context was narrowed at its last due evaluation. -/
def Dev.showNarrow (d : Dev) (c : Nat) (b : Bool) : Dev :=
  match d.fedSlot c with
  | none => d
  | some (a, k) => if a = 16 then d.setBit ARB_SITENAR 0 k b else d.setBit ARB_NARROW a k b

/-- In Hold and Standby an arbiter reads 0 with WVALID 0 and holds no identity (R193, R200). -/
def Dev.arbIdle (d : Dev) (a : Nat) : Dev :=
  let d1 := if a = 16 then (d.wr ARB_SITEWIN 0 0).setBit ARB_SITEWST 0 3 false else (d.wr ARB_WIN a 0).setBit ARB_WSTAT a 3 false
  d1.setArbR a { d.arbR a with ident := none, prevValid := false }

/-- The start of a frame: the last decision becomes that of frame f - 1; a disabled arbiter, and every one in Hold and
Standby, shows nothing and holds no identity (R192, R193, R200, R212). -/
def Dev.arbBoundary (d : Dev) (a : Nat) : Dev :=
  let x := d.arbR a
  let idle := decide (d.level = .hold) || decide (d.level = .standby)
  let stat := if a = 16 then d.rd ARB_SITEWST 0 else d.rd ARB_WSTAT a
  let en := d.arbEn a
  let vreq := if a = 16 then 0 else d.rd ARB_VREQ a
  let x1 : ArbRec := { x with
    prevWin := (if a = 16 then d.rd ARB_SITEWIN 0 else d.rd ARB_WIN a)
    prevValid := bitOf stat 3
    prevIdent := x.ident
    decided := !en || idle
    enWas := en
    vreq := vreq }
  if !en then
    (d.showArb a 0 (65536 * bits stat 31 16) [] 0).setArbR a { x1 with ident := none, prevValid := false }
  else
    let d1 := if x.enWas then d.setArbR a x1 else (d.showArb a 0 0 [] 0).setArbR a { x1 with ident := none, prevValid := false }
    if idle then d1.arbIdle a else d1

end Sys2Proof.Machine
end

