-- ==== Sys2Proof/Machine/Loop.lean ====
section
/-! DEFINITION. The loop law of a context and what surrounds it (spec/04_loop_engine.md, R155-R183; tuning, R213-R222):
feedback and set-point, the stages of Table 4.5, misses, saturation intervals, and the state at a committed change. -/
namespace Sys2Proof.Machine

/-- A context's working state. -/
def Dev.ctxR (d : Dev) (n : Nat) : CtxRec := kvGet d.loop.ctx n {}
/-- Replace it. -/
def Dev.setCtxR (d : Dev) (n : Nat) (x : CtxRec) : Dev := { d with loop := { d.loop with ctx := kvSet d.loop.ctx n x {} } }

/-- Set a context's bit in a word of a summary register. -/
def Dev.ctxSum (d : Dev) (r : Nat → Reg) (n : Nat) : Dev := d.setBit (r (n / 32)) 0 (n % 32) true

/-- The value thermal management publishes for an input, in 0.01 K (R463); none while the power-stage island is down, the input is
disabled, or it has not been converted yet and its limits do not force it hot. -/
def Dev.thermalIn (d : Dev) (x : Nat) : Option Nat :=
  if x < d.variant.thermals ∧ d.up .pstage ∧ d.bit THM_ICFG x 31 ∧ ((kvGet d.thm.inp x {}).own.isSome ∨ d.fld THM_ISTAT x 3 2 = 2) then
    some (d.fld THM_IVAL x 15 0)
  else none

/-- A context's feedback as terms of x, none where it is invalid (Table 4.3). -/
def Dev.feedback (d : Dev) (n : Nat) : Option (List Acc) :=
  let idx := d.fld LPE_SRC n 23 16
  let tel (v : BF) : Option (List Acc) :=
    if (d.linkState (idx / 8) = 1 ∨ d.linkState (idx / 8) = 2) ∧ d.present idx then some [v.term] else none
  match d.fld LPE_SRC n 31 28 with
  | 0 => (d.ctl idx).map (fun s => [(d.coef n 0 0).mul ⟨s, 0⟩, (d.coef n 0 1).term])
  | 1 => tel (bfRat (d.imeas idx) 10)
  | 2 => tel (bfRat (d.vmeas idx) 20)
  | 3 => (d.thermalIn idx).map (fun v => [(bfRat v 100).term])
  | _ => none

/-- A context's set-point (Table 4.4, R210). -/
def Dev.setpoint (d : Dev) (n : Nat) : BF :=
  let idx := d.fld LPE_SRC n 7 0
  match d.fld LPE_SRC n 15 12 with
  | 0 => d.coef n 0 3
  | 1 => d.win idx
  | 2 => d.win 16
  | _ => if d.ctxEn idx then bfOf (d.rd LPE_OUT idx) else BF.zero

/-- The offsets of the four state words of biquad b. -/
def bqOff (b k : Nat) : Nat := 0x108 + 16 * b + 4 * k

/-- One biquad, direct form I (Table 4.5): the new y, u1, u2, y1 share one exponent. -/
def Dev.biquad (d : Dev) (n b : Nat) (u : BF) : BF × Bool × Dev :=
  let c := fun k => d.coef n (1 + b) k
  let s := fun k => d.st n (bqOff b k)
  let y := accSum [(c 0).mul u, (c 1).mul (s 0), (c 2).mul (s 1), ((c 3).mul (s 2)).neg, ((c 4).mul (s 3)).neg]
  match renorm [y, u.term, (s 0).term, (s 2).term] with
  | ([y', u1, u2, y2], o) =>
    (y', o, (((d.setSt n (bqOff b 0) u1).setSt n (bqOff b 1) u2).setSt n (bqOff b 2) y').setSt n (bqOff b 3) y2)
  | _ => (u, false, d)

/-- The biquads in series. -/
def Dev.biquads (d : Dev) (n : Nat) : List Nat → BF → BF × Bool × Dev
  | [], u => (u, false, d)
  | b :: r, u =>
    let (y, o, d1) := d.biquad n b u
    let (z, o', d2) := d1.biquads n r y
    (z, o || o', d2)

/-- What the evaluation of a context is given beside its registers. -/
structure EvalIn where
  xs : List Acc
  sp : BF
  narrow : Option (BF × BF)
  /-- The tuning injection and its point (Table 5.8). -/
  inj : Option (BF × Nat)
  stale : Bool

/-- The injected terms of a point. -/
def EvalIn.injAt (i : EvalIn) (p : Nat) : List Acc :=
  match i.inj with
  | some (n, q) => if q = p then [n.term] else []
  | none => []

/-- The result of the output stage for one integrator value: u before the limits, the rate-limited value, and y. -/
def outStage (base : List Acc) (i : BF) (rate : Bool) (dn up lo hi : Acc) : Acc × Acc × Acc :=
  let u := accSum (base ++ [i.term])
  let r := if rate then u.clamp dn up else u
  (u, r, r.clamp lo hi)

/-- The two signals a tuning point reads: IN and RET (Table 5.8). -/
structure TuneTap where
  sIn : Acc
  ret : Acc

/-- An on-time evaluation of context n (R158-R162, R202, R203): new state, output and status, the signals at the
injection point, and the flags CLIP reads. -/
def Dev.evaluate (d : Dev) (n : Nat) (i : EvalIn) : Dev × TuneTap × Bool :=
  let cfg := d.rd LPE_CTXCFG n
  let x0 := d.ctxR n
  -- Input
  let spT := i.sp.term :: i.injAt 2
  let e0 := accSum (spT ++ i.xs.map Acc.neg)
  let db := (d.coef n 0 2).term
  let e1 := if bitOf cfg 2 then
      (if decide (e0.n = 0) || (!db.lt e0 && !db.lt e0.neg) then ⟨0, -32⟩
       else accSum (spT ++ i.xs.map Acc.neg ++ [if (⟨0, 0⟩ : Acc).lt e0 then db.neg else db]))
    else e0
  let e2 := accSum (e1 :: i.injAt 0)
  let vin := renorm [accSum i.xs, accSum spT, e2, e1]
  let x := vin.1.getD 0 BF.zero
  let sp := vin.1.getD 1 BF.zero
  let e := vin.1.getD 2 BF.zero
  let eDb := vin.1.getD 3 BF.zero
  -- Filter
  let (ef, of, d1) := d.biquads n (List.range (bits cfg 7 6)) e
  -- PI and D
  let kp := (d.coef n 3 0).mul ef
  let ki := (d.coef n 3 1).mul ef
  let q : BF := if bitOf cfg 4 then ⟨-x.m, x.e⟩ else ef
  let qprev := if x0.qsync then q else d.st n 0x130
  let dT := if bitOf cfg 5 then
      accSum [(d.coef n 5 1).mul (d.st n 0x12C), (d.coef n 5 0).mul q, ((d.coef n 5 0).mul qprev).neg]
    else ⟨0, -32⟩
  let vd := renorm [dT, q.term]
  let dv := vd.1.getD 0 BF.zero
  let qv := vd.1.getD 1 BF.zero
  let ff := if bits cfg 1 0 = 1 then sp else BF.zero
  let fft := (d.coef n 6 0).mul ff
  let imin := (d.coef n 4 1).term
  let imax0 := (d.coef n 4 0).term
  let imax := match i.narrow with
    | none => imax0
    | some (w, mg) =>
      let b := accSum ([w.term, mg.term, fft.neg, kp.neg, dv.term.neg] ++ (i.injAt 1).map Acc.neg)
      let b' := if b.lt imin then imin else b
      if imax0.lt b' then imax0 else b'
  let iprev := if x0.iload then (renorm1 ((d.coef n 8 0).term.clamp imin imax)).1 else d.st n 0x128
  let vpi := renorm [kp, ki, (accSum [iprev.term, ki]).clamp imin imax]
  let p := vpi.1.getD 0 BF.zero
  let di := vpi.1.getD 1 BF.zero
  let icand := vpi.1.getD 2 BF.zero
  -- Output
  let yprev := d.st n 0x134
  let base := [fft, p.term, dv.term] ++ i.injAt 1
  let dn := accSum [yprev.term, (d.coef n 7 3).term.neg]
  let up := accSum [yprev.term, (d.coef n 7 2).term]
  let hi := (d.coef n 7 0).term
  let lo := (d.coef n 7 1).term
  let rate := bitOf cfg 3
  let c := outStage base icand rate dn up lo hi
  let held0 := (c.2.2.lt c.1 && di.pos?) || (c.1.lt c.2.2 && di.neg?)
  let held := held0 && !(i.narrow.isSome && imax.lt iprev.term)
  let iv := if held then iprev else icand
  let r := outStage base iv rate dn up lo hi
  let (y, oy) := renorm1 r.2.2
  let ratel := !r.2.1.eqv r.1
  let upper := y.eqv (d.coef n 7 0)
  let lower := y.eqv (d.coef n 7 1)
  -- Write back
  let d2 := (((((d1.setSt n 0x100 x).setSt n 0x104 eDb).setSt n 0x128 iv).setSt n 0x12C dv).setSt n 0x130 qv).setSt n 0x134 y
  let d3 := (((d2.wr LPE_OUT n y.word).wr LPE_LASTFRM n (d2.rd LPE_FRAMELO 0)).setFld LPE_MISSCNT n 7 0 0)
  let stat := b2n upper + 2 * b2n lower + 4 * b2n ratel + 16 * b2n i.stale + 64 * b2n held + 128
  let d4 := d3.setFld LPE_CSTAT n 7 0 stat
  let ovf := vin.2 || of || vd.2 || vpi.2 || oy
  let d5 := if ovf then (d4.setBit LPE_CSTAT n 10 true).ev 0x28 4 else d4
  let d6 := d5.setCtxR n { x0 with qsync := false, iload := false, escDone := false }
  let d7 := d6.showNarrow n i.narrow.isSome
  -- Saturation interval (R179)
  let sel := d.fld LPE_SATCFG n 17 16
  let at' := (sel.testBit 0 && upper) || (sel.testBit 1 && lower)
  let z := d7.ctxR n
  let d8 := if at' then (if z.satFrom.isSome then d7 else d7.setCtxR n { z with satFrom := some d7.time, satFired := false })
    else d7.setCtxR n { z with satFrom := none, satFired := false }
  let injPt := match i.inj with | some (_, q) => q | none => 0
  let nT : Acc := match i.inj with | some (v, _) => v.term | none => ⟨0, -32⟩
  let tap : TuneTap := match injPt with
    | 0 => ⟨e2, e1.neg⟩
    | 1 => ⟨r.1, accSum [r.1.neg, nT]⟩
    | _ => ⟨nT, x.term⟩
  (d8, tap, upper || lower || ratel)

/-- A missed due evaluation (R172): no state changes, the output is held, the flags are set and RUN counts (R176). -/
def Dev.missCtx (d : Dev) (n why : Nat) : Dev :=
  let d1 := (d.incFld LPE_MISSCNT n 7 0).incFld LPE_MISSCNT n 31 16
  let d2 := ((d1.setFld LPE_CSTAT n 18 16 why).setBit LPE_CSTAT n 3 true).setBit LPE_CSTAT n 8 true
  let d3 := (d2.ctxSum LPE_MISSSUM n).ev 0x28 0
  { d3 with loop := { d3.loop with missed := d3.loop.missed ++ [n] } }

/-- Clear a context's integrator, biquad and derivative states (R175); with yprev and the output for a forced zero (R176). -/
def Dev.clearCtx (d : Dev) (n : Nat) (withY : Bool) : Dev :=
  let offs := (List.range 8).map (fun k => 0x108 + 4 * k) ++ [0x128, 0x12C, 0x130] ++ (if withY then [0x134] else [])
  let d1 := d.each offs (fun o e => e.wr (coefReg n o) 0 0)
  if withY then d1.wr LPE_OUT n 0 else d1

/-- Clear every state word of a context (Table 4.10, EN from 0 to 1). -/
def Dev.zeroCtx (d : Dev) (n : Nat) : Dev := (d.each stateOffs (fun o e => e.wr (coefReg n o) 0 0)).wr LPE_OUT n 0

/-- The state of a context after EN changes from 0 to 1 (Table 4.10, R230): its run of misses is over, and FORCED stays until an on-time
evaluation releases it (R176, R183). -/
def Dev.startCtx (d : Dev) (n : Nat) : Dev :=
  let d1 := (d.zeroCtx n).wr LPE_MISSCNT n 0
  (d1.setFld LPE_CSTAT n 7 0 (128 + 32 * b2n (d.bit LPE_CSTAT n 5))).setCtxR n
    { d1.ctxR n with qsync := false, satFrom := none, satFired := false, escDone := false }

/-- What a commit does to a context whose settings it changed (Table 4.10, R182, R183). -/
def Dev.ctxCommitted (d : Dev) (n : Nat) : Dev :=
  let x := d.ctxR n
  let cfg := d.rd LPE_CTXCFG n
  let src := d.rd LPE_SRC n
  let ctl := d.rd LPE_CTXCTL n
  let was := x.cfgWas
  let d0 := if ctl = 0 then d else d.wr LPE_CTXCTL n 0
  let x1 : CtxRec := { x with cfgWas := cfg, srcWas := src, iload := x.iload || (bitOf ctl 0 && bitOf cfg 31) }
  if bitOf cfg 31 && !bitOf was 31 then (d0.setCtxR n { x1 with badGroups := x.badGroups }).startCtx n
  else if !bitOf cfg 31 then
    if bitOf was 31 then
      ((d0.setFld LPE_CSTAT n 7 0 (32 * b2n (d0.bit LPE_CSTAT n 5))).wr LPE_OUT n 0).setCtxR n { x1 with qsync := false, iload := false, satFrom := none }
    else d0.setCtxR n x1
  else
    let d1 := d0.each (List.range 2) (fun b e =>
      if decide (b < bits was 7 6) != decide (b < bits cfg 7 6) then
        e.each (List.range 4) (fun k z => z.wr (coefReg n (bqOff b k)) 0 0)
      else e)
    let moved := decide (bits src 31 28 ≠ bits x.srcWas 31 28) || decide (bits src 23 16 ≠ bits x.srcWas 23 16) ||
      (bitOf cfg 4 != bitOf was 4)
    let d2 := if bitOf ctl 1 then
        let e := d1.each ((List.range 8).map (fun k => 0x108 + 4 * k) ++ [0x12C, 0x130]) (fun o z => z.wr (coefReg n o) 0 0)
        e.wr (coefReg n 0x134) 0 (e.rd LPE_OUT n)
      else d1
    d2.setCtxR n { x1 with qsync := x.qsync || moved }

/-- Entry to Hold or Standby ends every saturation interval (R178). -/
def Dev.endSatIntervals (d : Dev) : Dev :=
  d.each (List.range d.variant.contexts) (fun n e =>
    let x := e.ctxR n
    if x.satFrom.isSome then e.setCtxR n { x with satFrom := none, satFired := false } else e)

/-- LPE_SATTIME: the present interval in 0.1 ms, saturating (R180). -/
def Dev.satTime (d : Dev) (n : Nat) : Nat :=
  match (d.ctxR n).satFrom with
  | none => 0
  | some s => min ((d.time - s) / 100000) 65535

/-- A context takes the forced zero of MISSACT 0b10 (Table 4.9). -/
def Dev.forceCtx (d : Dev) (n : Nat) : Dev := (d.clearCtx n true).setBit LPE_CSTAT n 5 true

/-- The share context of a module in a move is not due, and its routed output is 0 (R230). -/
def Dev.inMove (d : Dev) (c : Nat) : Bool :=
  (d.shareModules c).any (fun m => decide (d.fld RGP_MODSTAT m 2 0 = 3))

/-- The contexts due in the frame that starts (R165, R178, R230). -/
def Dev.dueList (d : Dev) : List Nat :=
  if !d.engineRuns || decide (d.level = .hold) || decide (d.level = .standby) then []
  else d.enabled.filter (fun n => d.dueIn n d.frame && !d.inMove n)

end Sys2Proof.Machine
end

