-- ==== Sys2Proof/Machine/Share.lean ====
section
/-! DEFINITION. Site power sharing (spec/06_site_power_sharing.md): the allocator of R234, the planner of R238-R240, module
states and rebuilds, the moves of Table 6.2 with the interruptions of Table 6.3, and what a frame's C-frames carry
(R128, R208, R753). -/
namespace Sys2Proof.Machine

/-! ### Modules -/

/-- RGP_MODSTAT.STATE (Table 6.1): 0 Unknown, 1 Parked, 2 Grouped, 3 Moving, 4 Quarantined. -/
def Dev.modState (d : Dev) (m : Nat) : Nat := d.fld RGP_MODSTAT m 2 0
/-- RGP_MODCFG.EN. -/
def Dev.modEn (d : Dev) (m : Nat) : Bool := decide (m < d.variant.modules) && d.bit RGP_MODCFG m 31
/-- The outlet a module is grouped on. -/
def Dev.modOutlet (d : Dev) (m : Nat) : Nat := d.fld RGP_MODSTAT m 12 8
/-- The reach index a module is grouped through. -/
def Dev.modIndex (d : Dev) (m : Nat) : Nat := d.fld RGP_MODSTAT m 5 4
/-- A reach entry: its outlet where it is valid (R224). -/
def Dev.reachAt (d : Dev) (m i : Nat) : Option Nat :=
  if i < 4 ∧ d.bit RGP_REACH m (8 * i + 7) then some (d.fld RGP_REACH m (8 * i + 4) (8 * i)) else none
/-- The first valid reach index that names an outlet. -/
def Dev.reachOf (d : Dev) (m o : Nat) : Option Nat := (List.range 4).find? (fun i => decide (d.reachAt m i = some o))
/-- The modules of the part, ascending. -/
def Dev.modulesL (d : Dev) : List Nat := List.range d.variant.modules
/-- The modules grouped on an outlet. -/
def Dev.groupedOn (d : Dev) (o : Nat) : List Nat :=
  d.modulesL.filter (fun m => decide (d.modState m = 2) && decide (d.modOutlet m = o))

/-- A move slot. -/
def Dev.slot (d : Dev) (k : Nat) : Option MoveRec := kvGet d.share.move k none
/-- Replace a move slot. -/
def Dev.setSlot (d : Dev) (k : Nat) (x : Option MoveRec) : Dev :=
  { d with share := { d.share with move := kvSet d.share.move k x none } }
/-- The moves in flight, with their slots. -/
def Dev.moves (d : Dev) : List (Nat × MoveRec) :=
  (List.range 8).filterMap (fun k => (d.slot k).map (fun x => (k, x)))

/-- The counts of RGP_STAT and RGP_QSUM follow the module states and moves (Table 6.6). -/
def Dev.rgpShow (d : Dev) : Dev :=
  let st := d.modulesL.map (fun m => d.modState m)
  let parked := (st.filter (fun s => decide (s = 1))).length
  let quar := (st.filter (fun s => decide (s = 4))).length
  let q := d.modulesL.foldl (fun a m => if d.modState m = 4 then a + 2 ^ m else a) 0
  let d1 := ((d.setFld RGP_STAT 0 3 0 d.moves.length).setFld RGP_STAT 0 14 8 parked).setFld RGP_STAT 0 22 16 quar
  (d1.wr (RGP_QSUM 0) 0 (w32 q)).wr (RGP_QSUM 1) 0 (w32 (q / 2 ^ 32))

/-- Set a module's state; CONTFAIL and MULTI as given, no outlet unless Grouped. -/
def Dev.setMod (d : Dev) (m st idx o slot : Nat) (contfail multi : Bool) : Dev :=
  (d.wr RGP_MODSTAT m (w32 (st + 16 * idx + 256 * o + 65536 * b2n contfail + 131072 * b2n multi + 2 ^ 24 * slot))).rgpShow

/-- Set a module to a state without an outlet. -/
def Dev.setModPlain (d : Dev) (m st : Nat) : Dev := d.setMod m st 0 0x1F 0 false false

/-- The present instant is a boundary's: the frame it starts has taken nothing from its modules' states yet (R227, R229, R242). -/
def Dev.atBoundary (d : Dev) : Bool :=
  d.loop.started && decide (d.time = d.loop.boundaryAt) && decide (d.loop.vAt < d.loop.boundaryAt) && !d.loop.distributed

/-- The outlet a module is grouped on, plus one; 0 for none. -/
def Dev.groupOf (d : Dev) (m : Nat) : Nat := if d.modState m = 2 then d.modOutlet m + 1 else 0

/-- A module's new state at a boundary is the one its frame starts with: its group, and whether its share context is due (R227, R230). -/
def Dev.reframe (d : Dev) (m : Nat) : Dev :=
  let d1 : Dev := { d with grouped := kvSet d.grouped m (d.groupOf m) 0 }
  { d1 with loop := { d1.loop with due := if d1.engineRuns then d1.dueList else d1.loop.due } }

/-- The binding of share contexts: SPIDX of the context of a Grouped module equals its FOLLOW entry (R229). -/
def Dev.bindShares (d : Dev) : Dev :=
  d.each d.modulesL (fun m e =>
    if e.modState m = 2 ∧ e.modEn m ∧ e.bit RGP_MODCFG m 30 ∧ e.bit RGP_FOLLOW m (8 * e.modIndex m + 7) then
      let c := e.fld RGP_MODCFG m 22 16
      let f := e.fld RGP_FOLLOW m (8 * e.modIndex m + 6) (8 * e.modIndex m)
      (e.setFld LPE_SRC c 7 0 f).setCtxR c { e.ctxR c with srcWas := (e.setFld LPE_SRC c 7 0 f).rd LPE_SRC c }
    else e)

/-- A rebuild from the CONTST of the first good T-frame after its trigger; like every change of grouping it takes effect at a boundary
(R226, R229). -/
def Dev.rebuild (d : Dev) (m : Nat) : Dev :=
  let x := kvGet d.share.modu m {}
  if x.rebuild = 2 ∧ d.modEn m ∧ d.atBoundary then
    let closed := (List.range 4).filter (fun i => x.contst.testBit i)
    let d1 := match closed with
      | [] => d.setModPlain m 1
      | [i] => match d.reachAt m i with
        | some o => d.setMod m 2 i o 0 false false
        | none => d.setMod m 4 0 0x1F 0 false true
      | _ => d.setMod m 4 0 0x1F 0 false true
    let d2 := { d1 with share := { d1.share with modu := kvSet d1.share.modu m { x with rebuild := 0, afterHold := false } {} } }
    ((d2.bindShares).reframe m).ev 0x3E 3
  else d

/-! ### The allocator (R232-R236) -/

/-- An outlet has a session: its vehicle request is not zero (R238). -/
def Dev.charging (d : Dev) (o : Nat) : Bool := decide ((bfOf (d.rd ARB_VREQ o)).m ≠ 0)

/-- The outlets of the part. -/
def Dev.outletsL (d : Dev) : List Nat := List.range d.variant.outlets

/-- Keep the inputs that the next allocation cycle takes from the frame that ends (R232): voltages, claims, headroom. -/
def Dev.keepShareInputs (d : Dev) : Dev :=
  let v := d.outletsL.map (fun o => (d.outletV o).map Acc.frac)
  let c := d.outletsL.map (fun o =>
    let ks := (List.range 8).filter (fun k => d.bit ARB_PART o k && !([3, 4, 6].contains (d.slotSrc o k)))
    match lowest (ks.map (fun k => (k, bfOf (d.rd (ARB_CLAIM k) o)))) with
    | none => 0
    | some x => x.floorMul 1)
  let s := if d.wvalid 16 then some (d.rd ARB_SITEWIN 0) else none
  { d with share := { d.share with prevV := v, prevC := c, prevSite := s } }

/-- What raising every outlet of a class to a common level L takes (R234). -/
def levelNeed (rows : List (Nat × Nat)) (l : Nat) : Nat :=
  rows.foldl (fun s r => s + (min r.2 (max r.1 l) - r.1)) 0

/-- The largest level whose raise takes no more than h, bit by bit from the top. -/
def levelOf (rows : List (Nat × Nat)) (h : Nat) : Nat :=
  (List.range 32).foldl (fun l k => if levelNeed rows (l + 2 ^ (31 - k)) ≤ h then l + 2 ^ (31 - k) else l) 0

/-- One class of one pass: a[o] and what is left of h. -/
def levelStep (cls : List Nat) (cap : List Nat) (k : Nat) (ah : List Nat × Nat) : List Nat × Nat :=
  let idx := (List.range cls.length).filter (fun o => decide (cls.getD o 0 = k))
  let rows := idx.map (fun o => (ah.1.getD o 0, cap.getD o 0))
  let l := levelOf rows ah.2
  ((List.range cls.length).map (fun o =>
      let a := ah.1.getD o 0
      if idx.contains o then min (cap.getD o 0) (max a l) else a),
    ah.2 - levelNeed rows l)

/-- The guarantee pass and the demand pass over classes 0 to 3. -/
def allocate (cls g dm : List Nat) (h : Nat) : List Nat × Nat :=
  let start := (cls.map (fun _ => 0), h)
  let p1 := (List.range 4).foldl (fun s k => levelStep cls g k s) start
  (List.range 4).foldl (fun s k => levelStep cls dm k s) p1

/-- K of R232: 20,000 / PERIOD to the nearest integer. -/
def Dev.shareK (d : Dev) : Nat := (max 1 (rneDiv 20000 (d.fld LPE_FRAMECFG 0 11 0))).toNat

/-- The modules an outlet could reach at all: the sum of their IAVAIL in A (R234). -/
def Dev.reachAvail (d : Dev) (o : Nat) : Nat :=
  ((d.modulesL.filter (fun m => (d.reachOf m o).isSome && decide (d.modState m ≠ 4) && decide (d.linkState (m / 8) = 2))).foldl
    (fun s m => s + d.iavail m) 0) / 10

/-- The sum of IAVAIL in 0.1 A over the modules Grouped on an outlet and not leaving it, and those in moves towards it. -/
def Dev.haveOf (d : Dev) (o : Nat) : Nat :=
  let leaving (m : Nat) : Bool := d.share.pendMoves.any (fun p => decide (p.1 = m))
  let here := (d.groupedOn o).filter (fun m => !leaving m)
  let coming := (d.moves.filter (fun p => decide (1 ≤ p.2.phase ∧ p.2.phase ≤ 4) && !p.2.toPark &&
    decide (p.2.dst.map Prod.snd = some o))).map (fun p => p.2.modu)
  let queued := (d.share.pendMoves.filter (fun p => decide (p.2.1.map Prod.snd = some o))).map (fun p => p.1)
  (here ++ coming ++ queued).foldl (fun s m => s + d.iavail m) 0

/-- need[o] in 1/1,000 A: claim[o] * (100 + HEADRM) / 100 (R238). -/
def Dev.need1000 (d : Dev) (o : Nat) : Nat := d.share.claimA.getD o 0 * (100 + d.fld RGP_CFG 0 31 24) * 10

/-- have[o] covers need[o]. -/
def Dev.enough (d : Dev) (o less : Nat) : Bool := decide (d.need1000 o ≤ (d.haveOf o - less) * 100) && decide (less ≤ d.haveOf o)

/-- The rebuild of Hold exit is complete: no module that could answer waits for it (R250). -/
def Dev.rebuilt (d : Dev) : Bool :=
  d.modulesL.all (fun m => !(d.modEn m && decide (d.linkState (m / 8) = 2) && (kvGet d.share.modu m {}).afterHold))

/-- The largest number of moves in flight (Table 6.6, R240). -/
def Dev.maxMov (d : Dev) : Nat :=
  let n := d.fld RGP_CTL 0 11 8
  if 1 ≤ n ∧ n ≤ 8 then n else 8

/-- A module is in a move, in flight or queued. -/
def Dev.moving (d : Dev) (m : Nat) : Bool :=
  d.moves.any (fun p => decide (p.2.modu = m)) || d.share.pendMoves.any (fun q => decide (q.1 = m))

/-- Another module than m stays Grouped on outlet p, outside every move (R240). -/
def Dev.othersStay (d : Dev) (m p : Nat) : Bool := (d.groupedOn p).any (fun x => decide (x ≠ m) && !d.moving x)

/-- A module may leave the outlet it is grouped on (R239, R240). -/
def Dev.mayLeave (d : Dev) (m : Nat) : Bool :=
  let p := d.modOutlet m
  !d.charging p || (d.enough p (d.iavail m) && d.othersStay m p)

/-- A candidate for outlet o (R239). -/
def Dev.candidate (d : Dev) (m o : Nat) : Bool :=
  d.modEn m && (d.reachOf m o).isSome && decide (d.linkState (m / 8) = 2) && !d.moving m &&
    (decide (d.modState m = 1) || (decide (d.modState m = 2) && decide (d.modOutlet m ≠ o) && d.mayLeave m))

/-- The planner's order of preference (R239). -/
def Dev.preference (d : Dev) (m : Nat) : Nat :=
  let p := d.modOutlet m
  let s := if d.modState m = 1 then 8 else (if d.charging p then 0 else 4) + d.fld SHR_OCFG p 1 0
  s * 64 + m

/-- The candidate the planner takes. -/
def Dev.choose (d : Dev) (o : Nat) : Option Nat :=
  (d.modulesL.filter (fun m => d.candidate m o)).foldl (fun b m => match b with
    | none => some m
    | some x => if d.preference x < d.preference m then some m else some x) none

/-- Moves in flight and queued. -/
def Dev.inFlight (d : Dev) : Nat := d.moves.length + d.share.pendMoves.length

/-- Plan at most n moves towards an outlet. -/
def Dev.planFor (o : Nat) : Nat → Dev → Dev
  | 0, d => d
  | n + 1, d =>
    if d.enough o 0 || decide (d.maxMov ≤ d.inFlight) then d
    else match d.choose o with
      | none => d
      | some m =>
        let q := (m, (d.reachOf m o).map (fun i => (i, o)), true)
        Dev.planFor o n { d with share := { d.share with pendMoves := d.share.pendMoves ++ [q] } }

/-- A move in DOWN that a new allocation no longer needs reverts at the next boundary where its outlet falls short (Table 6.3, last
row). -/
def Dev.dropMoves (d : Dev) : Dev :=
  d.each d.moves (fun p e =>
    let x := p.2
    match x.src, x.dst with
    | some s, some t =>
      if x.phase = 1 ∧ x.planned ∧ e.enough t.2 (e.iavail x.modu) ∧ ¬ e.enough s.2 0 then
        e.setSlot p.1 (some { x with dropped := true })
      else e
    | _, _ => e)

/-- need, short and the plan (R238). -/
def Dev.plan (d : Dev) : Dev :=
  let run := d.bit RGP_CTL 0 0 && d.bit RGP_CTL 0 1 && decide (d.level = .normal)
  let d1 := d.each d.outletsL (fun o e =>
    let n := e.need1000 o
    let e1 := e.wr SHR_NEED o (bfRat n 1000).word
    let short := if run then (if e.enough o 0 then 0 else min (e.fld SHR_OSTAT o 31 16 + 1) 65535) else e.fld SHR_OSTAT o 31 16
    (e1.setFld SHR_OSTAT o 31 16 short).setBit SHR_OSTAT o 1 (decide (0 < short)))
  if run then
    let d2 := d1.dropMoves
    let order := (List.range 4).flatMap (fun k => d2.outletsL.filter (fun o => decide (d2.fld SHR_OCFG o 1 0 = k)))
    if d2.rebuilt then
      d2.each order (fun o e => if e.fld SHR_OSTAT o 31 16 < e.fld RGP_DWELL 0 15 0 then e else Dev.planFor o 8 e)
    else d2
  else d1

/-- An allocation cycle at boundary b, one for each (R232-R235, R238). -/
def Dev.allocationCycle (d : Dev) : Dev :=
  let b := d.frame
  let k := d.shareK
  if !(d.engineRuns && d.bit SHR_CTL 0 0 && decide (d.level = .normal) && decide (b % k = 0) && decide (d.share.cycleAt ≠ some b)) then d
  else
    let s := d.share
    let h := match s.prevSite with | none => 0 | some w => (bfOf w).floorMul 10
    let vi := d.outletsL.map (fun o => (s.prevV.getD o none).map (fun v => v.1 / (v.2 : Int)))
    let dm := d.outletsL.map (fun o =>
      match vi.getD o none with
      | none => 0
      | some v =>
        if d.bit SHR_OCFG o 31 && d.arbEn o then (v * (min (s.prevC.getD o 0) (d.reachAvail o) : Nat) / 100).toNat else 0)
    let g := d.outletsL.map (fun o => min ((bfOf (d.rd SHR_GUAR o)).floorMul 10) (dm.getD o 0))
    let cls := d.outletsL.map (fun o => d.fld SHR_OCFG o 1 0)
    let (a, left) := allocate cls g dm h
    let cl := d.outletsL.map (fun o => match vi.getD o none with
      | none => 0
      | some v =>
        let f := (bfOf (d.rd ARB_VFLOOR o)).term.frac
        let m : Int × Nat := if v * (f.2 : Int) < f.1 then f else (v, 1)
        if 0 < m.1 then (a.getD o 0) * 100 * m.2 / m.1.toNat else 0)
    let beyond := decide (h < g.foldl (· + ·) 0)
    let d1 := d.each d.outletsL (fun o e => (e.wr SHR_DEMAND o (w32 (dm.getD o 0))).wr SHR_BUDGET o (w32 (a.getD o 0)))
    let d2 := ((d1.wr SHR_HEAD 0 (w32 h)).wr SHR_UNALLOC 0 (w32 left)).wr SHR_CYCFRM 0 (w32 b)
    let d3 := ((d2.setFld SHR_STAT 0 5 0 k).setBit SHR_STAT 0 9 s.prevSite.isNone).setBit SHR_STAT 0 10 beyond
    let d4 := (d3.when s.prevSite.isNone (fun e => e.ev 0x3C 1)).when beyond (fun e => e.ev 0x3C 2)
    let pend := (List.range cl.length).map (fun o => ((bfRat (cl.getD o 0 : Nat) 1).word, a.getD o 0))
    ({ d4 with share := { d4.share with pendClaims := some (pend, b), claimA := cl, cycleAt := some b } }).plan

/-- The share claims at a boundary (R232, R236, R251): the claims of the last cycle take effect, or the static table is in
force. -/
def Dev.shareBoundary (d : Dev) : Dev :=
  let en := d.bit SHR_CTL 0 0
  let force := decide (d.level = .limp) || d.share.limped || !en
  let d1 := match d.share.pendClaims with
    | none => d
    | some (l, b) =>
      let e := { d with share := { d.share with pendClaims := none, claims := l.map Prod.fst, cycled := true } }
      (e.each (List.range l.length) (fun o z => z.wr (SHR_BUD o) 0 (w32 ((l.getD o (0, 0)).2)))).wr SHR_BUDFRM 0 (w32 b)
  let was := !d.bit SHR_STAT 0 8 && d.share.cycled
  let d2 := { d1 with share := { d1.share with cycled := d1.share.cycled && !force, limped := false } }
  let st := !d2.share.cycled
  let d3 := (d2.setBit SHR_STAT 0 8 st).setFld SHR_STAT 0 5 0 d2.shareK
  let d4 := d3.each d3.outletsL (fun o e =>
    ((e.wr SHR_CLAIM o (if st then e.rd SHR_STATIC o else e.share.claims.getD o 0)).setBit SHR_OSTAT o 2 st).setBit SHR_OSTAT o 0
      (e.charging o))
  if st && was then d4.ev 0x3C 0 else d4

/-! ### Moves (R242-R250) -/

/-- The safety island holds an outlet in its safe state, or does not run. -/
def Dev.tripped (d : Dev) (o : Nat) : Bool := decide (d.fld SAF_OSTAT o 1 0 ≠ 0) || !d.up .safety

/-- Show a move slot (Table 6.6, page 0x3F). -/
def Dev.showSlot (d : Dev) (k : Nat) : Dev :=
  match d.slot k with
  | none => d.wr RGP_MVSTAT k 0x1F1F0000
  | some x =>
    d.wr RGP_MVSTAT k (w32 (x.phase + 256 * x.modu + 65536 * ((x.src.map Prod.snd).getD 0x1F) +
      2 ^ 24 * ((x.dst.map Prod.snd).getD 0x1F)))

/-- Milliseconds between two stamps. -/
def msSince (now since : Nat) : Nat := (now - since) / 1000000

/-- RGP_MVTIME of a slot: ms in the phase and ms since the start. -/
def Dev.mvTime (d : Dev) (k : Nat) : Word :=
  match d.slot k with
  | none => 0
  | some x => w32 (65536 * min (msSince d.time x.phaseAt) 65535 + min (msSince d.time x.startAt) 65535)

/-- End a move with a result of Table 6.4 (R248). -/
def Dev.endMove (d : Dev) (k res : Nat) (late : Bool) : Dev :=
  match d.slot k with
  | none => d
  | some x =>
    let d1 := (d.setSlot k none).wr RGP_MVLAST k
      (w32 (65536 * min (msSince d.time x.startAt) 65535 + 256 * x.modu + 16 * b2n late + res))
    let ok := decide (res = 1 ∨ res = 2)
    let d2 := if ok then (d1.incFld RGP_DONE 0 15 0).ev 0x3E 0 else (d1.incFld RGP_DONE 0 31 16).ev 0x3E 1
    ((d2.when (decide (res = 5)) (fun e => e.ev 0x3E 2)).showSlot k).rgpShow

/-- Change a move's phase at a boundary. -/
def Dev.toPhase (d : Dev) (k : Nat) (x : MoveRec) (p : Nat) : Dev :=
  (d.setSlot k (some { x with phase := p, phaseAt := d.time, okRun := 0, k := 0, reached := false,
                              matchAt := if p = 3 then d.time else x.matchAt })).showSlot k

/-- Enter UP or REVERT: the module is Grouped again, its share context is bound and starts from zero state (R229, R230, Table 6.2). -/
def Dev.regroup (d : Dev) (k : Nat) (x : MoveRec) (p : Nat) : Dev :=
  match (if p = 5 then x.dst else x.src) with
  | none => d
  | some (i, o) =>
    let d1 := (d.setMod x.modu 2 i o k false false).toPhase k x p
    (if d1.bit RGP_MODCFG x.modu 30 then d1.startCtx (d1.fld RGP_MODCFG x.modu 22 16) else d1).bindShares

/-- Go to PARKING, whose OPEN command acts on reach index i. -/
def Dev.toParking (d : Dev) (k : Nat) (x : MoveRec) (res : Nat) : Dev :=
  let i := if x.phase = 2 then (x.src.map Prod.fst).getD 0 else (x.dst.map Prod.fst).getD ((x.src.map Prod.fst).getD 0)
  d.toPhase k { x with parkRes := res, openAt := i } 7

/-- The contactor at reach index i of a module may be closed onto outlet o: the entry is valid and names it (R224). -/
def Dev.mayClose (d : Dev) (m : Nat) (t : Option (Nat × Nat)) : Bool :=
  match t with | some (i, o) => decide (d.reachAt m i = some o) && !d.tripped o | none => true

/-- Start a move at a boundary in the lowest free slot, where nothing now forbids it (R224, R240, R242, Table 6.3). -/
def Dev.startMove (d : Dev) (q : Nat × Option (Nat × Nat) × Bool) : Dev :=
  let m := q.1
  let free := (List.range 8).find? (fun k => (d.slot k).isNone)
  match free with
  | none => d
  | some k =>
    let go := d.mayClose m q.2.1 && d.modEn m && d.bit RGP_CTL 0 0 && decide (d.level = .normal) && decide (d.linkState (m / 8) = 2) &&
      !d.moves.any (fun p => decide (p.2.modu = m)) && decide (d.moves.length < d.maxMov)
    let leaves := !d.charging (d.modOutlet m) || d.othersStay m (d.modOutlet m)
    if go && decide (d.modState m = 2) && leaves then
      let src := (d.modIndex m, d.modOutlet m)
      let x : MoveRec := { modu := m, src := some src, dst := q.2.1, phase := 1, openAt := src.1, startAt := d.time,
                           phaseAt := d.time, planned := q.2.2 }
      (((d.setMod m 3 0 0x1F k false false).setSlot k (some x)).wr RGP_MVFRM k (d.rd LPE_FRAMELO 0)).showSlot k |>.rgpShow |>.acqNote 0x2A
    else if go && decide (d.modState m = 1) && q.2.1.isSome then
      let x : MoveRec := { modu := m, src := none, dst := q.2.1, phase := 3, startAt := d.time, phaseAt := d.time,
                           matchAt := d.time, planned := q.2.2 }
      (((d.setMod m 3 0 0x1F k false false).setSlot k (some x)).wr RGP_MVFRM k (d.rd LPE_FRAMELO 0)).showSlot k |>.rgpShow |>.acqNote 0x2A
    else d

/-- What a boundary makes of a move under Table 6.3, row by row from the top. -/
def Dev.moveEvent (d : Dev) (k : Nat) : Dev :=
  match d.slot k with
  | none => d
  | some x =>
    let tripT := match x.dst with | some (_, t) => d.tripped t | none => false
    let tripS := match x.src with | some (_, s) => d.tripped s | none => false
    let limp := decide (d.level = .limp) || !d.bit RGP_CTL 0 0
    if d.linkState (x.modu / 8) ≠ 2 then (d.setModPlain x.modu 0).endMove k 6 false
    else match x.phase with
      | 1 =>
        if tripT then d.regroup k x 6
        else if tripS then (if 1 ≤ x.okRun then d.toPhase k { x with toPark := true, parkRes := 3 } 2 else d)
        else if limp || x.dropped then d.regroup k x 6 else d
      | 2 => if tripT then d.toParking k x 3 else d
      | 3 => if tripT then d.toParking k x 3 else d
      | 4 => if tripT then d.toParking k x 3 else d
      | 5 => if tripT then d.endMove k 1 false else d
      | 6 => if tripT then d.endMove k 2 false else d
      | _ => d

/-- VERIFYN, 0 acting as 1. -/
def Dev.verifyN (d : Dev) : Nat := max 1 (d.fld RGP_CFG 0 23 16)

/-- A move's telemetry condition as one good T-frame shows it (Table 6.2). -/
def Dev.moveCond (d : Dev) (x : MoveRec) : Bool :=
  let m := x.modu
  match x.phase with
  | 1 => decide ((d.imeas m).natAbs ≤ d.fld RGP_CFG 0 7 0 * 10)
  | 2 | 7 => !(d.contst m).testBit x.openAt && !d.contdisc m
  | 3 => match x.dst with
    | none => false
    | some (_, t) => match d.outletV t with
      | none => false
      | some v =>
        let f := fracAdd ((d.vmeas m : Int), 20) (-v.frac.1, v.frac.2)
        decide (f.1.natAbs ≤ d.fld RGP_CFG 0 15 8 * f.2)
  | 4 => match x.dst with
    | none => false
    | some (i, _) => decide (d.contst m = 2 ^ i)
  | _ => false

/-- A good T-frame has arrived on a link: count the conditions of its modules' moves (Table 6.2). -/
def Dev.countConds (d : Dev) (l : Nat) : Dev :=
  d.each d.moves (fun p e =>
    if p.2.modu / 8 = l then
      let x := p.2
      e.setSlot p.1 (some { x with okRun := if e.moveCond x then min (x.okRun + 1) 255 else 0 })
    else e)

/-- A T-frame on a link, and what a good one counts towards the conditions of moves (R127, Table 6.2). -/
def Dev.tFrameIn (d : Dev) (l : Nat) (rd : Bool) (syms : List Nat) : Dev :=
  let d1 := d.tFrame l rd syms
  if l < d.variant.cabinets ∧ d.up .control ∧ ((frameOf rd syms).filter (frameGood l 168)).isSome then d1.countConds l else d1

/-- The next phase of a move whose condition is met, or its end (Table 6.2). -/
def Dev.phaseAdvance (d : Dev) (k : Nat) : Dev :=
  match d.slot k with
  | none => d
  | some x => match x.phase with
    | 1 => if 2 ≤ x.okRun then d.toPhase k x 2 else d
    | 2 =>
      if d.verifyN ≤ x.okRun then
        if x.toPark then d.toPhase k { x with openAt := (x.src.map Prod.fst).getD 0 } 7
        else if x.dst.isNone then (d.setModPlain x.modu 1).endMove k 1 false
        else d.toPhase k x 3
      else d
    | 3 =>
      if 2 ≤ x.okRun ∧ d.mayClose x.modu x.dst ∧ d.contst x.modu = 0 then
        (d.setSlot k (some { x with phase := 4, phaseAt := d.time, okRun := 0 })).showSlot k
      else d
    | 4 => if d.verifyN ≤ x.okRun then d.regroup k x 5 else d
    | 5 => if x.reached then d.endMove k 1 false else d
    | 6 => if x.reached then d.endMove k 2 false else d
    | _ => if d.verifyN ≤ x.okRun then (d.setModPlain x.modu 1).endMove k x.parkRes false else d

/-- Every transition of a move takes effect at a boundary (R242): f acts on slot k at that instant, and the frame starts with the state
it leaves the module in. -/
def Dev.moveStep (d : Dev) (k : Nat) (f : Dev → Nat → Dev) : Dev :=
  match d.slot k with
  | none => d
  | some x => if d.atBoundary then (f d k).reframe x.modu else d

/-- MOVE_PHASE_ADVANCE: when a phase's condition is met the move enters its next phase, or ends, at the boundary (R242). -/
def Dev.movePhaseAdvance (d : Dev) (k : Nat) : Dev := d.moveStep k Dev.phaseAdvance

/-- What exceeding its RGP_TMO limit makes of a move (R245, Table 6.3); in DOWN a trip of the outlet it leaves prevails. -/
def Dev.phaseTimeout (d : Dev) (k : Nat) : Dev :=
  let lim (hi lo : Nat) : Nat := d.fld RGP_TMO 0 hi lo
  let past (since n : Nat) : Bool := decide (since + n * 1000000 ≤ d.time)
  match d.slot k with
  | none => d
  | some x => match x.phase with
    | 1 =>
      let tripS := match x.src with | some (_, s) => d.tripped s | none => false
      if past x.phaseAt (lim 7 0) && !tripS then d.regroup k x 6 else d
    | 2 => if past x.phaseAt (lim 15 8) then (d.setMod x.modu 4 0 0x1F 0 true false).endMove k 5 false else d
    | 3 | 4 => if past x.matchAt (lim 23 16) then d.toParking k x 4 else d
    | 5 => if past x.phaseAt (lim 31 24) then d.endMove k 1 true else d
    | 6 => if past x.phaseAt (lim 31 24) then d.endMove k 2 true else d
    | _ => if past x.phaseAt (lim 15 8) then (d.setMod x.modu 4 0 0x1F 0 true false).endMove k 5 false else d

/-- MOVE_PHASE_TIMEOUT: a phase is looked at for its limit at a boundary (R242, R245). -/
def Dev.movePhaseTimeout (d : Dev) (k : Nat) : Dev := d.moveStep k Dev.phaseTimeout

/-- Hold ends every move Abandoned; a module that was Moving is Unknown until the rebuild at Hold exit (R250, Table 6.3). -/
def Dev.abandonMoves (d : Dev) : Dev :=
  let d1 := { d with share := { d.share with pendMoves := [] } }
  d1.each d1.moves (fun p e => (if e.modState p.2.modu = 3 then e.setModPlain p.2.modu 0 else e).endMove p.1 7 false)

/-- A module whose link leaves Up is Unknown (Table 6.1). -/
def Dev.linkLost (d : Dev) (l : Nat) : Dev :=
  d.each (linkModules l) (fun m e => if e.modEn m && decide (e.modState m ≠ 3) then e.setModPlain m 0 else e)

/-- Every module goes through a rebuild, as at Hold exit (R226, R250). -/
def Dev.rebuildAll (d : Dev) : Dev :=
  d.each d.modulesL (fun m e =>
    if e.modEn m then { e with share := { e.share with modu := kvMod e.share.modu m {} (fun x => { x with rebuild := 1, afterHold := true }) } }
    else e)

/-- EN of a module at a boundary: from 0 it is Unknown until its rebuild; to 0 it is Parked (R225, R226). -/
def Dev.moduleBoundary (d : Dev) (m : Nat) : Dev :=
  let x := kvGet d.share.modu m {}
  let en := d.modEn m
  let set (e : Dev) (y : ModRec) : Dev := { e with share := { e.share with modu := kvSet e.share.modu m y {} } }
  if en && !x.enWas then set (d.setModPlain m 0) { x with enWas := true, rebuild := 1 }
  else if !en && x.enWas then set (d.setModPlain m 1) { x with enWas := false, rebuild := 0 }
  else d

/-- The regroup sequencer at a boundary, after the steps of R181; a device whose loop engine does not run, such as a standby device,
starts and changes no move (R249). -/
def Dev.shareMoves (d : Dev) : Dev :=
  let d1 := d.each d.modulesL (fun m e => e.moduleBoundary m)
  if !d1.engineRuns then d1
  else
    let d2 := d1.each (List.range 8) (fun k e => e.moveEvent k)
    let q := d2.share.pendMoves
    let d3 := { d2 with share := { d2.share with pendMoves := [] } }
    (d3.each q (fun p e => e.startMove p)).bindShares

/-- Refuse a firmware request (R241). -/
def Dev.moveRefused (d : Dev) : Dev := d.setBit RGP_STAT 0 24 true

/-- Queue a firmware move for the next boundary. -/
def Dev.queueMove (d : Dev) (m : Nat) (t : Option (Nat × Nat)) : Dev :=
  { d with share := { d.share with pendMoves := d.share.pendMoves ++ [(m, t, false)] } }

/-- RGP_MODCTL.MOVE with TGT, checked against R239 and R240 (R241). -/
def Dev.moveRequest (d : Dev) (i : Initiator) (m tgt : Nat) : Dev :=
  if d.bit RGP_CTL 0 1 then d.err 0x3E 7 i 0x410
  else
    let ok : Bool := match d.reachAt m tgt with
      | none => false
      | some o => d.candidate m o && decide (d.inFlight < d.maxMov) && d.rebuilt && d.bit RGP_CTL 0 0 && decide (d.level = .normal)
    if ok then d.queueMove m ((d.reachAt m tgt).map (fun o => (tgt, o))) else d.moveRefused

/-- RGP_MODCTL.PARK, checked against R239 and R240 (R241). -/
def Dev.parkRequest (d : Dev) (i : Initiator) (m : Nat) : Dev :=
  if d.bit RGP_CTL 0 1 then d.err 0x3E 7 i 0x410
  else
    let ok := d.modEn m && decide (d.modState m = 2) && decide (d.linkState (m / 8) = 2) && d.mayLeave m && !d.moving m &&
      decide (d.inFlight < d.maxMov) && d.rebuilt && d.bit RGP_CTL 0 0 && decide (d.level = .normal)
    if ok then d.queueMove m none else d.moveRefused

/-- RGP_MODCTL.RELEASE on a Quarantined module triggers a rebuild (R225). -/
def Dev.release (d : Dev) (m : Nat) : Dev := if d.modState m = 4 then d.triggerRebuild m else d

/-- The bits of RGP_MODCTL (Table 6.6). -/
def Dev.modctl (d : Dev) (i : Initiator) (m : Nat) (v : Word) : Dev :=
  ((d.when (bitOf v 0) (fun e => e.release m)).when (bitOf v 4) (fun e => e.moveRequest i m (bits v 9 8))).when (bitOf v 12)
    (fun e => e.parkRequest i m)

/-! ### C-frames (R128, R131, R208, R209, R753) -/

/-- The output a route sends: 0 from a disabled context and from the share context of a module in a move (R209, R230). -/
def Dev.routed (d : Dev) (c k : Nat) : Int :=
  if d.ctxEn c && !d.inMove c then
    let x := bfOf (d.rd LPE_OUT c)
    rneDiv (x.num * (k : Int)) x.den
  else 0

/-- The context whose route has a destination and index. -/
def Dev.routeTo (d : Dev) (dst idx : Nat) : Option Nat :=
  (List.range d.variant.contexts).find? (fun c => decide (d.fld ARB_ROUTE c 3 0 = dst) && decide (d.fld ARB_ROUTE c 13 8 = idx))

/-- The routed ISET of a module in 0.1 A. -/
def Dev.routedIset (d : Dev) (m : Nat) : Int :=
  match d.routeTo 1 m with
  | none => 0
  | some c => clampI (d.routed c 10) (-32768) 32767

/-- The routed VLIM of a module in 0.05 V (Table 5.4); a group's route takes the grouping at the start of the frame (R227). -/
def Dev.routedVlim (d : Dev) (m : Nat) : Nat :=
  let out (c : Nat) : Nat := (clampI (d.routed c 20) 0 65535).toNat
  match d.routeTo 2 m with
  | some c => out c
  | none =>
    match kvGet d.grouped m 0 with
    | 0 => 0
    | o + 1 => match d.routeTo 3 o with
      | some c => out c
      | none => 0

/-- The ceiling of UP and REVERT in 0.1 A (R243). -/
def Dev.ceiling (d : Dev) (m k : Nat) : Nat := max 1 (d.fld RGP_MODCFG m 7 0) * d.periodNs * (k + 1) / 10000

/-- v[t] as a VLIM value; where the outlet's sample is invalid the spec states no value, and it is free. -/
def Dev.matchVlim (d : Dev) (t : Nat) (fv : Word) : Nat :=
  match d.outletV t with
  | none => fv.toNat % 65536
  | some v => (clampI (rneDiv (v.frac.1 * 20) v.frac.2) 0 65535).toNat

/-- One module block (Table 3.8): SLOT, CMD, ISET, VLIM, CONT, RRATE. -/
def moduleBlock (slot cmd : Nat) (iset : Int) (vlim cont rrate : Nat) : List Byte :=
  [w8 (128 + slot), w8 cmd] ++ leBytes 2 (twos iset 16) ++ leBytes 2 vlim ++ [w8 cont, w8 rrate]

/-- The block of a module by the first row of Table 3.15 that applies (R753). RRATE is DNRATE in every phase, also where Table 6.2 names
none (OPEN, MATCH, CLOSE, PARKING), and a slot disabled in MODEN carries RRATE 0 and CONT 0 (log entry 210). CLOSE sends ACT 0b10
only while no other contactor of the module shows closed and the outlet may be closed onto (R224, R246). -/
def Dev.blockOf (d : Dev) (m : Nat) (fv : Word) : List Byte :=
  let l := m / 8
  let s := m % 8
  let dn := d.fld RGP_MODCFG m 15 8
  let st := if d.modEn m then d.modState m else 1
  if !d.bit CAB_LCFG l (8 + s) then [w8 s, 0, 0, 0, 0, 0, 0, 0]
  else if d.level = .hold then moduleBlock s 2 0 0 0 (max 1 (d.fld PWR_LIMPCFG 0 23 16))
  else if d.linkState l = 3 then moduleBlock s 2 0 0 0 dn
  else if d.linkState l = 1 ∨ d.level = .standby then moduleBlock s 0 0 0 0 dn
  else if st = 3 then
    match (d.moves.find? (fun p => decide (p.2.modu = m))).map (fun p => p.2) with
    | none => moduleBlock s 0 0 0 0 dn
    | some x =>
      let t := (x.dst.map Prod.snd).getD 0
      match x.phase with
      | 1 => moduleBlock s 2 0 0 0 dn
      | 3 => moduleBlock s 1 0 (d.matchVlim t fv) 0 dn
      | 4 =>
        let i := (x.dst.map Prod.fst).getD 0
        let go := d.mayClose m x.dst && decide (d.contst m ||| 2 ^ i = 2 ^ i)
        moduleBlock s 1 0 (d.matchVlim t fv) (if go then 8 + i else 0) dn
      | _ => moduleBlock s 0 0 0 (4 + x.openAt) dn
  else if st = 2 then
    let iset := d.routedIset m
    match (d.moves.find? (fun p => decide (p.2.modu = m))).map (fun p => p.2) with
    | none => moduleBlock s 1 iset (d.routedVlim m) 0 dn
    | some x =>
      let c : Int := d.ceiling m x.k
      moduleBlock s 1 (clampI iset (-c) c) (d.routedVlim m) 0 dn
  else moduleBlock s 0 0 0 0 dn

/-- The bytes of a link's C-frame (Table 3.7). -/
def Dev.cFrameBytes (d : Dev) (l : Nat) (fv : Word) : List Byte :=
  let tok := d.rd CAB_TOKEN 0
  let stg := (d.link l).stg
  let body := [0x5A, w8 (l + 16)] ++ leBytes 4 (d.rd LPE_FRAMELO 0).toNat ++ leBytes 8 d.loop.boundaryAt ++
    [w8 (bits tok 15 8), w8 (bits tok 1 0)] ++ leBytes 2 (bits tok 31 16) ++ leBytes 2 (d.rd CAB_FPER 0).toNat ++
    [w8 (min stg.length 56), 0, 0, 0] ++ (linkModules l).flatMap (fun m => d.blockOf m fv) ++ slice stg 0 56
  body ++ leBytes 4 (crc32 body)

/-- The C-frames of a frame leave on every link that is not Off (R128, R131, Table 3.12). The idle commas before one, whose number the
spec leaves to the instant it leaves at, turn the running disparity it starts with, which is free. -/
def Dev.sendCFrames (d : Dev) : Dev :=
  let (fv, d0) := d.free 208
  let d1 := d0.each (List.range d.variant.cabinets) (fun l e =>
    if e.linkState l = 0 then e
    else
      let bs := e.cFrameBytes l fv
      (e.showFrame CAB_CFRAME l 37 bs).setLink l
        { e.link l with stg := [], line := (encFrame (bitOf fv (24 + l)) .startFrame bs).1 })
  d1.each d1.moves (fun p e =>
    let x := p.2
    if x.phase = 5 ∨ x.phase = 6 then
      let hit := decide ((e.routedIset x.modu).natAbs ≤ e.ceiling x.modu x.k)
      e.setSlot p.1 (some { x with k := x.k + 1, reached := x.reached || hit })
    else e)

end Sys2Proof.Machine
end

