-- ==== Sys2Proof/Machine/Trig.lean ====
section
/-! DEFINITION. The sines, magnitudes and arguments that loop tuning uses (R214, R216), on integers with 96 fraction bits; a result
is rounded once, to the nearest BF24 value or phase step (log entry 22). -/
namespace Sys2Proof.Machine

/-- One as a number with 96 fraction bits. -/
def fix1 : Int := (2 ^ 96 : Nat)

/-- A quarter turn in radians with 96 fraction bits: pi / 2. -/
def fixQuarter : Int := 124451306656115542615260972311

/-- The product of two such numbers. -/
def fixMul (a b : Int) : Int := a * b / fix1

/-- Terms of the power series of sine (k odd) or cosine (k even) after the one of order k, added up: each is the one before times
-x^2 / ((k + 1)(k + 2)). -/
def trigSeries (x2 : Int) : Nat → Nat → Int → Int
  | 0, _, t => t
  | n + 1, k, t => t + trigSeries x2 n (k + 2) (-(fixMul t x2) / (((k + 1) * (k + 2) : Nat) : Int))

/-- The sine of r quarter turns, 0 ≤ r < 1 with 96 fraction bits. -/
def fixSin (r : Int) : Int := let x := fixMul r fixQuarter; trigSeries (fixMul x x) 18 1 x

/-- The cosine of r quarter turns. -/
def fixCos (r : Int) : Int := let x := fixMul r fixQuarter; trigSeries (fixMul x x) 18 0 fix1

/-- Cosine and sine of k / n of a turn. -/
def fixCosSin (k n : Nat) : Int × Int :=
  let q := 4 * (k % max 1 n) / max 1 n
  let r : Int := ((4 * (k % max 1 n) - q * max 1 n) * 2 ^ 96 / max 1 n : Nat)
  match q with
  | 0 => (fixCos r, fixSin r)
  | 1 => (-fixSin r, fixCos r)
  | 2 => (-fixCos r, -fixSin r)
  | _ => (fixSin r, -fixCos r)

/-- cos(2 pi k / n) as a BF24 value. -/
def cosBf (k n : Nat) : BF := bfRat (fixCosSin k n).1 (2 ^ 96)

/-- sin(2 pi k / n) as a BF24 value. -/
def sinBf (k n : Nat) : BF := bfRat (fixCosSin k n).2 (2 ^ 96)

/-- The square of a bin's magnitude as a fraction. -/
def binSquare (re im : BF) : Int × Nat :=
  fracAdd (re.num * re.num, re.den * re.den) (im.num * im.num, im.den * im.den)

/-- The magnitude of G = RET / IN (R216): the root of the quotient of the squares, to 96 binary places. -/
def gainOf (inRe inIm retRe retIm : BF) : BF :=
  let a := binSquare inRe inIm
  let b := binSquare retRe retIm
  bfRat (Nat.sqrt (b.1.toNat * a.2 * 2 ^ 192 / max 1 (b.2 * a.1.toNat)) : Nat) (2 ^ 96)

/-- The largest step p, counted from lo over n halvings, whose direction at (p - 1/2) / 65,536 of a turn lies no further than that of
the vector (x, y) within the half turn that starts at lo. -/
def phaseSearch (x y : Int) : Nat → Nat → Nat
  | 0, p => p
  | n + 1, p =>
    let c := p + 2 ^ n
    let d := fixCosSin (2 * c - 1) 131072
    phaseSearch x y n (if 0 ≤ y * d.1 - x * d.2 then c else p)

/-- round(arg(x + jy) * 65,536 / 2 pi), modulo 65,536: searched in the half turn above the axis for y ≥ 0, and mirrored for y < 0. -/
def phaseOf (x y : Int) : Nat :=
  if y = 0 then (if x < 0 then 32768 else 0)
  else
    let up := phaseSearch x y.natAbs 15 0
    let p := if up = 32767 then (let d := fixCosSin 65535 131072; if 0 ≤ y.natAbs * d.1 - x * d.2 then 32768 else up) else up
    if 0 < y then p else (65536 - p) % 65536

/-- LPE_TRPHASE of G = RET / IN (R216): the argument of RET times the conjugate of IN. -/
def gainPhase (inRe inIm retRe retIm : BF) : Nat :=
  let m (a b : BF) : Int × Nat := (a.num * b.num, a.den * b.den)
  let re := fracAdd (m retRe inRe) (m retIm inIm)
  let im := fracAdd (m retIm inRe) (let p := m retRe inIm; (-p.1, p.2))
  phaseOf (re.1 * (im.2 : Int)) (im.1 * (re.2 : Int))

end Sys2Proof.Machine
end

