-- ==== Sys2Proof/Machine/Tuning.lean ====
section
/-! DEFINITION. Loop tuning (R213-R223) and the evaluation of a frame: the schedule of R167 with the delays of R175, the
evaluations and misses it leads to, and the distribution of the outputs. -/
namespace Sys2Proof.Machine

/-! ### The session -/

/-- LPE_TUNSTAT.STATE. -/
def Dev.tunState (d : Dev) : Nat := d.fld LPE_TUNSTAT 0 1 0
/-- LPE_TUNSTAT.POINT. -/
def Dev.tunPoint (d : Dev) : Nat := d.fld LPE_TUNSTAT 0 12 8
/-- LPE_TUNCTL.CTX. -/
def Dev.tunCtx (d : Dev) : Nat := d.fld LPE_TUNCTL 0 14 8
/-- The session is in PRBS mode. -/
def Dev.tunPrbs (d : Dev) : Bool := decide (d.fld LPE_TUNCTL 0 17 16 = 1)
/-- NBITS, BITLEN and NPER with 0 acting as 1 for the last two. -/
def Dev.tunNbits (d : Dev) : Nat := d.fld LPE_TUNPRBS 0 3 0
/-- Due evaluations per bit. -/
def Dev.tunBitlen (d : Dev) : Nat := max 1 (d.fld LPE_TUNPRBS 0 15 8)
/-- The PRBS window: NPER * L * BITLEN (R215). -/
def Dev.tunPrbsWindow (d : Dev) : Nat := max 1 (d.fld LPE_TUNPRBS 0 23 16) * (2 ^ d.tunNbits - 1) * d.tunBitlen
/-- The window of the point in progress. -/
def Dev.tunWindow (d : Dev) : Nat := if d.tunPrbs then d.tunPrbsWindow else d.fld LPE_TPT d.tunPoint 15 0
/-- Replace the session's working state. -/
def Dev.setTun (d : Dev) (x : TunState) : Dev := { d with arb := { d.arb with tun := x } }

/-- The points accumulated by the present evaluation: one in stepped-sine mode, all in PRBS mode. -/
def Dev.tunPoints (d : Dev) : List Nat :=
  if d.tunPrbs then List.range (d.fld LPE_TUNCTL 0 28 24 + 1) else [d.tunPoint]

/-- The tap positions of the polynomials of Table 5.9, as powers of x. -/
def prbsTaps : Nat → List Nat
  | 7 => [7, 6] | 8 => [8, 6, 5, 4] | 9 => [9, 5] | 10 => [10, 7] | 11 => [11, 9]
  | 12 => [12, 11, 10, 4] | 13 => [13, 12, 11, 8] | 14 => [14, 13, 12, 2] | 15 => [15, 14] | _ => []

/-- One step of the generator: the exclusive or of the tapped stages enters at stage 1, stage NBITS is the output. -/
def prbsStep (n s : Nat) : Nat :=
  let f := (prbsTaps n).foldl (fun a t => if s.testBit (t - 1) then 1 - a else a) 0
  (s * 2 + f) % 2 ^ n

/-- Abort the session with a cause of Table 5.10 (R221). -/
def Dev.tunAbort (d : Dev) (why : Nat) : Dev :=
  if d.tunState = 1 ∨ d.arb.tun.pending then
    (((d.setFld LPE_TUNSTAT 0 1 0 3).setFld LPE_TUNSTAT 0 23 20 why).setTun {}).ev 0x29 1
  else d

/-- START is refused (R217): STATE 0b11 with the cause. -/
def Dev.tunRefused (d : Dev) (why : Nat) : Dev :=
  (d.setFld LPE_TUNSTAT 0 1 0 3).setFld LPE_TUNSTAT 0 23 20 why

/-- The cause for which START is refused (R213, R215, R217), 0 none. -/
def Dev.tunRefusal (d : Dev) : Nat :=
  let mode := d.fld LPE_TUNCTL 0 17 16
  let pts := List.range (d.fld LPE_TUNCTL 0 28 24 + 1)
  let k := fun i => d.fld LPE_TPT i 31 16
  let n := fun i => d.fld LPE_TPT i 15 0
  if d.fld LPE_TUNCTL 0 21 20 = 3 ∨ 2 ≤ mode ∨ (mode = 1 ∧ prbsTaps d.tunNbits = []) ∨
      pts.any (fun i => decide (k i = 0) || (decide (mode = 0) && decide (n i ≤ 2 * k i)) ||
        (decide (mode = 1) && decide (d.tunPrbsWindow ≤ 2 * k i))) ∨
      ¬ (bfOf (d.rd LPE_TUNAMP 0)).pos? then 5
  else if !d.ctxEn d.tunCtx then 6
  else 0

/-- Clear every result of the previous session (R219). -/
def Dev.tunClear (d : Dev) : Dev :=
  d.each (List.range 32) (fun i e =>
    e.each [LPE_TRINRE, LPE_TRINIM, LPE_TRRETRE, LPE_TRRETIM, LPE_TRGAIN, LPE_TRPHASE, LPE_TRSTAT] (fun r z => z.wr r i 0))

/-- A write of LPE_TUNCTL: while a session runs only STOP acts (R218, R221). -/
def Dev.tunCtl (d : Dev) (i : Initiator) (v : Word) : Dev :=
  let run := decide (d.tunState = 1)
  if bitOf v 1 then (if run || d.arb.tun.pending then d.tunAbort 1 else d.fieldsWrite i 0x29 0x040 0 false v)
  else if run then d.err 0x29 7 i 0x040
  else
    let d1 := d.fieldsWrite i 0x29 0x040 0 false v
    if bitOf v 0 then
      let d2 := d1.tunClear.setTun {}
      let why := d2.tunRefusal
      if why = 0 then d2.setTun { pending := true } else d2.tunRefused why
    else d1

/-- No session runs: what a takeover finds, tuning being no part of what a pair mirrors (R222). -/
def Dev.tunNone (d : Dev) : Dev := if d.tunState = 1 ∨ d.arb.tun.pending then (d.setFld LPE_TUNSTAT 0 1 0 0).setTun {} else d

/-- START takes effect at a boundary (R218); on a device whose loop engine does not run it starts nothing (R222). -/
def Dev.tunBoundary (d : Dev) : Dev :=
  if d.arb.tun.pending then
    if !d.engineRuns then d.setTun {}
    else if d.ctxEn d.tunCtx then
      ((d.wr LPE_TUNSTAT 0 1).setTun { lfsr := 2 ^ d.tunNbits - 1 }).acqNote 0x2E
    else (d.setTun {}).tunRefused 6
  else d

/-- The signal n that the next due evaluation of a context injects (R214, R215), with its point. -/
def Dev.injection (d : Dev) (c : Nat) : Option (BF × Nat) :=
  if d.tunState = 1 ∧ d.tunCtx = c ∧ ¬ d.arb.tun.ready then
    let amp := bfOf (d.rd LPE_TUNAMP 0)
    let pt := d.fld LPE_TUNCTL 0 21 20
    if d.tunPrbs then
      some (if d.arb.tun.lfsr.testBit (d.tunNbits - 1) then amp else ⟨-amp.m, amp.e⟩, pt)
    else
      let k := d.fld LPE_TPT d.tunPoint 31 16
      let n := d.fld LPE_TPT d.tunPoint 15 0
      some ((renorm1 (amp.mul (sinBf (k * d.arb.tun.j) n))).1, pt)
  else none

/-- Add s * w to an accumulator of the session (R216). -/
def tunAdd (sums : KV (Int × Int)) (key : Nat) (s w : BF) : KV (Int × Int) :=
  let a := kvGet sums key (0, -32)
  let r := accSum [⟨a.1, a.2⟩, s.mul w]
  kvSet sums key (r.n, r.e) (0, -32)

/-- The stamp of a tuning sample: that of the control samples of the frame (R256, R111). Where the context's feedback is no SDM
channel, of a channel with one average and no calibration delay (log entry 215). -/
def Dev.tunStamp (d : Dev) : Nat :=
  let c := d.tunCtx
  ns64 (if d.fld LPE_SRC c 31 28 = 0 then d.controlStamp64 (d.fld LPE_SRC c 23 16) d.loop.boundaryAt
    else 64 * d.loop.boundaryAt - 609600)

/-- One due evaluation of the session: the taps are accumulated past SETTLE, and the sequence advances (R214-R216, R220,
R222). -/
def Dev.tunStep (d : Dev) (tap : TuneTap) (clip narrow : Bool) : Dev :=
  let t := d.arb.tun
  let sIn := (renorm1 tap.sIn).1
  let ret := (renorm1 tap.ret).1
  let settle := d.fld LPE_TUNSETL 0 15 0
  let w := d.tunWindow
  let sums := if t.j < settle then t.sums else
    d.tunPoints.foldl (fun s i =>
      let ph := d.fld LPE_TPT i 31 16 * (t.j - settle) % w
      let c := cosBf ph w
      let sn := sinBf ph w
      let ns : BF := ⟨-sn.m, sn.e⟩
      tunAdd (tunAdd (tunAdd (tunAdd s (4 * i) sIn c) (4 * i + 1) sIn ns) (4 * i + 2) ret c) (4 * i + 3) ret ns) t.sums
  let j := t.j + 1
  let lfsr := if d.tunPrbs && decide (j % d.tunBitlen = 0) then prbsStep d.tunNbits t.lfsr else t.lfsr
  let d1 := if t.begun then d else d.wr LPE_TUNFRM 0 (d.rd LPE_FRAMELO 0)
  let d2 := if d.bit LPE_TUNCTL 0 30 ∧ d.up .acquisition then
      { d1 with acq := { d1.acq with tun := d1.acq.tun ++ [(d.tunStamp, sIn.word, ret.word)] } } else d1
  d2.setTun { t with begun := true, j, sums, lfsr, clip := t.clip || clip, narrow := t.narrow || narrow
                     ready := decide (settle + w ≤ j), tapIn := sIn.word, tapRet := ret.word }

/-- The bin of an accumulator over W evaluations: (2 / W) * sum (R216). -/
def binOf (a : Int × Int) (w : Nat) : BF :=
  let f := (Acc.mk a.1 a.2).frac
  bfRat (2 * f.1) (max 1 w * f.2)

/-- Write a point's results (R216, R219, R220). -/
def Dev.tunWrite (d : Dev) (i : Nat) : Dev :=
  let t := d.arb.tun
  let w := if d.tunPrbs then d.tunPrbsWindow else d.fld LPE_TPT i 15 0
  let b := fun k => binOf (kvGet t.sums (4 * i + k) (0, -32)) w
  let nosig := decide ((b 0).m = 0) && decide ((b 1).m = 0)
  let d1 := (((d.wr LPE_TRINRE i (b 0).word).wr LPE_TRINIM i (b 1).word).wr LPE_TRRETRE i (b 2).word).wr LPE_TRRETIM i (b 3).word
  let d2 := if nosig then d1 else
    (d1.wr LPE_TRGAIN i (gainOf (b 0) (b 1) (b 2) (b 3)).word).wr LPE_TRPHASE i (w32 (gainPhase (b 0) (b 1) (b 2) (b 3)))
  d2.wr LPE_TRSTAT i (w32 (b2n (!nosig) + 2 * b2n t.clip + 8 * b2n nosig + 16 * b2n t.narrow +
    65536 * (d.fld LPE_FRAMELO 0 15 0)))

/-- Go to the next point, or end the session Done, POINT being the last one (R214, R219, Table 5.13). -/
def Dev.tunNext (d : Dev) : Dev :=
  if d.tunPrbs ∨ d.fld LPE_TUNCTL 0 28 24 ≤ d.tunPoint then
    (((d.setFld LPE_TUNSTAT 0 12 8 (if d.tunPrbs then d.fld LPE_TUNCTL 0 28 24 else d.tunPoint)).setFld LPE_TUNSTAT 0 1 0 2).setTun { tapIn := d.arb.tun.tapIn, tapRet := d.arb.tun.tapRet }).ev 0x29 0
  else
    let t := d.arb.tun
    ((d.setFld LPE_TUNSTAT 0 12 8 (d.tunPoint + 1)).setTun
      { t with j := 0, sums := [], clip := false, narrow := false, ready := false }).acqNote 0x2E

/-- A point's accumulation has ended (R219). -/
def Dev.tunPointDone (d : Dev) : Dev :=
  if d.tunState = 1 ∧ d.arb.tun.ready then (d.each d.tunPoints (fun i e => e.tunWrite i)).tunNext else d

/-- A missed due evaluation of the session's context: MISS for the point, and the next one follows (R220). -/
def Dev.tunMiss (d : Dev) (c : Nat) : Dev :=
  if d.tunState = 1 ∧ d.tunCtx = c then
    let t := d.arb.tun
    (d.each d.tunPoints (fun i e =>
      e.wr LPE_TRSTAT i (w32 (2 * b2n t.clip + 4 + 16 * b2n t.narrow + 65536 * (e.fld LPE_FRAMELO 0 15 0))))).tunNext
  else d

/-! ### The frame -/

/-- Entry to Hold or Standby within a frame: none of its contexts is due any more, so that it goes on to its C-frames without a miss
(R131, R178), and the arbiters show nothing (R200). -/
def Dev.frameIdle (d : Dev) : Dev :=
  ({ d with loop := { d.loop with due := [], inLane := [], notIn := [] } }).each d.arbiters (fun a e => e.arbIdle a)

/-- An ECC error met by an evaluation (R175): 0 corrected, 1 uncorrectable in the state, 2 + g uncorrectable in
coefficient group g. -/
abbrev EccHit := Nat × Nat

/-- A miss and what the tuning session makes of it. -/
def Dev.miss (d : Dev) (n why : Nat) : Dev := (d.missCtx n why).tunMiss n

/-- A due context meets its ECC errors (R175). -/
def Dev.eccAt (d : Dev) (n : Nat) (hits : List EccHit) : Dev :=
  d.each (hits.filter (fun h => decide (h.1 = n))) (fun h e =>
    if h.2 = 0 then e.errHw 0x28 0 0
    else
      let e1 := ((e.errHw 0x28 1 0).setBit LPE_CSTAT n 11 true).ev 0x28 5
      if h.2 = 1 then e1.clearCtx n false
      else e1.setCtxR n { e1.ctxR n with badGroups := (e1.ctxR n).badGroups ||| 2 ^ (h.2 - 2) })

/-- A due context enters its lane: the ECC errors it meets, the miss causes of Table 4.8 that do not depend on time, or the loop law;
where its result would come after the deadline it stays in its lane until then (R172, R174). -/
def Dev.runCtx (d : Dev) (n : Nat) (hits : List EccHit) (late : Bool) : Dev :=
  let d1 := d.eccAt n hits
  if hits.contains (n, 1) then d1.miss n 3
  else if (d1.ctxR n).badGroups ≠ 0 then d1.miss n 5
  else match d1.feedback n with
    | none => d1.miss n 1
    | some xs =>
      if late then { d1 with loop := { d1.loop with inLane := d1.loop.inLane ++ [n] } }
      else
        let stale := decide (d1.fld LPE_SRC n 15 12 = 3) && d1.loop.missed.contains (d1.fld LPE_SRC n 7 0)
        let inj := d1.injection n
        let nar := d1.narrowing n
        let (d2, tap, clip) := d1.evaluate n { xs, sp := d1.setpoint n, narrow := nar, inj, stale }
        if inj.isSome then d2.tunStep tap clip nar.isSome else d2

/-- The evaluation deadline in slots after V: 6.0 us of 60 ns or 80 ns slots (R144, R170). -/
def Dev.deadlineSlots (d : Dev) : Nat := if d.profile = 0 then 100 else 75

/-- Corrected ECC errors of a context cost one slot each on its lane (R175). -/
def extraSlots (hits : List EccHit) (n : Nat) : Nat := (hits.filter (fun h => decide (h = (n, 0)))).length

/-- The entry and result slots of a rank's due contexts that starts at slot s: index k goes to lane k mod 4 at slot
k / 4, later by the delays before it on its lane (R167, R175). -/
def rankSlots (hits : List EccHit) (s : Nat) (due : List Nat) : List (Nat × Nat × Nat × Nat) :=
  (List.range due.length).map (fun k =>
    let n := due.getD k 0
    let before := ((List.range k).filter (fun i => decide (i % 4 = k % 4))).foldl (fun a i => a + extraSlots hits (due.getD i 0)) 0
    let entry := s + k / 4 + before
    (n, k % 4, entry, entry + 12 + extraSlots hits n))

/-- Run one rank: its contexts enter while the deadline has not passed. At the deadline those of a rank that had started miss with cause
0x2, whether or not they had entered a lane, and those of a rank that had not with 0x4 (Table 4.8, R172, R174). -/
def Dev.runRank (d : Dev) (hits : List EccHit) (r : Ranks) (k : Nat) (start : Nat) : Dev × Nat :=
  let due := d.loop.due.filter (fun n => decide (rankIn r n = k))
  if due.isEmpty then (d, start)
  else
    let lim := d.deadlineSlots
    let rows := rankSlots hits start due
    let d0 := if start ≤ lim then d.decideUpTo r k else d
    let d1 := d0.each rows (fun row e =>
      let (n, lane, entry, res) := row
      if lim ≤ start then { e with loop := { e.loop with notIn := e.loop.notIn ++ [n] } }
      else if lim ≤ entry then { e with loop := { e.loop with inLane := e.loop.inLane ++ [n] } }
      else ((e.setFld LPE_RANK n 9 8 lane).setFld LPE_RANK n 23 16 entry).runCtx n hits (decide (lim < res)))
    (d1, (rows.foldl (fun m row => max m row.2.2.2) 0) + 2)

/-- Once the control samples are valid the due contexts are evaluated rank by rank (R167, R170, R197). -/
def Dev.samplesValid (d : Dev) (hits : List EccHit) : Dev :=
  if d.engineRuns && !d.loop.distributed && decide (d.level ≠ .hold) && decide (d.level ≠ .standby) then
    let r := d.ranks
    let d0 := { d with loop := { d.loop with vAt := d.time, missed := [], inLane := [], notIn := [] } }
    let e := (List.range 4).foldl (fun (p : Dev × Nat) k => p.1.runRank hits r k p.2) (d0, 0)
    let d1 := { e.1 with loop := { e.1.loop with due := [] } }
    if d1.loop.inLane.isEmpty && d1.loop.notIn.isEmpty then d1.decideRest else d1
  else d

/-- At V + 6.0 us a context in a lane misses with cause 0x2 and one not yet in a lane with 0x4; the arbiters that have not
decided do so (R174, R197). -/
def Dev.evalDeadline (d : Dev) : Dev :=
  if d.engineRuns && decide (d.loop.vAt + 6000 ≤ d.time) then
    let d1 := d.each d.loop.inLane (fun n e => e.miss n 2)
    let d2 := d1.each d1.loop.notIn (fun n e => e.miss n 4)
    ({ d2 with loop := { d2.loop with inLane := [], notIn := [] } }).decideRest
  else d

/-- The outputs are routed and the C-frames leave (R170, R131); a frame distributes once. -/
def Dev.distribute (d : Dev) : Dev :=
  if d.up .control && !d.loop.distributed && d.loop.inLane.isEmpty && d.loop.notIn.isEmpty && d.loop.due.isEmpty then
    let d1 := d.decideRest
    ({ d1 with loop := { d1.loop with distributed := true } }).sendCFrames
  else d

/-- RUN of a context has reached its non-zero MISSLIM (R176), the run has not escalated yet, and the level counts
escalations (R178). -/
def Dev.escalates (d : Dev) (n : Nat) : Bool :=
  let lim := d.fld LPE_MISSCFG n 7 0
  decide (n < d.variant.contexts) && decide (0 < lim) && decide (lim ≤ d.fld LPE_MISSCNT n 7 0) && !(d.ctxR n).escDone &&
    decide (d.level ≠ .hold) && decide (d.level ≠ .standby)

/-- The part of MISS_ESCALATION that is not the level: events, ESCL, the summary bit and the forced zero (Table 4.9). -/
def Dev.escalateCtx (d : Dev) (n : Nat) : Dev :=
  let d1 := (((d.setBit LPE_CSTAT n 12 true).ctxSum LPE_ESCSUM n).ev 0x28 1).setCtxR n { d.ctxR n with escDone := true }
  if d.fld LPE_MISSCFG n 9 8 = 2 then
    let d2 := d1.forceCtx n
    if d2.tunState = 1 ∧ d2.tunCtx = n then d2.tunAbort 4 else d2
  else d1

/-- A saturation interval has reached LIM ms, and has not raised its event yet (R180). -/
def Dev.saturates (d : Dev) (n : Nat) : Bool :=
  let lim := d.fld LPE_SATCFG n 15 0
  match (d.ctxR n).satFrom with
  | none => false
  | some s => decide (n < d.variant.contexts) && decide (0 < lim) && decide (s + lim * 1000000 ≤ d.time) && !(d.ctxR n).satFired

/-- The part of SATURATION_LIMIT that is not the level. -/
def Dev.saturateCtx (d : Dev) (n : Nat) : Dev :=
  let d1 := (((d.setBit LPE_CSTAT n 9 true).ctxSum LPE_SATSUM n).ev 0x28 2).setCtxR n { d.ctxR n with satFired := true }
  d1.when (d.bit LPE_SATCFG n 20) (fun e => e.ev 0x28 3)

end Sys2Proof.Machine
end

