-- ==== Sys2Proof/Machine/Validate.lean ====
section
/-! DEFINITION. Validation of a commit (R85): the per-address checks of Table 2.12, the limit of R84, and the block
cross-checks over the committed state together with the staged writes. -/
namespace Sys2Proof.Machine

/-! ### Step 1: the per-address checks -/

/-- A BF24 word is negative. -/
def bfNeg (v : Word) : Bool := (bfOf v).neg?

/-- A BF24 word is positive. -/
def bfPos (v : Word) : Bool := (bfOf v).pos?

/-- A staged word whose field values are out of range (REASON 0x5). -/
def valueBad (k : Variant) (page off : Nat) (v : Word) : Bool :=
  match page, off with
  | 0x28, 0x040 => decide (bits v 11 0 < 500) || decide (2000 < bits v 11 0)
  | 0x28, 0x400 =>
    let dv := bits v 19 16
    decide (4 < bits v 27 24) || decide (4 < bits v 23 20) || decide (8 < dv) || decide (2 ^ dv ≤ bits v 15 8) ||
      decide (bits v 7 6 = 3) || decide (1 < bits v 1 0)
  | 0x28, 0x404 =>
    let lim := match bits v 31 28 with | 0 => k.sdInputs | 1 => k.modules | 2 => k.modules | _ => k.thermals
    decide (3 < bits v 31 28) || decide (3 < bits v 15 12) || decide (lim ≤ bits v 23 16) ||
      (decide (bits v 15 12 = 1) && decide (k.outlets ≤ bits v 7 0)) ||
      (decide (bits v 15 12 = 3) && decide (k.contexts ≤ bits v 7 0))
  | 0x28, 0x408 => decide (bits v 9 8 = 3)
  | 0x38, 0x440 | 0x38, 0x444 | 0x39, 0x080 | 0x39, 0x084 => bfNeg v
  | 0x38, 0x44C => !bfPos v
  | 0x3A, 0x400 =>
    let dst := bits v 3 0
    decide (3 < dst) || ((decide (dst = 1) || decide (dst = 2)) && decide (k.modules ≤ bits v 13 8)) ||
      (decide (dst = 3) && decide (k.outlets ≤ bits v 13 8))
  | 0x3C, 0x404 | 0x3C, 0x408 => bfNeg v
  | 0x3E, 0x404 => (List.range 4).any (fun i => bitOf v (8 * i + 7) && decide (k.outlets ≤ bits v (8 * i + 4) (8 * i)))
  | p, o =>
    if (p = 0x38 ∧ 0x400 ≤ o ∧ o ≤ 0x41C) ∨ (p = 0x39 ∧ 0x040 ≤ o ∧ o ≤ 0x05C) then
      decide (10 ≤ bits v 3 0) || (decide (bits v 3 0 = 8) && decide (k.contexts ≤ bits v 14 8))
    else false

/-- An enabled outlet arbiter with a source-4 slot needs a positive ARB_VSCL (R207, REASON 0x5): judged on the state with
every staged write, for a write that touches one of its registers. -/
def Dev.vsclBad (o : Dev) (w : PendWrite) : Bool :=
  let a := w.inst
  decide (w.page = 0x38) && (decide (0x400 ≤ w.off ∧ w.off ≤ 0x41C) || decide (w.off = 0x448) || decide (w.off = 0x450)) &&
    o.arbEn a && o.hasSrc4 a && !bfPos (o.rd ARB_VSCL a)

/-- SHCTX and FOLLOW of a module name present contexts (R157, REASON 0x5). -/
def Dev.shareIdxBad (o : Dev) (w : PendWrite) : Bool :=
  (decide (w.page = 0x3E ∧ w.off = 0x400) && bitOf w.val 31 && bitOf w.val 30 && decide (o.variant.contexts ≤ bits w.val 22 16)) ||
    (decide (w.page = 0x3E ∧ w.off = 0x408) &&
      (List.range 4).any (fun i => bitOf w.val (8 * i + 7) && decide (o.variant.contexts ≤ bits w.val (8 * i + 6) (8 * i))))

/-- A staged write would change a SEAL field while the seal is closed to its initiator (R749). -/
def Dev.sealBad (d : Dev) (w : PendWrite) : Bool :=
  match rowOf d.variant w.page w.off with
  | none => false
  | some r => decide ((d.rd (regAt d.variant w.page w.off) w.inst ^^^ w.val) &&& r.sealed ≠ 0) && !d.sealOpen w.init

/-- The reason of Table 2.12 for which one staged write fails, 0 none; `o` is the state with every staged write. -/
def Dev.stagedReason (d o : Dev) (w : PendWrite) : Nat :=
  if d.isAbsent w.page w.off w.inst then 1
  else if (match rowOf d.variant w.page w.off with | none => true | some r => decide (r.writable = 0)) then 2
  else if d.mirrorHeld w.init w.page then 2
  else if d.locked w.page w.off then 3
  else if d.sealBad w then 4
  else if valueBad d.variant w.page w.off w.val || o.vsclBad w || o.shareIdxBad w then 5
  else if !d.up (pageIsland w.page) then 8
  else if d.denied w.init w.page w.off then 9
  else 0

/-! ### Step 3: the block cross-checks -/

/-- A failed cross-check: the registers it reads, as page, offset and instance (256 for any), and for a graph failure the
KIND, arbiter and context that ARB_GRAPHERR records. -/
structure XFail where
  regs : List (Nat × Nat × Nat)
  graph : Option (Nat × Nat × Nat) := none

/-- The registers that the rank limit and the schedule budget read (R85). -/
def rankRegs : List (Nat × Nat × Nat) :=
  [(0x28, 0x400, 256), (0x28, 0x404, 256), (0x3E, 0x400, 256), (0x3E, 0x408, 256)] ++
    (List.range 8).map (fun k => (0x38, 0x400 + 4 * k, 256)) ++ (List.range 8).map (fun k => (0x39, 0x040 + 4 * k, 256))

/-- The register of slot k of arbiter a. -/
def slotReg (a k : Nat) : Nat × Nat × Nat := if a = 16 then (0x39, 0x040 + 4 * k, 0) else (0x38, 0x400 + 4 * k, a)

/-- The slots a context feeds: arbiter and slot. -/
def Dev.slotsOf (o : Dev) (c : Nat) : List (Nat × Nat) := o.arbiters.flatMap (fun a => (o.feedsSlots a c).map (fun k => (a, k)))

/-- Contexts and modules of the part. -/
def Dev.contextsL (o : Dev) : List Nat := List.range o.variant.contexts

/-- The DST of a context's route, 0 none. -/
def Dev.dst (o : Dev) (c : Nat) : Nat := o.fld ARB_ROUTE c 3 0

/-- Contexts reachable along dependencies in at most n steps. -/
def Dev.reachable (o : Dev) : Nat → List Nat → List Nat
  | 0, l => l
  | n + 1, l => o.reachable n ((l ++ l.flatMap o.deps).eraseDups)

/-- The contexts that depend on themselves. -/
def Dev.onCycle (o : Dev) : List Nat :=
  o.enabled.filter (fun c => (o.reachable o.enabled.length (o.deps c)).contains c)

/-- Table 5.3, KIND 0x1. What TXN_SYNDROME looks for in a graph failure is what R207 names: slots (those of source 4 a dependency runs
through among them), set-point sources (of a share context its module's RGP_MODCFG and RGP_FOLLOW) and routes (log entry 209). -/
def Dev.checkCycle (o : Dev) : Option XFail :=
  match o.onCycle with
  | [] => none
  | c :: r =>
    let four (x : Nat) : List (Nat × Nat × Nat) :=
      let a := o.fld LPE_SRC x 7 0
      if o.fld LPE_SRC x 15 12 = 1 then ((List.range 8).filter (fun k => decide (o.slotSrc a k = 4))).map (slotReg a) else []
    let share (x : Nat) : List (Nat × Nat × Nat) := (o.shareModules x).flatMap (fun m => [(0x3E, 0x400, m), (0x3E, 0x408, m)])
    let regs := (c :: r).flatMap (fun x => (0x28, 0x404, x) :: (o.slotsOf x).map (fun p => slotReg p.1 p.2) ++ four x ++ share x)
    let arb := (((c :: r).flatMap o.slotsOf).map (fun p => p.1)).headD 31
    some { regs, graph := some (1, arb, c) }

/-- Table 5.3, KIND 0x2 (R166): the context whose rank would be above 3. -/
def Dev.checkRank (o : Dev) : Option XFail :=
  match o.ranks.find? (fun p => decide (3 < p.2)) with
  | none => none
  | some p => some { regs := rankRegs, graph := some (2, 31, p.1) }

/-- The unit of a context's output. -/
def Dev.outUnit (o : Dev) (c : Nat) : Nat := o.fld LPE_CTXCFG c 23 20
/-- The unit of a context's feedback and set-point. -/
def Dev.inUnit (o : Dev) (c : Nat) : Nat := o.fld LPE_CTXCFG c 27 24

/-- The first of a list of checks that fails. -/
def firstFail (l : List (Option XFail)) : Option XFail := (l.find? Option.isSome).bind id

/-- Table 5.3, KIND 0x3 (R157): units of slots, of routes, of set-points and of FOLLOW contexts. -/
def Dev.checkUnits (o : Dev) : Option XFail :=
  let slot (c : Nat) : Option XFail :=
    ((o.slotsOf c).find? (fun p => decide (o.outUnit c ≠ if p.1 = 16 then 3 else 0))).map
      (fun p => { regs := [slotReg p.1 p.2], graph := some (3, p.1, c) })
  let route (c : Nat) : Option XFail :=
    if o.dst c ≠ 0 ∧ o.outUnit c ≠ (if o.dst c = 1 then 0 else 1) then
      some { regs := [(0x3A, 0x400, c)], graph := some (3, 31, c) } else none
  let sp (c : Nat) : Option XFail :=
    let idx := o.fld LPE_SRC c 7 0
    let want : Option (Nat × Nat) := match o.fld LPE_SRC c 15 12 with
      | 1 => some (0, idx) | 2 => some (3, 16) | 3 => some (o.outUnit idx, 31) | _ => none
    match want with
    | none => none
    | some (u, a) => if o.inUnit c ≠ u then
        some { regs := [(0x28, 0x404, c)], graph := some (3, a, c) } else none
  let follow (m : Nat) : Option XFail :=
    let c := o.fld RGP_MODCFG m 22 16
    if o.modEn m && o.bit RGP_MODCFG m 30 && (o.follows m).any (fun f => decide (o.outUnit f ≠ o.inUnit c)) then
      some { regs := [(0x3E, 0x408, m), (0x3E, 0x400, m)], graph := some (3, 31, c) } else none
  firstFail (o.contextsL.map slot ++ o.contextsL.map route ++ o.contextsL.map sp ++ o.modulesL.map follow)

/-- Table 5.3, KIND 0x4: two contexts with the same destination. -/
def Dev.checkRoutes (o : Dev) : Option XFail :=
  let rs := (o.contextsL.filter (fun c => decide (o.dst c ≠ 0))).map (fun c => (c, o.fld ARB_ROUTE c 3 0, o.fld ARB_ROUTE c 13 8))
  match rs.find? (fun p => rs.any (fun q => decide (q.1 < p.1 ∧ q.2 = p.2))) with
  | none => none
  | some p =>
    let same := rs.filter (fun q => decide (q.2 = p.2))
    some { regs := same.map (fun q => (0x3A, 0x400, q.1)), graph := some (4, 31, p.1) }

/-- Table 5.3, KIND 0x5: one context in two slots, or in a slot and with a route. -/
def Dev.checkFeeds (o : Dev) : Option XFail :=
  match o.contextsL.find? (fun c => decide (1 < (o.slotsOf c).length) || (!(o.slotsOf c).isEmpty && decide (o.dst c ≠ 0))) with
  | none => none
  | some c =>
    let a := ((o.slotsOf c).map (fun p => p.1)).headD 31
    some { regs := (0x3A, 0x400, c) :: (o.slotsOf c).map (fun p => slotReg p.1 p.2), graph := some (5, a, c) }

/-- Table 5.3, KIND 0x6: a source that Table 5.1 does not allow in the arbiter. -/
def Dev.checkSources (o : Dev) : Option XFail :=
  let bad (a k : Nat) : Bool :=
    let s := o.slotSrc a k
    if a = 16 then decide (1 ≤ s ∧ s ≤ 6) else decide (s = 9)
  firstFail (o.arbiters.flatMap (fun a => (List.range 8).map (fun k =>
    if bad a k then some { regs := [slotReg a k], graph := some (6, a, 0) } else none)))

/-- Table 5.3, KIND 0x7: an enabled context whose set-point is a disabled arbiter. -/
def Dev.checkArbEn (o : Dev) : Option XFail :=
  firstFail (o.enabled.map (fun c =>
    let a := o.fld LPE_SRC c 7 0
    match o.fld LPE_SRC c 15 12 with
    | 1 => if o.arbEn a then none else some { regs := [(0x28, 0x404, c)], graph := some (7, a, c) }
    | 2 => if o.arbEn 16 then none else some { regs := [(0x28, 0x404, c)], graph := some (7, 16, c) }
    | _ => none))

/-- The schedule budget of 75 slots (R169). -/
def Dev.checkSched (o : Dev) : Option XFail :=
  if 75 < (o.longest o.ranks).1 then some { regs := rankRegs } else none

/-- R164 and R35: a base frame above 20 kHz needs profile Full. -/
def Dev.checkPeriod (o : Dev) : Option XFail :=
  if o.fld LPE_FRAMECFG 0 11 0 < 1000 ∧ o.profile ≠ 0 then some { regs := [(0x28, 0x040, 0)] } else none

/-- R109: the frame average is no longer than the base frame. -/
def Dev.checkAvg (o : Dev) : Option XFail :=
  match (List.range o.variant.sdInputs).find? (fun c => decide (o.fld LPE_FRAMECFG 0 11 0 < max 1 (o.fld SDM_CHCFG c 10 8) * 128)) with
  | none => none
  | some c => some { regs := [(0x28, 0x040, 0), (0x20, 0x400, c)] }

/-- R187: limits of enabled contexts, compared as the words give them. -/
def Dev.checkLimits (o : Dev) : Option XFail :=
  let w (c off : Nat) : BF := bfOf (o.cw c off)
  firstFail (o.enabled.map (fun c =>
    if (w c 0x074).lt (w c 0x078) then some { regs := [(0x100 + c, 0x074, 0), (0x100 + c, 0x078, 0), (0x28, 0x400, c)] }
    else if (w c 0x058).lt (w c 0x05C) then some { regs := [(0x100 + c, 0x058, 0), (0x100 + c, 0x05C, 0), (0x28, 0x400, c)] }
    else if o.bit LPE_CTXCFG c 3 && ((w c 0x07C).neg? || (w c 0x080).neg?) then
      some { regs := [(0x100 + c, 0x07C, 0), (0x100 + c, 0x080, 0), (0x28, 0x400, c)] }
    else none))

/-- R228: the share context of an enabled module. -/
def Dev.checkShare (o : Dev) : Option XFail :=
  firstFail (o.modulesL.map (fun m =>
    if o.modEn m && o.bit RGP_MODCFG m 30 then
      let c := o.fld RGP_MODCFG m 22 16
      if o.fld LPE_SRC c 15 12 ≠ 3 then some { regs := [(0x3E, 0x400, m), (0x28, 0x404, c)] }
      else if ¬ (o.dst c = 1 ∧ o.fld ARB_ROUTE c 13 8 = m) then some { regs := [(0x3E, 0x400, m), (0x3A, 0x400, c)] }
      else if (List.range 4).any (fun i => (o.reachAt m i).isSome && !o.bit RGP_FOLLOW m (8 * i + 7)) then
        some { regs := [(0x3E, 0x404, m), (0x3E, 0x408, m), (0x3E, 0x400, m)] }
      else none
    else none))

/-- R231: the registers of a Moving module, and the reach entry a module is Grouped on, keep their values. -/
def checkMoving (d o : Dev) : Option XFail :=
  firstFail (d.modulesL.map (fun m =>
    let changed := decide (d.rd RGP_REACH m ≠ o.rd RGP_REACH m) || decide (d.rd RGP_FOLLOW m ≠ o.rd RGP_FOLLOW m) ||
      decide (d.rd RGP_MODCFG m ≠ o.rd RGP_MODCFG m)
    let i := d.modIndex m
    if d.modState m = 3 ∧ changed then some { regs := [(0x3E, 0x404, m), (0x3E, 0x408, m), (0x3E, 0x400, m)] }
    else if d.modState m = 2 ∧ d.reachAt m i ≠ o.reachAt m i then some { regs := [(0x3E, 0x404, m)] }
    else none))

/-- R245: the phase limits. -/
def Dev.checkTmo (o : Dev) : Option XFail :=
  let l := [o.fld RGP_TMO 0 7 0, o.fld RGP_TMO 0 15 8, o.fld RGP_TMO 0 23 16, o.fld RGP_TMO 0 31 24]
  if l.any (fun x => decide (x = 0)) || decide (150 < l.foldl (· + ·) 0) then some { regs := [(0x3E, 0x048, 0)] } else none

/-- The block cross-checks of a commit, against the state before and with its staged writes (R85 step 3). -/
def crossCheck (d o : Dev) : Option XFail :=
  firstFail [o.checkCycle, o.checkRank, o.checkUnits, o.checkRoutes, o.checkFeeds, o.checkSources, o.checkArbEn, o.checkSched,
    o.checkPeriod, o.checkAvg, o.checkLimits, o.checkShare, checkMoving d o, o.checkTmo]

/-! ### The three steps -/

/-- The fields a staged write sets, without any other effect. -/
def Dev.rawWrite (d : Dev) (w : PendWrite) : Dev :=
  match rowOf d.variant w.page w.off with
  | none => d
  | some r =>
    let reg := regAt d.variant w.page w.off
    d.wr reg w.inst (fieldWrite r (d.rd reg w.inst) w.val true true).1

/-- The state with staged writes laid over it. -/
def Dev.overlay (d : Dev) (ws : List PendWrite) : Dev := ws.foldl Dev.rawWrite d

/-- A staged write goes to one of the registers of a failing check. -/
def touches (regs : List (Nat × Nat × Nat)) (w : PendWrite) : Bool :=
  regs.any (fun r => decide (r.1 = w.page ∧ r.2.1 = w.off) && (decide (r.2.2 = 256) || decide (r.2.2 = w.inst)))

/-- The address a cross-check reports: the last staged write to a register it reads, else the last staged write (R85). -/
def crossAddr (regs : List (Nat × Nat × Nat)) (ws : List PendWrite) : Nat :=
  match (ws.filter (touches regs)).getLast? with
  | some w => addrOf w.page w.off
  | none => match ws.getLast? with
    | some w => addrOf w.page w.off
    | none => 0

/-- The result of validation: reason and address of Table 2.12, and a graph failure. -/
structure Verdict where
  reason : Nat := 0
  addr : Nat := 0
  graph : Option (Nat × Nat × Nat) := none

/-- Validate a commit against a base state (R85): the three steps stop at the first failure. -/
def validate (base : Dev) (c : Commit) : Verdict :=
  let o := base.overlay c.staged
  match c.staged.find? (fun w => decide (base.stagedReason o w ≠ 0)) with
  | some w => { reason := base.stagedReason o w, addr := addrOf w.page w.off }
  | none => match c.overAt with
    | some a => { reason := 7, addr := a }
    | none =>
      if c.staged.isEmpty then {}
      else match crossCheck base o with
        | some x => { reason := 6, addr := crossAddr x.regs c.staged, graph := x.graph }
        | none => {}

end Sys2Proof.Machine
end

