-- ==== Sys2Proof/Machine/Txn.lean ====
section
/-! DEFINITION. Transactions and fences (R80-R97): begin, commit, abort, validation, abandonment, the idle timeout, and the
completion of fences. The application of a commit at its boundary stands with the frame boundary. -/
namespace Sys2Proof.Machine

/-- Slots in use: those of open transactions and of commits that have not ended (R92). -/
def Dev.usedSlots (d : Dev) : List Nat := d.txn.opens.map OpenTxn.slot ++ d.txn.commits.map Commit.slot

/-- Show a slot in TXN_SLOTS (Table 2.9). -/
def Dev.showTxnSlot (d : Dev) (s : Nat) (owner : Option Initiator) : Dev :=
  let w := d.rd TXN_SLOTS 0
  d.wr TXN_SLOTS 0 (putBit (putBits w (4 * s + 3) (4 * s) ((owner.map Initiator.id).getD 0)) (16 + s) owner.isSome)

/-- Set RESULT and REASON of an initiator's TXN_STAT. -/
def Dev.txnResult (d : Dev) (i : Initiator) (result reason : Nat) : Dev :=
  d.wrI TXN_STAT i (putBits (putBits (d.rdI TXN_STAT i) 11 8 result) 7 4 reason)

/-- TXN_BEGIN (R80, R81). -/
def Dev.txnBegin (d : Dev) (i : Initiator) (v : Word) : Dev :=
  if !bitOf v 0 || decide (i = .mirror) then d
  else if (d.openTxn i).isSome then d.wrI TXN_STAT i (putBits (d.rdI TXN_STAT i) 11 8 7)
  else match (List.range 4).find? (fun s => !d.usedSlots.contains s) with
    | none => d.wrI TXN_STAT i (putBits (d.rdI TXN_STAT i) 11 8 6)
    | some s =>
      let o : OpenTxn := { init := i, slot := s, since := d.time }
      let d1 := { d with txn := { d.txn with opens := d.txn.opens ++ [o] } }
      ((d1.wrI TXN_STAT i (w32 (1 + 2 * s))).wrI TXN_SYNDROME i 0).showTxnSlot s (some i)

/-- Remove the open transaction of an initiator with a result (R80, R92). -/
def Dev.txnDiscard (d : Dev) (i : Initiator) (result : Nat) : Dev :=
  match d.openTxn i with
  | none => d
  | some o =>
    let d1 := { d with txn := { d.txn with opens := d.txn.opens.filter (fun x => decide (x.init ≠ i)) } }
    ((d1.txnResult i result 0).wrI TXN_STAT i (putBit ((d1.txnResult i result 0).rdI TXN_STAT i) 0 false)).showTxnSlot o.slot none

/-- TXN_ABORT (R80). -/
def Dev.txnAbort (d : Dev) (i : Initiator) (v : Word) : Dev := if bitOf v 0 then d.txnDiscard i 4 else d

/-- TXN_COMMIT: the transaction is queued for validation, RESULT 0x1 (R80, R86). -/
def Dev.txnCommit (d : Dev) (i : Initiator) (v : Word) : Dev :=
  match d.openTxn i with
  | none => d
  | some o =>
    if bitOf v 0 then
      let c : Commit := { init := i, slot := o.slot, staged := o.staged, overAt := o.overAt, seq := d.txn.nextSeq }
      let d1 := { d with txn := { d.txn with
        opens := d.txn.opens.filter (fun x => decide (x.init ≠ i))
        commits := d.txn.commits ++ [c]
        nextSeq := d.txn.nextSeq + 1 } }
      d1.wrI TXN_STAT i (putBit (putBits (d1.rdI TXN_STAT i) 11 8 1) 0 false)
    else d

/-- Replace a commit in the queue. -/
def Dev.setCommit (d : Dev) (c : Commit) : Dev :=
  { d with txn := { d.txn with commits := d.txn.commits.map (fun (x : Commit) => if x.seq = c.seq then c else x) } }

/-- The initiator has begun a transaction after a commit: its TXN_STAT and TXN_SYNDROME describe that one (R80). -/
def Dev.txnNewer (d : Dev) (c : Commit) : Bool :=
  (d.openTxn c.init).isSome || d.txn.commits.any (fun x => decide (x.init = c.init) && decide (c.seq < x.seq))

/-- A commit ends: its slot is freed (R92), and its result, reason and address show unless the initiator's registers describe
a newer transaction by then (R80, log entry 1). -/
def Dev.commitEnd (d : Dev) (c : Commit) (result reason addr : Nat) : Dev :=
  let d1 := ({ d with txn := { d.txn with commits := d.txn.commits.filter (fun x => decide (x.seq ≠ c.seq)) } }).showTxnSlot c.slot none
  if d1.txnNewer c then d1 else (d1.txnResult c.init result reason).wrI TXN_SYNDROME c.init (w32 addr)

/-- Commits that were validated on top of one that has failed fail at their own boundary (R89). -/
def Dev.doom (d : Dev) (s : Nat) : Dev :=
  { d with txn := { d.txn with commits := d.txn.commits.map (fun (x : Commit) =>
      if x.onTop.contains s then { x with doomed := true } else x) } }

/-- ARB_GRAPHERR keeps the first failure until VALID is cleared (R207). -/
def Dev.graphErr (d : Dev) (g : Option (Nat × Nat × Nat)) : Dev :=
  match g with
  | none => d
  | some (k, a, c) =>
    if d.bit ARB_GRAPHERR 0 31 then d else d.wr ARB_GRAPHERR 0 (w32 (2 ^ 31 + a * 65536 + c * 256 + k))

/-- The earlier commits that a validation takes into account (R89). -/
def Dev.validated (d : Dev) (before : Nat) : List Commit :=
  d.txn.commits.filter (fun c => decide (c.seq < before) && c.validAt.isSome)

/-- A commit holds writes that the active device mirrors to its partner (R706, R708). -/
def Dev.commitMirrors (d : Dev) (c : Commit) : Bool := c.staged.any (fun w => d.mirrors w.init w.page w.off)

/-- The mirrored writes of a validated commit leave for the partner (R708). -/
def Dev.sendMirror (d : Dev) (c : Commit) : Dev :=
  if d.commitMirrors c then
    { d with pair := { d.pair with mirrorOut := d.pair.mirrorOut ++ c.staged.filter (fun w => d.mirrors w.init w.page w.off) } }
  else d

/-- The validation of the oldest commit not yet validated completes (R85, R86, R89). -/
def Dev.validationDone (d : Dev) : Dev :=
  match d.txn.commits.find? (fun c => c.validAt.isNone) with
  | none => d
  | some c =>
    let top := d.validated c.seq
    let base := d.overlay (top.flatMap Commit.staged)
    let r := validate base c
    if r.reason = 0 then
      (d.setCommit { c with validAt := some d.time, onTop := top.map Commit.seq, needsAck := d.commitMirrors c }).sendMirror c
    else (d.commitEnd c 3 r.reason r.addr).graphErr r.graph

/-- An island that a commit targets does not run. -/
def Dev.targetDown (d : Dev) (c : Commit) : Bool := c.staged.any (fun w => !d.up (pageIsland w.page))

/-- 1 ms has passed since validation without a boundary (R90); it counts from the later of validation and the partner's
acknowledgement (R708). -/
def Dev.overdue (d : Dev) (c : Commit) : Bool :=
  c.validAt.isSome && !(c.needsAck && c.ackAt.isNone) && decide (max (c.validAt.getD 0) (c.ackAt.getD 0) + 1000000 ≤ d.time)

/-- A commit ends without applying, and dooms those that were validated on top of it (R89). -/
def Dev.commitFails (d : Dev) (c : Commit) (result reason addr : Nat) : Dev := (d.commitEnd c result reason addr).doom c.seq

/-- A validated commit without a boundary for 1 ms, or whose target island has failed, is abandoned (R90). -/
def Dev.commitAbandon (d : Dev) (i : Initiator) : Dev :=
  match d.txn.commits.find? (fun c => decide (c.init = i) && c.validAt.isSome) with
  | none => d
  | some c => if d.overdue c || d.targetDown c then d.commitFails c 5 0 0 else d

/-- The idle timeout of an open transaction (R92). -/
def Dev.txnIdle (d : Dev) (i : Initiator) : Dev :=
  let n := d.fld TXN_CFG 0 15 0
  match d.openTxn i with
  | none => d
  | some o => if n ≠ 0 ∧ o.since + n * 1000000 ≤ d.time then d.txnDiscard i 8 else d

/-- An island resets: the transactions of its initiators that have not applied are discarded with RESULT 0x8 (R92), and a
commit with a staged write to one of its pages ends with RESULT 0x5 (R90). -/
def Dev.txnIslandReset (d : Dev) (x : Island) : Dev :=
  let d1 := d.each (d.txn.opens.map OpenTxn.init) (fun i e => if i.island = x then e.txnDiscard i 8 else e)
  d1.each d1.txn.commits (fun c e =>
    if c.init.island = x then e.commitFails c 8 0 0
    else if c.staged.any (fun w => decide (pageIsland w.page = x)) then e.commitFails c 5 0 0 else e)

/-- A control-island restart discards every transaction, and every TXN register but TXN_CFG reads 0 (R93). -/
def Dev.txnRestart (d : Dev) : Dev :=
  let d1 := { d with txn := { d.txn with opens := [], commits := [] } }
  let d2 := d1.each (List.range 9) (fun k e =>
    let i := Initiator.ofId k
    ((e.wrI TXN_STAT i 0).wrI TXN_SYNDROME i 0).wrI TXN_FRAME i 0)
  d2.wr TXN_SLOTS 0 0

/-- A life-cycle change discards every transaction (R94): open ones and commits end as aborted by hardware. -/
def Dev.txnLifecycle (d : Dev) : Dev :=
  let d1 := d.each (d.txn.opens.map OpenTxn.init) (fun i e => e.txnDiscard i 8)
  d1.each d1.txn.commits (fun c e => e.commitEnd c 8 0 0)

/-! ### Fences (R95-R97) -/

/-- A write to SYS_FENCE: the initiator's later writes wait until its earlier ones have taken effect. -/
def Dev.fence (d : Dev) (i : Initiator) : Dev :=
  { d with txn := { d.txn with fences := d.txn.fences.filter (fun f => decide (f.1 ≠ i)) ++ [(i, d.time)] } }

/-- An earlier write of the initiator has not taken effect, or was lost to a reset. -/
def Dev.outstanding (d : Dev) (i : Initiator) : Bool :=
  d.txn.held.any (fun w => decide (w.init = i) && !w.behind) || d.txn.dropped.contains i

/-- End the fence of an initiator; the writes behind it are held only by their islands from now on. -/
def Dev.fenceEnd (d : Dev) (i : Initiator) : Dev :=
  { d with txn := { d.txn with
      fences := d.txn.fences.filter (fun f => decide (f.1 ≠ i))
      dropped := d.txn.dropped.filter (fun k => decide (k ≠ i))
      held := d.txn.held.map (fun (w : PendWrite) => if w.init = i then { w with behind := false } else w) } }

/-- The instant of an initiator's waiting fence. -/
def Dev.fenceAt (d : Dev) (i : Initiator) : Option Nat := (d.txn.fences.find? (fun f => decide (f.1 = i))).map (fun f => f.2)

end Sys2Proof.Machine
end

