-- ==== Sys2Proof/Machine/BillingReq.lean ====
section
/-! DEFINITION. The billing requests of the metrology mailbox (R377-R382): objects and access, challenges and AUTH, GET, SET
and the methods; sessions' signatures and acknowledgements; snapshot holds. -/
namespace Sys2Proof.Machine

/-! ### Objects (Tables 9.5 and 9.6) -/

/-- The object of a code A.B.C.D.E.F. -/
def objOf (v : Variant) (c : List Nat) : Option BilObj :=
  match c with
  | [1, b, q, 8, e, f] =>
    if (q = 1 ∨ q = 2) ∧ b < v.mtrChannels ∧ e ≤ 8 then
      let o := if e = 0 then BilObj.total b (q - 1) else .tariffReg b (q - 1) (e - 1)
      if f = 255 then some o else if f < 24 then some (.snapshot f o) else none
    else none
  | [1, b, q, 6, e, f] =>
    if (q = 1 ∨ q = 2) ∧ b < v.mtrChannels ∧ 1 ≤ e ∧ e ≤ 8 then
      if f = 255 then some (.maxDemand b (q - 1) (e - 1)) else if f < 24 then some (.snapshot f (.maxDemand b (q - 1) (e - 1))) else none
    else none
  | [1, b, 128, 0, 0, 255] => if b < v.mtrChannels then some (.calib b) else none
  | [1, b, 128, 1, 0, 255] => if b < v.mtrChannels then some (.tariffMode b) else none
  | [1, b, 128, 2, 0, 255] => if 1 ≤ b ∧ b < v.mtrChannels then some (.session (b - 1)) else none
  | [0, 0, 1, 0, 0, 255] => some .clock
  | [0, 0, 13, 0, 0, 255] => some .calendar
  | [0, 0, 11, 0, 0, 255] => some .calendar
  | [0, 0, 15, 0, 0, 255] => some .schedule
  | [0, 0, 128, 0, 0, 255] => some .metroTime
  | [0, 0, 128, 1, 0, 255] => some .bilCfg
  | [0, 0, 128, 2, 0, 255] => some .snapBanks
  | [0, 0, 128, 3, 0, 255] => some .sealObj
  | [0, 0, 128, 4, 0, 255] => some .journal
  | [0, 0, 128, 5, 0, 255] => some .roleKeys
  | [0, 0, 96, 1, 0, 255] => some .identity
  | _ => none

/-- Read access of a role (Table 9.6). -/
def mayRead (o : BilObj) (role : Nat) : Bool :=
  match o with
  | .calib _ | .journal => decide (2 ≤ role)
  | _ => true

/-- Write access: 1 allowed, 2 only while the seal is open, 0 none (Table 9.6). -/
def mayWrite (o : BilObj) (role : Nat) : Nat :=
  match o with
  | .tariffMode _ | .clock | .calendar | .schedule => if role = 3 ∨ role = 5 then 1 else 0
  | .calib _ | .bilCfg | .roleKeys => if role = 5 then 2 else 0
  | _ => 0

/-- The methods of the catalogue. -/
inductive Method where
  | settariff | closebp | snap | start | stop | ack | lock | reseal
  deriving DecidableEq, Repr

/-- Execute access (Table 9.6). -/
def mayRun (m : Method) (role : Nat) : Bool :=
  match m with
  | .settariff | .closebp => decide (role = 3 ∨ role = 5)
  | .snap => decide (2 ≤ role ∧ role ≤ 5)
  | .start | .stop => decide (role = 2)
  | .ack => decide (role = 2 ∨ role = 4)
  | .lock | .reseal => decide (role = 5)

/-- A request as the mailbox holds it (Table 9.5). -/
structure BilReq where
  op : Nat
  role : Nat
  code : List Byte
  obj : Option BilObj
  data : List Byte
  auth : List Byte
  /-- Request bytes 0 to the end of DATA. -/
  signedPart : List Byte
  deriving DecidableEq, Repr

/-- The billing request of an initiator that is in flight. -/
def Dev.bilReq (d : Dev) (i : Initiator) : Option BilReq :=
  (d.mbxService 1 i 1).map (fun b =>
    let len := leAt b 10 2
    let code := slice b 2 6
    { op := leAt b 0 1, role := leAt b 1 1, code, obj := objOf d.variant (code.map BitVec.toNat)
      data := slice b 12 len, auth := b.drop (12 + len), signedPart := b.take (12 + len) })

/-- The billing response of R377; UNVER stops at the first latch after the seal is Sealed again (R387). -/
def Dev.bilAnswer (d : Dev) (i : Initiator) (result : Nat) (data : List Byte) : Dev :=
  let status := b2n (d.unver || d.bit BIL_STAT 0 2) + 2 * b2n (decide (d.sealState = 0)) + 4 * b2n (decide (d.fld MTR_ROLE 0 1 0 = 2))
  d.mbxAnswer 1 i 0 (leBytes 1 result ++ leBytes 1 status ++ leBytes 2 data.length ++ data)

/-- A KIND 0x03 entry of a failed authentication (R378, Table 9.3). -/
def Sys.failedAuth (s : Sys) (q : BilReq) (result : Nat) : Sys :=
  let d := s.dev
  let rest := leBytes 1 q.role ++ [0] ++ q.code ++ leBytes 1 result
  s.journal 3 (d.mtime d.time) (d.localTime d.time) 0xFF (4096 * b2n d.unver + 8192 * b2n (decide (d.sealState = 0)))
    (d.rd BIL_BPNUM 0).toNat 0 rest

/-- The role of a request holds: roles 1 and 2 are asserted, role 2 only by compute cores and the partner; roles 3 to 5
need an AUTH over an open challenge under the role's key (R378). Answers the refusal, and the device with the challenge
spent. -/
def Dev.bilAuth (d : Dev) (i : Initiator) (q : BilReq) : Option Nat × Dev :=
  if q.role = 1 then (none, d)
  else if q.role = 2 then (if i.isCore ∨ i = .mirror then none else some 2, d)
  else if 3 ≤ q.role ∧ q.role ≤ 5 then
    let d1 : Dev := { d with bil := { d.bil with openCh := none } }
    if !d.up .key then (some 0x0A, d)
    else match d.bil.openCh with
      | none => (some 4, d)
      | some (n, at') =>
        let key := kvGet d.bil.roleKeys q.role []
        let msg := sha256 (d.devId ++ leBytes 8 n ++ q.signedPart)
        if d.time < at' + 60000000000 ∧ key ≠ [] ∧ Sys2Proof.Machine.hssVerify key msg q.auth then (none, d1) else (some 4, d1)
  else (some 2, d)

/-- Serve a request in flight that `pick` recognises: a standby device refuses SET and ACTION but ACK with 0x09 (R382), then
AUTH, then `permit`, then the effect, which answers a result and data. -/
def Sys.bilServe (s : Sys) (i : Initiator) (pick : BilReq → Bool) (standbyOk : Bool) (permit : BilReq → Option Nat)
    (act : BilReq → Sys → Sys × Nat × List Byte) : Sys :=
  match s.dev.bilReq i with
  | none => s
  | some q =>
    if !pick q then s
    else if !standbyOk && decide (s.dev.fld MTR_ROLE 0 1 0 = 2) then s.onDev (fun d => d.bilAnswer i 9 [])
    else
      let (bad, d1) := s.dev.bilAuth i q
      let s1 : Sys := { s with dev := d1 }
      match bad with
      | some r => (if r = 4 then s1.failedAuth q r else s1).onDev (fun d => d.bilAnswer i r [])
      | none =>
        match permit q with
        | some r => s1.onDev (fun d => d.bilAnswer i r [])
        | none =>
          let (s2, r, data) := act q s1
          s2.onDev (fun d => d.bilAnswer i r data)

/-- Serve a method of an object. -/
def Sys.bilMethod (s : Sys) (i : Initiator) (m : Method) (o : BilObj) (act : Sys → Sys × Nat) : Sys :=
  s.bilServe i (fun q => decide (q.op = 3) && decide (q.obj = some o)) (decide (m = .ack))
    (fun q => if mayRun m q.role then none else some 2)
    (fun _ t => let (t1, r) := act t; (t1, r, []))

/-! ### GET (BILLING_GET) -/

/-- A 64-bit value. -/
def le64 (n : Nat) : List Byte := leBytes 8 n

/-- The value of an object. -/
def Sys.objValue (s : Sys) (o : BilObj) (data : List Byte) : Option (List Byte) :=
  let d := s.dev
  match o with
  | .total c dir => some (le64 (if dir = 0 then (d.totals c).1 else (d.totals c).2))
  | .tariffReg c dir t => some (le64 (if dir = 0 then (d.tarReg c t).1 else (d.tarReg c t).2))
  | .maxDemand c dir t =>
    let r := if dir = 0 then BIL_DMI t else BIL_DME t
    let rt := if dir = 0 then BIL_DMIT t else BIL_DMET t
    some (leBytes 4 (d.rd r c).toNat ++ leBytes 4 (d.rd rt c).toNat ++ leBytes 4 (kvGet d.bil.maxMt ((c * 8 + t) * 2 + dir) 0))
  | .snapshot back of =>
    let n := (d.rd BIL_BPNUM 0).toNat
    if n ≤ back then none
    else
      let a := snapSlot (n - back)
      let blk (c : Nat) : Nat := a + 64 + 288 * c
      match of with
      | .total c dir => some (s.read (blk c + 8 * dir) 8)
      | .tariffReg c dir t => some (s.read (blk c + 16 + 16 * t + 8 * dir) 8)
      | .maxDemand c dir t => some (s.read (blk c + 144 + 16 * t + 8 * dir) 8)
      | _ => none
  | .calib c =>
    some (leBytes 4 (d.rd MTR_CHCFG c).toNat ++ leBytes 4 (d.rd MTR_IRATED c).toNat ++ leBytes 4 (d.rd MTR_REVTIME c).toNat ++
      ((List.range (mtrIo c).length).map (fun p => leBytes 4 (d.rd (MTR_VSCL p) c).toNat ++ leBytes 4 (d.rd (MTR_ISCL p) c).toNat ++
        leBytes 4 (d.rd (MTR_VGAIN p) c).toNat ++ leBytes 4 (d.rd (MTR_IGAIN p) c).toNat ++ leBytes 4 (d.rd (MTR_VOFF p) c).toNat ++
        leBytes 4 (d.rd (MTR_IOFF p) c).toNat)).flatten)
  | .tariffMode c => some (leBytes 4 (d.rd BIL_TARCTL c).toNat)
  | .session o => some (leBytes 4 (d.rd BIL_SESSTAT o).toNat ++ leBytes 4 (d.rd BIL_SESSNUM o).toNat ++
      s.read (sessSlot (d.fld BIL_SESSTAT o 12 8)) 256)
  | .clock => some (leBytes 4 (twos (d.civil d.time) 32) ++ leBytes 4 (d.rd BIL_LOCOFF 0).toNat)
  | .calendar => some ((d.calWords.map (fun (w : Word) => leBytes 4 w.toNat)).flatten)
  | .schedule => some (leBytes 4 (d.rd BIL_BPCFG 0).toNat ++ leBytes 4 (d.rd BIL_BPNUM 0).toNat ++ leBytes 4 (d.rd BIL_LASTBP 0).toNat)
  | .metroTime => some (leBytes 4 (d.mtime d.time))
  | .bilCfg => some (leBytes 4 (d.rd BIL_CFG 0).toNat ++ leBytes 4 (d.rd BIL_DEMCFG 0).toNat)
  | .snapBanks => some (leBytes 4 (d.rd BIL_SNAPSTAT 0).toNat ++ ((List.range 2).map (fun b =>
      leBytes 4 (d.rd (BIL_SNAPEP b) 0).toNat ++ leBytes 4 (d.rd (BIL_SNAPSEQ b) 0).toNat ++
      (d.mtrChans.map (fun c => le64 (d.rd64 (BIL_SIMPLO b) (BIL_SIMPHI b) c) ++ le64 (d.rd64 (BIL_SEXPLO b) (BIL_SEXPHI b) c))).flatten)).flatten)
  | .sealObj => some (leBytes 4 (d.rd BIL_SEALSTAT 0).toNat ++ leBytes 4 (d.rd BIL_SEALBRK 0).toNat ++ s.read 0x14000C00 1024)
  | .journal =>
    let e := s.read (journalSlot (leAt data 0 4)) 64
    if entryValid e ∧ leAt e 4 4 = leAt data 0 4 then some e else none
  | .roleKeys => some ((d.bil.roleKeys.map (fun k => leBytes 1 k.1 ++ leBytes 1 k.2.length ++ k.2)).flatten)
  | .identity => some d.devId

/-- BILLING_GET (R377, R379). -/
def Sys.billingGet (s : Sys) (i : Initiator) : Sys :=
  s.bilServe i (fun q => decide (q.op = 1)) true
    (fun q => match q.obj with
      | none => some 1
      | some o => if mayRead o q.role then none else some 2)
    (fun q t => match q.obj.bind (fun o => t.objValue o q.data) with
      | some b => (t, 0, b)
      | none => (t, 5, []))

/-! ### SET (BILLING_SET) -/

/-- The registers that a SET of an object may write (Table 9.6). -/
def setTarget (v : Variant) (o : BilObj) (w : RegVal) : Bool :=
  let isSeal : Bool := match rowOf v w.page w.off with | some r => decide (r.sealed ≠ 0) | none => false
  match o with
  | .calib c => isSeal && (decide (w.page = 0x20) || (decide (0x48 ≤ w.page ∧ w.page ≤ 0x4B) &&
      (decide (w.inst = c) || decide (w.off < 0x400) || decide (w.page = 0x4A))))
  | .tariffMode c => decide (w.page = 0x50 ∧ w.off = 0x400 ∧ w.inst = c)
  | .clock => decide (w.page = 0x50 ∧ w.off = 0x04C)
  | .calendar => decide (w.page = 0x51 ∧ 0x400 ≤ w.off ∧ w.off ≤ 0x408)
  | .schedule => decide (w.page = 0x50 ∧ w.off = 0x048)
  | .bilCfg => decide (w.page = 0x50 ∧ (w.off = 0x040 ∨ w.off = 0x044))
  | _ => false

/-- A register value of a SET is in range: the target exists and the write would not be refused with KIND 7. -/
def Dev.setInRange (d : Dev) (o : BilObj) (w : RegVal) : Bool :=
  setTarget d.variant o w && !d.isAbsent w.page w.off w.inst && !d.metroBad w.page w.off w.inst w.val

/-- Write the values of a SET as the metrology island; SDM fields are TXN+SEAL and go through a transaction of the
metrology island (R115, R311). -/
def Dev.setWrite (d : Dev) (ws : List RegVal) : Dev :=
  let (sdm, own) := ws.partition (fun w => decide (w.page = 0x20))
  let d1 := d.each own (fun w e => e.metroWrite .metrology w.page w.off w.inst w.val)
  if sdm.isEmpty then d1
  else
    let d2 := d1.txnBegin .metrology 1
    let d3 := d2.each sdm (fun w e => e.stage { init := .metrology, page := w.page, off := w.off, inst := w.inst, val := w.val } false)
    d3.txnCommit .metrology 1

/-- BILLING_SET (R377, R379, R380). -/
def Sys.billingSet (s : Sys) (i : Initiator) (x : BilSet) : Sys :=
  let firstKey := !(s.dev.bil.roleKeys.any (fun k => decide (k.1 = 5)))
  s.bilServe i (fun q => decide (q.op = 2)) false
    (fun q => match q.obj with
      | none => some 1
      | some o =>
        if o = .roleKeys ∧ firstKey then none
        else if mayWrite o q.role = 0 then some 2
        else if mayWrite o q.role = 2 ∧ !s.dev.sealOpen .metrology then some 3
        else none)
    (fun q t =>
      match q.obj, x with
      | some .roleKeys, .roleKey r k =>
        if 3 ≤ r ∧ r ≤ 5 then (t.onDev (fun d => { d with bil := { d.bil with roleKeys := kvPut d.bil.roleKeys r k } }), 0, []) else (t, 5, [])
      | some o, .regs ws =>
        if ws.all (fun w => t.dev.setInRange o w) then (t.onDev (fun d => d.setWrite ws), 0, []) else (t, 5, [])
      | _, _ => (t, 5, []))

/-! ### Challenges (R378) -/

/-- BILLING_CHALLENGE: the next challenge counter replaces any open challenge. -/
def Sys.billingChallenge (s : Sys) (i : Initiator) : Sys :=
  match s.dev.bilReq i with
  | none => s
  | some q =>
    if q.op = 4 then
      s.onDev (fun d =>
        let n := d.bil.challenge + 1
        { d with bil := { d.bil with challenge := n, openCh := some (n, d.time) } }.bilAnswer i 0 (leBytes 8 n))
    else s

/-- CHALLENGE_EXPIRY: an unused challenge expires after 60 s. -/
def Dev.challengeExpiry (d : Dev) (t : Nat) : Dev :=
  let d0 := d.at t
  match d0.bil.openCh with
  | some (_, at') => if at' + 60000000000 ≤ t then { d0 with bil := { d0.bil with openCh := none } } else d0
  | none => d0

/-! ### Methods -/

/-- SETTARIFF (R349): in command mode the tariff waits for the next latch; in calendar mode 0x06. -/
def Sys.setTariff (s : Sys) (i : Initiator) (c t : Nat) : Sys :=
  s.bilMethod i .settariff (.tariffMode c) (fun q =>
    if 8 ≤ t then (q, 5)
    else if !bitOf (q.dev.bilF BIL_TARCTL c) 0 then (q, 6)
    else (q.onDev (fun d => (d.setFld BIL_TARCTL c 18 16 t).setBit BIL_TARCTL c 24 true), 0))

/-- CLOSEBP (R358). -/
def Sys.closeBp (s : Sys) (i : Initiator) : Sys :=
  s.bilMethod i .closebp .schedule (fun q => (q.onDev (fun d => { d with bil := { d.bil with closeBp := true } }), 0))

/-- Accept a SNAP with a target stamp and an epoch (R366, R367). -/
def Dev.acceptSnap (d : Dev) (target epoch : Nat) (pairAt : Option Nat) (confirmed : Bool) : Dev :=
  let d1 : Dev := { d with bil := { d.bil with snap := some { target, epoch, pairAt, confirmed }, epoch } }
  (d1.setBit BIL_SNAPSTAT 0 1 true).setBit BIL_SNAPSTAT 0 3 false

/-- SNAP (R366, R367, R369): the target is 2 ms after the receipt; a SNAP while one is pending merges; a held target bank
refuses with 0x08 and sets REFUSED. A standby device takes the target and epoch that its partner sends. -/
def Sys.snapMethod (s : Sys) (i : Initiator) (pair : Bool) (partner : Option (Nat × Nat)) : Sys :=
  match partner with
  | some (target, epoch) =>
    if s.dev.fld MTR_ROLE 0 1 0 = 2 ∧ s.dev.up .metrology then s.onDev (fun d => d.acceptSnap target epoch none true) else s
  | none =>
    s.bilServe i (fun q => decide (q.op = 3) && decide (q.obj = some .snapBanks)) false
      (fun q => if mayRun .snap q.role then none else some 2)
      (fun _ q =>
        let d := q.dev
        match d.bil.snap with
        | some x => (q, 0, leBytes 4 x.epoch)
        | none =>
          if pair ∧ d.fld MTR_ROLE 0 1 0 ≠ 1 then (q, 6, [])
          else if d.bit BIL_SNAPCTL 0 (1 - d.fld BIL_SNAPSTAT 0 0 0) then (q.onDev (fun e => e.setBit BIL_SNAPSTAT 0 4 true), 8, [])
          else
            let ep := (d.bil.epoch + 1) % 2 ^ 32
            (q.onDev (fun e => e.acceptSnap (e.time + 2000000) ep (if pair then some e.time else none) false), 0, leBytes 4 ep))

/-- SNAP_PAIR_TIMEOUT (R369): without a confirmation in 1 ms the device takes its own snapshot and sets NOPAIR. -/
def Dev.snapPairTimeout (d : Dev) (t : Nat) : Dev :=
  let d0 := d.at t
  match d0.bil.snap with
  | some x =>
    match x.pairAt with
    | some at' =>
      if at' + 1000000 ≤ t then
        { d0 with bil := { d0.bil with snap := some { x with pairAt := none } } }.setBit BIL_SNAPSTAT 0 3 true
      else d0
    | none => d0
  | none => d0

/-- SNAP_HOLD_EXPIRY (R368): a HOLD bit clears 60 s after it was set. -/
def Dev.snapHoldExpiry (d : Dev) (b t : Nat) : Dev :=
  let d0 := d.at t
  match d0.bil.holdAt.find? (fun p => decide (p.1 = b)) with
  | some (_, at') =>
    if b < 2 ∧ at' + 60000000000 ≤ t then
      { d0 with bil := { d0.bil with holdAt := kvDel d0.bil.holdAt b } }.setBit BIL_SNAPCTL 0 b false
    else d0
  | none => d0

/-! ### Sessions (R370-R375) -/

/-- The lowest free slot. -/
def Dev.freeSlot (d : Dev) : Option Nat := (List.range 32).find? (fun k => (kvGet d.bil.sess k none).isNone)

/-- Accept a START: the lowest free slot, the next session number and the contract tag. -/
def Dev.acceptStart (d : Dev) (o k : Nat) (tag : List Byte) : Dev :=
  let n := (d.rd BIL_SESSCNT 0).toNat
  let d1 := d.setSess k (some { outlet := o, num := n, tag := slice tag 0 32 })
  let d2 := ((d1.wr BIL_SESSCNT 0 (w32 (n + 1))).setBit BIL_SLOTUSE 0 k true).wr BIL_SESSNUM o (w32 n)
  (d2.setFld BIL_SESSTAT o 1 0 1).setFld BIL_SESSTAT o 12 8 k

/-- START's conditions (R370): the refusal, or the slot. -/
def Dev.startCheck (d : Dev) (o : Nat) : Nat × Nat :=
  if !d.mtrEn (o + 1) ∨ d.fld BIL_SESSTAT o 1 0 ≠ 0 then (6, 0)
  else match d.freeSlot with
    | none => (7, 0)
    | some k => (0, k)

/-- SESSION_START (R370); a standby device records what its partner accepted (R375). -/
def Sys.sessionStart (s : Sys) (i : Initiator) (o : Nat) (tag : List Byte) (fromPartner : Bool) : Sys :=
  if fromPartner then
    if s.dev.fld MTR_ROLE 0 1 0 = 2 ∧ i = .mirror ∧ o < s.dev.variant.outlets ∧ (s.dev.startCheck o).1 = 0 then
      s.onDev (fun d => d.acceptStart o (d.startCheck o).2 tag)
    else s
  else s.bilMethod i .start (.session o) (fun q =>
    let (r, k) := q.dev.startCheck o
    if r = 0 then (q.onDev (fun d => d.acceptStart o k tag), 0) else (q, r))

/-- SESSION_STOP (R370). -/
def Sys.sessionStop (s : Sys) (i : Initiator) (o : Nat) (fromPartner : Bool) : Sys :=
  let stop (q : Sys) : Sys := q.onDev (fun d => d.setFld BIL_SESSTAT o 1 0 3)
  if fromPartner then
    if s.dev.fld MTR_ROLE 0 1 0 = 2 ∧ i = .mirror ∧ s.dev.fld BIL_SESSTAT o 1 0 = 2 then stop s else s
  else s.bilMethod i .stop (.session o) (fun q => if q.dev.fld BIL_SESSTAT o 1 0 = 2 then (stop q, 0) else (q, 6))

/-- SESSION_ACK (R374): frees a SIGNED slot and sets ACKED; any other state is refused with 0x06. -/
def Sys.sessionAck (s : Sys) (i : Initiator) (o k : Nat) : Sys :=
  s.bilMethod i .ack (.session o) (fun q =>
    match kvGet q.dev.bil.sess k none with
    | some x =>
      if x.outlet = o ∧ x.state.testBit 2 then
        ((q.store (sessSlot k + 256) [w8 (x.state ||| 16)]).onDev (fun d => (d.setSess k none).setBit BIL_SLOTUSE 0 k false), 0)
      else (q, 6)
    | none => (q, 6))

/-- COSIGN_TIMEOUT (R373): a co-signature that is missing 10 s after SIGNED is no longer taken. -/
def Dev.cosignTimeout (d : Dev) (k t : Nat) : Dev :=
  let d0 := d.at t
  match kvGet d0.bil.sess k none with
  | some x =>
    match x.cosigFrom with
    | some at' => if at' + 10000000000 ≤ t then d0.setSess k (some { x with cosigFrom := none }) else d0
    | none => d0
  | none => d0

/-! ### Seal methods (R386, R387) -/

/-- SEAL_LOCK: only in Unlocked with the jumper closed: the image is written and the METLOCK fuses are blown. -/
def Sys.sealLock (s : Sys) (i : Initiator) : Sys :=
  s.bilMethod i .lock .sealObj (fun q =>
    if q.dev.sealState = 0 ∧ q.dev.bit BIL_SEALSTAT 0 5 then
      let q1 := (q.writeImage.blow (7 * 2 ^ 736)).onDev (fun d => (d.setBit BIL_SEALSTAT 0 4 true).setBit LCM_STATE 0 17 true)
      (q1.sealEntry 0 1 1, 0)
    else (q, 6))

/-- SEAL_RESEAL: only in Broken: the image is written from the present SEAL fields and REARMED is set. -/
def Sys.sealReseal (s : Sys) (i : Initiator) : Sys :=
  s.bilMethod i .reseal .sealObj (fun q =>
    if q.dev.sealState = 2 then
      let q1 := q.writeImage.onDev (fun d => { d.setBit BIL_SEALSTAT 0 6 true with bil := { d.bil with sealArm := true } })
      (q1.sealEntry 2 2 6, 0)
    else (q, 6))

/-! ### Adoption (R334, R376) -/

/-- TOTALS_ADOPT: a device that has taken the standby role, or diverged, adopts the active's totals, billing state and T at
the active's next latch (R334, R376, R617). -/
def Dev.totalsAdopt (d : Dev) (a : Adoption) : Dev :=
  if d.up .metrology ∧ d.fld MTR_ROLE 0 1 0 = 2 ∧ d.mtr.adoptDue then
    let d1 := { d with time := a.time }.adoptTotals a.accs a.ticks
    let d2 := d1.each d1.mtrChans (fun c e => e.loadBlock c (a.banks.getD c []))
    let b : BilState := { d2.bil with
      ivEnd := a.bil.ivEnd, ivMt := a.bil.ivMt, ivOpen := a.bil.ivOpen, ivGaps := a.bil.ivGaps, ivOut := a.bil.ivOut
      ivUnver := a.bil.ivUnver, hist := a.bil.hist, maxMt := a.bil.maxMt, bpStart := a.bil.bpStart, bpGaps := a.bil.bpGaps
      bpFlags := a.bil.bpFlags, closeBp := a.bil.closeBp, sess := a.bil.sess, prev := a.bil.prev
      mtBase := a.bil.mtBase, mtFrom := a.bil.mtFrom }
    let d3 := (((({ d2 with bil := b }.wr BIL_BPNUM 0 (w32 a.bpnum)).wr BIL_LASTBP 0 (w32 a.lastbp)).wr BIL_JSEQ 0 (w32 (a.jseq + 2 ^ 32 - 1))).wr
      BIL_SESSCNT 0 (w32 a.sessNext))
    d3.ev 0x09 7
  else d

end Sys2Proof.Machine
end

