-- ==== Sys2Proof/Machine/Log.lean ====
section
/-! DEFINITION. The event log in NVM (spec/18_pair_and_recovery.md, R720-R723, R732). -/
namespace Sys2Proof.Machine

/-- The first byte of the logs partition and of entry LSEQ (R720). -/
def logBase : Nat := 0x140C0000
/-- The address of the entry with a log sequence number. -/
def logAddr (n : Nat) : Nat := logBase + 64 * (n % 16384)

/-- The 64 bytes of an entry (Table 18.5); sources from 16 on are the partner's. -/
def logBytes (src lseq : Nat) (e : LogEntry) : List Byte :=
  let b := leBytes 2 0x7E4C ++ leBytes 1 (src % 16 + 128 * b2n (decide (16 ≤ src))) ++ leBytes 1 e.code ++ leBytes 4 lseq ++
    leBytes 4 e.sseq ++ leBytes 4 0 ++ leBytes 8 e.stamp ++ slice e.data 0 36
  b ++ leBytes 4 (crc32 b)

/-- The bytes of a slot are a valid entry: TAG and CRC correct and LSEQ matching its slot (R720). -/
def logValid (slot : Nat) (b : List Byte) : Bool :=
  decide (leAt b 0 2 = 0x7E4C) && decide (leAt b 60 4 = crc32 (b.take 60)) && decide (leAt b 4 4 % 16384 = slot)

/-- The bytes of a slot. -/
def Sys.logSlot (s : Sys) (slot : Nat) : List Byte := s.read (logBase + 64 * slot) 64

/-- The slots that hold any byte but 0. -/
def Sys.logSlots (s : Sys) : List Nat :=
  (s.mem.filter (fun p => decide (logBase ≤ p.1) && decide (p.1 < logBase + 0x100000))).foldl
    (fun l p => let k := (p.1 - logBase) / 64; if l.head? = some k then l else k :: l) []

/-- The log sequence numbers of the valid entries. -/
def Sys.logSeqs (s : Sys) : List Nat :=
  s.logSlots.filterMap (fun k => let b := s.logSlot k; if logValid k b then some (leAt b 4 4) else none)

/-- At a reset of the AON island the log continues after the newest valid entry: EVT_HEAD and EVT_COUNT (R720). -/
def Sys.logBoot (s : Sys) : Sys :=
  let l := s.logSeqs
  { s with dev := (s.dev.wr EVT_HEAD 0 (w32 (l.foldl max 0))).wr EVT_COUNT 0 (w32 l.length) }

/-- The log sequence number of the next entry; an empty log's first one is not stated, and free. -/
def Dev.nextLseq (d : Dev) : Nat × Dev :=
  if d.rd EVT_COUNT 0 = 0 then
    let (w, d1) := d.free 720
    (w.toNat, d1)
  else (((d.rd EVT_HEAD 0).toNat + 1) % 2 ^ 32, d)

/-- LOG_ENTRY_WRITE: the AON island writes the oldest entry of a source, 0-9, or 16 + s for the partner's source s, and raises
NEWENT (R720, R722). -/
def Sys.logEntryWrite (s : Sys) (t src : Nat) : Sys :=
  let s0 := s.onDev (·.at t)
  let q := s0.dev.logSrc src
  match q.fifo with
  | [] => s0
  | e :: rest =>
    if s0.dev.pwr.phase = .off then s0
    else
      let (n, d1) := s0.dev.nextLseq
      let d2 : Dev := { d1 with log := kvSet d1.log src { q with fifo := rest } {} }
      let d3 := (d2.wr EVT_HEAD 0 (w32 n)).wr EVT_COUNT 0 (w32 (min ((d2.rd EVT_COUNT 0).toNat + 1) 16384))
      ({ s0 with dev := d3.ev 0x07 0 }).store (logAddr n) (logBytes src n e)

/-- EVT_RDENTw: a word of entry EVT_RDSEQ, zero while that entry is not held (Table 18.11). -/
def Sys.logWord (s : Sys) (w : Nat) : Word :=
  let n := (s.dev.rd EVT_RDSEQ 0).toNat
  let b := s.logSlot (n % 16384)
  if logValid (n % 16384) b ∧ leAt b 4 4 = n then w32 (leAt b (4 * w) 4) else 0

/-- A write to EVT_SWPUT queues an entry of codes 0x80-0xFF at source 4, stamped now (R721). -/
def Dev.swPut (e : Dev) (i : Initiator) (v : Word) : Dev :=
  if bits v 7 0 < 0x80 then e.err 0x07 7 i 0x074
  else e.logPut 4 (bits v 7 0) ((List.range 9).flatMap (fun w => leBytes 4 (e.rdI (EVT_SWDATA w) i).toNat))

/-- FIRMWARE_EVENT_PUT: that write through its gate. -/
def Dev.firmwareEventPut (d : Dev) (i : Initiator) (v : Word) : Dev := d.gated i EVT_SWPUT v (fun _ e => e.swPut i v)

/-- PARTNER_LOG_ENTRY: an entry of the partner arrives over the pair link and is queued with the partner's SSEQ and STAMP, in
order of arrival; a full FIFO drops it (R722, R723). -/
def Dev.partnerLogEntry (d : Dev) (t src code sseq stamp : Nat) (data : List Byte) : Dev :=
  let d0 := d.at t
  let k := 16 + src % 16
  let q := d0.logSrc k
  if !(decide (d0.pstate ≠ 0) && (d0.bit AUS_STAT 0 8 || d0.bit AUS_STAT 0 9) && d0.up .link && decide (src < 10)) then d0
  else
    let need := if q.lost = 0 then 1 else 2
    if q.fifo.length + need ≤ 16 then
      let lostEnt : List LogEntry := if q.lost = 0 then [] else
        [{ code := 0x0F, sseq := sseq - 1, stamp := q.lostAt, data := leBytes 1 src ++ leBytes 2 (min q.lost 65535) }]
      let e : LogEntry := { code, sseq, stamp, data }
      { d0 with log := kvSet d0.log k { fifo := q.fifo ++ lostEnt ++ [e], nextSeq := 0, lost := 0, lostAt := 0 } {} }
    else
      let d1 : Dev := { d0 with log := kvSet d0.log k { q with lost := q.lost + 1, lostAt := if q.lost = 0 then stamp else q.lostAt } {} }
      ((d1.inc EVT_LOST 0).setBit EVT_LOSTSRC 0 (16 + src) true).ev 0x07 1

end Sys2Proof.Machine
end

