-- ==== Sys2Proof/Machine/Acq.lean ====
section
/-! DEFINITION. Acquisition and fault recording (spec/07_acquisition.md): capture ticks, trigger sequencers, arming, pods
with their measurements, and the fault recorder. -/
namespace Sys2Proof.Machine

/-! ### Units and their settings -/

/-- A unit: sequencers 0-3, or unit 0 on the PX4812. -/
def Dev.unit (d : Dev) (u : Nat) : AcqUnit := kvGet d.acq.units u {}
/-- Replace a unit. -/
def Dev.setUnit (d : Dev) (u : Nat) (x : AcqUnit) : Dev := { d with acq := { d.acq with units := kvSet d.acq.units u x {} } }

/-- The PX4812 has the simple trigger in place of the sequencers. -/
def Dev.simple (d : Dev) : Bool := decide (d.variant = .px4812)
/-- The units of the part. -/
def Dev.unitsL (d : Dev) : List Nat := if d.simple then [0] else [0, 1, 2, 3]
/-- The unit and region of the fault recorder (R280). -/
def Dev.faultUnit (d : Dev) : Nat := if d.simple then 0 else 3
/-- ACQ_FLTCFG.EN: the fault recorder holds its unit (R281). -/
def Dev.faultHolds (d : Dev) (u : Nat) : Bool := d.bit ACQ_FLTCFG 0 0 && decide (u = d.faultUnit)
/-- The page of a sequencer. -/
def seqPage (u : Nat) : Nat := 0x42 + u

/-- The settings a unit captures with. -/
def Dev.unitCfg (d : Dev) (u : Nat) : UnitCfg :=
  if d.faultHolds u then
    { d := d.fld ACQ_FLTCFG 0 10 8, pre := d.fld ACQ_FLTWIN 0 15 0, post := d.fld ACQ_FLTWIN 0 31 16
      mask := (d.rd ACQ_FLTCH0 0).toNat + 2 ^ 32 * d.fld ACQ_FLTCH1 0 15 0 }
  else if d.simple then
    { d := d.fld ACQ_STCFG 0 18 16, pre := d.fld ACQ_STWIN 0 15 0, post := d.fld ACQ_STWIN 0 31 16
      mask := d.fld ACQ_STCHM 0 19 0 }
  else
    { d := d.fld (ACQ_SQCTL u) 0 10 8, pre := d.fld (ACQ_SQWIN u) 0 15 0
      post := d.fld (ACQ_SQWIN u) 0 31 16
      mask := (d.rd (ACQ_SQCHM0 u) 0).toNat + 2 ^ 32 * d.fld (ACQ_SQCHM1 u) 0 15 0 }

/-- The channels of a mask. -/
def UnitCfg.chans (c : UnitCfg) : List Nat := maskList c.mask 48

/-- What a channel carries: 0 SDM, 1 pilot, 2 tuning IN, 3 tuning RET (Table 7.6). -/
def Dev.chanSrc (d : Dev) (c : Nat) : Nat := if c < d.variant.sdInputs then 0 else d.fld ACQ_CHCFG c 1 0 + 1

/-- The spacing of a channel's samples in ns; a tuning channel's is its context's evaluation period (R214, R253). -/
def Dev.chanTs (d : Dev) (dv c : Nat) : Nat :=
  match d.chanSrc c with
  | 0 => 3200 * 2 ^ dv
  | 1 => 10000
  | _ => d.periodNs * 2 ^ d.fld LPE_CTXCFG d.tunCtx 19 16

/-- Samples a pea is laid out for (R259). -/
def Dev.peaLen (d : Dev) (c : UnitCfg) (ch : Nat) : Nat :=
  let span := (c.pre + c.post) * 3200 * 2 ^ c.d
  match d.chanSrc ch with
  | 0 => c.pre + c.post
  | 1 => (span + 9999) / 10000 + 1
  | _ => (span + 24999) / 25000 + 1

/-- Bytes per sample. -/
def Dev.peaWidth (d : Dev) (ch : Nat) : Nat := if 2 ≤ d.chanSrc ch then 4 else 2

/-- Round up to a multiple of 64. -/
def roundup64 (n : Nat) : Nat := (n + 63) / 64 * 64

/-- SLOTSZ (R259). -/
def Dev.slotSize (d : Dev) (c : UnitCfg) : Nat :=
  c.chans.foldl (fun s ch => s + roundup64 (64 + d.peaLen c ch * d.peaWidth ch)) 64

/-! ### Armed channels (R263) -/

/-- A unit counts as armed. -/
def Dev.unitActive (d : Dev) (u : Nat) : Bool := (d.unit u).armed || (d.unit u).arming || (d.unit u).running

/-- The union of the masks of a list of units. -/
def Dev.unionMask (d : Dev) (us : List Nat) : Nat := us.foldl (fun m u => m ||| (d.unitCfg u).mask) 0

/-- The profile's limit, never above the variant's channel count (R263). -/
def Dev.acqLimit (d : Dev) (profile : Nat) : Nat := min (if profile = 0 then 48 else 24) d.variant.acqChannels

/-- The armed channel count. -/
def Dev.armedCount (d : Dev) : Nat := (maskList (d.unionMask (d.unitsL.filter d.unitActive)) 48).length

/-- ACQ_ARMCNT and ACQ_CHSTAT follow the armed units. -/
def Dev.acqShow (d : Dev) : Dev :=
  let d1 := d.wr ACQ_ARMCNT 0 (w32 (d.armedCount + 256 * d.acqLimit d.profile))
  d1.each (List.range d.variant.acqChannels) (fun c e =>
    let seqs := e.unitsL.foldl (fun s u =>
      if e.unitActive u && !e.faultHolds u && (e.unitCfg u).mask.testBit c then s + 2 ^ u else s) 0
    let flt := e.faultHolds e.faultUnit && e.unitActive e.faultUnit && (e.unitCfg e.faultUnit).mask.testBit c
    e.wr ACQ_CHSTAT c (w32 (seqs + 16 * b2n flt)))

/-- Set a field of a unit's status register: ACQ_SQSTAT or ACQ_STSTAT. -/
def Dev.setUstat (d : Dev) (u hi lo v : Nat) : Dev :=
  if d.simple then d.setFld ACQ_STSTAT 0 hi lo v else d.setFld (ACQ_SQSTAT u) 0 hi lo v

/-- The region registers of a unit: base and size in bytes. -/
def Dev.regionOf (d : Dev) (u : Nat) : Nat × Nat := (d.fld ACQ_RGBASE u 9 0 * 4096, d.fld ACQ_RGSIZE u 10 0 * 4096)

/-- Two regions overlap. -/
def overlaps (a b : Nat × Nat) : Bool := decide (a.1 < b.1 + b.2) && decide (b.1 < a.1 + a.2)

/-- A region check of Table 7.2 fails (ARMERR 0x3). -/
def Dev.regionBad (d : Dev) (u : Nat) : Bool :=
  let c := d.unitCfg u
  let r := d.regionOf u
  decide (d.variant.captureBytes < r.1 + r.2) ||
    (d.unitsL.filter (fun x => decide (x ≠ u) && d.unitActive x)).any (fun x => overlaps r (d.regionOf x)) ||
    decide (r.2 < d.slotSize c) || decide (65535 < c.pre + c.post) || decide (c.post = 0) ||
    c.chans.any (fun ch => decide (65535 < d.peaLen c ch))

/-- A comparator's settings are valid: mode below 6 on a present channel that carries no tuning stream (R270). -/
def Dev.cmpOk (d : Dev) (cfg : Word) : Bool :=
  decide (bits cfg 10 8 < 6) && decide (bits cfg 5 0 < d.variant.acqChannels) && decide (d.chanSrc (bits cfg 5 0) < 2)

/-- A condition code, comparator mode or comparator channel of a unit is invalid (ARMERR 0x4), of every comparator, whether a rule
names it or not (R262, R270). -/
def Dev.condsBad (d : Dev) (u : Nat) : Bool :=
  if d.simple then
    let code := d.fld ACQ_STCFG 0 13 8
    !d.cmpOk (d.rd ACQ_STCMPCFG 0) ||
      !(decide (code = 0x02) || decide (0x0A ≤ code ∧ code ≤ 0x0D) || decide (0x26 ≤ code ∧ code ≤ 0x2F))
  else
    (List.range 8).any (fun i => !d.cmpOk (d.rd (ACQ_CMPCFG u i) 0)) ||
      (List.range 16).any (fun st => [ACQ_RULEA u, ACQ_RULEB u].any (fun r =>
        decide (0x30 ≤ d.fld r st 31 26) || decide (0x30 ≤ d.fld r st 24 19)))

/-- The first failed check of Table 7.2, 0 none. A pending profile's limit counts beside the present one's, so that the change never
finds more channels armed than it allows (R263). -/
def Dev.armError (d : Dev) (u : Nat) : Nat :=
  if d.faultHolds u then 6
  else if ((d.unitCfg u).chans).any (fun c => decide (d.variant.acqChannels ≤ c)) then 1
  else if min (d.acqLimit d.profile) (d.acqLimit (d.pwr.profPending.getD d.profile)) < (maskList (d.unionMask (u :: d.unitsL.filter d.unitActive)) 48).length then 2
  else if d.regionBad u then 3
  else if d.condsBad u then 4
  else if d.level ≠ .normal then 5
  else 0

/-- Compute SLOTSZ and NSLOT at arming. -/
def Dev.layRegion (d : Dev) (u : Nat) : Dev :=
  let z := d.slotSize (d.unitCfg u)
  (d.wr ACQ_SLOTSZ u (w32 z)).wr ACQ_NSLOT u (w32 (min ((d.regionOf u).2 / z) 65535))

/-- Set or clear the ARM bit. -/
def Dev.setArm (d : Dev) (u : Nat) (b : Bool) : Dev :=
  if d.simple then d.setBit ACQ_STCFG 0 0 b else d.setBit (ACQ_SQCTL u) 0 0 b

/-- Writing 1 to ARM arms at the next tick where every check passes (R262); else ARM stays 0 with ARMERR. -/
def Dev.arm (d : Dev) (u : Nat) : Dev :=
  let e := d.armError u
  let d1 := d.setUstat u 15 12 e
  if e = 0 then
    (((d1.setArm u true).layRegion u).setUnit u { (d1.unit u) with arming := true, disarming := false, stopping := false }).acqShow
  else (d1.setArm u false).ev 0x40 2

/-- Writing 0 to ARM disarms at the next tick (R265). -/
def Dev.disarm (d : Dev) (u : Nat) : Dev :=
  let x := d.unit u
  let d1 := d.setArm u false
  if x.arming then (d1.setUnit u { x with arming := false }).acqShow
  else if x.armed then d1.setUnit u { x with disarming := true }
  else d1

/-- A write of ACQ_SQCTL by ARM: while armed only ARM 0 acts (R264). -/
def Dev.sqctl (d : Dev) (i : Initiator) (u : Nat) (v : Word) : Dev :=
  let page := seqPage u
  if d.faultHolds u then
    (if bitOf v 0 then d.arm u else d).err page 7 i 0x040
  else if d.unitActive u then
    if bitOf v 0 then d.err page 7 i 0x040 else d.disarm u
  else
    let d0 := if d.fld (ACQ_SQCTL u) 0 10 8 = bits v 10 8 then d else d.setUnit u { d.unit u with last := [] }
    let d1 := d0.setFld (ACQ_SQCTL u) 0 10 8 (bits v 10 8)
    if bitOf v 0 then d1.arm u else d1

/-- A write of ACQ_STCFG on the PX4812. -/
def Dev.stcfg (d : Dev) (i : Initiator) (v : Word) : Dev :=
  if d.faultHolds 0 then (if bitOf v 0 then d.arm 0 else d).err 0x47 7 i 0x040
  else if d.unitActive 0 then
    if bitOf v 0 then d.err 0x47 7 i 0x040 else d.disarm 0
  else
    let d1 := d.wr ACQ_STCFG 0 (putBit (v &&& 0x77F03#32 ||| (v &&& 0x7F00#32)) 0 false)
    if bitOf v 0 then d1.arm 0 else d1

/-! ### Conditions (Table 7.3, Table 7.4) -/

/-- What a condition says at a tick: true or false, and the instant in ps it carries, if any (R273). -/
abbrev Cond := Bool × Option Nat

/-- The comparator registers of a unit. -/
def Dev.cmpRegs (d : Dev) (u i : Nat) : Word × Word :=
  if d.simple then (d.rd ACQ_STCMPCFG 0, d.rd ACQ_STCMPLVL 0)
  else (d.rd (ACQ_CMPCFG u i) 0, d.rd (ACQ_CMPLVL u i) 0)

/-- A channel's newest sample whose stamp is at or before t (R270). -/
def AcqUnit.newest (x : AcqUnit) (ch t : Nat) : Option (Nat × Option Int) :=
  ((kvGet x.last ch []).filter (fun s => decide (s.1 ≤ t))).getLast?

/-- A level comparator: the instant it carries is the stamp of the sample that made it true (R273). -/
def AcqUnit.levelCmp (x : AcqUnit) (i st : Nat) (b : Bool) : Cond × AcqUnit :=
  let from' := kvGet x.since i 0
  let at' := if from' = 0 then st + 1 else from'
  if b then ((true, some ((at' - 1) * 1000)), { x with since := kvSet x.since i at' 0 })
  else ((false, none), { x with since := kvSet x.since i 0 0 })

/-- A comparator of mode 4 or 5: a new sample beyond one level after one beyond the other (Table 7.4). -/
def AcqUnit.edgeCmp (x : AcqUnit) (i st : Nat) (reached back : Bool) : Cond × AcqUnit :=
  let y := { x with seen := kvSet x.seen i (st + 1) 0 }
  if kvGet x.seen i 0 = st + 1 then ((false, none), y)
  else if reached && x.hyst.testBit i then ((true, some (st * 1000)), { y with hyst := y.hyst &&& (2 ^ 64 - 1 - 2 ^ i) })
  else ((false, none), if back then { y with hyst := y.hyst ||| 2 ^ i } else y)

/-- One comparator at tick t, and the unit with its memory moved on (R270). An invalid sample makes every mode false. -/
def Dev.compare (d : Dev) (u t i : Nat) (x : AcqUnit) : Cond × AcqUnit :=
  let (cfg, lvl) := d.cmpRegs u i
  let lo := sext (bits lvl 15 0) 16
  let hi := sext (bits lvl 31 16) 16
  match x.newest (bits cfg 5 0) t with
  | none => ((false, none), x)
  | some (st, none) => x.levelCmp i st false
  | some (st, some v) =>
    match bits cfg 10 8 with
    | 0 => x.levelCmp i st (decide (hi ≤ v))
    | 1 => x.levelCmp i st (decide (v ≤ lo))
    | 2 => x.levelCmp i st (decide (lo ≤ v) && decide (v ≤ hi))
    | 3 => x.levelCmp i st (decide (v < lo) || decide (hi < v))
    | 4 => x.edgeCmp i st (decide (hi ≤ v)) (decide (v ≤ lo))
    | _ => x.edgeCmp i st (decide (v ≤ lo)) (decide (hi ≤ v))

/-- Every comparator of a unit at a tick. -/
def Dev.compareAll (d : Dev) (u t : Nat) (x : AcqUnit) : List Cond × AcqUnit :=
  (List.range 8).foldl (fun (p : List Cond × AcqUnit) i =>
    let (c, y) := d.compare u t i p.2
    (p.1 ++ [c], y)) ([], x)

/-- The earliest event of a code stamped at or before a tick. -/
def Dev.eventAt (d : Dev) (code tk : Nat) : Cond :=
  match d.acq.events.find? (fun e => decide (e.1 = code) && decide (e.2 ≤ tk * 1000)) with
  | none => (false, none)
  | some e => (true, some e.2)

/-- A timer's elapsed time has reached its limit (R268). -/
def Dev.timerDue (d : Dev) (u n t : Nat) : Bool :=
  (d.unit u).tmrTrue.testBit n || decide (kvGet (d.unit u).tmr n 0 + (d.rd (ACQ_TMRLIM u n) 0).toNat * 1000 ≤ t)

/-- A counter has reached its limit (R268). -/
def Dev.counterDue (d : Dev) (u n : Nat) : Bool :=
  (d.unit u).cntTrue.testBit n || decide ((d.rd (ACQ_CNTLIM u n) 0).toNat ≤ (d.rd (ACQ_CNT u n) 0).toNat)

/-- A condition code at tick tk; `flags` holds every sequencer's flags as after the tick before. -/
def Dev.condition (d : Dev) (u tk code : Nat) (cmp : List Cond) (flags : List Nat) : Cond :=
  if code = 0x01 then (true, none)
  else if 0x02 ≤ code ∧ code ≤ 0x09 then cmp.getD (code - 2) (false, none)
  else if 0x0A ≤ code ∧ code ≤ 0x0D then d.eventAt code tk
  else if 0x0E ≤ code ∧ code ≤ 0x11 then (d.counterDue u (code - 0x0E), none)
  else if 0x12 ≤ code ∧ code ≤ 0x15 then (d.timerDue u (code - 0x12) tk, none)
  else if 0x16 ≤ code ∧ code ≤ 0x25 then ((flags.getD ((code - 0x16) / 4) 0).testBit ((code - 0x16) % 4), none)
  else if 0x26 ≤ code ∧ code ≤ 0x2E then d.eventAt code tk
  else if code = 0x2F then (d.acq.sw.testBit u, none)
  else (false, none)

/-- An inverted condition carries no instant. -/
def Cond.inv (c : Cond) (n : Bool) : Cond := if n then (!c.1, none) else c

/-- The codes true at a tick, as a mask: what the next tick takes for the truth before it. -/
def Dev.truths (d : Dev) (u tk : Nat) (cmp : List Cond) (flags : List Nat) : Nat :=
  (List.range 0x30).foldl (fun m c => if (d.condition u tk c cmp flags).1 then m + 2 ^ c else m) 0

/-- A rule fires when both conditions are true. The answer is Ttrig in ps and the code that gave it (R273): the later one where both
carry an instant; where one does, that instant, unless the other condition alone has become true at this tick and so completed the
rule; else the tick, with the code of the condition that completed it (log entry 33). -/
def Dev.ruleFires (d : Dev) (u tk : Nat) (r : Word) (cmp : List Cond) (flags : List Nat) : Option (Nat × Nat) :=
  let c1 := bits r 31 26
  let c2 := bits r 24 19
  let a := Cond.inv (d.condition u tk c1 cmp flags) (bitOf r 25)
  let b := Cond.inv (d.condition u tk c2 cmp flags) (bitOf r 18)
  let aOld := (d.unit u).prev.testBit c1 != bitOf r 25
  let bOld := (d.unit u).prev.testBit c2 != bitOf r 18
  if a.1 && b.1 then
    match a.2, b.2 with
    | some x, some y => if x < y then some (y, c2) else some (x, c1)
    | some x, none => if aOld && !bOld then some (tk * 1000, c2) else some (x, c1)
    | none, some y => if bOld && !aOld then some (tk * 1000, c1) else some (y, c2)
    | none, none => some (tk * 1000, if (aOld && !bOld) || decide (c1 = 0x01) then c2 else c1)
  else none

/-! ### Pods -/

/-- Pods not yet read: WRCNT - RDCNT (R260). -/
def Dev.unread (d : Dev) (u : Nat) : Nat := (d.rd ACQ_WRCNT u - d.rd ACQ_RDCNT u).toNat

/-- KEEP is 1 and every slot holds an unread pod (R261). -/
def Dev.regionFull (d : Dev) (u : Nat) : Bool :=
  d.bit ACQ_RGCFG u 0 && decide ((d.rd ACQ_NSLOT u).toNat ≤ d.unread u)

/-- POSTBUSY of a unit. -/
def Dev.showPost (d : Dev) (u : Nat) (b : Bool) : Dev :=
  if d.faultHolds u then d.setBit ACQ_FLTSTAT 0 1 b else d.setUstat u 9 9 (b2n b)

/-- How long after its stamp a pod's last sample can arrive, in ns: the half window of a mean and the calibration delay of an SDM
channel (R254, R256), a frame and the control path's delay of a tuning channel. -/
def Dev.podLag (d : Dev) (c : UnitCfg) : Nat :=
  c.chans.foldl (fun m ch => max m (match d.chanSrc ch with
    | 0 => (2 ^ c.d - 1) * 1600 + 50 * d.fld SDM_DLY ch 5 0 + 50
    | 1 => 0
    | _ => d.periodNs + 32000)) 0

/-- Every sample of a pod's window has arrived. -/
def Dev.podFull (d : Dev) (p : PodRec) : Bool := decide (p.ends + d.podLag p.cfg ≤ d.acq.lastTick)

/-- A pod is still collecting its post-trigger samples. -/
def Dev.collecting (d : Dev) (p : PodRec) : Bool := !p.aborted && !d.podFull p

/-- A trigger: a pod starts, or TRIGBUSY or ACQ_LOST counts (R261, R272). The simple trigger starts one pod at a time. -/
def Dev.trigger (d : Dev) (u : Nat) (p : PodRec) : Dev :=
  let x := d.unit u
  if !d.faultHolds u && (x.pods.any d.collecting || (d.simple && !x.pods.isEmpty)) then
    if d.simple then d else d.incFld (ACQ_SQSTAT u) 0 31 24
  else if d.regionFull u then (d.inc ACQ_LOST u).ev 0x40 1
  else
    let c := d.unitCfg u
    (d.setUnit u { x with pods := x.pods ++ [{ p with cfg := c, ends := p.ttrig / 1000 + c.post * 3200 * 2 ^ c.d }] }).showPost u true

/-- Disarm now: a pod that is still collecting closes with ABORTED (R265). -/
def Dev.disarmNow (d : Dev) (u : Nat) : Dev :=
  let x := d.unit u
  let pods := x.pods.map (fun p => { p with aborted := p.aborted || d.collecting p })
  let d1 := d.setUnit u { x with armed := false, arming := false, disarming := false, stopping := false, pods }
  ((((d1.setArm u false).setUstat u 8 8 0).setUstat u 3 0 0).when (!d.simple) (fun e => e.setUstat u 19 16 0)).acqShow

/-- Restart the timers of a mask at a tick (R268). -/
def Dev.restartTimers (d : Dev) (u mask tk : Nat) : Dev :=
  let x := d.unit u
  d.setUnit u { x with tmr := (maskList mask 4).foldl (fun m n => kvSet m n tk 0) x.tmr, tmrTrue := x.tmrTrue &&& (15 - mask % 16) }

/-- The entry actions of a state: counter clears and timer restarts (R267). -/
def Dev.enterState (d : Dev) (u st tk : Nat) : Dev :=
  let ent := d.rd (ACQ_STENT u) st
  let d1 := d.each (maskList (bits ent 3 0) 4) (fun n e => e.wr (ACQ_CNT u n) 0 0)
  let x := d1.unit u
  let d2 := d1.setUnit u { x with cntTrue := x.cntTrue &&& (15 - bits ent 3 0) }
  (d2.restartTimers u (bits ent 7 4) tk).setUstat u 3 0 st

/-- Arming takes effect at a tick (R271); a sample of before it is not new to the comparators of modes 4 and 5 (Table 7.4). -/
def Dev.armNow (d : Dev) (u tk : Nat) : Dev :=
  let last := (d.unit u).last
  let seen : KV Nat := (List.range 8).foldl (fun m i =>
    match AcqUnit.newest { last } (bits (d.cmpRegs u i).1 5 0) tk with
    | none => m
    | some s => kvSet m i (s.1 + 1) 0) []
  let x : AcqUnit := { armed := true, last, seen, prev := 2 }
  let d1 := ((d.setUnit u x).restartTimers u 15 tk).setUstat u 8 8 1
  if d.simple then d1
  else
    let d2 := d1.each (List.range 4) (fun n e => e.wr (ACQ_CNT u n) 0 0)
    ((d2.setUstat u 19 16 0).setUstat u 31 24 0).enterState u 0 tk

/-- A sequencer takes a rule (R267 steps 3 and 4). -/
def Dev.takeRule (d : Dev) (u tk : Nat) (r : Word) (ttrig tsrc : Nat) : Dev :=
  let p := u
  let st := d.fld (ACQ_SQSTAT p) 0 3 0
  let d1 := if bitOf r 13 then d.trigger u { ttrig, tsrc, st } else d
  let d2 := d1.each (maskList (bits r 7 4) 4) (fun n e => e.inc (ACQ_CNT p n) 0)
  let d3 := d2.restartTimers u (bits r 3 0) tk
  let d4 := d3.setFld (ACQ_SQSTAT p) 0 19 16 (d3.fld (ACQ_SQSTAT p) 0 19 16 ||| bits r 11 8)
  let d5 := d4.enterState u (bits r 17 14) tk
  if bitOf r 12 then
    if (d5.unit u).pods.isEmpty then d5.disarmNow u else d5.setUnit u { d5.unit u with stopping := true }
  else d5

/-- One firmware unit at a tick (R266, R267); it disarms where the level has left Normal since the last one (R286). -/
def Dev.tickUnit (d : Dev) (tk : Nat) (flags : List Nat) (u : Nat) : Dev :=
  if d.faultHolds u then d
  else
    let x := d.unit u
    if !x.arming && !x.armed then d
    else if x.disarming || d.acq.left || decide (d.level ≠ .normal) then d.disarmNow u
    else if x.arming then d.armNow u tk
    else
      let (cmp, y) := d.compareAll u tk x
      let d1 := d.setUnit u y
      if d.simple then
        let code := d.fld ACQ_STCFG 0 13 8
        let c := Cond.inv (d1.condition u tk code cmp flags) (d.bit ACQ_STCFG 0 14)
        if c.1 then d1.trigger u { ttrig := c.2.getD (tk * 1000), tsrc := code, st := 0 } else d1
      else
        let st := d.fld (ACQ_SQSTAT u) 0 3 0
        let ra := d.rd (ACQ_RULEA u) st
        let rb := d.rd (ACQ_RULEB u) st
        let now := d1.truths u tk cmp flags
        let d2 := match d1.ruleFires u tk ra cmp flags with
          | some f => d1.takeRule u tk ra f.1 f.2
          | none => match d1.ruleFires u tk rb cmp flags with
            | some f => d1.takeRule u tk rb f.1 f.2
            | none => d1
        d2.setUnit u { d2.unit u with prev := now }

/-- A trip at the fault recorder: inside the window of a pod it merges, else it starts one while `run` (R285). -/
def Dev.faultTrip (d : Dev) (u : Nat) (run : Bool) (e : Nat × Nat) : Dev :=
  let x := d.unit u
  let inside (p : PodRec) : Bool := !p.aborted && decide (e.1 < p.ends)
  if x.pods.any inside then
    d.setUnit u { x with pods := x.pods.map (fun p =>
      if inside p then { p with tripset := p.tripset ||| 2 ^ e.2, merged := min (p.merged + 1) 65535 } else p) }
  else if run then d.trigger u { ttrig := e.1 * 1000, tsrc := 0x3F, st := 0, fault := true, tripset := 2 ^ e.2 }
  else d

/-- The fault recorder at a tick: it runs in Normal, and stops after it once no pod is open; every trip stamped up to the tick acts
(R282, R285, R286). -/
def Dev.tickFault (d : Dev) (tk : Nat) : Dev :=
  let u := d.faultUnit
  if !d.faultHolds u then d
  else
    let x := d.unit u
    let run := decide (d.level = .normal) && !d.acq.left
    let d1 :=
      if run && !x.running then
        (((d.layRegion u).setUnit u { (d.unit u) with running := true, armed := false, arming := false, hist := [] }).setBit
          ACQ_FLTSTAT 0 0 true).acqShow
      else if !run && x.running && x.pods.isEmpty then
        ((d.setUnit u { x with running := false, hist := [] }).setBit ACQ_FLTSTAT 0 0 false).acqShow
      else d
    if !(d1.unit u).running then d1
    else d1.each (d1.acq.trips.filter (fun e => decide (e.1 ≤ tk))) (fun e z => z.faultTrip u run e)

/-! ### Samples -/

/-- A capture sample clamped as R257 states. -/
def clampCap (x : Int) : Int := clampI x (-32767) 32767

/-- The oldest stamp a unit has to keep: PRE samples before the present tick, or before the oldest pod not closed. -/
def Dev.keepFrom (d : Dev) (u tk : Nat) : Nat :=
  let c := d.unitCfg u
  let t := (d.unit u).pods.foldl (fun m p => min m (p.ttrig / 1000)) tk
  t - (c.pre * 3200 * 2 ^ c.d + 3200 * 2 ^ (c.d + 2) + 10000)

/-- A sample of a channel reaches a unit at tick tk: the newest one of its comparators up to the tick and what comes after it, and
the history where the unit records the channel (R261, R270). -/
def Dev.addSample (d : Dev) (u tk ch stamp : Nat) (v : Option Int) : Dev :=
  let x := d.unit u
  let all := kvGet x.last ch [] ++ [(stamp, v)]
  let old := ((all.filter (fun s => decide (s.1 ≤ tk))).getLast?).toList
  let y := { x with last := kvSet x.last ch (old ++ all.filter (fun s => decide (tk < s.1))) [] }
  if (x.armed ∨ x.running) ∧ (d.unitCfg u).mask.testBit ch ∧ ¬ (d.regionFull u ∧ x.pods.isEmpty) then
    let from' := d.keepFrom u tk
    let l := (kvGet x.hist ch []).filter (fun s => decide (from' ≤ s.1)) ++ [(stamp, v)]
    d.setUnit u { y with hist := kvSet y.hist ch l [] }
  else d.setUnit u y

/-- The stamp of a capture sample of D = dv completed at tick tk: the middle of its window, less the channel's calibration delay,
rounded as R111 rounds (R254, R256). -/
def Dev.captureStamp (d : Dev) (tk dv ch : Nat) : Nat :=
  ns64 (64 * (tk - (2 ^ dv - 1) * 1600) - d.fld SDM_DLY ch 5 0 * 3200 - d.fld SDM_DLY ch 12 8 * 100)

/-- The sums of four fast-trip samples of the ticks up to this one (R254); a channel that is disabled, STUCK or settling gives none
(R257). -/
def Dev.addSums (d : Dev) (sdm : List Stream) : Dev :=
  d.each (List.range d.variant.sdInputs) (fun c e =>
    let v := if e.sdmLive c then some (fastSum (e.bit SDM_CHCFG c 1) (e.fld SDM_DLY c 5 0) 4 (sdm.getD c none)) else none
    { e with acq := { e.acq with sums := kvSet e.acq.sums c ((v :: kvGet e.acq.sums c []).take 128) [] } })

/-- The capture sample of an SDM channel that a tick completes for a unit: the mean of 4 * 2^D fast-trip samples (R254), clamped
(R257). A fine delay is an interpolation after decimation whose coefficients the spec does not give: that value is free (R255). -/
def Dev.addSdm (d : Dev) (u tk tick ch : Nat) : Dev :=
  let dv := (d.unitCfg u).d
  let l := (kvGet d.acq.sums ch []).take (2 ^ dv)
  if (tick + 1) % 2 ^ dv = 0 ∧ l.length = 2 ^ dv then
    let stamp := d.captureStamp tk dv ch
    if l.any Option.isNone then d.addSample u tk ch stamp none
    else if d.fld SDM_DLY ch 12 8 = 0 then
      d.addSample u tk ch stamp (some (clampCap (rneDiv (l.foldl (fun s x => s + x.getD 0) 0) (4 * 2 ^ dv))))
    else
      let (w, d1) := d.free 255
      d1.addSample u tk ch stamp (some (clampCap (sext (bits w 15 0) 16)))
  else d

/-- A pilot port senses: present, on, and its island running (R257). -/
def Dev.pilotSenses (d : Dev) (n : Nat) : Bool := decide (n < d.variant.outlets) && d.up .link && d.bit PIL_PCFG n 31

/-- The samples of a tick: the streams of the SDM channels, pilot samples with their stamps, and the tuning samples in waiting
(R253-R258). -/
def Dev.tickSamples (d : Dev) (tk : Nat) (sdm : List Stream) (pilot : List (Nat × Nat × Option Int)) : Dev :=
  let n := d.acq.ticks
  let d0 := d.addSums sdm
  let d1 := d0.each d0.unitsL (fun u e =>
    let e1 := e.each (List.range e.variant.sdInputs) (fun c z => z.addSdm u tk n c)
    let sel := (List.range (e.variant.acqChannels - e.variant.sdInputs)).map (fun k => e.variant.sdInputs + k)
    e1.each sel (fun c z =>
      match z.chanSrc c with
      | 1 => z.each (pilot.filter (fun p => decide (p.1 = z.fld ACQ_CHCFG c 11 8)))
          (fun p w => w.addSample u tk c p.2.1 (if w.pilotSenses p.1 then p.2.2.map clampCap else none))
      | k => z.each z.acq.tun (fun t w => w.addSample u tk c t.1 (some ((if k = 2 then t.2.1 else t.2.2).toNat)))))
  { d1 with acq := { d1.acq with ticks := n + 1, lastTick := tk, tun := [] } }

/-- A capture tick is due: they are 3.2 µs apart (R266). -/
def Dev.tickDue (d : Dev) (tk : Nat) : Bool := d.up .acquisition && (decide (d.acq.ticks = 0) || decide (d.acq.lastTick + 3200 ≤ tk))

/-- A capture tick (R266, R267, R269): samples, the firmware units in order, the fault recorder; the events, trips and software
triggers of the tick are then spent. -/
def Dev.captureTick (d : Dev) (tk : Nat) (sdm : List Stream) (pilot : List (Nat × Nat × Option Int)) : Dev :=
  if d.tickDue tk then
    let d1 := d.tickSamples tk sdm pilot
    let flags := (List.range 4).map (fun u => d1.fld (ACQ_SQSTAT u) 0 19 16)
    let d2 := d1.each d1.unitsL (fun u e => e.tickUnit tk flags u)
    let d3 := d2.tickFault tk
    { d3 with acq := { d3.acq with events := d3.acq.events.filter (fun e => decide (tk * 1000 < e.2)), sw := 0, left := false
                                   trips := d3.acq.trips.filter (fun e => decide (tk < e.1)) } }
  else d

/-- A timer's or a counter's condition becomes true (R268). -/
def Dev.timerExpiry (d : Dev) (u n : Nat) : Dev :=
  let x := d.unit u
  if x.armed && !d.simple && d.timerDue u n d.time then d.setUnit u { x with tmrTrue := x.tmrTrue ||| 2 ^ n } else d

/-- The same for a counter. -/
def Dev.counterLimit (d : Dev) (u n : Nat) : Dev :=
  let x := d.unit u
  if x.armed && !d.simple && d.counterDue u n then d.setUnit u { x with cntTrue := x.cntTrue ||| 2 ^ n } else d

/-- An edge on an ACQTRG pin: its polarity selected and its pulse not shorter than 10 ns, it is stamped in steps of 40 ps
(R274). -/
def Dev.pinEdge (d : Dev) (pin : Nat) (rising : Bool) (stampPs widthPs : Nat) : Dev :=
  let sel := d.fld ACQ_PINCFG 0 (2 * pin + 1) (2 * pin)
  if d.up .acquisition && decide (pin < 4) && decide (10000 ≤ widthPs) && sel.testBit (if rising then 0 else 1) then
    { d with acq := { d.acq with events := d.acq.events ++ [(0x0A + pin, stampPs / 40 * 40)] } }
  else d

/-- ACQ_SWTRG (Table 7.8). -/
def Dev.swTrigger (d : Dev) (v : Word) : Dev := { d with acq := { d.acq with sw := d.acq.sw ||| bits v 3 0 } }

/-- A write to ACQ_RDCNT; history restarts when a full region frees a slot (R260, R261). -/
def Dev.readReport (d : Dev) (u : Nat) (v : Word) : Dev :=
  let d1 := d.wr ACQ_RDCNT u v
  if d.regionFull u && !d1.regionFull u then d1.setUnit u { d1.unit u with hist := [] } else d1

/-! ### Measurements (R278) -/

/-- The integer square root, bit by bit from 2^k down. -/
def isqrtAux : Nat → Nat → Nat → Nat
  | 0, _, r => r
  | k + 1, n, r => if (r + 2 ^ k) * (r + 2 ^ k) ≤ n then isqrtAux k n (r + 2 ^ k) else isqrtAux k n r

/-- floor (sqrt n) for n below 2^80. -/
def isqrt (n : Nat) : Nat := isqrtAux 40 n 0

/-- A crossing of a level between two samples, as a fraction of ns; x and l are in tenths of a unit. -/
def crossing (a b : Nat × Int) (l : Int) : Int × Nat :=
  let dx := b.2 - a.2
  ((a.1 : Int) * dx.natAbs + (l - a.2).natAbs * ((b.1 : Int) - a.1), dx.natAbs)

/-- The difference of two fractions. -/
def fracSub (a b : Int × Nat) : Int × Nat := fracAdd a (-b.1, b.2)

/-- Adjacent pairs. -/
def pairs {α : Type} : List α → List (α × α)
  | a :: b :: r => (a, b) :: pairs (b :: r)
  | _ => []

/-- The upward (or downward) crossings of a level, with the index of the pair. -/
def crossings (ps : List ((Nat × Int) × (Nat × Int))) (l : Int) (upw : Bool) : List (Int × Nat) :=
  ps.filterMap (fun p =>
    if (if upw then decide (p.1.2 < l ∧ l ≤ p.2.2) else decide (l < p.1.2 ∧ p.2.2 ≤ l)) then some (crossing p.1 p.2 l) else none)

/-- Fraction a < b. -/
def fracLt (a b : Int × Nat) : Bool := decide (a.1 * (b.2 : Int) < b.1 * (a.2 : Int))

/-- The counted upward crossings of L50: each only if the signal has been at or below L10 since the one before (Table
7.7). -/
def counted (ps : List ((Nat × Int) × (Nat × Int))) (l10 l50 : Int) : List (Int × Nat) :=
  (ps.foldl (fun (s : List (Int × Nat) × Bool) p =>
    let low := s.2 || decide (p.1.2 ≤ l10)
    if low && decide (p.1.2 < l50 ∧ l50 ≤ p.2.2) then (s.1 ++ [crossing p.1 p.2 l50], false) else (s.1, low)) ([], false)).1

/-- The time from the first crossing of one level to the next of another, rounded to ns. -/
def edgeTime (first second : List (Int × Nat)) : Option Nat :=
  match first with
  | [] => none
  | a :: _ => match second.find? (fun b => !fracLt b a) with
    | none => none
    | some b => let x := fracSub b a; some (rneDiv x.1 x.2).toNat

/-- The measurement fields of a pea (Table 7.7): PP, MIN, MAX, MEAN, RMS, PERIOD, FREQ, RISE, FALL, AREA, PFLAGS bits. -/
structure Meas where
  pp : Nat := 0
  min' : Int := 0
  max' : Int := 0
  mean : Int := 0
  rms : Nat := 0
  period : Nat := 0
  freq : Nat := 0
  rise : Nat := 0
  fall : Nat := 0
  area : Int := 0
  flags : Nat := 0

/-- A pea without a valid sample: Table 7.7 gives MIN, MAX, MEAN and RMS no value there, and they are free; no period and no edge is
found, and the empty sum is 0. -/
def noMeas (fw : Nat → Word) : Meas :=
  let lo := sext (bits (fw 0) 15 0) 16
  let hi := sext (bits (fw 0) 31 16) 16
  { pp := (hi - lo).natAbs, min' := lo, max' := hi, mean := sext (fw 1).toNat 32, rms := (fw 2).toNat
    flags := 14 + 256 * b2n (decide (hi = lo)) }

/-- Measure the valid samples of an SDM or pilot pea (R278). -/
def measure (xs : List (Nat × Int)) (ts : Nat) (fw : Nat → Word) : Meas :=
  match xs with
  | [] => noMeas fw
  | x0 :: _ =>
    let n := xs.length
    let lo := xs.foldl (fun m x => min m x.2) x0.2
    let hi := xs.foldl (fun m x => max m x.2) x0.2
    let pp := (hi - lo).natAbs
    let sum := xs.foldl (fun s x => s + x.2) 0
    let sq := xs.foldl (fun s x => s + x.2 * x.2) 0
    let flat := decide (pp = 0)
    let ps := pairs (xs.map (fun x => (x.1, x.2 * 10)))
    let l10 := lo * 10 + pp
    let l50 := lo * 10 + 5 * pp
    let l90 := lo * 10 + 9 * pp
    let cs := counted ps l10 l50
    let per := if flat then 0 else match cs with
      | [] => 0
      | a :: r => match r.getLast? with
        | none => 0
        | some b => let x := fracSub b a; (rneDiv x.1 (x.2 * r.length)).toNat
    let rise := if flat then none else edgeTime (crossings ps l10 true) (crossings ps l90 true)
    let fall := if flat then none else edgeTime (crossings ps l90 false) (crossings ps l10 false)
    { pp, min' := lo, max' := hi, mean := rneDiv (256 * sum) n
      rms := (isqrt (4 * 65536 * sq.natAbs / n) + 1) / 2
      period := per, freq := if per = 0 then 0 else (rneDiv 1000000000000 per).toNat
      rise := rise.getD 0, fall := fall.getD 0, area := sum * ts
      flags := 2 * b2n (decide (per = 0)) + 4 * b2n rise.isNone + 8 * b2n fall.isNone + 256 * b2n flat }

/-! ### The pod in memory (R277) -/

/-- The samples of a pea: stamps in [Ttrig - PRE, Ttrig + POST) (R275). -/
def Dev.peaSamples (d : Dev) (u ch : Nat) (p : PodRec) : List (Nat × Option Int) :=
  let lo : Int := (p.ttrig : Int) - (p.cfg.pre * 3200000 * 2 ^ p.cfg.d : Nat)
  let hi := p.ttrig + p.cfg.post * 3200000 * 2 ^ p.cfg.d
  (kvGet (d.unit u).hist ch []).filter (fun s => decide (lo ≤ (s.1 * 1000 : Nat)) && decide (s.1 * 1000 < hi))

/-- The history did not reach back to the start of the window: a sample of spacing ts would stand before the first one (R276). -/
def preshort (p : PodRec) (ts : Nat) (ss : List (Nat × Option Int)) : Bool :=
  let span := p.cfg.pre * 3200000 * 2 ^ p.cfg.d
  match ss with
  | [] => decide (ts * 1000 ≤ span)
  | s :: _ => decide (0 < p.cfg.pre) && decide (p.ttrig + ts * 1000 ≤ s.1 * 1000 + span)

/-- A pea: header of Table 7.6 and samples, zero-padded to 64 bytes. TRIGIDX and TRIGFRAC of a pea without a sample at or after Ttrig,
or with one further away than the field holds, are free. -/
def Dev.peaBytes (d : Dev) (u ch : Nat) (p : PodRec) (fw : Nat → Word) : List Byte :=
  let src := d.chanSrc ch
  let ss := d.peaSamples u ch p
  let ts := d.chanTs p.cfg.d ch
  let w := d.peaWidth ch
  let fv := fw 3
  let idx := (ss.filter (fun s => decide (s.1 * 1000 < p.ttrig))).length
  let at' := ss[idx]?
  let trigidx := if at'.isSome then idx else fv.toNat % 65536
  let frac := match at' with
    | none => fv.toNat / 65536
    | some s =>
      let x := (rneDiv (65536 * ((s.1 * 1000 : Nat) - (p.ttrig : Int))) (ts * 1000)).toNat
      if x < 65536 then x else fv.toNat / 65536
  let valid := ss.filterMap (fun s => s.2.map (fun v => (s.1, v)))
  let m : Meas := if src = 2 ∨ src = 3 then { flags := 16 } else if ss.isEmpty then {} else measure valid ts fw
  let fl := m.flags ||| (b2n (preshort p ts ss) + 32 * b2n (decide (src < 2) && decide (valid.length < ss.length)) + 64 * b2n p.aborted +
    128 * b2n ss.isEmpty)
  let sidx := if src = 0 then ch else if src = 1 then d.fld ACQ_CHCFG ch 11 8 else d.tunCtx
  let head := [w8 ch, w8 src, w8 sidx, w8 w] ++ leBytes 2 ss.length ++ leBytes 2 trigidx ++ leBytes 2 frac ++ leBytes 2 fl ++
    leBytes 4 m.pp ++ leBytes 8 ((ss.map (fun s => s.1)).headD 0) ++ leBytes 4 (twos m.min' 32) ++ leBytes 4 (twos m.max' 32) ++
    leBytes 4 (twos m.mean 32) ++ leBytes 4 m.rms ++ leBytes 4 m.period ++ leBytes 4 m.freq ++ leBytes 4 m.rise ++
    leBytes 4 m.fall ++ leBytes 8 (twos m.area 64)
  let data := ss.flatMap (fun s => leBytes w (twos (s.2.getD (-32768)) (8 * w)))
  let body := head ++ data
  body ++ List.replicate (roundup64 body.length - body.length) 0

/-- A pod's bytes: header of Table 7.5, peas in ascending channel order, and the CRC over both. `fw` gives what the spec leaves open,
four words to a channel. -/
def Dev.podBytes (d : Dev) (u : Nat) (p : PodRec) (fw : Nat → Word) : List Byte :=
  let c := p.cfg
  let peas := c.chans.map (fun ch => d.peaBytes u ch p (fun k => fw (4 * ch + k)))
  let short := peas.any (fun b => (b.getD 10 0).toNat.testBit 0)
  let flags := b2n p.aborted + 2 * b2n short + 4 * b2n p.fault + 8 * b2n (decide (0 < p.merged))
  let head := leBytes 2 0x7E50 ++ [w8 u, w8 peas.length] ++ leBytes 4 (d.rd ACQ_WRCNT u).toNat ++ leBytes 8 (p.ttrig / 1000) ++
    leBytes 2 (p.ttrig % 1000) ++ [w8 p.tsrc, w8 p.st] ++ leBytes 2 flags ++ [w8 c.d, 0] ++ leBytes 2 c.pre ++ leBytes 2 c.post ++
    leBytes 4 p.tripset ++ leBytes 2 p.merged ++ [0, 0] ++ leBytes 4 (d.rd ACQ_SLOTSZ u).toNat ++ leBytes 8 d.time ++
    List.replicate 12 0
  let body := peas.flatten
  head ++ leBytes 4 (crc32 (head ++ body)) ++ body

/-- The pod of a unit that may close: its oldest one, once its last sample has arrived or it was aborted (R265, R279). -/
def Dev.podDue (d : Dev) (u : Nat) : Option PodRec :=
  match (d.unit u).pods with
  | [] => none
  | p :: _ => if d.collecting p then none else some p

/-- Where a unit's next pod goes (R260). -/
def Dev.podAddr (d : Dev) (u : Nat) : Nat :=
  let n := max 1 (d.rd ACQ_NSLOT u).toNat
  0x10000000 + (d.regionOf u).1 + (d.rd ACQ_WRCNT u).toNat % n * (d.rd ACQ_SLOTSZ u).toNat

/-- A unit's oldest pod is no longer open: POSTBUSY falls with the last one, a stopping unit disarms, and so does the simple trigger
without CONT (R265, Table 7.8). -/
def Dev.podGone (d : Dev) (u : Nat) : Dev :=
  let x := d.unit u
  let rest := x.pods.drop 1
  let d1 := (d.setUnit u { x with pods := rest }).when rest.isEmpty (fun e => e.showPost u false)
  if d1.faultHolds u || !rest.isEmpty then d1
  else if x.stopping || (d1.simple && x.armed && !d1.bit ACQ_STCFG 0 1) then d1.disarmNow u
  else if d1.simple then d1.setUnit u { d1.unit u with hyst := 0 }
  else d1

/-- The registers after a pod has closed (R260, R261, R265, R279, R282). -/
def Dev.podClosed (d : Dev) (u : Nat) (p : PodRec) : Dev :=
  let d0 := if !d.bit ACQ_RGCFG u 0 && decide ((d.rd ACQ_NSLOT u).toNat ≤ d.unread u)
    then d.wr ACQ_RDCNT u (d.rd ACQ_RDCNT u + 1) else d
  let d1 := (d0.wr ACQ_WRCNT u (d0.rd ACQ_WRCNT u + 1)).ev 0x40 0
  (if p.fault then (d1.incFld ACQ_FLTSTAT 0 31 16).ev 0x40 3 else d1).podGone u

/-- A unit's oldest pod is written and its registers follow; with KEEP 1 and every slot unread none is written, and it counts in
ACQ_LOST (R261). -/
def Sys.closeOne (s : Sys) (u : Nat) : Sys :=
  match (s.dev.unit u).pods with
  | [] => s
  | p :: _ =>
    if s.dev.regionFull u then s.onDev (fun d => ((d.inc ACQ_LOST u).ev 0x40 1).podGone u)
    else
      let d1 := { s.dev with fresh := s.dev.fresh + 192 }
      ({ s with dev := d1 }.store (d1.podAddr u) (d1.podBytes u p (fun k => Config.freeWord 279 (s.dev.fresh + k)))).onDev
        (fun d => d.podClosed u p)

/-- POD_CLOSE: at t a unit's pod that is due is written and its registers follow (R265, R277, R279). -/
def Sys.podClose (s : Sys) (t u : Nat) : Sys :=
  let s0 := s.onDev (fun d => d.at t)
  if (s0.dev.podDue u).isSome then s0.closeOne u else s0

/-- Close every pod of the units that a condition names. -/
def Sys.closePods (s : Sys) (sel : Dev → Nat → Bool) : Sys :=
  s.dev.unitsL.foldl (fun s1 u => if sel s1.dev u then (s1.dev.unit u).pods.foldl (fun s2 _ => s2.closeOne u) s1 else s1) s

/-- CAPTURE_TICK: the tick at t, and the pods of the units it has disarmed close (R265, R286). -/
def Sys.captureTick (s : Sys) (t : Nat) (sdm : List Stream) (pilot : List (Nat × Nat × Option Int)) : Sys :=
  (s.onDev (fun d => (d.at t).captureTick t sdm pilot)).closePods (fun d u => !(d.unit u).armed && !(d.unit u).running)

/-- Standby entry closes any pod still open, a collecting one with ABORTED (R286). -/
def Sys.abortPods (s : Sys) : Sys :=
  (s.onDev (fun d => d.each d.unitsL (fun u e =>
    let x := e.unit u
    e.setUnit u { x with pods := x.pods.map (fun p => { p with aborted := p.aborted || e.collecting p }) }))).closePods (fun _ _ => true)

/-- Writes to the settings of an armed unit, or of one the fault recorder holds, have no effect and are recorded with
KIND 7 (R264, R281). -/
def Dev.acqFrozen (d : Dev) (page off inst : Nat) : Bool :=
  let busy (u : Nat) : Bool := d.unitActive u || d.faultHolds u
  if 0x42 ≤ page ∧ page ≤ 0x45 then decide (0x040 ≤ off) && busy (page - 0x42)
  else if page = 0x47 then decide (0x040 ≤ off) && busy 0
  else if page = 0x41 then (decide (off = 0x400) || decide (off = 0x404) || decide (off = 0x408)) && d.unitActive inst
  else if page = 0x40 ∧ off = 0x400 then d.unitsL.any (fun u => d.unitActive u && (d.unitCfg u).mask.testBit inst)
  else false

end Sys2Proof.Machine
end

