-- ==== Sys2Proof/Machine/Pilot.lean ====
section
/-! DEFINITION. Pilot generators (spec/13_vehicle_and_field_links.md, R530-R532, R538, R539). -/
namespace Sys2Proof.Machine

/-- A port's working state. -/
def Dev.pil (d : Dev) (n : Nat) : PilRec := kvGet d.ports.pil n {}
/-- Replace it. -/
def Dev.setPil (d : Dev) (n : Nat) (x : PilRec) : Dev := { d with ports := { d.ports with pil := kvSet d.ports.pil n x {} } }

/-! ### The generator -/

/-- FREQ held to its limits (R531). -/
def Dev.pilFreq (d : Dev) (n : Nat) : Nat := clampN (d.fld PIL_PCTL n 10 0) 500 2000
/-- DUTY, at most 1,000 (Table 13.5). -/
def Dev.pilDuty (d : Dev) (n : Nat) : Nat := min 1000 (d.fld PIL_PCTL n 25 16)

/-- Values whose rising edge has come are in force (R532). -/
def PilRec.settle (x : PilRec) (now : Nat) : PilRec :=
  match x.next with
  | some (f, y, at') => if at' ≤ now then { x with freq := f, duty := y, edgeAt := at', next := none } else x
  | none => x

/-- The next rising edge after an instant, in ns rounded up. -/
def PilRec.nextEdge (x : PilRec) (now : Nat) : Nat :=
  x.edgeAt + (((now - x.edgeAt) * x.freq / 1000000000 + 1) * 1000000000 + x.freq - 1) / x.freq

/-- The output follows PIL_PCTL: PWM values at the next rising edge, a change of mode at once, a change to PWM with a
rising edge (R531, R532). -/
def Dev.pilGenerate (d : Dev) (n : Nat) : Dev :=
  let x := (d.pil n).settle d.time
  let m := d.fld PIL_PCTL n 31 30
  if m = 3 then
    if x.mode = 3 then d.setPil n { x with next := some (d.pilFreq n, d.pilDuty n, x.nextEdge d.time) }
    else d.setPil n { x with mode := 3, freq := d.pilFreq n, duty := d.pilDuty n, edgeAt := d.time, next := none }
  else d.setPil n { x with mode := m, next := none }

/-- PILOT_GENERATOR_WRITE: a write to PIL_PCTL. -/
def Dev.pilotWrite (d : Dev) (i : Initiator) (v : Word) : Dev :=
  d.gated i PIL_PCTL v (fun n e => (e.fieldsWrite i 0x6C 0x404 n false v).pilGenerate n)

/-- What PILn_DRV shows, as GMODE, FREQ and DUTY: high impedance with EN 0, in reset (R539) and
but for the ACTIVE device of a pair (Table 18.4), SBYLVL in Standby (R538). -/
def Dev.pilotOut (d : Dev) (n : Nat) : Nat × Nat × Nat :=
  let x := (d.pil n).settle d.time
  if !d.bit PIL_PCFG n 31 || !d.master || decide (d.pwr.phase ≠ .running) || decide (d.islStat .link = 1 ∨ d.islStat .link = 2) then (0, 0, 0)
  else if d.level = .standby then (if d.fld PIL_PCFG n 1 0 = 3 then 1 else d.fld PIL_PCFG n 1 0, 0, 0)
  else if x.mode = 3 then (3, x.freq, x.duty) else (x.mode, 0, 0)

/-- A write to PIL_PCFG: at a port's enable STATE reads 7 until the first acceptance (R536). -/
def Dev.pilEnabled (d : Dev) (n : Nat) (was : Bool) : Dev :=
  if d.bit PIL_PCFG n 31 && !was then
    ((d.setFld PIL_PSTAT n 2 0 7).setPil n { d.pil n with cls := 7, runLen := 0, mode := 0, next := none }).pilGenerate n
  else d

/-- At Standby exit each generator resumes the output that PIL_PCTL holds: PWM starts with a rising edge (R538). -/
def Dev.pilResume (d : Dev) : Dev :=
  d.each (List.range d.variant.outlets) (fun n e => (e.setPil n { e.pil n with mode := 0, next := none }).pilGenerate n)

end Sys2Proof.Machine
end

