-- ==== Sys2Proof/Machine/Plc.lean ====
section
/-! DEFINITION. Site power-line modems (spec/14_site_powerline.md, R560-R583). -/
namespace Sys2Proof.Machine

/-- A modem's working state. -/
def Dev.plm (d : Dev) (m : Nat) : PlcModem := kvGet d.plc.modem m {}
/-- Replace it. -/
def Dev.setPlm (d : Dev) (m : Nat) (x : PlcModem) : Dev := { d with plc := { d.plc with modem := kvSet d.plc.modem m x {} } }
/-- A slave's working state. -/
def Dev.pls (d : Dev) (s : Nat) : PlcSlave := kvGet d.plc.slave s {}
/-- Replace it. -/
def Dev.setPls (d : Dev) (s : Nat) (x : PlcSlave) : Dev := { d with plc := { d.plc with slave := kvSet d.plc.slave s x {} } }

/-- A modem runs: present, enabled, not in Standby (R560, R581), and only an ACTIVE or single device polls (R717). -/
def Dev.plmOn (d : Dev) (m : Nat) : Bool :=
  d.master && decide (m < d.variant.modems) && d.up .link && decide (d.level ≠ .standby) && d.bit PLM_MCFG m 31

/-- The profile is Cool (Table 1.8). -/
def Dev.cool (d : Dev) : Bool := decide (d.profile = 2)

/-- The slaves present. -/
def Dev.plcSlaves (d : Dev) : List Nat := List.range (32 * d.variant.modems)

/-- A slave is enabled. -/
def Dev.plcEn (d : Dev) (s : Nat) : Bool := d.bit PLM_SCFG s 31

/-- The first enabled slave of a modem at or after index s. -/
def Dev.nextSlave (d : Dev) (m s : Nat) : Option Nat :=
  ((List.range 32).map (fun k => 32 * m + k)).find? (fun x => decide (s ≤ x) && d.plcEn x)

/-! ### Modes -/

/-- The slave's present mode: 0 NORMAL, 1 ROBUST, 2 SUPER. -/
def Dev.plcMode (d : Dev) (s : Nat) : Nat := d.fld PLM_SSTAT s 1 0

/-- A present mode with both counts at 0. -/
def Dev.plcSetMode (d : Dev) (s mode : Nat) : Dev := (d.setFld PLM_SSTAT s 1 0 mode).setFld PLM_SSTAT s 23 8 0

/-- STARTMODE, 3 acting as 2; ROBUST in Cool (R575). -/
def Dev.plcStart (d : Dev) (s : Nat) : Nat := if d.cool then 1 else min 2 (d.fld PLM_SCFG s 1 0)

/-- A change of profile: in Cool every slave's mode is ROBUST and both counts are 0 (R36, R575). -/
def Dev.plcProfile (d : Dev) (sel : Nat) : Dev :=
  let d1 := d.each (List.range d.variant.modems) (fun m e => e.setBit PLM_MSTAT m 10 (decide (sel = 2)))
  if sel = 2 then d1.each d1.plcSlaves (fun s e => e.plcSetMode s 1) else d1

/-- MODE_STEP after an attempt (R574). -/
def Dev.modeStep (d : Dev) (s : Nat) (ok : Bool) : Dev :=
  if d.cool then d
  else
    let m := s / 32
    if ok then
      let c := d.fld PLM_SSTAT s 23 16 + 1
      let d1 := d.setFld PLM_SSTAT s 15 8 0
      if max 1 (d.fld PLM_MSTEP m 31 24) ≤ c ∧ d.plcMode s ≠ 0 then (d1.plcSetMode s (d.plcMode s - 1)).ev 0x72 4
      else d1.setFld PLM_SSTAT s 23 16 (min 255 c)
    else
      let c := d.fld PLM_SSTAT s 15 8 + 1
      let d1 := d.setFld PLM_SSTAT s 23 16 0
      if max 1 (d.fld PLM_MSTEP m 19 16) ≤ c ∧ d.plcMode s < 2 then (d1.plcSetMode s (d.plcMode s + 1)).ev 0x72 4
      else d1.setFld PLM_SSTAT s 15 8 (min 255 c)

/-! ### Rounds and attempts -/

/-- POLLPER in ns, held to its limits. -/
def Dev.pollPer (d : Dev) (m : Nat) : Nat := clampN (d.fld PLM_MTIM m 26 16) 50 2000 * 1000000

/-- PLM_MSTAT shows the slave being polled and whether a round runs. -/
def Dev.plmShow (d : Dev) (m : Nat) : Dev :=
  let x := d.plm m
  (d.setFld PLM_MSTAT m 5 0 (if x.inRound then x.cur else 0)).setBit PLM_MSTAT m 8 x.inRound

/-- A round longer than POLLPER sets ROUNDLATE (R566). -/
def Dev.roundLate (d : Dev) (m : Nat) : Dev :=
  match (d.plm m).roundAt with
  | some r =>
    if r + d.pollPer m < d.time ∧ !(d.plm m).late then ((d.setPlm m { d.plm m with late := true }).setBit PLM_MSTAT m 9 true).ev 0x72 5 else d
  | none => d

/-- The poll of the next enabled slave at or after s, or the end of the round. -/
def Dev.pollFrom (d : Dev) (m s : Nat) : Dev :=
  match d.nextSlave m s with
  | some x => (d.setPlm m { d.plm m with cur := x, tries := 0, attempt := none }).plmShow m
  | none =>
    let d1 := d.setPlm m { d.plm m with inRound := false, attempt := none }
    (d1.setFld PLM_MSTAT m 31 16 (d1.fld PLM_MSTAT m 31 16 + 1)).plmShow m

/-- POLL_ROUND_START: the previous round has ended, and POLLPER has passed since it started (R566). -/
def Dev.pollRoundStart (d : Dev) (t m : Nat) : Dev :=
  let d0 := d.at t
  let x := d0.plm m
  let due : Bool := match x.roundAt with | none => true | some r => decide (r + d0.pollPer m ≤ t)
  if d0.plmOn m && !x.inRound && due then (d0.setPlm m { x with roundAt := some t, inRound := true, late := false }).pollFrom m (32 * m) else d0

/-- The payload bits per symbol of Table 14.2, doubled. -/
def Dev.plcB2 (d : Dev) (s : Nat) : Nat :=
  let b := match d.plcMode s with
    | 0 => if d.bit PLM_SCFG s 8 then 72 else 36
    | 1 => 9
    | _ => 6
  if d.bit PLM_MCFG (s / 32) 24 then 2 * b else b

/-- The length in ns of a frame with L payload bytes (R563). -/
def Dev.plcDur (d : Dev) (s l : Nat) : Nat :=
  let b2 := d.plcB2 s
  let sym := if d.bit PLM_MCFG (s / 32) 24 then 231700 else 695000
  (45 + 2 * ((16 * (32 + l) + b2 - 1) / b2)) * sym / 2

/-- A POLL (Table 14.3). -/
def Dev.pollFrame (d : Dev) (s : Nat) (newdl : Bool) (payload : List Byte) : List Byte :=
  let h := leBytes 1 1 ++ leBytes 1 (d.fld PLM_SCFG s 23 16) ++ leBytes 2 (d.fld PLM_MCFG (s / 32) 15 0) ++
    leBytes 1 (d.fld PLM_SSEQ s 7 0) ++ leBytes 1 (b2n newdl) ++ leBytes 1 payload.length ++ List.replicate 5 0 ++ payload
  h ++ leBytes 4 (crc32 h)

/-- A slave disabled between two attempts of its poll is not polled again: the round goes on with the next one (R572). -/
def Dev.skipDisabled (d : Dev) (m : Nat) : Dev :=
  let x := d.plm m
  if d.plmOn m && x.inRound && x.attempt.isNone && !d.plcEn x.cur then d.pollFrom m (x.cur + 1) else d

/-- POLL_ATTEMPT: the master sends a POLL; the first attempt of a poll fixes its bytes, and the first poll of a SEQ its
payload (R567-R569). -/
def Dev.pollAttempt (d : Dev) (t m : Nat) : Dev :=
  let d0 := (d.at t).skipDisabled m
  let x := d0.plm m
  if !(d0.plmOn m && x.inRound && x.attempt.isNone && decide (x.freeAt ≤ t)) then d0
  else
    let s := x.cur
    let y := d0.pls s
    let (f, y1) : (Bool × List Byte) × PlcSlave := match y.frame with
      | some f => (f, y)
      | none =>
        let f := match y.pushed with | some p => (true, p) | none => (false, [])
        (f, { y with frame := some f, pushed := none })
    let y2 := if x.tries = 0 then { y1 with bytes := d0.pollFrame s f.1 f.2 } else y1
    (d0.setPls s y2).setPlm m { x with tries := x.tries + 1, attempt := some { slave := s, tpoll := t, txEnd := t + d0.plcDur s (y2.bytes.length - 16) } }

/-- The end of an attempt: counts, mode, and what comes next (R567, R572, R574). -/
def Dev.attemptDone (d : Dev) (m s : Nat) (ok : Bool) : Dev :=
  let d1 := if ok then d else (d.incFld PLM_MCNT m 31 16).incFld PLM_SCNT s 15 0
  let d2 := (d1.modeStep s ok).roundLate m
  let x := d2.plm m
  let d3 := d2.setPlm m { x with attempt := none, freeAt := d2.time + 2000000 }
  if ok then d3.pollFrom m (s + 1)
  else if !d3.plcEn s then d3.pollFrom m (s + 1)
  else if d3.fld PLM_MSTEP m 11 8 < x.tries then (d3.incFld PLM_SCNT s 31 16).pollFrom m (s + 1)
  else d3

/-- RESPONSE_TIMEOUT: no preamble within 4.5 ms after the POLL's last symbol (R567). -/
def Dev.responseTimeout (d : Dev) (t m : Nat) : Dev :=
  let d0 := d.at t
  match (d0.plm m).attempt with
  | none => d0
  | some a => if d0.plmOn m && decide (a.txEnd + 4500000 ≤ t) then d0.attemptDone m a.slave false else d0

/-! ### Phase and polarity -/

/-- ZERO_CROSS_EDGE: a rising edge on ZCp, stamped t (R577). -/
def Dev.zeroCross (d : Dev) (t p : Nat) : Dev :=
  let d0 := d.at t
  if !(decide (p < 3) && decide (d0.variant ≠ .px4812) && d0.up .link && decide (d0.level ≠ .standby) && d0.bit PLM_ZCCFG 0 p) then d0
  else
    let z := t - d0.fld (PLM_ZCDLY p) 0 15 0 * 1000
    let prev := kvGet d0.plc.edge p none
    let early : Bool := match prev with | some e => decide (z < e + 5000000) | none => false
    if early then d0
    else
      let per := if p = 0 then (match prev with | some e => some (z - e) | none => d0.plc.period) else d0.plc.period
      let d1 := { d0 with plc := { d0.plc with edge := kvSet d0.plc.edge p (some z) none, period := per } }
      ((d1.wr (PLM_ZCTSLO p) 0 (w32 z)).wr (PLM_ZCTSHI p) 0 (w32 (z / 2 ^ 32)))

/-- An input has had an accepted edge in the last 100 ms; its stamp. -/
def Dev.zcEdge (d : Dev) (p : Nat) : Option Nat :=
  match kvGet d.plc.edge p none with
  | some e => if d.time ≤ e + 100000000 then some e else none
  | none => none

/-- The line period T in ns, absent while invalid (R577). -/
def Dev.linePeriod (d : Dev) : Option Nat :=
  if (d.zcEdge 0).isSome then (match d.plc.period with | some t => if t = 0 then none else some t | none => none) else none

/-- PLM_ZCPER. -/
def Dev.zcPer (d : Dev) : Word := w32 (d.linePeriod.getD 0)

/-- (Ts - Zp) mod T, for an enabled input with a recent edge. -/
def Dev.zcPhase (d : Dev) (per tpoll zcoff p : Nat) : Option Nat :=
  if d.bit PLM_ZCCFG 0 p then
    (d.zcEdge p).map (fun z => (((tpoll : Int) - (zcoff * 1000 : Nat) - (z : Int)) % (per : Int)).toNat)
  else none

/-- The phase measurement of a successful attempt (R578, R579). -/
def Dev.phaseMeasure (d : Dev) (s tpoll zcoff : Nat) : Dev :=
  match d.linePeriod with
  | none => d
  | some per =>
    let tol := clampN (d.fld PLM_SPHCFG s 4 0) 1 29
    let found : List Nat := (List.range 3).flatMap (fun p =>
      match d.zcPhase per tpoll zcoff p with
      | none => []
      | some r =>
        (if 360 * r ≤ tol * per ∨ 360 * (per - r) ≤ tol * per then [p + 1] else []) ++
        (if 360 * r ≤ (180 + tol) * per ∧ (180 - tol) * per ≤ 360 * r then [p + 5] else []))
    let res := match found with | [x] => x | _ => 0
    let y := d.pls s
    let run := if y.phase = res ∧ 0 < y.run then min 15 (y.run + 1) else 1
    let d1 := d.setPls s { y with phase := res, run }
    let d2 := d1.setFld PLM_SPHASE s 7 4 run
    let d3 := match d2.zcPhase per tpoll zcoff 0 with
      | some r => d2.setFld PLM_SPHASE s 27 16 ((7200 * r + per) / (2 * per) % 3600)
      | none => d2
    if max 1 (d.fld PLM_SPHCFG s 19 16) ≤ run ∧ d3.fld PLM_SPHASE s 2 0 ≠ res then (d3.setFld PLM_SPHASE s 2 0 res).ev 0x72 3
    else d3

/-! ### Responses -/

/-- A received frame is good (R565). -/
def Dev.plcGood (d : Dev) (m : Nat) (phyOk : Bool) (f : List Byte) : Bool :=
  let l := leAt f 6 1
  phyOk && decide (l ≤ 64) && decide (f.length = 16 + l) && (decide (leAt f 0 1 = 1) || decide (leAt f 0 1 = 2)) &&
    decide (leAt f 2 2 = d.fld PLM_MCFG m 15 0) && decide (leAt f (12 + l) 4 = crc32 (f.take (12 + l)))

/-- A successful attempt: SEQ, counts, uplink, fallback and phase (R568-R571, R578). -/
def Dev.pollSuccess (d : Dev) (a : PlcAttempt) (f : List Byte) : Dev :=
  let s := a.slave
  let seq := d.fld PLM_SSEQ s 7 0
  let l := leAt f 6 1
  let d1 := d.wr PLM_SSEQ s (w32 ((seq + 1) % 256 + seq * 256 + (d.fld PLM_SSEQ s 31 16 + 1) % 65536 * 65536))
  let d2 := (d1.setPls s { d1.pls s with frame := none, bytes := [], since := d1.time }).setFld PLM_SSTAT s 3 2 (if d1.plcEn s then 1 else 0)
  let d3 := (d2.wr PLM_SLASTLO s (w32 d2.time)).wr PLM_SLASTHI s (w32 (d2.time / 2 ^ 32))
  let d4 := if l = 0 then d3
    else
      let e := d3.each (List.range ((l + 3) / 4)) (fun w e => e.wr (PLM_SUL w) s (w32 (leNat ((slice f 12 l).drop (4 * w) |>.take 4))))
      let e1 := (e.wr PLM_SULLEN s (w32 (l + seq * 256))).setFld PLM_SSTAT s 31 24 (e.fld PLM_SSTAT s 31 24 + 1)
      ((e1.setBit PLM_SSTAT s 5 (e1.bit PLM_SSTAT s 5 || e1.bit PLM_SSTAT s 4)).setBit PLM_SSTAT s 4 true).ev 0x72 0
  let d5 := if (leAt f 5 1).testBit 0 then (d4.setBit PLM_SSTAT s 6 true).ev 0x72 2 else d4
  if (leAt f 5 1).testBit 1 then d5.phaseMeasure s a.tpoll (leAt f 8 2) else d5

/-- RESP_RECEIVE: a frame that followed the POLL has ended (R565, R567). -/
def Dev.respReceive (d : Dev) (t m : Nat) (phyOk : Bool) (f : List Byte) : Dev :=
  let d0 := d.at t
  match (d0.plm m).attempt with
  | none => d0
  | some a =>
    if !(d0.plmOn m && decide (a.txEnd ≤ t)) then d0
    else
      let good := d0.plcGood m phyOk f
      let d1 := if good then d0 else d0.incFld PLM_MCNT m 15 0
      let sent := (d1.pls a.slave).bytes
      let ok := good && decide (leAt f 0 1 = 2) && decide (leAt f 1 1 = leAt sent 1 1) && decide (leAt f 4 1 = leAt sent 4 1)
      (if ok then d1.pollSuccess a f else d1).attemptDone m a.slave ok

/-- SLAVE_LOST: no successful poll for LOSTT ms (R571). -/
def Dev.slaveLost (d : Dev) (t s : Nat) : Dev :=
  let d0 := d.at t
  let lostt := clampN (d0.fld PLM_MTIM (s / 32) 13 0) 1000 10000 * 1000000
  if d0.plmOn (s / 32) && d0.plcEn s && decide (d0.fld PLM_SSTAT s 3 2 = 1) && decide ((d0.pls s).since + lostt ≤ t) then
    ((d0.setFld PLM_SSTAT s 3 2 2).setBit PLM_SSTAT s 7 true).ev 0x72 1
  else d0

/-! ### Firmware's writes -/

/-- A write of PLM_SCTL: MODESET, and DLPUSH with LEN (R569, R575). -/
def Dev.plcCtl (d : Dev) (i : Initiator) (s : Nat) (v : Word) : Dev :=
  let d1 := if bitOf v 0 then (if d.cool then d.err 0x73 7 i 0x40C else d.plcSetMode s (d.plcStart s)) else d
  if !bitOf v 4 then d1
  else if 64 < bits v 22 16 then d1.err 0x73 7 i 0x40C
  else
    let bs := (List.range 16).flatMap (fun w => leBytes 4 (d1.rd (PLM_SDL w) s).toNat)
    d1.setPls s { d1.pls s with pushed := some (bs.take (bits v 22 16)) }

/-- DLPUSH. -/
def Dev.dlPush (d : Dev) (i : Initiator) (v : Word) : Dev :=
  d.gated i PLM_SCTL (v ||| 0x10) (fun s e => e.plcCtl i s (v ||| 0x10))

/-- MODESET. -/
def Dev.modeSet (d : Dev) (i : Initiator) (v : Word) : Dev :=
  d.gated i PLM_SCTL (v ||| 1) (fun s e => e.plcCtl i s (v ||| 1))

/-- A write to PLM_SCFG that enables a slave with an address it may not have (R572). -/
def Dev.plcRefuses (d : Dev) (s : Nat) (v : Word) : Bool :=
  let a := bits v 23 16
  bitOf v 31 && (decide (a = 0) || decide (a = 255) ||
    ((List.range 32).map (fun k => 32 * (s / 32) + k)).any (fun x => decide (x ≠ s) && d.plcEn x && decide (d.fld PLM_SCFG x 23 16 = a)))

/-- A write to PLM_MCFG that R583 refuses. -/
def Dev.plmRefuses (d : Dev) (m : Nat) (v : Word) : Bool :=
  d.bit PLM_MCFG m 31 && (decide (bitOf v 24 ≠ d.bit PLM_MCFG m 24) || decide (bits v 15 0 ≠ d.fld PLM_MCFG m 15 0))

/-- A slave has been enabled or disabled by a write of PLM_SCFG. -/
def Dev.plcEnabled (d : Dev) (s : Nat) (was : Bool) : Dev :=
  if d.plcEn s && !was then
    ((d.plcSetMode s (d.plcStart s)).setFld PLM_SSTAT s 3 2 1).setPls s { d.pls s with since := d.time }
  else if !d.plcEn s then d.setFld PLM_SSTAT s 3 2 0
  else d

/-- The modems start, at a boot, a restart of the link island or a Standby exit: STARTMODE for each enabled slave, and in Cool ROBUST for
every slave (R575). -/
def Dev.plcBoot (d : Dev) : Dev := (d.plcProfile d.profile).each d.plcSlaves (fun s e => e.plcEnabled s false)

/-- A modem that is off polls nothing. -/
def Dev.plmChanged (d : Dev) (m : Nat) : Dev :=
  if d.plmOn m then d else (d.setPlm m { d.plm m with inRound := false, attempt := none }).plmShow m

end Sys2Proof.Machine
end

