-- ==== Sys2Proof/Machine/Trip.lean ====
section
/-! DEFINITION. Trips and safe states (spec/10_safety.md, R422-R430) and the levels of the controller
(spec/01_architecture.md, R31-R48, R752). -/
namespace Sys2Proof.Machine

/-! ### What the trip registers show -/

/-- The causes whose action is Stop (Table 10.6): 0x2-0xD but 0x7. -/
def stopCauses : Nat := 0x3F7C

/-- The causes latched for an outlet, or for the site (16). -/
def Dev.causes (d : Dev) (o : Nat) : Nat := if o = 16 then d.saf.siteCauses else (d.rd SAF_OCAUSES o).toNat

/-- A cause is latched. -/
def Dev.latched (d : Dev) (o c : Nat) : Bool := (d.causes o).testBit c

/-- The first of the causes held (Table 10.6): the one latched earliest. -/
def Dev.firstCause (d : Dev) (o : Nat) : Nat :=
  let at' := fun (c : Nat) => kvGet d.saf.since (o * 16 + c) 0
  let cs := maskList (d.causes o) 14
  (cs.find? (fun c => cs.all (fun c' => decide (at' c ≤ at' c')))).getD 0

/-- SAF_OSTAT or SAF_SITESTAT bits 15:0 follow the causes. -/
def Dev.showStat (d : Dev) (o : Nat) : Dev :=
  let cs := d.causes o
  let w := if cs = 0 then 0 else (if cs &&& stopCauses ≠ 0 then 2 else 1) + 256 * d.firstCause o
  if o = 16 then d.wr SAF_SITESTAT 0 (w32 w)
  else if cs = 0 then d.wr SAF_OSTAT o 0
  else d.setFld SAF_OSTAT o 15 0 w

/-- SAF_TRIPSUM and SAF_STAT.SITETRIP follow the causes. -/
def Dev.showTrips (d : Dev) : Dev :=
  let m := (List.range 17).foldl (fun s o => if (decide (o = 16) || decide (o < d.variant.outlets)) && decide (d.causes o ≠ 0) then s + 2 ^ o else s) 0
  (d.wr SAF_TRIPSUM 0 (w32 m)).setBit SAF_STAT 0 4 (decide (d.saf.siteCauses ≠ 0))

/-- XTRIP_OUT_N goes low, for at least 10 ms from its falling edge (R446). -/
def Dev.xoutLow (d : Dev) : Dev :=
  if d.bit SAF_XSTAT 0 1 then d
  else { d.setBit SAF_XSTAT 0 1 true with saf := { d.saf with xUntil := d.time + 10000000 } }

/-- Latch a cause: the stamp, the latched sum, the event, the log entry, the trigger condition 0x26 (R422), and the extra
CMD of R438. -/
def Dev.latchCause (d : Dev) (o c stamp : Nat) : Dev :=
  let d1 := if o = 16 then { d with saf := { d.saf with siteCauses := d.saf.siteCauses ||| 2 ^ c } }
    else d.wr SAF_OCAUSES o (w32 (d.causes o ||| 2 ^ c))
  let d2 := { d1 with saf := { d1.saf with since := kvPut d1.saf.since (o * 16 + c) d.time, extra := 255 } }
  let d3 := if o = 16 then d2 else (d2.wr SAF_OTSLO o (w32 stamp)).wr SAF_OTSHI o (w32 (stamp / 2 ^ 32))
  let d4 := ((d3.showStat o).setBit SAF_TRIPL 0 o true).showTrips
  let act := if stopCauses.testBit c then 2 else 1
  let d5 := (d4.ev 0x58 0).logPutAt 1 0x20 stamp (leBytes 1 (if o = 16 then 0xFF else o) ++ leBytes 1 c ++ leBytes 1 act)
  if d5.up .acquisition then
    { d5 with acq := { d5.acq with events := d5.acq.events ++ [(0x26, stamp * 1000)], trips := d5.acq.trips ++ [(stamp, o)] } }
  else d5

/-- OUTLET_TRIP: an outlet enters its safe state, or holds a further cause (R424). A Stop trip opens its mapped pairs at
once; TRIPXT pulls the cross-trip line (R446). -/
def Dev.trip (d : Dev) (o c stamp : Nat) : Dev :=
  if !(decide (o < d.variant.outlets) && d.up .safety) || d.latched o c then d
  else
    let d1 := d.latchCause o c stamp
    let d2 := if stopCauses.testBit c then { d1 with saf := { d1.saf with opened := d1.saf.opened ||| 2 ^ o } } else d1
    if d2.bit SAF_OCFG o 24 && decide (c ≠ 0xC) then
      { d2.xoutLow with saf := { d2.xoutLow.saf with xHold := d2.saf.xHold ||| 2 ^ o } }
    else d2

/-! ### Levels -/

/-- FAULT_N is low in Hold, in Limp with FLTLIMP, and from a reset until the level first reaches Normal (Table 1.5,
Table 1.12, R678). -/
def Dev.faultPin (d : Dev) : Dev :=
  let low := decide (d.level = .hold) || (decide (d.level = .limp) && d.bit PWR_LIMPCFG 0 11) ||
    !d.pwr.reachedNormal || decide (d.pwr.phase ≠ .running)
  { d with saf := { d.saf with faultLow := low } }

/-- The islands that Standby switched off run again (R42). -/
def Dev.islandsOn (d : Dev) : Dev :=
  d.each [Island.compute, .acquisition, .link] (fun x e =>
    if e.islStat x = 3 then e.setFld RST_ISLSTAT 0 (2 * x.idx + 1) (2 * x.idx) 0 else e)

/-- No session resumes after Hold (R45): the vehicle requests in force lapse, and each outlet's claim stays zero until firmware
writes its ARB_VREQ anew. -/
def Dev.lapseRequests (d : Dev) : Dev := d.each (List.range d.variant.outlets) (fun o e => e.setArbR o { e.arbR o with vreqDead := true })

/-- What an exit from Hold or Standby does: the loop states are wiped and no arbiter holds an identity; from Hold every
module is rebuilt, from Standby the telegram connections open again (Table 17.6, R250, R443), the pilot
generators resume (R538) and the modems start, in Cool in robust mode (Table 1.4, R575). -/
def Dev.levelExit (d : Dev) (old : Level) : Dev :=
  let wipe (e : Dev) : Dev :=
    let e1 := e.each (List.range e.variant.contexts) (fun n f => f.clearCtx n true)
    e1.each (List.range 17) (fun a f => f.setArbR a { f.arbR a with ident := none })
  match old with
  | .hold => ((wipe d).lapseRequests).rebuildAll
  | .standby => (wipe d).islandsOn.pilResume.plcBoot
  | _ => d

/-- Change the level; an unfinished Standby entry is abandoned (R41). -/
def Dev.setLevel (d : Dev) (l : Level) : Dev :=
  let old := d.level
  let d1 := if d.pwr.standbyEntry then { d.setBit PWR_STAT 0 0 d.pwr.profPending.isSome with pwr := { d.pwr with standbyEntry := false } } else d
  if old = l then d1
  else
    let d2 := (d1.showLevel l).levelExit old
    let d3 := if l = .normal then { d2 with pwr := { d2.pwr with reachedNormal := true } } else d2
    (if old = .normal then d3.tunAbort 2 else d3).faultPin

/-- HOLD_ENTRY: every outlet trips with cause 0x1, moves are abandoned (R44, R250, R178). -/
def Dev.enterHold (d : Dev) : Dev :=
  if d.level = .hold then d
  else
    let d1 := (d.setLevel .hold).abandonMoves
    let d2 := d1.endSatIntervals.frameIdle
    let d3 := d2.each (List.range d2.variant.outlets) (fun o e => e.trip o 1 e.time)
    if d3.up .safety then { d3 with saf := { d3.saf with holdTrip := 2 ^ d3.variant.outlets - 1 } } else d3

/-- LIMP_ENTRY: from Normal; no new move starts and the share claims take the static table at the next boundary (R43). -/
def Dev.enterLimp (d : Dev) : Dev :=
  if d.level = .normal then { d.setLevel .limp with share := { (d.setLevel .limp).share with limped := true } } else d

/-- Set a PWR_CAUSE bit and take its level: Hold for the Hold causes, Limp for COMPUTE and ESCAL (R752, Table 1.5). -/
def Dev.addCause (d : Dev) (n : Nat) : Dev :=
  let d1 := d.setBit PWR_CAUSE 0 n true
  if n < 2 then d1.enterLimp else d1.enterHold

/-- SITE_TRIP: every outlet enters its safe state with cause 0xC, PWR_CAUSE.SAFREQ is set and Hold follows (R429); the
line is pulled but for cause 0xB (R445, R446). -/
def Dev.siteTrip (d : Dev) (c stamp : Nat) : Dev :=
  if !d.up .safety || d.latched 16 c then d
  else
    let d1 := d.latchCause 16 c stamp
    let d2 := if c = 0xB then d1 else d1.xoutLow
    let d3 := d2.each (List.range d2.variant.outlets) (fun o e => e.trip o 0xC stamp)
    d3.addCause 7

/-! ### Requests and events of the level machine -/

/-- Refuse a level or profile request. -/
def Dev.refused (d : Dev) : Dev := d.setBit PWR_STAT 0 1 true

/-- The level of HOLD_N that the command brought. -/
def Dev.holdPin (d : Dev) (high : Bool) : Dev := { d with pwr := { d.pwr with holdN := high } }

/-- PWR_LEVEL.REQ 1 (Table 1.14). -/
def Dev.askNormal (e : Dev) : Dev :=
  match e.level with
  | .normal => e
  | .limp => if e.limpCause || e.holdCause then e.refused else e.setLevel .normal
  | .hold => if e.pwr.holdN && !e.limpCause && !e.holdCause then e.setLevel .normal else e.refused
  | .standby => e.setLevel .normal

/-- LEVEL_REQUEST_NORMAL: a write of REQ 1, with the level of HOLD_N. -/
def Dev.reqNormal (d : Dev) (i : Initiator) (holdN : Bool) : Dev :=
  (d.holdPin holdN).gated i PWR_LEVEL 0x100 (fun _ e => e.askNormal)

/-- PWR_LEVEL.REQ 2 (Table 1.14). -/
def Dev.askLimp (e : Dev) : Dev :=
  match e.level with
  | .normal => e.enterLimp
  | .limp => e
  | .hold => if e.pwr.holdN && !e.holdCause then e.setLevel .limp else e.refused
  | .standby => e.refused

/-- LEVEL_REQUEST_LIMP: a write of REQ 2, with the level of HOLD_N. -/
def Dev.reqLimp (d : Dev) (i : Initiator) (holdN : Bool) : Dev :=
  (d.holdPin holdN).gated i PWR_LEVEL 0x200 (fun _ e => e.askLimp)

/-- LEVEL_REQUEST_HOLD: PWR_LEVEL.REQ 3 (Table 1.14). -/
def Dev.reqHold (d : Dev) (i : Initiator) : Dev := d.gated i PWR_LEVEL 0x300 (fun _ e => e.enterHold)

/-- An outlet has a session (R40). -/
def Dev.sessionOn (d : Dev) (o : Nat) : Bool :=
  decide ((bfOf (d.rd ARB_VREQ o)).m ≠ 0) || decide (d.fld BIL_SESSTAT o 2 0 ≠ 0)

/-- R40 allows Standby. -/
def Dev.standbyOk (d : Dev) : Bool :=
  decide (d.level = .normal) && !(List.range d.variant.outlets).any d.sessionOn &&
    decide (d.rd SOUT_ONSUM 0 = 0) && (List.range d.variant.modules).all (fun m => decide (d.contst m = 0)) &&
    d.txn.opens.isEmpty

/-- PWR_LEVEL.REQ 4 (R40, Table 1.14). -/
def Dev.askStandby (e : Dev) : Dev :=
  match e.level with
  | .standby => e
  | _ =>
    if e.standbyOk then { e.setBit PWR_STAT 0 0 true with pwr := { e.pwr with standbyEntry := true } }
    else e.refused

/-- LEVEL_REQUEST_STANDBY: a write of REQ 4. -/
def Dev.reqStandby (d : Dev) (i : Initiator) : Dev := d.gated i PWR_LEVEL 0x400 (fun _ e => e.askStandby)

/-- A write to PWR_LEVEL with any REQ: 5-7 are ignored and set BADREQ (Table 1.9). -/
def Dev.levelWrite (d : Dev) (v : Word) : Dev :=
  match bits v 10 8 with
  | 0 => d
  | 1 => d.askNormal
  | 2 => d.askLimp
  | 3 => d.enterHold
  | 4 => d.askStandby
  | _ => d.setBit PWR_STAT 0 2 true

/-- HOLD_PIN_LOW: HOLD_N low for at least 1 ms (Table 1.5). -/
def Dev.holdPinLow (d : Dev) (t lowNs : Nat) : Dev :=
  let d1 := (d.at t).holdPin false
  if 1000000 ≤ lowNs then d1.addCause 8 else d1

/-- The condition of a PWR_CAUSE bit is still present (R48, Table 1.6). -/
def Dev.causePresent (d : Dev) (n : Nat) : Bool :=
  match n with
  | 0 => !d.up .compute && decide (d.islStat .compute ≠ 3)
  | 2 => !d.up .control
  | 3 => !d.up .link && decide (d.islStat .link ≠ 3)
  | 4 => !d.up .pstage
  | 5 => !d.up .metrology
  | 6 => true
  | 7 => decide (d.saf.siteCauses ≠ 0)
  | 8 => !d.pwr.holdN
  | _ => false

/-- A write of 1 to PWR_CAUSE bits clears those whose cause has gone (R48). -/
def Dev.causeWrite (e : Dev) (v : Word) : Dev :=
  e.each (maskList v.toNat 9) (fun n f => if f.causePresent n then f else f.setBit PWR_CAUSE 0 n false)

/-- CAUSE_CLEAR: a write to PWR_CAUSE, with the level of HOLD_N. -/
def Dev.causeClear (d : Dev) (i : Initiator) (v : Word) (holdN : Bool) : Dev :=
  (d.holdPin holdN).gated i PWR_CAUSE v (fun _ e => e.causeWrite v)

/-- The target profile would breach R33. -/
def Dev.profileBreach (d : Dev) (sel : Nat) : Bool :=
  (decide (sel ≠ 0) && decide (d.fld LPE_FRAMECFG 0 11 0 < 1000)) || decide (d.acqLimit sel < d.armedCount)

/-- A request for a profile, by firmware or by AUTOCOOL (R32-R34, R691). -/
def Dev.askProfile (d : Dev) (sel : Nat) : Dev :=
  if d.bit PWR_STAT 0 0 || decide (sel = 3) then d.setBit PWR_STAT 0 2 true
  else if sel = d.profile then d
  else if d.profileBreach sel then d.refused
  else { d.setBit PWR_STAT 0 0 true with pwr := { d.pwr with profPending := some sel } }

/-- PROFILE_CHANGE_REQUEST: a write to PWR_PROFILE. -/
def Dev.profileRequest (d : Dev) (i : Initiator) (v : Word) : Dev :=
  d.gated i PWR_PROFILE v (fun _ e => e.askProfile (bits v 1 0))

/-- PROFILE_CHANGE_APPLY: a pending profile takes effect at a boundary, before commits (R35), unless the channels armed since
the request or the committed schedule would breach R33 by then: it is refused and the present profile stays. -/
def Dev.profileApply (d : Dev) : Dev :=
  match d.pwr.profPending with
  | none => d
  | some sel =>
    let d1 := ({ d with pwr := { d.pwr with profPending := none } }).setBit PWR_STAT 0 0 d.pwr.standbyEntry
    if d1.profileBreach sel then d1.refused
    else ((d1.setFld PWR_PROFILE 0 1 0 sel).plcProfile sel).acqShow

/-- WAKE_EVENT: an enabled wake source (0 PILOT, 1 SAFETY, 2 ETH0, 3 RTC) in Standby, or before its entry completes
(R41, R42). -/
def Dev.wake (d : Dev) (t src : Nat) : Dev :=
  let d1 := d.at t
  if d1.bit PWR_WAKECFG 0 src && decide (src < 4) && (decide (d1.level = .standby) || d1.pwr.standbyEntry) then
    (d1.wr PWR_WAKESRC 0 (w32 (2 ^ src))).setLevel .normal
  else d1

/-- VREQ_HOLD_EXPIRY: with the compute island down, the vehicle requests lapse to zero VREQHOLD ms after it failed (R30);
after a takeover each lapses likewise until firmware writes it (R713). -/
def Dev.vreqExpiry (d : Dev) (t : Nat) : Dev :=
  let d1 := d.at t
  let hold := min 2000 (d1.fld PWR_LIMPCFG 0 10 0) * 1000000
  let past (x : Option Nat) : Bool := match x with | some s => decide (s + hold ≤ t) | none => false
  d1.each (List.range d1.variant.outlets) (fun o e =>
    if past e.pwr.vreqFrozenAt || past (e.arbR o).vreqFrom then e.setArbR o { e.arbR o with vreqDead := true } else e)

/-- HEADROOM_HOLD_EXPIRY: the import headroom falls to zero 100 ms after the last grid sample (R30). -/
def Dev.headroomExpiry (d : Dev) (t : Nat) : Dev :=
  let d1 := d.at t
  match d1.pwr.gridLostAt with
  | none => d1
  | some s => if s + 100000000 ≤ t then { d1 with headDead := true } else d1

/-- MISS_ESCALATION: RUN of a context has reached MISSLIM; MISSACT 1 causes Limp (R176, Table 4.9). -/
def Dev.missEscalation (d : Dev) (n : Nat) : Dev :=
  if d.escalates n then
    let d1 := d.escalateCtx n
    if d.fld LPE_MISSCFG n 9 8 = 1 then d1.addCause 1 else d1
  else d

/-- SATURATION_LIMIT: an interval has reached LIM; ACT causes Limp (R180). -/
def Dev.saturationLimit (d : Dev) (n t : Nat) : Dev :=
  let d1 := d.at t
  if d1.saturates n then
    let d2 := d1.saturateCtx n
    if d1.bit LPE_SATCFG n 20 then d2.addCause 1 else d2
  else d1

end Sys2Proof.Machine
end

