-- ==== Sys2Proof/Machine/SafetyIn.lean ====
section
/-! DEFINITION. Safety inputs (spec/10_safety.md, R404-R413): the 50 us samples of the interface die, test pulses, and the
input pairs. -/
namespace Sys2Proof.Machine

/-- TPW in ns, and TPP in ns: values outside their range act as the nearest limit (Table 10.13). -/
def Dev.tpw (d : Dev) : Nat := clampN (d.fld SIN_TPCFG 0 9 0) 200 1000 * 1000
/-- TPP in ns. -/
def Dev.tpp (d : Dev) : Nat := clampN (d.fld SIN_TPCFG 0 23 16) 10 100 * 1000000

/-- An input pair's working state. -/
def Dev.pairIn (d : Dev) (p : Nat) : PairIn := kvGet d.saf.pin p {}
/-- Replace it. -/
def Dev.setPairIn (d : Dev) (p : Nat) (x : PairIn) : Dev := { d with saf := { d.saf with pin := kvSet d.saf.pin p x {} } }

/-- The input pairs present. -/
def Dev.inPairsL (d : Dev) : List Nat := List.range d.variant.inPairs

/-- The pair is enabled without a configuration error (R406). -/
def Dev.pairUsed (d : Dev) (p : Nat) : Bool :=
  d.bit SIN_PCFG p 31 && decide (d.fld SIN_PCFG p 13 12 ≠ d.fld SIN_PCFG p 15 14)

/-- SIN_PSTAT.STATE (Table 10.3). -/
def Dev.pairState (d : Dev) (p : Nat) : Nat := d.fld SIN_PSTAT p 2 0
/-- The pair permits. -/
def Dev.permits (d : Dev) (p : Nat) : Bool := decide (d.pairState p = 4)
/-- The pair is in a fault state. -/
def Dev.pairFaulted (d : Dev) (p : Nat) : Bool := decide (d.pairState p = 5) || decide (d.pairState p = 6)

/-- Move a pair to a state; SIN_DEMSUM follows. -/
def Dev.setPairState (d : Dev) (p st : Nat) : Dev := (d.setFld SIN_PSTAT p 2 0 st).setBit SIN_DEMSUM 0 p (decide (st ≠ 4))

/-- The pair enters a fault state with a FAULT code (Table 10.13). -/
def Dev.pairFault (d : Dev) (p st code : Nat) : Dev :=
  ((((d.setPairState p st).setFld SIN_PSTAT p 9 8 code).setBit SIN_FLTSUM 0 p true).incFld SIN_PCNT p 31 16).ev 0x5A 0

/-- PULSE_FAULT_CONFIRM: a pair in use enters PULSEFAULT (R407). -/
def Dev.pulseFault (d : Dev) (p code : Nat) : Dev :=
  if d.pairUsed p && d.up .safety && decide (d.pairState p ≠ 6) && decide (d.pairState p ≠ 0) then d.pairFault p 6 code else d

/-- A test-pulse fault has been seen on the pair (Table 10.3, PULSEFAULT). -/
def Dev.pulseSeen (d : Dev) (p : Nat) : Dev := d.setPairIn p { d.pairIn p with symAt := d.time }

/-- The start of a source's last pulse, and whether it still lasts at t. -/
def Dev.pulseOn (d : Dev) (j t : Nat) : Bool :=
  match d.saf.tpAt.find? (fun q => decide (q.1 = j)) with
  | some q => decide (q.2 ≤ t) && decide (t < q.2 + d.tpw)
  | none => false

/-- The state of a contact at the start of a pulse of source j, which is its own when `own` (R407). -/
def ContactRec.pulseStart (x : ContactRec) (own : Bool) (j : Nat) : ContactRec :=
  if own then { x with ownLow := false, ownSeen := false }
  else
    { x with
      pre := if x.prev then x.pre ||| 2 ^ j else x.pre &&& (255 - 2 ^ j)
      low := x.low &&& (255 - 2 ^ j)
      crosses := if x.low.testBit j then x.crosses else kvSet x.crosses j 0 0 }

/-- TEST_PULSE: output j drops to 0 V at t; no two outputs are low at once. An output that does not reach low sets
SIN_TPSTAT, and every pair it feeds enters PULSEFAULT (R405, R407). -/
def Dev.testPulse (d : Dev) (t j : Nat) (reachedLow : Bool) : Dev :=
  let d0 := d.at t
  if !(decide (j < 4) && d0.up .safety && !d0.pwr.ifaceReset) || (List.range 4).any (fun k => decide (k ≠ j) && d0.pulseOn k t) then d0
  else
    let d1 := { d0 with saf := { d0.saf with tpAt := kvPut d0.saf.tpAt j t } }
    let d2 := d1.each d1.inPairsL (fun p e =>
      let x := e.pairIn p
      e.setPairIn p { x with
        a := x.a.pulseStart (decide (e.fld SIN_PCFG p 13 12 = j)) j
        b := x.b.pulseStart (decide (e.fld SIN_PCFG p 15 14 = j)) j })
    if reachedLow then d2
    else
      (d2.setBit SIN_TPSTAT 0 j true).each d2.inPairsL (fun p e =>
        if e.pairUsed p && (decide (e.fld SIN_PCFG p 13 12 = j) || decide (e.fld SIN_PCFG p 15 14 = j)) then
          let (w, e1) := (e.pulseSeen p).free 407
          e1.pulseFault p (w.toNat % 4)
        else e)

/-- What one sample of one contact shows: the new record, the new filtered state, whether a pulse fault was seen, and the
FAULT code it confirms (0 none, 2 stuck high, 3 cross-connection). -/
def Dev.contactSample (d : Dev) (t src filt : Nat) (high closed : Bool) (x : ContactRec) : ContactRec × Bool × Bool × Nat :=
  let ownAt : Option Nat := (d.saf.tpAt.find? (fun q => decide (q.1 = src))).map (fun q => q.2)
  let inOwn := match ownAt with | some s => decide (s ≤ t) && decide (t < s + d.tpw) | none => false
  let masked := match ownAt with | some s => decide (s ≤ t) && decide (t < s + d.tpw + 100000) | none => false
  let due := match ownAt with | some s => decide (s + 100000 ≤ t) && !x.ownSeen | none => false
  let inWin := match ownAt with | some s => decide (s ≤ t) && decide (t ≤ s + 100000) | none => false
  let x1 : ContactRec := if inWin && !high then { x with ownLow := true } else x
  -- another source's pulse: low now, high just before it
  let others := (List.range 4).filter (fun k => decide (k ≠ src) && d.pulseOn k t && x1.pre.testBit k && !high && !inOwn && !x1.low.testBit k)
  let x2 := others.foldl (fun (y : ContactRec) k =>
    { y with low := y.low ||| 2 ^ k, crosses := kvSet y.crosses k (kvGet y.crosses k 0 + 1) 0 }) x1
  let cross := others.any (fun k => decide (2 ≤ kvGet x2.crosses k 0))
  let stuckNow := due && !x2.ownLow && decide (x2.low = 0)
  let x3 : ContactRec := if due then { x2 with ownSeen := true, stuck := if stuckNow then min (x2.stuck + 1) 2 else 0 } else x2
  let stuck := stuckNow && decide (2 ≤ x3.stuck)
  let x4 : ContactRec := if masked then x3
    else if high = x3.raw then { x3 with run := min (x3.run + 1) 400 } else { x3 with raw := high, run := 1 }
  let closed' := if !masked && decide (filt * 20 ≤ x4.run) then x4.raw else closed
  ({ x4 with prev := high }, closed', !others.isEmpty || stuckNow, if cross then 3 else if stuck then 2 else 0)

/-- SAFETY_INPUT_SAMPLE: every contact is sampled, bits 15:0 contact A and 31:16 contact B, 1 high (R407, R408). While the
interface die is in reset or unpowered the inputs read as demanding, low (R395, R685). -/
def Dev.inputSample (d : Dev) (t contacts : Nat) : Dev :=
  let d0 := d.at t
  let c := if d0.pwr.ifaceReset then 0 else contacts
  d0.each d0.inPairsL (fun p e =>
    let filt := clampN (e.fld SIN_PCFG p 20 16) 1 20
    let x := e.pairIn p
    let ra := e.contactSample t (e.fld SIN_PCFG p 13 12) filt (c.testBit p) (e.bit SIN_FILT 0 p) x.a
    let rb := e.contactSample t (e.fld SIN_PCFG p 15 14) filt (c.testBit (16 + p)) (e.bit SIN_FILT 0 (16 + p)) x.b
    let e1 := ((e.setPairIn p { x with a := ra.1, b := rb.1 }).setBit SIN_FILT 0 p ra.2.1).setBit SIN_FILT 0 (16 + p) rb.2.1
    let e2 := if ra.2.2.1 || rb.2.2.1 then e1.pulseSeen p else e1
    let code := max ra.2.2.2 rb.2.2.2
    if code = 0 then e2 else e2.pulseFault p code)

/-- The values a and b of a pair's contacts: 1 permits (R409). -/
def Dev.contactVals (d : Dev) (p : Nat) : Bool × Bool :=
  (d.bit SIN_FILT 0 p, if d.bit SIN_PCFG p 24 then !d.bit SIN_FILT 0 (16 + p) else d.bit SIN_FILT 0 (16 + p))

/-- A reset request in a fault state: it acts in DISCFAULT while both contacts demand, and in PULSEFAULT while both demand and no pulse
fault has been seen for 2 TPP (R412, R413, Table 10.3). -/
def Dev.pairReset (d : Dev) (p : Nat) : Dev :=
  let (a, b) := d.contactVals p
  let st := d.pairState p
  if (st = 5 ∨ (st = 6 ∧ (d.pairIn p).symAt + 2 * d.tpp ≤ d.time)) ∧ !a ∧ !b then
    (d.setPairState p 1).setFld SIN_PSTAT p 9 8 0
  else d

/-- INPUT_PAIR_EVALUATION: one safety-cycle sample of a pair (R409-R411), with a reset request of SIN_PRST or the RESET service or not.
A request in the sample of a change to demanding has no effect (R412). -/
def Dev.pairSample (d : Dev) (p : Nat) (req : Bool) : Dev :=
  if !d.pairUsed p then
    (d.wr SIN_PSTAT p (if d.bit SIN_PCFG p 31 then 0x1000 else 0)).setBit SIN_DEMSUM 0 p true
  else
    let st := d.pairState p
    let (a, b) := d.contactVals p
    let d1 := (d.setBit SIN_PSTAT p 12 false)
    if st = 0 then d1.setPairState p 1
    else
      let fell := (d.bit SIN_PSTAT p 4 && !a) || (d.bit SIN_PSTAT p 5 && !b)
      let d2 := (d1.setBit SIN_PSTAT p 4 a).setBit SIN_PSTAT p 5 b
      let c := if a = b then 0 else min (d.fld SIN_PSTAT p 26 16 + 1) 2047
      let d3 := d2.setFld SIN_PSTAT p 26 16 c
      let disc := clampN (d.fld SIN_PCFG p 10 0) 10 2000
      if st = 5 ∨ st = 6 then (if req && !fell then d3.pairReset p else d3)
      else if a ≠ b then (if disc ≤ c then d3.pairFault p 5 1 else d3.setPairState p 2)
      else
        let d4 := if st = 2 then d3.incFld SIN_PCNT p 15 0 else d3
        if !a then d4.setPairState p 1
        else if st = 1 ∨ st = 2 then d4.setPairState p 3
        else if st = 3 then (if !d.bit SIN_PCFG p 25 || (req && !fell) then d4.setPairState p 4 else d4)
        else d4

/-- A write to SIN_PRST, taken at the next sample of the pair: a request in the sample of a change to demanding has no effect, and a
pair's state changes at samples only (R394, R411-R413, log entry 222). -/
def Dev.prstWrite (e : Dev) (p : Nat) (v : Word) : Dev :=
  if bitOf v 0 then { e with saf := { e.saf with prst := e.saf.prst ||| 2 ^ p } } else e

/-- PAIR_RESET_REQUEST: a write to SIN_PRST of the selected pair (R413). -/
def Dev.pairResetRequest (d : Dev) (i : Initiator) (v : Word) : Dev :=
  d.gated i SIN_PRST v (fun p e => e.prstWrite p v)

end Sys2Proof.Machine
end

