-- ==== Sys2Proof/Machine/SafetyOut.lean ====
section
/-! DEFINITION. Safety outputs (spec/10_safety.md, R414-R421, R425, R427): the gates of the pairs, readback supervision,
dark tests, and the openings that end a ramp. -/
namespace Sys2Proof.Machine

/-- An output pair's working state. -/
def Dev.pairOut (d : Dev) (p : Nat) : PairOut := kvGet d.saf.pout p {}
/-- Replace it. -/
def Dev.setPairOut (d : Dev) (p : Nat) (x : PairOut) : Dev := { d with saf := { d.saf with pout := kvSet d.saf.pout p x {} } }
/-- The output pairs present. -/
def Dev.outPairsL (d : Dev) : List Nat := List.range d.variant.outPairs
/-- Both switches of the pair are commanded on. -/
def Dev.pairOn (d : Dev) (p : Nat) : Bool := d.bit SOUT_ONSUM 0 p
/-- SOUT_PSTAT.FAULT. -/
def Dev.outFault (d : Dev) (p : Nat) : Nat := d.fld SOUT_PSTAT p 11 8
/-- The pair's OUTMASK names the outlet. -/
def Dev.mapsTo (d : Dev) (p o : Nat) : Bool := d.bit SOUT_PCFG p o

/-- Command both switches of a pair: PSTAT 1 on, 2 opening, 3 fault, 0 off (Table 10.14). -/
def Dev.setPair (d : Dev) (p : Nat) (on : Bool) : Dev :=
  let was := d.pairOn p
  if on = was then d
  else
    let d1 := (d.setBit SOUT_ONSUM 0 p on).setPairOut p { d.pairOut p with changedAt := d.time, dark := none }
    if decide (d.outFault p ≠ 0) then d1 else d1.setFld SOUT_PSTAT p 1 0 (if on then 1 else 2)

/-- PAIR_FAULT: both switches off, every outlet in OUTMASK in its safe state with cause 0xD, the sum bit (R421). -/
def Dev.outPairFault (d : Dev) (p code : Nat) : Dev :=
  let d1 := (((d.setPair p false).setFld SOUT_PSTAT p 11 8 code).setFld SOUT_PSTAT p 1 0 3).setBit SOUT_FLTSUM 0 p true
  (d1.ev 0x5C 0).each (List.range d1.variant.outlets) (fun o e => if e.mapsTo p o then e.trip o 0xD e.time else e)

/-- Open the pairs that map to an outlet: the end of its ramp (R425, R427). -/
def Dev.openPairs (d : Dev) (o : Nat) : Dev :=
  let d1 := { d with saf := { d.saf with opened := d.saf.opened ||| 2 ^ o } }
  d1.each d1.outPairsL (fun p e => if e.mapsTo p o then e.setPair p false else e)

/-- The code of Table 10.16 for a readback that does not match. -/
def readbackCode (on hs ls : Bool) : Nat :=
  if on then (if !hs then 3 else if ls then 4 else 0)
  else if hs && ls then 1 else if hs then 2 else if ls then 7 else 0

/-- READBACK_FAULT: three samples in a row, the last at t, show HSRB and LSRB; a mismatch with Table 10.4 inside the judging
window is a pair fault (R417, R418). gatesAt is when both gates were sensed at their commanded state; partnerOn the
partner's command of a PAR pair (R420). -/
def Dev.readback (d : Dev) (t p : Nat) (hs ls : Bool) (gatesAt : Option Nat) (partnerOn : Bool) : Dev :=
  let d0 := d.at t
  if !(decide (p < d0.variant.outPairs) && d0.up .safety && !d0.pwr.ifaceReset) then d0
  else
    let d1 := (d0.setBit SOUT_PSTAT p 4 hs).setBit SOUT_PSTAT p 5 ls
    let x := d1.pairOut p
    let start := match gatesAt with
      | some g => min (g + 200000) (x.changedAt + 1000000)
      | none => x.changedAt + 1000000
    let on := d1.pairOn p || (d1.bit SOUT_PCFG p 24 && partnerOn)
    let code := readbackCode on hs ls
    if d1.bit SOUT_PCFG p 31 && decide (d1.outFault p = 0) && x.dark.isNone && decide (start + 100000 ≤ t) && decide (code ≠ 0)
    then d1.outPairFault p code else d1

/-- A fault clears if the readback has matched Off for 10 ms (R421). -/
def Dev.clearOutFault (d : Dev) (p offNs : Nat) : Dev :=
  if d.outFault p ≠ 0 ∧ !d.pairOn p ∧ 10000000 ≤ offNs then (d.setFld SOUT_PSTAT p 11 8 0).setFld SOUT_PSTAT p 1 0 0 else d

/-- A write of SOUT_PCTL: ON takes its bit, FCLR clears a fault (R421, Table 10.14). -/
def Dev.outCtl (e : Dev) (p : Nat) (v : Word) (offNs : Nat) : Dev :=
  let e1 := e.setBit SOUT_PCTL p 0 (bitOf v 0)
  if bitOf v 8 then e1.clearOutFault p offNs else e1

/-- OUTPUT_FAULT_CLEAR: that write through its gate, with the time for which the readback has matched Off. -/
def Dev.outputFaultClear (d : Dev) (i : Initiator) (v : Word) (offNs : Nat) : Dev :=
  d.gated i SOUT_PCTL v (fun p e => e.outCtl p v offNs)

/-- DTPER in ns and DTW in us, held to their limits (Table 10.14). -/
def Dev.dtper (d : Dev) : Nat := clampN (d.fld SOUT_DTCFG 0 15 0) 1 3600 * 1000000000
/-- DTW. -/
def Dev.dtw (d : Dev) : Nat := clampN (d.fld SOUT_DTCFG 0 24 16) 50 300

/-- The Ausal link to the partner is up: a lane is up (Table 18.10). -/
def Dev.ausalUp (d : Dev) : Bool := d.bit AUS_STAT 0 8 || d.bit AUS_STAT 0 9

/-- DARK_TEST: HS is off from t on and LS from 10 ms later, until the readback reached its level after the stated us, none
where it did not by DTW. A PAR pair is tested only while the partner holds the same switch off for the window, and not at
all without the Ausal link (R419, R420). -/
def Dev.darkTest (d : Dev) (t p : Nat) (hsUs lsUs : Option Nat) (partnerHolds : Bool) : Dev :=
  let d0 := d.at t
  let x := d0.pairOut p
  let par := d0.bit SOUT_PCFG p 24
  if !(decide (p < d0.variant.outPairs) && d0.up .safety && d0.bit SOUT_PCFG p 25 && d0.pairOn p && x.dark.isNone &&
      decide (x.darkAt + d0.dtper ≤ t)) then d0
  else if par && !d0.ausalUp then d0.setBit SOUT_PSTAT p 12 true
  else if par && !partnerHolds then d0
  else
    let d1 := d0.setBit SOUT_PSTAT p 12 false
    let ok (u : Option Nat) : Bool := match u with | some n => decide (n ≤ d0.dtw) | none => false
    let passed (e : Dev) : Dev := e.incFld SOUT_PSTAT p 31 16
    if !ok hsUs then d1.setPairOut p { x with darkAt := t, dark := some (t, false) }
    else if !ok lsUs then (passed d1).setPairOut p { x with darkAt := t, dark := some (t + 10000000, true) }
    else (passed (passed d1)).setPairOut p { x with darkAt := t, darkDone := t }

/-- DARK_TEST_TIMEOUT: the readback has not changed by DTW: codes 5 HS, 6 LS (R419, Table 10.16). -/
def Dev.darkTimeout (d : Dev) (t p : Nat) : Dev :=
  let d0 := d.at t
  match (d0.pairOut p).dark with
  | some (s, ls) =>
    if s + d0.dtw * 1000 ≤ t then
      (d0.setPairOut p { d0.pairOut p with dark := none }).outPairFault p (if ls then 6 else 5)
    else d0
  | none => d0

/-- DARK_TEST_OVERDUE: 24 h without a completed dark test of a PAR pair (R420). -/
def Dev.darkOverdue (d : Dev) (t p : Nat) : Dev :=
  let d0 := d.at t
  if decide (p < d0.variant.outPairs) && d0.up .safety && d0.bit SOUT_PCFG p 31 && d0.bit SOUT_PCFG p 25 && d0.bit SOUT_PCFG p 24 &&
      decide (d0.outFault p = 0) && decide ((d0.pairOut p).darkDone + 86400000000000 ≤ t) then d0.outPairFault p 8
  else d0

/-- Every pair off. -/
def Dev.allPairsOff (d : Dev) : Dev := d.each d.outPairsL (fun p e => e.setPair p false)

/-- KEEPALIVE_LOSS: the charge pump stops and both switches of every pair are off (R415). -/
def Dev.keepaliveLoss (d : Dev) (t : Nat) : Dev := ((d.at t).wr SOUT_KASTAT 0 0).allPairsOff

/-- An outlet ramps under a cause and its pairs are not open yet. -/
def Dev.ramping (d : Dev) (o c : Nat) : Bool :=
  decide (o < d.variant.outlets) && d.up .safety && d.latched o c && decide (d.causes o &&& stopCauses = 0) && !d.saf.opened.testBit o

/-- RAMP_OPEN: the pairs open once every current sample has been within SOTH for 1 ms (withinNs), or at OPENMAX with HOTOPEN
(R425). -/
def Dev.rampOpen (d : Dev) (t o withinNs : Nat) : Dev :=
  let d0 := d.at t
  if !d0.ramping o 1 then d0
  else if 1000000 ≤ withinNs then d0.openPairs o
  else if kvGet d0.saf.since (o * 16 + 1) 0 + clampN (d0.fld SAF_SOTH o 31 16) 1 1000 * 1000000 ≤ t then
    (d0.openPairs o).setBit SAF_OSTAT o 16 true
  else d0

/-- The watched inputs of an outlet (R427). -/
def Dev.tpInputs (d : Dev) (o : Nat) : List Nat := maskList (d.rd SAF_TPMASK o).toNat d.variant.thermals

/-- Some watched input reads above TPLIM or is broken: the condition of cause 0x7. -/
def Dev.pinHot (d : Dev) (o : Nat) : Bool :=
  (d.tpInputs o).any (fun k => decide (kvGet d.saf.hot (o * 32 + k) 0 ≠ 0) || decide (kvGet d.saf.broken (o * 32 + k) 0 ≠ 0))

/-- PIN_OVERTEMP_TRIP: one conversion of the outlet's watched inputs, in 0.01 K: (input, reading, broken), none where no
result came in 0.5 ms. Three in a row above TPLIM, or a broken sensor, trip with cause 0x7; three in a row below
TPLIM - THYS of every input within 0.995 s of the ramp relieve it (R427). -/
def Dev.pinConversion (d : Dev) (t o : Nat) (rs : List (Nat × Option Nat × Bool)) : Dev :=
  let d0 := d.at t
  if !(decide (o < d0.variant.outlets) && d0.up .safety) then d0
  else
    let lim := d0.fld SAF_TPLIM o 15 0 * 10
    let low := lim - d0.fld SAF_TPLIM o 23 16 * 10
    let put (m : KV Nat) (k v : Nat) : KV Nat := kvSet m (o * 32 + k) v 0
    let d1 := d0.each (d0.tpInputs o) (fun k e =>
      let r : Option Nat × Bool := match rs.find? (fun q => decide (q.1 = k)) with | some q => q.2 | none => (none, false)
      let hot := match r.1 with | some x => decide (lim < x) | none => true
      let cool := match r.1 with | some x => decide (x < low) && !r.2 | none => false
      let inc (m : KV Nat) (b : Bool) : KV Nat := put m k (if b then min (kvGet m (o * 32 + k) 0 + 1) 3 else 0)
      { e with saf := { e.saf with hot := inc e.saf.hot hot, cool := inc e.saf.cool cool, broken := put e.saf.broken k (b2n r.2) } })
    let any3 (m : KV Nat) : Bool := (d1.tpInputs o).any (fun k => decide (kvGet m (o * 32 + k) 0 = 3))
    let all3 (m : KV Nat) : Bool := (d1.tpInputs o).all (fun k => decide (kvGet m (o * 32 + k) 0 = 3))
    if any3 d1.saf.hot || (d1.tpInputs o).any (fun k => decide (kvGet d1.saf.broken (o * 32 + k) 0 ≠ 0)) then
      if d1.latched o 7 then d1
      else { d1.trip o 7 t with saf := { (d1.trip o 7 t).saf with cool := (d1.tpInputs o).foldl (fun m k => put m k 0) d1.saf.cool } }
    else if d1.ramping o 7 && all3 d1.saf.cool && decide (t ≤ kvGet d1.saf.since (o * 16 + 7) 0 + 995000000) then
      d1.setBit SAF_OSTAT o 17 true
    else d1

/-- RELIEF_WINDOW_EXPIRY: pins not relieved within 0.995 s of the ramp command open the mapped pairs (R427). -/
def Dev.reliefExpiry (d : Dev) (t o : Nat) : Dev :=
  let d0 := d.at t
  if d0.ramping o 7 && !d0.bit SAF_OSTAT o 17 && decide (kvGet d0.saf.since (o * 16 + 7) 0 + 995000000 ≤ t) then d0.openPairs o
  else d0

end Sys2Proof.Machine
end

