-- ==== Sys2Proof/Machine/Telegram.lean ====
section
/-! DEFINITION. Safe telegrams and their connections (spec/10_safety.md, R431-R443). -/
namespace Sys2Proof.Machine

/-- A connection's working state. -/
def Dev.conn (d : Dev) (c : Nat) : ConnRec := kvGet d.saf.conn c {}
/-- Replace it. -/
def Dev.setConnR (d : Dev) (c : Nat) (x : ConnRec) : Dev := { d with saf := { d.saf with conn := kvSet d.saf.conn c x {} } }
/-- The connections present, one per cabinet. -/
def Dev.connsL (d : Dev) : List Nat := List.range d.variant.cabinets
/-- STG_CSTAT.STATE (Table 10.9): 0 CLOSED, 1 OPENING, 2 DUAL, 3 SINGLE, 4 LOST. -/
def Dev.connState (d : Dev) (c : Nat) : Nat := d.fld STG_CSTAT c 2 0
/-- The connection runs: DUAL or SINGLE. -/
def Dev.connLive (d : Dev) (c : Nat) : Bool := decide (d.connState c = 2) || decide (d.connState c = 3)
/-- The outlets a connection trips by loss or LOCALSTOP. -/
def Dev.lossOutlets (d : Dev) (c : Nat) : List Nat := maskList (d.rd STG_LOSSMASK c).toNat d.variant.outlets

/-- Trip every outlet in LOSSMASK. -/
def Dev.lossTrip (d : Dev) (c cause : Nat) : Dev := d.each (d.lossOutlets c) (fun o e => e.trip o cause e.time)

/-- Enter a connection state (Table 10.9): the log entry, the events of LOST and SINGLE, and cause 0x9 outside DUAL and
SINGLE. Entering OPENING opens the direction to the cabinet anew (R436). -/
def Dev.setConn (d : Dev) (c st : Nat) : Dev :=
  let old := d.connState c
  if old = st then d
  else
    let x := d.conn c
    let x1 : ConnRec := { x with since := d.time, both := 0, single := 0, wait := if st = 2 ∨ st = 3 then x.wait else [] }
    let x2 : ConnRec := if st = 1 ∨ st = 0 then { x1 with txOpen := false, rxOpened := false, sentAt := none } else x1
    let d1 := ((d.setConnR c x2).setFld STG_CSTAT c 2 0 st).logPut 1 0x22 (leBytes 1 c ++ leBytes 1 old ++ leBytes 1 st)
    let d2 := if st = 4 then (d1.setBit STG_LOSTSUM 0 c true).ev 0x5E 0 else if st = 3 then d1.ev 0x5E 1 else d1
    if st = 2 ∨ st = 3 then d2 else d2.lossTrip c 9

/-- The CRC of a telegram under a GEN: over VBASE, GEN and the bytes before it (R435). -/
def Dev.telCrc (d : Dev) (c gen : Nat) (body : List Byte) : Nat :=
  crc32c (leBytes 4 (d.rd STG_VBASE c).toNat ++ leBytes 4 gen ++ body)

/-- A telegram of the controller (Table 10.7). -/
def Dev.telegramOf (d : Dev) (c ttype gen seq : Nat) (payload : List Byte) : List Byte :=
  let body := leBytes 1 ttype ++ leBytes 1 payload.length ++ leBytes 2 (d.fld STG_CFG 0 15 0) ++ leBytes 2 (d.fld STG_CCFG c 15 0) ++
    leBytes 4 seq ++ leBytes 8 d.time ++ payload
  body ++ leBytes 4 (d.telCrc c gen body)

/-- The payload of a CMD: the outlets to stop and to ramp, the one RRATE, and SITESTOP (Table 10.8, R425, R434). -/
def Dev.cmdPayload (d : Dev) : List Byte :=
  let act (a : Nat) : Nat := (List.range d.variant.outlets).foldl (fun s o => if d.fld SAF_OSTAT o 1 0 = a then s + 2 ^ o else s) 0
  leBytes 2 (act 2) ++ leBytes 2 (act 1) ++ leBytes 1 (max 1 (d.fld PWR_LIMPCFG 0 23 16)) ++
    leBytes 1 (b2n (decide (d.saf.siteCauses ≠ 0))) ++ leBytes 2 0

/-- The path B frame of a telegram: group address, 802.1Q tag with PCP 7 and VID, EtherType 0x88B5, the telegram and zero
padding to 46 bytes; the ring MAC puts its own source address in (R439). -/
def Dev.pathBFrame (d : Dev) (tel : List Byte) : List Byte :=
  leBytes 4 (d.rd STG_GMACLO 0).toNat ++ leBytes 2 (d.rd STG_GMACHI 0).toNat ++ beBytes 2 0x8100 ++
    beBytes 2 (7 * 8192 + d.fld STG_CFG 0 27 16) ++ beBytes 2 0x88B5 ++ slice tel 0 (max 46 tel.length)

/-- Hand a telegram to both paths: A in the next C-frame, or at once in an S-frame; B to the ring (R431, R438). On a link that sends
no C-frame, Off or without the control island, the S-frame is path A's only carrier (R130, log entry 205). -/
def Dev.emit (d : Dev) (c : Nat) (tel : List Byte) (extra : Bool) : Dev :=
  let d1 := d.setConnR c { d.conn c with pathB := d.pathBFrame tel, sentAt := some d.time }
  if extra || decide (d1.linkState c = 0) || !d1.up .control then d1.sFrame c tel
  else d1.setLink c { d1.link c with stg := tel }

/-- Send OPEN with SEQ 0 and a NEWGEN one above the last GEN; its CRC takes GEN 0 (R435, R436). -/
def Dev.sendOpen (d : Dev) (c : Nat) : Dev :=
  let gen := ((d.rd STG_TXGEN c).toNat + 1) % 2 ^ 32
  let d1 := (d.wr STG_TXGEN c (w32 gen)).wr STG_TXSEQ c 0
  let d2 := d1.emit c (d1.telegramOf c 1 0 0 (leBytes 4 gen)) false
  d2.setConnR c { d2.conn c with txOpen := true }

/-- Send a CMD under the present GEN with the next SEQ; before SEQ would wrap the direction is opened again (R436). -/
def Dev.sendCmd (d : Dev) (c : Nat) (extra : Bool) : Dev :=
  if (d.rd STG_TXSEQ c).toNat = 2 ^ 32 - 1 then d.sendOpen c
  else
    let seq := (d.rd STG_TXSEQ c).toNat + 1
    let d1 := d.wr STG_TXSEQ c (w32 seq)
    d1.emit c (d1.telegramOf c 2 (d1.rd STG_TXGEN c).toNat seq d1.cmdPayload) extra

/-- PER in ns (Table 10.15). -/
def Dev.telPer (d : Dev) (c : Nat) : Nat := clampN (d.fld STG_CCFG c 23 16) 1 50 * 1000000

/-- TELEGRAM_SEND: on an open connection the OPEN, then a CMD every PER ms, and an extra one at once (R436, R438). -/
def Dev.telegramSend (d : Dev) (t c : Nat) : Dev :=
  let d0 := d.at t
  let st := d0.connState c
  let extra := d0.saf.extra.testBit c
  if !(decide (c < d0.variant.cabinets) && d0.up .safety && decide (st = 1 ∨ st = 2 ∨ st = 3)) then d0
  else if !(d0.conn c).txOpen then d0.sendOpen c
  else
    let due := match (d0.conn c).sentAt with | some s => decide (s + d0.telPer c ≤ t) | none => true
    if extra || due then
      { d0.sendCmd c extra with saf := { (d0.sendCmd c extra).saf with extra := d0.saf.extra &&& (255 - 2 ^ c % 256) } }
    else d0

/-- SEQ, TTYPE and TSTAMP of a telegram. -/
def telSeq (b : List Byte) : Nat := leAt b 6 4
/-- TTYPE. -/
def telType (b : List Byte) : Nat := leAt b 0 1

/-- a is 1 to n above b by serial-number arithmetic over 2^32. -/
def serialAbove (a b n : Nat) : Bool :=
  let x := (a + 2 ^ 32 - b % 2 ^ 32) % 2 ^ 32
  decide (1 ≤ x) && decide (x ≤ n)

/-- Why a received copy is not valid: 0 valid, 1 by form or address, 2 CRC, 3 SEQ, 4 age (R433, R440). -/
def Dev.telBad (d : Dev) (c : Nat) (b : List Byte) : Nat :=
  let ty := telType b
  let plen := leAt b 1 1
  let n := 22 + plen
  if !((decide (ty = 1) && decide (plen = 4)) || (decide (ty = 3) && decide (plen = 8))) || decide (b.length < n) ||
      decide (leAt b 2 2 ≠ d.fld STG_CCFG c 15 0) || decide (leAt b 4 2 ≠ d.fld STG_CFG 0 15 0) then 1
  else
    let gen := if ty = 1 then 0 else (d.rd STG_RXGEN c).toNat
    let ts := leAt b 10 8
    let maxage := clampN (d.fld STG_TCFG c 15 12) 1 10 * 1000000
    if leAt b (18 + plen) 4 ≠ d.telCrc c gen (b.take (18 + plen)) ∨ (ty = 3 ∧ ¬ (d.conn c).rxHave) then 2
    else if (ty = 1 ∧ telSeq b ≠ 0) ∨ (ty = 3 ∧ ¬ serialAbove (telSeq b) (d.rd STG_RXSEQ c).toNat 1000) then 3
    else if d.time + 1000000 < ts ∨ ts + maxage < d.time then 4
    else 0

/-- A STAT is accepted: SEQ, payload and watchdog (R441, R443). -/
def Dev.acceptStat (d : Dev) (c : Nat) (b : List Byte) : Dev :=
  let d1 := ((d.wr STG_RXSEQ c (w32 (telSeq b))).wr STG_LASTSTAT0 c (w32 (leAt b 18 4))).wr STG_LASTSTAT1 c (w32 (leAt b 22 4))
  d1.setConnR c { d1.conn c with fedAt := d1.time }

/-- An OPEN is accepted: NEWGEN is adopted when it is newer or none is held, and ignored otherwise (R437). -/
def Dev.acceptOpen (d : Dev) (c : Nat) (b : List Byte) : Dev :=
  let g := leAt b 18 4
  if !(d.conn c).rxHave || serialAbove g (d.rd STG_RXGEN c).toNat (2 ^ 31 - 1) then
    let d1 := (d.wr STG_RXGEN c (w32 g)).wr STG_RXSEQ c 0
    d1.setConnR c { d1.conn c with rxHave := true, rxOpened := true }
  else d

/-- A telegram is accepted with both copies, or with one in SINGLE; the runs of Table 10.9 follow. -/
def Dev.acceptTel (d : Dev) (c : Nat) (b : List Byte) (both : Bool) : Dev :=
  let d1 := if telType b = 1 then d.acceptOpen c b else d.acceptStat c b
  let x := d1.conn c
  let x1 : ConnRec := if both then { x with both := min (x.both + 1) 3, single := 0 } else { x with both := 0, single := min (x.single + 1) 3 }
  let d2 := d1.setConnR c x1
  if d2.connState c = 1 ∧ both ∧ telType b = 3 ∧ x1.rxOpened then d2.setConn c 2
  else if d2.connState c = 3 ∧ 3 ≤ x1.both then d2.setConn c 2
  else d2

/-- Copies that found no twin in 2 ms: in SINGLE they are accepted, in DUAL three of them in a row lead to SINGLE (R441,
Table 10.9). -/
def Dev.expireCopies (d : Dev) (c : Nat) (late : Nat → Bool) : Dev :=
  let old := (d.conn c).wait.filter (fun w => late w.2.2)
  let d1 := d.setConnR c { d.conn c with wait := (d.conn c).wait.filter (fun w => !late w.2.2) }
  d1.each old (fun w e =>
    if e.connState c = 3 then
      if e.telBad c w.2.1 = 2 ∨ e.telBad c w.2.1 = 3 then e else (e.setBit STG_CSTAT c 4 (decide (w.1 = 1))).acceptTel c w.2.1 false
    else if e.connState c = 2 then
      let x := e.conn c
      let e1 := e.setConnR c { x with both := 0, single := min (x.single + 1) 3 }
      if 3 ≤ x.single + 1 then (e1.setBit STG_CSTAT c 4 (decide (w.1 = 1))).setConn c 3 else e1
    else e)

/-- TELEGRAM_RECEIVE: a copy arrives on path 0 (A) or 1 (B), its zero padding ignored. A valid one meets its twin, or waits
for it; one with LOCALSTOP trips at once (R440-R442). -/
def Dev.telegramReceive (d : Dev) (t c path : Nat) (bytes : List Byte) : Dev :=
  let d0 := (d.at t).expireCopies c (fun a => decide (a + 2000000 < t))
  let st := d0.connState c
  if !(decide (c < d0.variant.cabinets) && d0.up .safety && decide (st = 1 ∨ st = 2 ∨ st = 3)) then d0
  else
    let b := bytes.take (22 + leAt bytes 1 1)
    match d0.telBad c b with
    | 0 =>
      let d1 := if telType b = 3 ∧ bitOf (w32 (leAt b 20 1)) 0 then d0.lossTrip c 0xA else d0
      let x := d1.conn c
      let same (w : Nat × List Byte × Nat) : Bool := decide (telType w.2.1 = telType b) && decide (telSeq w.2.1 = telSeq b)
      if x.wait.any (fun w => decide (w.1 = path) && same w) then d1
      else match x.wait.find? (fun w => decide (w.1 ≠ path) && same w) with
        | some w =>
          let d2 := d1.setConnR c { x with wait := x.wait.filter (fun v => !same v) }
          if w.2.1 = b then d2.acceptTel c b true else d2.incFld STG_ERRCNT c 23 16
        | none => d1.setConnR c { x with wait := x.wait ++ [(path, b, t)] }
    | 2 => d0.incFld STG_ERRCNT c 7 0
    | 3 => d0.incFld STG_ERRCNT c 15 8
    | 4 => d0.incFld STG_ERRCNT c 31 24
    | _ => d0

/-- SINGLE_COPY_ACCEPT: copies that arrived 2 ms ago or earlier without a twin (R441). -/
def Dev.singleAccept (d : Dev) (t c : Nat) : Dev := (d.at t).expireCopies c (fun a => decide (a + 2000000 ≤ t))

/-- TELEGRAM_WATCHDOG_EXPIRY: no STAT accepted for WDT ms (R443). -/
def Dev.telWatchdog (d : Dev) (t c : Nat) : Dev :=
  let d0 := d.at t
  if d0.up .safety && d0.connLive c && decide ((d0.conn c).fedAt + clampN (d0.fld STG_TCFG c 9 0) 5 500 * 1000000 ≤ t) then d0.setConn c 4
  else d0

/-- CONNECTION_OPEN_TIMEOUT: 1 s in OPENING without DUAL (Table 10.9). -/
def Dev.openTimeout (d : Dev) (t c : Nat) : Dev :=
  let d0 := d.at t
  if d0.up .safety && decide (d0.connState c = 1) && decide ((d0.conn c).since + 1000000000 ≤ t) then d0.setConn c 4 else d0

/-- CONNECTION_REOPEN: 100 ms after LOST the connection is OPENING and sends OPEN (Table 10.9). -/
def Dev.connReopen (d : Dev) (t c : Nat) : Dev :=
  let d0 := d.at t
  if d0.up .safety && decide (d0.connState c = 4) && decide ((d0.conn c).since + 100000000 ≤ t) then (d0.setConn c 1).sendOpen c else d0

/-- GRACE_EXPIRY: GRACE s in SINGLE (Table 10.9). -/
def Dev.graceExpiry (d : Dev) (t c : Nat) : Dev :=
  let d0 := d.at t
  if d0.up .safety && decide (d0.connState c = 3) &&
      decide ((d0.conn c).since + min 600 (d0.fld STG_TCFG c 25 16) * 1000000000 ≤ t) then d0.setConn c 4 else d0

/-- CLOSED and OPENING by EN and the level, at a safety cycle; LOSSMASK outlets of a connection that is not up are in their
safe state (Table 10.9). -/
def Dev.connCycle (d : Dev) (c : Nat) : Dev :=
  let on := d.bit STG_CCFG c 31 && decide (d.level ≠ .standby)
  let d1 := if !on then d.setConn c 0 else if d.connState c = 0 then d.setConn c 1 else d
  if d1.connLive c then d1 else d1.lossTrip c 9

end Sys2Proof.Machine
end

