-- ==== Sys2Proof/Machine/SafetyCycle.lean ====
section
/-! DEFINITION. The safety cycle and what acts between cycles (spec/10_safety.md): fast trip, releases, claims, cross-trip,
and the services of the safety mailbox (R399, R621, R622). -/
namespace Sys2Proof.Machine

/-! ### Fast trip (R426) -/

/-- FTCNT or GFTCNT: 0 acts as 1, 17-31 act as 16. -/
def ftCount (n : Nat) : Nat := clampN n 1 16

/-- Count one comparison of a target's channel for a cause, and trip at the count; condition 0x27 fires when a comparator
operates. -/
def Dev.ftStep (d : Dev) (target ch c n stamp : Nat) (bad : Bool) : Dev :=
  let k := (target * 64 + ch) * 16 + c
  let r := if bad then min (kvGet d.saf.runs k 0 + 1) 16 else 0
  let was := kvGet d.saf.runs k 0
  let d1 := { d with saf := { d.saf with runs := kvSet d.saf.runs k r 0 } }
  if decide (n ≤ r) then
    let d2 := if c ≠ 6 ∧ was < n then d1.acqNote 0x27 else d1
    if target = 16 then d2.siteTrip c stamp else d2.trip target c stamp
  else d1

/-- A live channel's sample lies beyond a threshold, or the channel is OVR (R119, R426). -/
def Dev.ftBeyond (d : Dev) (ch : Nat) (lo hi : Int) : Bool :=
  let x := sext (d.fld SDM_FTS ch 15 0) 16
  d.sdmLive ch && (decide (x < lo) || decide (hi < x) || d.bit SDM_CHSTAT ch 1)

/-- An outlet's comparisons: its current, its voltage, and the validity of both channels (R118, R426). -/
def Dev.ftOutlet (d : Dev) (t o : Nat) : Dev :=
  let n := ftCount (d.fld SAF_OCFG o 20 16)
  let iv := 9 + 2 * o
  let vv := 8 + 2 * o
  let s16 (w : Nat) : Int := sext w 16
  let d1 := d.ftStep o iv 4 n (d.fastStamp iv t) (d.ftBeyond iv (s16 (d.fld SAF_FTI o 15 0)) (s16 (d.fld SAF_FTI o 31 16)))
  let d2 := d1.ftStep o vv 5 n (d.fastStamp vv t) (d1.ftBeyond vv (-32769) (s16 (d1.fld SAF_FTV o 15 0)))
  (d2.ftStep o iv 6 n (d.fastStamp iv t) (!d2.sdmLive iv)).ftStep o vv 6 n (d.fastStamp vv t) (!d2.sdmLive vv)

/-- A grid current channel's comparison while GFTEN is 1 (R426); a channel that is STUCK, settling or disabled demands the site's safe
state after as many samples, as R116 and R118 have every function mapped to a channel do (log entry 206). -/
def Dev.ftGrid (d : Dev) (t ch : Nat) : Dev :=
  let n := ftCount (d.fld SAF_SITECFG 0 28 24)
  let d1 := d.ftStep 16 ch 4 n (d.fastStamp ch t) (d.ftBeyond ch (sext (d.fld SAF_GFTI 0 15 0) 16) (sext (d.fld SAF_GFTI 0 31 16) 16))
  d1.ftStep 16 ch 6 n (d.fastStamp ch t) (!d1.sdmLive ch)

/-- FAST_TRIP_SAMPLE: the bitstreams of every channel as its filter's output leaves at t, in channel order (R106, R118, R119, R426). -/
def Dev.fastTrip (d : Dev) (t : Nat) (xs : List Stream) : Dev :=
  let d0 := d.at t
  let d1 := d0.each (List.range d0.variant.sdInputs) (fun c e => if e.sdmLive c then e.fastSample c (e.fastValue xs c) else e)
  if !d1.up .safety then d1
  else
    let d2 := d1.each (List.range d1.variant.outlets) (fun o e => e.ftOutlet t o)
    if d2.bit SAF_SITECFG 0 16 then d2.each [3, 4, 5] (fun ch e => e.ftGrid t ch) else d2

/-! ### Conditions, claims and releases -/

/-- The input pairs of a mask. -/
def Dev.maskPairs (d : Dev) (m : Nat) : List Nat := maskList m d.variant.inPairs
/-- Some pair of a mask demands. -/
def Dev.anyDemand (d : Dev) (m : Nat) : Bool := (d.maskPairs m).any (fun p => !d.permits p)
/-- Some pair of a mask is in a fault state. -/
def Dev.anyFault (d : Dev) (m : Nat) : Bool := (d.maskPairs m).any d.pairFaulted
/-- The pair IMDW or IMDA names, 0x1F none. -/
def Dev.imd (d : Dev) (o hi lo : Nat) : Option Nat :=
  let p := d.fld SAF_OCFG o hi lo
  if p < d.variant.inPairs then some p else none
/-- The input pairs mapped to an outlet. -/
def Dev.mappedIn (d : Dev) (o : Nat) : Nat :=
  let b (x : Option Nat) : Nat := match x with | some p => 2 ^ p | none => 0
  (d.rd SAF_ESTOP o).toNat ||| b (d.imd o 4 0) ||| b (d.imd o 12 8)
/-- The pair IMDA names demands. -/
def Dev.imdaDemands (d : Dev) (o : Nat) : Bool := match d.imd o 12 8 with | some p => !d.permits p | none => false

/-- The input causes at a cycle (Table 10.6: 0x2, 0x3, 0x8; R429 for the site). -/
def Dev.inputTrips (d : Dev) : Dev :=
  let d1 := d.each (List.range d.variant.outlets) (fun o e =>
    let e1 := if e.anyDemand (e.rd SAF_ESTOP o).toNat then e.trip o 2 e.time else e
    let e2 := if e1.anyFault (e1.mappedIn o) then e1.trip o 3 e1.time else e1
    if e2.imdaDemands o then e2.trip o 8 e2.time else e2)
  let m := d1.fld SAF_SITECFG 0 15 0
  let d2 := if d1.anyDemand m then d1.siteTrip 2 d1.time else d1
  if d2.anyFault m then d2.siteTrip 3 d2.time else d2

/-- The condition of a cause of an outlet or the site still holds (R430). -/
def Dev.stillThere (d : Dev) (o c : Nat) : Bool :=
  let ran (ch : Nat) : Bool := decide (kvGet d.saf.runs ((o * 64 + ch) * 16 + c) 0 ≠ 0)
  if o = 16 then
    match c with
    | 2 => d.anyDemand (d.fld SAF_SITECFG 0 15 0)
    | 3 => d.anyFault (d.fld SAF_SITECFG 0 15 0)
    | 4 | 6 => ran 3 || ran 4 || ran 5
    | 0xB => d.bit SAF_XSTAT 0 0
    | _ => false
  else
    match c with
    | 2 => d.anyDemand (d.rd SAF_ESTOP o).toNat
    | 3 => d.anyFault (d.mappedIn o)
    | 4 => ran (9 + 2 * o)
    | 5 => ran (8 + 2 * o)
    | 6 => ran (9 + 2 * o) || ran (8 + 2 * o)
    | 7 => d.pinHot o
    | 8 => d.imdaDemands o
    | 9 => d.connsL.any (fun k => decide (o ∈ d.lossOutlets k) && !d.connLive k)
    | 0xA => d.connsL.any (fun k => decide (o ∈ d.lossOutlets k) && d.bit STG_LASTSTAT0 k 16)
    | 0xC => decide (d.saf.siteCauses ≠ 0)
    | 0xD => d.outPairsL.any (fun p => d.mapsTo p o && decide (d.outFault p ≠ 0))
    | _ => false

/-- Drop latched causes of a target. -/
def Dev.dropCauses (d : Dev) (o m : Nat) : Dev :=
  if d.causes o &&& m = 0 then d
  else
    let left := d.causes o &&& (65535 - m)
    let d1 := if o = 16 then { d with saf := { d.saf with siteCauses := left } } else d.wr SAF_OCAUSES o (w32 left)
    let d2 := (d1.showStat o).showTrips
    if left ≠ 0 then d2
    else
      let keep := 2 ^ 17 - 1 - 2 ^ o
      let d3 := { d2 with saf := { d2.saf with opened := d2.saf.opened &&& keep, xHold := d2.saf.xHold &&& keep, extra := 255 } }
      d3.logPut 1 0x21 (leBytes 1 (if o = 16 then 0xFF else o))

/-- Cause 0x1: from Hold it clears at Hold exit, from start-up with a request once every connection that names the outlet is
DUAL (R430). -/
def Dev.releaseStart (d : Dev) (o : Nat) (req : Bool) : Dev :=
  if !d.latched o 1 then d
  else
    let dual := d.connsL.all (fun k => !decide (o ∈ d.lossOutlets k) || decide (d.connState k = 2))
    let s := if req && dual then d.saf.startTrip &&& (65535 - 2 ^ o) else d.saf.startTrip
    let h := if d.level ≠ .hold then d.saf.holdTrip &&& (65535 - 2 ^ o) else d.saf.holdTrip
    let d1 := { d with saf := { d.saf with startTrip := s, holdTrip := h } }
    if s.testBit o || h.testBit o then d1 else d1.dropCauses o 2

/-- Releases at a cycle: a request clears every cause latched before this cycle whose condition is gone (R430). The site
comes first, so that 0xC can clear with it. -/
def Dev.releases (d : Dev) (req before : Nat) : Dev :=
  d.each (16 :: List.range d.variant.outlets) (fun o e =>
    let asked := req.testBit 16 || req.testBit o
    let old (c : Nat) : Bool := decide (kvGet e.saf.since (o * 16 + c) 0 ≤ before)
    let gone := if asked then (maskList (e.causes o) 14).filter (fun c => decide (c ≠ 1) && old c && !e.stillThere o c) else []
    let e1 := e.dropCauses o (gone.foldl (fun s c => s + 2 ^ c) 0)
    if o = 16 then e1 else e1.releaseStart o (asked && old 1))

/-- The insulation claim of an outlet (R428). -/
def Dev.publishClaim (d : Dev) (o : Nat) : Dev :=
  let v : Word := if d.causes o ≠ 0 then 0
    else match d.imd o 4 0 with
      | some p => if d.permits p then d.rd SAF_IFULL o else d.rd SAF_IDER o
      | none => d.rd SAF_IFULL o
  d.wr SAF_ICLAIM o v

/-- A pair's switches at a cycle (R414, R424): on while every condition holds. A pair that is on stays on through a ramp of
an outlet in OUTMASK; one that is off comes on only with every such outlet out of its safe state. -/
def Dev.outputCycle (d : Dev) (held : Bool) (p : Nat) : Dev :=
  let m := d.fld SOUT_PCFG p 15 0
  let outs := maskList m d.variant.outlets
  let want := !held && d.bit SOUT_PCFG p 31 && d.bit SOUT_PCTL p 0 && !d.pwr.ifaceReset && decide (d.outFault p = 0) &&
    decide (d.saf.siteCauses = 0) && outs.all (fun o => !(decide (d.causes o ≠ 0) && d.saf.opened.testBit o)) &&
    (d.pairOn p || outs.all (fun o => decide (d.causes o = 0)))
  let d1 := if decide (d.fld SOUT_PSTAT p 1 0 = 2) && !d.pairOn p then d.setFld SOUT_PSTAT p 1 0 0 else d
  d1.setPair p want

/-- XTRIP_OUT_N is released once no trip holds it and 10 ms have passed (R446). -/
def Dev.xoutCycle (d : Dev) : Dev :=
  let want := decide (d.saf.siteCauses &&& (65535 - 2 ^ 0xB) ≠ 0) || decide (d.saf.xHold ≠ 0)
  if d.bit SAF_XSTAT 0 1 && !want && decide (d.saf.xUntil ≤ d.time) then d.setBit SAF_XSTAT 0 1 false else d

/-- SAF_STAT: RUN, CFGOK, CFGBAD, NOCLAIM (R403), SITETRIP. -/
def Dev.safStat (d : Dev) : Word :=
  let noclaim := d.bit DBG_STAT 0 0 || decide (d.fld LCM_STATE 0 2 0 ≠ 3) || !d.bit SAF_STAT 0 1
  putBit (putBit (putBit (d.rd SAF_STAT 0) 0 (d.up .safety)) 3 noclaim) 4 (decide (d.saf.siteCauses ≠ 0))

/-! ### The configuration image (R399, R400, R622) -/

/-- The entries of an image: address, instance, value. -/
def imageEntries (b : List Byte) : List (Nat × Nat × Word) :=
  (List.range (leAt b 4 4)).map (fun j => (leAt b (16 + 12 * j) 4, leAt b (20 + 12 * j) 1, w32 (leAt b (24 + 12 * j) 4)))

/-- An entry names a writable block-specific register of pages 0x58-0x5F that an image may write, and a present instance. -/
def entryOk (v : Variant) (e : Nat × Nat × Word) : Bool :=
  let page := e.1 / 4096 % 1024
  let off := e.1 % 4096
  decide (0x40000000 ≤ e.1) && decide (e.1 < 0x40400000) && decide (0x58 ≤ page) && decide (page ≤ 0x5F) && decide (0x40 ≤ off) && decide (off % 4 = 0) &&
    !((decide (page = 0x58) && decide (off = 0x4C)) || (decide (page = 0x5A) && decide (off = 0x408)) || (decide (page = 0x5C) && decide (off = 0x404))) &&
    (match rowOf v page off with | some r => decide (r.writable ≠ 0) | none => false) &&
    (if 0x400 ≤ off then (match instCount v page with | some n => decide (e.2.1 < n) | none => false) else decide (e.2.1 = 0))

/-- The firmware accepts an image (Table 15.9). -/
def imageOk (v : Variant) (b : List Byte) : Bool :=
  let n := leAt b 4 4
  decide (1 ≤ n) && decide (n ≤ 1021) && decide (b.length = 20 + 12 * n) && decide (leAt b 0 2 = 0x7E43) && decide (leAt b 2 1 = 1) &&
    decide (leAt b (16 + 12 * n) 4 = crc32c (b.take (16 + 12 * n))) && (imageEntries b).all (entryOk v)

/-- Apply an image: its entries in order; SAF_CFGCRC and CFGOK; a connection whose configuration changed opens its
direction again (R436), a changed output pair's 24 h start anew. -/
def Dev.applyImage (d : Dev) (b : List Byte) : Dev :=
  let d1 := d.each (imageEntries b) (fun e f => f.fieldsWrite .safety (e.1 / 4096 % 1024) (e.1 % 4096) e.2.1 false e.2.2)
  let d2 := ((d1.wr SAF_CFGCRC 0 (w32 (leAt b (b.length - 4) 4))).setBit SAF_STAT 0 1 true).setBit SAF_STAT 0 2 false
  let d3 := { d2 with saf := { d2.saf with active := b, confirmed := none } }
  let d4 := d3.each d3.connsL (fun c e =>
    let same (r : Reg) : Bool := decide (d.rd r c = e.rd r c)
    if same STG_CCFG && same STG_VBASE && same STG_TCFG && same STG_LOSSMASK && decide (d.rd STG_CFG 0 = e.rd STG_CFG 0) then e
    else e.setConnR c { e.conn c with txOpen := false })
  d4.each d4.outPairsL (fun p e => if d.rd SOUT_PCFG p = e.rd SOUT_PCFG p then e else e.setPairOut p { e.pairOut p with darkDone := e.time })

/-- SAFETY_CONFIG_LOAD: check the image and answer its CRC-32C (R399). -/
def Dev.configLoad (d : Dev) (i : Initiator) : Dev :=
  match d.mbxService 0 i 1 with
  | none => d
  | some b =>
    if imageOk d.variant b then
      { d with saf := { d.saf with loaded := b } }.mbxAnswer 0 i 0 (leBytes 4 (leAt b (b.length - 4) 4))
    else d.mbxAnswer 0 i 3 []

/-- SAFETY_CONFIG_CONFIRM: the same CRC while every output pair is off; refused with 0x04 otherwise (R399). -/
def Dev.configConfirm (d : Dev) (i : Initiator) : Dev :=
  match d.mbxService 0 i 2 with
  | none => d
  | some b =>
    let img := d.saf.loaded
    if img ≠ [] ∧ leAt b 0 4 = leAt img (img.length - 4) 4 ∧ d.rd SOUT_ONSUM 0 = 0 ∧ d.outPairsL.all (fun p => decide (d.fld SOUT_PSTAT p 1 0 ≠ 2)) then
      { d with saf := { d.saf with confirmed := some img } }.mbxAnswer 0 i 0 []
    else d.mbxAnswer 0 i 4 []

/-- SAFETY_RESET_SERVICE: the SAF_RST word, input pairs and output pairs, taken at the next cycle (Table 15.8). -/
def Dev.resetService (d : Dev) (i : Initiator) : Dev :=
  match d.mbxService 0 i 3 with
  | none => d
  | some b =>
    { d with saf := { d.saf with rst := d.saf.rst ||| leAt b 0 4, prst := d.saf.prst ||| leAt b 4 2, fclr := d.saf.fclr ||| leAt b 6 1 } }.mbxAnswer 0 i 0 []

/-- SAFETY_OUTPUTS_SERVICE: SOUT_PCTL.ON of the pairs at the next cycle (Table 15.8). -/
def Dev.outputsService (d : Dev) (i : Initiator) : Dev :=
  match d.mbxService 0 i 4 with
  | none => d
  | some b => { d with saf := { d.saf with onReq := some (leAt b 0 1) } }.mbxAnswer 0 i 0 []

/-- A write to SAF_RST, spent at the next safety cycle (R430). -/
def Dev.askTripReset (e : Dev) (v : Word) : Dev := { e with saf := { e.saf with rst := e.saf.rst ||| bits v 16 0 } }

/-- TRIP_RESET_REQUEST: that write through its gate. -/
def Dev.tripReset (d : Dev) (i : Initiator) (v : Word) : Dev := d.gated i SAF_RST v (fun _ e => e.askTripReset v)

/-! ### The cycle -/

/-- Corrected TCM errors are counted in SAF_ECCCNT, which saturates (Table 10.1, R449). -/
def Dev.countTcm (d : Dev) (n : Nat) : Dev := d.wr SAF_ECCCNT 0 (w32 (min ((d.rd SAF_ECCCNT 0).toNat + n) 0xFFFFFFFF))

/-- SAFETY_CYCLE at t, a whole millisecond (R394): a confirmed image applies, inputs are evaluated, causes latched and
released, claims published, outputs commanded. fclrOff names the pairs whose readback has matched Off for 10 ms; tcm counts the errors
that the TCM ECC has corrected since the last cycle (Table 10.1). -/
def Dev.safetyCycle (d : Dev) (t fclrOff tcm : Nat) : Dev :=
  let d0 := d.at t
  if !(d0.up .safety && decide (t % 1000000 = 0)) then d0
  else
    let d0 := d0.countTcm tcm
    let s := d0.saf
    let d1 := match s.confirmed with | some b => d0.applyImage b | none => d0
    let d2 := { d1 with saf := { d1.saf with rst := 0, prst := 0, fclr := 0, onReq := if s.confirmed.isSome then s.onReq else none, cycleAt := t } }
    let d3 := d2.each d2.inPairsL (fun p e => e.pairSample p (s.prst.testBit p))
    let d4 := (d3.each d3.connsL (fun c e => e.connCycle c)).inputTrips
    let d5 := d4.each d4.outPairsL (fun p e => if s.fclr.testBit p then e.clearOutFault p (if fclrOff.testBit p then 10000000 else 0) else e)
    let d6 := d5.releases s.rst s.cycleAt
    let d7 := d6.each (List.range d6.variant.outlets) (fun o e => e.publishClaim o)
    let d8 := match s.confirmed, s.onReq with
      | none, some m => d7.each d7.outPairsL (fun p e => e.setBit SOUT_PCTL p 0 (m.testBit p))
      | _, _ => d7
    let d8 := match d8.pair.onMask with
      | some m => { d8.each (d8.outPairsL.filter (fun p => d8.bit SOUT_PCFG p 24)) (fun p e => e.setBit SOUT_PCTL p 0 (m.testBit p)) with
                    pair := { d8.pair with onMask := none } }
      | none => d8
    let d9 := d8.each d8.outPairsL (fun p e => e.outputCycle s.confirmed.isSome p)
    let ka := if d9.pwr.ifaceReset then 1 else 3
    let d10 := (d9.wr SOUT_KASTAT 0 ka).xoutCycle
    d10.wr SAF_STAT 0 d10.safStat

/-! ### Cross-trip (R445-R447) -/

/-- XTRIP_INPUT: XTRIP_IN_N has been low for lowNs, and is high again or not. Below 20 us it confirms the line, from 50 us on
it is a site trip with cause 0xB while XTEN is 1. -/
def Dev.xtripInput (d : Dev) (t lowNs : Nat) (nowHigh : Bool) : Dev :=
  let d0 := (d.at t).setBit SAF_XSTAT 0 0 (!nowHigh)
  let d1 := if lowNs < 20000 ∧ nowHigh then { d0 with saf := { d0.saf with xConf := t } } else d0
  if 50000 ≤ lowNs ∧ d1.bit SAF_SITECFG 0 17 then d1.siteTrip 0xB t else d1

/-- XTRIP_TEST_PULSE: every 100 ms XTRIP_OUT_N is low for 5 us, unless a trip holds it low. -/
def Dev.xtripPulse (d : Dev) (t : Nat) : Dev :=
  let d0 := d.at t
  if d0.up .safety && !d0.bit SAF_XSTAT 0 1 && decide (d0.saf.xPulseAt + 100000000 ≤ t) then
    { d0 with saf := { d0.saf with xPulseAt := t } }
  else d0

/-- XLINE_TIMEOUT: with XTEN, no short pulses for 300 ms set XLINE; it does not trip. -/
def Dev.xlineTimeout (d : Dev) (t : Nat) : Dev :=
  let d0 := d.at t
  if d0.up .safety && d0.bit SAF_SITECFG 0 17 && decide (d0.saf.xConf + 300000000 ≤ t) then (d0.setBit SAF_XSTAT 0 2 true).ev 0x58 1
  else d0

end Sys2Proof.Machine
end

