-- ==== Sys2Proof/Machine/Pair.lean ====
section
/-! DEFINITION. The redundant pair (spec/18_pair_and_recovery.md, R702-R717): lanes, heartbeats, mirrors, pair states,
takeover, demotion and handover, and the follower's timebase (R615-R617). -/
namespace Sys2Proof.Machine

/-! ### Roles and states -/

/-- The role in force, 0 A, 1 B. -/
def Dev.auRole (d : Dev) : Nat := b2n (d.bit AUS_STAT 0 4)
/-- The epoch held. -/
def Dev.epoch (d : Dev) : Nat := d.fld AUS_EPOCH 0 15 0
/-- LOSSN: 0 acts as 1, 3 acts as 2. -/
def Dev.lossN (d : Dev) : Nat := clampN (bits d.pair.cfg 17 16) 1 2

/-- The token of the C-frames (Table 3.7, Table 18.2). -/
def Dev.showToken (d : Dev) : Dev :=
  if d.pstate = 0 then d.wr CAB_TOKEN 0 0x00010001
  else d.wr CAB_TOKEN 0 (w32 (65536 * d.epoch + 256 * d.auRole + 2 + b2n (decide (d.pstate = 4))))

/-- GPIO15 with ACTPIN: none where it is no output of the pair (R716). -/
def Dev.actPin (d : Dev) : Option Bool :=
  if bitOf d.pair.cfg 20 ∧ d.variant = .px4840 then some (decide (d.pstate = 4) && decide (d.pwr.phase = .running)) else none

/-- Enter a pair state (Table 18.2): the log entry, the metrology role (R332), the timebase's FOLLOW (R615, R616), the
token, and no tuning session, which is not mirrored (R222). -/
def Dev.enterPstate (d : Dev) (n : Nat) : Dev :=
  let old := d.pstate
  let d0 := if n = 0 then d else d.tunNone
  let d1 := (d0.setFld AUS_STAT 0 2 0 n).logPut 9 0x33 (leBytes 1 old ++ leBytes 1 n)
  let d2 :=
    if n = 4 then
      let was := d1.bit TMB_STAT 0 4 && d1.pair.hb.isSome
      let e := if was then d1.setFld TMB_STAT 0 1 0 (if d1.tmb.partnerSync = 1 then 1 else 2) else d1
      (e.setBit TMB_STAT 0 4 false).wr MTR_ROLE 0 1
    else if n = 0 then (d1.setBit TMB_STAT 0 4 false).wr MTR_ROLE 0 0
    else
      let e := (d1.setBit TMB_STAT 0 4 true).wr MTR_ROLE 0 2
      if old = 0 ∨ old = 4 then
        { e with mtr := { e.mtr with adoptDue := true, adopted := false }
                 loop := { e.loop with due := [], inLane := [], notIn := [] } }
      else e
  let d3 := if n = 1 then { d2.setBit MTR_PAIRSTAT 0 0 false with pair := { d2.pair with waitFrom := d2.time, copied := false, copyIn := none } } else d2
  let d4 : Dev := { d3 with pair := { d3.pair with takeNext := none, takeDue := none, missRun := 0, demoteRun := 0, demoteSeen := none, handAt := none } }
  d4.showToken

/-- SYNC ends once the copy is applied and T and the totals are adopted (Table 18.2). -/
def Dev.syncDone (d : Dev) : Dev :=
  if d.pstate = 2 ∧ d.pair.copied ∧ d.mtr.adopted then (d.enterPstate 3).ev 0x75 4 else d

/-- TOTALS_ADOPT in the standby role, which may end SYNC (R334, R617, Table 18.2). -/
def Dev.adopt (d : Dev) (a : Adoption) : Dev :=
  if d.pstate = 2 ∨ d.pstate = 3 then (d.totalsAdopt a).syncDone else d

/-! ### Takeover (R713) -/

/-- The newest epoch among the one held and every TOKEPOCH seen in T-frames. -/
def Dev.newestEpoch (d : Dev) : Nat :=
  match d.pair.tokSeen with | some e => if newer e d.epoch then e else d.epoch | none => d.epoch

/-- The due evaluations of the frames between the last mirror and b count as missed with cause 0x4 (R713.2). -/
def Dev.missBetween (d : Dev) (g b : Nat) : Dev :=
  d.each ((List.range (b - 1 - g)).map (fun k => g + 1 + k)) (fun f e =>
    e.each (e.enabled.filter (fun n => e.dueIn n f && !e.inMove n)) (fun n z => z.missCtx n 4))

/-- A device that takes the active role signs every CLOSED record it holds (R375). -/
def Dev.signClosed (d : Dev) : Dev :=
  d.each (List.range 32) (fun k e => match kvGet e.bil.sess k none with
    | some x => if x.state = 2 then e.setSess k (some { x with signAsked := true }) else e
    | none => e)

/-- Mastership at boundary b, the start of the present frame, with a cause of Table 18.10 (R713). -/
def Dev.takeOver (d : Dev) (cause : Nat) : Dev :=
  let held := d.epoch
  let e := (d.newestEpoch + 1 + d.auRole) % 65536
  let fromStandby := decide (d.pstate = 3)
  let ons := d.pair.hb.map Heartbeat.ons
  let g := d.pair.mirrorFrame
  let d1 := ((d.setFld AUS_EPOCH 0 15 0 e).wr AUS_LASTTO 0 (w32 (cause + 65536 * e))).wr AUS_TOFRM 0 (d.rd LPE_FRAMELO 0)
  let d2 := (d1.ev 0x75 0).logPut 9 0x30 (leBytes 1 cause ++ leBytes 2 held ++ leBytes 2 e ++ leBytes 8 d1.frame)
  let d3 := d2.enterPstate 4
  let d4 := if fromStandby then d3.missBetween g d3.frame else d3
  let d5 := d4.each (List.range d4.variant.outlets) (fun o x => x.setArbR o { x.arbR o with vreqFrom := some x.time })
  let d6 := (d5.each d5.plcSlaves (fun s x => x.plcSetMode s (x.plcStart s))).pilResume
  let d7 : Dev := { d6 with pair := { d6.pair with onMask := ons }, mtr := { d6.mtr with flags := d6.mtr.flags ||| 16 } }
  let d8 := d7.signClosed
  { d8 with loop := { d8.loop with due := d8.dueList, distributed := false } }

/-- TAKEOVER: a STANDBY device takes mastership at the boundary just counted, for a cause of Table 18.3 that has come to it,
or at the boundary that the partner's handover names (R712, R713). -/
def Dev.takeover (d : Dev) (t : Nat) (handover : Bool) : Dev :=
  let d0 := d.at t
  if d0.pstate = 3 then
    match d0.pair.takeDue, handover with
    | some c, _ => d0.takeOver c
    | none, true => d0.takeOver 4
    | none, false => d0
  else d0

/-- WAIT_TIMEOUT: WAITT ms in WAIT without the pair link and without a good T-frame of a cabinet that obeys the partner
(Table 18.2). -/
def Dev.waitTimeout (d : Dev) (t : Nat) : Dev :=
  let d0 := d.at t
  if d0.pstate = 1 ∧ ¬ d0.ausalUp ∧ ¬ d0.bit AUS_STAT 0 16 ∧ d0.pair.waitFrom + max 1 (bits d0.pair.cfg 15 0) * 1000000 ≤ t then
    d0.takeOver 5
  else d0

/-- DEMOTION: an ACTIVE device that has seen a newer epoch of its partner in 2 consecutive frames enters WAIT (R714). -/
def Dev.demotion (d : Dev) (t : Nat) : Dev :=
  let d0 := d.at t
  if d0.pstate = 4 ∧ 2 ≤ d0.pair.demoteRun then
    let (e, l) := d0.pair.demoteBy
    (((d0.setBit AUS_STAT 0 18 true).ev 0x75 3).logPut 9 0x31 (leBytes 2 e ++ leBytes 1 l)).enterPstate 1
  else d0

/-- A write to AUS_CTL with HANDOVER (R715). -/
def Dev.askHandover (e : Dev) (v : Word) : Dev :=
  if !bitOf v 0 then e
  else
    let waits := e.txn.commits.any (fun c => c.needsAck && c.ackAt.isNone)
    let pn : Bool := match e.pair.hb with | some h => decide (h.level = .normal) | none => false
    if e.pstate = 4 ∧ e.partnerState = 3 ∧ e.level = .normal ∧ pn = true ∧ waits = false then
      { e with pair := { e.pair with handAt := some e.time } }
    else e.setBit AUS_STAT 0 17 true

/-- HANDOVER: that write through its gate. -/
def Dev.handover (d : Dev) (i : Initiator) (v : Word) : Dev := d.gated i AUS_CTL v (fun _ e => e.askHandover v)

/-! ### Lanes (R702-R704) -/

/-- A lane's working state. -/
def Dev.lane (d : Dev) (l : Nat) : LaneRec := kvGet d.pair.lane l {}
/-- Replace it. -/
def Dev.setLane (d : Dev) (l : Nat) (x : LaneRec) : Dev := { d with pair := { d.pair with lane := kvSet d.pair.lane l x {} } }

/-- A message leaves on both lanes that are up, and enters the replay buffer of 64 (R703). -/
def Dev.pairSend (d : Dev) : Dev :=
  let d1 := d.each (List.range d.variant.lanes) (fun l e => if e.bit AUS_STAT 0 (8 + l) then e.setLane l { e.lane l with seq := (e.lane l).seq + 1 } else e)
  let p := d1.pair
  { d1 with pair := { p with seqOut := p.seqOut + 1, sent := (p.sent ++ [p.seqOut]).drop (p.sent.length - 63) } }

/-- AUSAL_REPLAY: message `first` was not acknowledged within 2 us on a lane; the messages from it on are sent again (R703). -/
def Dev.ausalReplay (d : Dev) (t l first unackedNs : Nat) : Dev :=
  let d0 := d.at t
  if l < d0.variant.lanes ∧ d0.up .link ∧ d0.bit AUS_STAT 0 (8 + l) ∧ 2000 ≤ unackedNs then
    let x := d0.lane l
    let run := if x.msg = first ∧ x.run ≠ 0 then x.run + 1 else 1
    (d0.setLane l { x with msg := first, run := min run 8, resent := d0.pair.sent.filter (fun n => decide (first ≤ n)) }).incFld AUS_ERRCNT 0
      (16 * l + 15) (16 * l)
  else d0

/-- The pair link goes down: the partner is not heard, SYNC ends, a STANDBY device takes over at the next boundary, commits
wait no longer for an acknowledgement (R704, R708, R711, R712). -/
def Dev.pairLinkDown (d : Dev) : Dev :=
  let heard := decide (d.partnerState ≠ 7)
  let d1 := (d.setFld AUS_STAT 0 14 12 7).when heard (fun e => e.ev 0x75 1)
  let d2 : Dev := { d1 with
    pair := { d1.pair with seqIn := 0, mirrorOut := [], waitFrom := if d1.pstate = 1 then d1.time else d1.pair.waitFrom }
    txn := { d1.txn with commits := d1.txn.commits.map (fun (c : Commit) =>
      if c.needsAck && c.ackAt.isNone then { c with needsAck := false, ackAt := some d1.time } else c) } }
  match d2.pstate with
  | 2 => d2.enterPstate 1
  | 3 => { d2 with pair := { d2.pair with takeNext := some 3 } }
  | _ => d2

/-- A lane changes: LANECHG and a log entry (R704). -/
def Dev.laneChange (d : Dev) (l : Nat) (isUp : Bool) : Dev :=
  (((d.setBit AUS_STAT 0 (8 + l) isUp).setLane l { d.lane l with run := 0 }).ev 0x75 2).logPut 9 0x32 (leBytes 1 l ++ leBytes 1 (b2n isUp))

/-- LANE_DOWN: 8 consecutive replays of one message, or 20 us without a valid symbol (R704). -/
def Dev.laneDown (d : Dev) (t l quietNs : Nat) : Dev :=
  let d0 := d.at t
  if l < d0.variant.lanes ∧ d0.up .link ∧ d0.bit AUS_STAT 0 (8 + l) ∧ (8 ≤ (d0.lane l).run ∨ 20000 ≤ quietNs) then
    let d1 := d0.laneChange l false
    if d1.ausalUp then d1 else d1.pairLinkDown
  else d0

/-- LANE_UP: retraining and 1,000 consecutive good idle symbols (R704). -/
def Dev.laneUp (d : Dev) (t l idles : Nat) : Dev :=
  let d0 := d.at t
  if l < d0.variant.lanes ∧ d0.up .link ∧ ¬ d0.bit AUS_STAT 0 (8 + l) ∧ 1000 ≤ idles then d0.laneChange l true else d0

/-! ### Heartbeats (R705) -/

/-- What this device's heartbeat carries now. -/
def Dev.heartbeat (d : Dev) : Heartbeat :=
  { pstate := d.pstate, role := d.auRole, epoch := d.epoch, level := d.level, cause := d.rd PWR_CAUSE 0, frame := d.frame, time := d.time
    ons := d.outPairsL.foldl (fun s p => if d.bit SOUT_PCFG p 24 && d.bit SOUT_PCTL p 0 then s + 2 ^ p else s) 0
    trips := d.rd SAF_TRIPSUM 0, sync := d.fld TMB_STAT 0 1 0, rate := d.rd TMB_RATE 0
    offsLo := w32 (twos d.tmb.offs 64), offsHi := w32 (twos d.tmb.offs 64 / 2 ^ 32), utc := d.rd TMB_UTC 0 }

/-- HEARTBEAT_SEND: every 50 us, at every level. A heartbeat of the partner that has not come since the last one sent is
missed (R705, Table 18.10). -/
def Dev.heartbeatSend (d : Dev) (t : Nat) : Dev :=
  let d0 := d.at t
  let due := match d0.pair.sentAt with | none => true | some s => decide (s + 50000 ≤ t)
  if decide (d0.pstate ≠ 0) && d0.up .link && due then
    let d1 := if d0.pair.sentAt.isSome && !d0.pair.hbSeen then d0.incFld AUS_MISS 0 31 16 else d0
    ({ d1 with pair := { d1.pair with hbOut := some d1.heartbeat, sentAt := some t, hbSeen := false } }).pairSend
  else d0

/-- A message of the partner with a pair sequence number is taken: the first good copy only (R703). -/
def Dev.pairTake (d : Dev) (seq : Nat) : Bool := decide (d.pstate ≠ 0) && d.up .link && d.ausalUp && decide (d.pair.seqIn ≤ seq)

/-- Cause 2 of Table 18.3: the partner's level is Limp or Hold for a failure of its own, and this device is at Normal. -/
def Dev.partnerFails (d : Dev) (h : Heartbeat) : Bool :=
  (decide (h.level = .limp) || decide (h.level = .hold)) && decide (h.cause &&& 0x7D ≠ 0) && decide (d.level = .normal)

/-- HEARTBEAT_RECEIVE: the partner's state, role, epoch and level; `acked` of this device's mirrored writes are acknowledged
(R615, R705, R710-R712, R714). -/
def Dev.heartbeatReceive (d : Dev) (t seq acked : Nat) (h : Heartbeat) : Dev :=
  let d0 := d.at t
  if !d0.pairTake seq then d0
  else
    let d1 := { (d0.setFld AUS_STAT 0 14 12 h.pstate) with
      pair := { d0.pair with seqIn := seq + 1, hb := some h, hbAt := some t, hbSeen := true, mirrorOut := d0.pair.mirrorOut.drop acked } }
    let d2 := d1.seeEpoch h.epoch
    let same := decide (h.role = d2.auRole)
    let d3 := if same && !d2.bit AUS_STAT 0 16 then d2.ev 0x75 5 else d2
    let d4 := d3.setBit AUS_STAT 0 16 same
    let d5 := if d4.bit TMB_STAT 0 4 && !same then
        { (((d4.wr TMB_RATE 0 h.rate).wr TMB_OFFSLO 0 h.offsLo).wr TMB_OFFSHI 0 h.offsHi).wr TMB_UTC 0 h.utc with
          tmb := { d4.tmb with offs := sext (h.offsHi.toNat * 2 ^ 32 + h.offsLo.toNat) 64, partnerSync := h.sync } }
      else d4
    match d5.pstate with
    | 1 => if same then d5
      else if h.pstate = 4 then d5.enterPstate 2
      else if h.pstate = 1 ∧ d5.auRole = 0 then d5.takeOver 6 else d5
    | 3 => if d5.partnerFails h then { d5 with pair := { d5.pair with takeNext := some (d5.pair.takeNext.getD 2) } } else d5
    | 4 => if h.pstate = 4 ∧ newer h.epoch d5.epoch then { d5 with pair := { d5.pair with demoteSeen := some (h.epoch, 0xFF) } } else d5
    | _ => d5

/-! ### Mirrors (R705-R709) -/

/-- FRAME_MIRROR_RECEIVE: a device in SYNC or STANDBY holds the mirrored state (Table 18.1, Table 18.4). -/
def Dev.frameMirrorReceive (d : Dev) (t seq : Nat) (m : FrameMirror) : Dev :=
  let d0 := d.at t
  if !(d0.pairTake seq && (decide (d0.pstate = 2) || decide (d0.pstate = 3)) && d0.up .control) then d0
  else
    let d1 : Dev := { d0 with pair := { d0.pair with seqIn := seq + 1, mirrorFrame := m.frame } }
    let d2 := d1.each (m.ctxs.filter (fun c => decide (c.ctx < d1.variant.contexts))) (fun c e =>
      (((e.each (List.range 14) (fun k z => z.wr (coefReg c.ctx (0x100 + 4 * k)) 0 (c.st.getD k 0))).wr LPE_OUT c.ctx c.out).wr LPE_MISSCNT c.ctx c.misscnt))
    let d3 := d2.each (m.arbs.filter (fun a => decide (a.arb = 16) || decide (a.arb < d1.variant.outlets))) (fun a e =>
      (if a.arb = 16 then (e.wr ARB_SITEWIN 0 a.win).wr ARB_SITEWST 0 a.wstat else (e.wr ARB_WIN a.arb a.win).wr ARB_WSTAT a.arb a.wstat).setArbR a.arb
        { e.arbR a.arb with ident := a.ident })
    let d4 := d3.each (List.range d3.variant.outlets) (fun o e =>
      (e.wr SHR_CLAIM o (m.claims.getD o 0)).setFld SHR_OSTAT o 31 16 (m.short.getD o 0))
    let d5 := (d4.wr SHR_CYCFRM 0 (w32 m.cycFrame)).each (m.mods.filter (fun p => decide (p.1 < d4.variant.modules))) (fun p e => e.wr RGP_MODSTAT p.1 p.2)
    let d6 := d5.each (m.moves.filter (fun p => decide (p.1 < 8))) (fun p e => (e.setSlot p.1 p.2).showSlot p.1)
    ({ d6 with share := { d6.share with claims := m.claims, cycled := true } }).rgpShow

/-- What SYNC_COPY sends: the listed registers of the mirrored pages and every coefficient block; a register not listed has
its reset value (R709). -/
def Dev.syncOut (d : Dev) : SyncCopy :=
  { regs := d.regs.filterMap (fun p =>
      let off := keyOff p.1
      if d.mirrored (keyPage p.1) && decide (keyBank p.1 = 0) && !decide (off = 0x010 ∨ off = 0x014 ∨ off = 0x01C ∨ off = 0x020) then
        some { page := keyPage p.1, off, inst := p.1 / 16 % 256, val := p.2 }
      else none)
    frame := d.frame }

/-- SYNC_COPY: the active device sends its copy once its partner is in SYNC; a device in SYNC receives it and applies it at its
next boundary (R709). -/
def Dev.syncCopy (d : Dev) (t : Nat) (c : SyncCopy) : Dev :=
  let d0 := d.at t
  if !(d0.up .link && d0.ausalUp) then d0
  else if d0.pstate = 4 ∧ d0.partnerState = 2 then ({ d0 with pair := { d0.pair with copyOut := some d0.syncOut } }).pairSend
  else if d0.pstate = 2 then { d0 with pair := { d0.pair with copyIn := some c } }
  else d0

/-- MIRROR_COMMIT_ACK: on the active device the partner's acknowledgement of an initiator's oldest waiting commit; on the
standby the receipt, with acknowledgement, of a commit's mirrored writes (R708). -/
def Dev.mirrorCommitAck (d : Dev) (t : Nat) (i : Initiator) (ws : List PendWrite) : Dev :=
  let d0 := d.at t
  if !(d0.up .link && d0.ausalUp) then d0
  else if d0.pstate = 4 then
    match d0.txn.commits.find? (fun c => decide (c.init = i) && c.needsAck && c.ackAt.isNone && c.validAt.isSome) with
    | none => d0
    | some c =>
      let d1 := d0.setCommit { c with ackAt := some t }
      { d1 with pair := { d1.pair with mirrorOut := d1.pair.mirrorOut.filter (fun w => !c.staged.contains w) } }
  else if d0.pstate = 2 ∨ d0.pstate = 3 then { d0 with pair := { d0.pair with commitsIn := d0.pair.commitsIn ++ [(ws, t)] } }
  else d0

/-! ### The pair at a boundary -/

/-- What a boundary makes of the pair: missing mirrors and takeover causes of a STANDBY device, demotion evidence and a
handover of an ACTIVE one (R711, R712, R714, R715). -/
def Dev.pairBoundary (d : Dev) : Dev :=
  match d.pstate with
  | 3 =>
    let missed := decide (d.pair.mirrorFrame + 1 < d.frame)
    let d1 := if missed then d.incFld AUS_MISS 0 15 0 else d
    let run := if missed then d.pair.missRun + 1 else 0
    let cause := if d.lossN ≤ run then some 1 else d.pair.takeNext
    { d1 with pair := { d1.pair with missRun := run, takeDue := cause, takeNext := none } }
  | 4 =>
    let p := d.pair
    let d1 : Dev := match p.demoteSeen with
      | some x => { d with pair := { p with demoteRun := p.demoteRun + 1, demoteBy := x, demoteSeen := none } }
      | none => { d with pair := { p with demoteRun := 0 } }
    match d1.pair.handAt with
    | some s => if s + 100000 ≤ d1.time then d1.enterPstate 3 else d1
    | none => d1
  | _ => d

/-- AUS_HBAGE: us since the partner's last heartbeat, saturating (Table 18.10). -/
def Dev.hbAge (d : Dev) : Word := match d.pair.hbAt with | none => 0xFFFF | some s => w32 (min ((d.time - s) / 1000) 0xFFFF)

/-- After a reset AUS_CFG as stored is in force: OFF with EN 0, WAIT with EN 1 (R710, Table 18.2). -/
def Dev.pairBoot (d : Dev) : Dev :=
  let c := d.rd AUS_CFG 0
  let d1 : Dev := { d with pair := { cfg := c, waitFrom := d.time } }
  if d.variant = .px4840 ∧ bitOf c 31 then (d1.setBit AUS_STAT 0 4 (bitOf c 24)).enterPstate 1 else d1.showToken

end Sys2Proof.Machine
end

