-- ==== Sys2Proof/Machine/Aes.lean ====
section
/-! DEFINITION. AES with 128- and 256-bit keys (FIPS 197) and its Galois/Counter Mode (NIST SP 800-38D), which the crypto
engine computes (R595). -/
namespace Sys2Proof.Machine

/-! ### The cipher -/

/-- Multiply by x in GF(2^8). -/
def aesX (b : Nat) : Nat := if b < 128 then 2 * b else (2 * b) % 256 ^^^ 0x1B

/-- Product in GF(2^8), over n bits of the second factor. -/
def aesMulAux : Nat → Nat → Nat → Nat
  | 0, _, _ => 0
  | n + 1, a, b => (if b % 2 = 1 then a else 0) ^^^ aesMulAux n (aesX a) (b / 2)

/-- Product in GF(2^8). -/
def aesMul (a b : Nat) : Nat := aesMulAux 8 a b

/-- Inverse in GF(2^8), 0 for 0: the 254th power. -/
def aesInv (a : Nat) : Nat :=
  let a2 := aesMul a a
  let a3 := aesMul a2 a
  let a12 := aesMul (aesMul a3 a3) (aesMul a3 a3)
  let a15 := aesMul a12 a3
  let s := fun (x : Nat) => aesMul x x
  let a240 := s (s (s (s a15)))
  aesMul (aesMul a240 a12) a2

/-- Rotate a byte left. -/
def rol8 (b n : Nat) : Nat := (b <<< n ||| b >>> (8 - n)) % 256

/-- The S-box. -/
def aesSub (b : Byte) : Byte :=
  let i := aesInv b.toNat
  w8 (i ^^^ rol8 i 1 ^^^ rol8 i 2 ^^^ rol8 i 3 ^^^ rol8 i 4 ^^^ 0x63)

/-- XOR of two byte lists. -/
def xorBytes (a b : List Byte) : List Byte := List.zipWith (· ^^^ ·) a b

/-- More words of the key schedule: nk words per key, word number i, words so far newest first, n more to make. -/
def aesExpand (nk : Nat) : Nat → Nat → Nat → List (List Byte) → List (List Byte)
  | 0, _, _, ws => ws
  | n + 1, i, rc, ws =>
    let t := ws.headD []
    let (t', rc') : List Byte × Nat :=
      if i % nk = 0 then (xorBytes ((t.drop 1 ++ t.take 1).map aesSub) [w8 rc, 0, 0, 0], aesX rc)
      else if 6 < nk ∧ i % nk = 4 then (t.map aesSub, rc) else (t, rc)
    aesExpand nk n (i + 1) rc' (xorBytes (ws.getD (nk - 1) []) t' :: ws)

/-- The round keys, 16 bytes each. -/
def aesKeys (key : List Byte) : List (List Byte) :=
  let nk := key.length / 4
  let w0 := ((List.range nk).map (fun i => slice key (4 * i) 4)).reverse
  let all := (aesExpand nk (4 * (nk + 7) - nk) nk 1 w0).reverse.flatten
  (List.range (nk + 7)).map (fun r => slice all (16 * r) 16)

/-- SubBytes and ShiftRows, column by column. -/
def aesShift (s : List Byte) : List Byte := (List.range 16).map (fun i => aesSub (s.getD ((i + 4 * (i % 4)) % 16) 0))

/-- MixColumns. -/
def aesMix (s : List Byte) : List Byte :=
  (List.range 16).map (fun i =>
    let g := fun (k : Nat) => (s.getD (i / 4 * 4 + (i + k) % 4) 0).toNat
    w8 (aesMul (g 0) 2 ^^^ aesMul (g 1) 3 ^^^ g 2 ^^^ g 3))

/-- One block under round keys. -/
def aesEnc (ks : List (List Byte)) (b : List Byte) : List Byte :=
  match ks with
  | [] => b
  | k0 :: r =>
    let s := (r.dropLast).foldl (fun s k => xorBytes (aesMix (aesShift s)) k) (xorBytes b k0)
    xorBytes (aesShift s) (r.getLastD [])

/-! ### Galois/Counter Mode -/

/-- Product in GF(2^128) of GCM, bit 127 of a number being the first bit. -/
def gcmMulAux : Nat → Nat → Nat → Nat
  | 0, _, _ => 0
  | n + 1, x, v => (if x.testBit n then v else 0) ^^^ gcmMulAux n x (if v % 2 = 1 then v / 2 ^^^ (0xE1 <<< 120) else v / 2)

/-- A block padded with zeros to whole 16 bytes. -/
def pad16 (l : List Byte) : List Byte := l ++ List.replicate ((16 - l.length % 16) % 16) 0

/-- GHASH over whole blocks. -/
def ghash (h : Nat) (l : List Byte) : Nat :=
  (List.range (l.length / 16)).foldl (fun y i => gcmMulAux 128 (y ^^^ beNat (slice l (16 * i) 16)) h) 0

/-- The key stream from counter 2 on, applied to bytes. -/
def gcmCtr (ks : List (List Byte)) (iv l : List Byte) : List Byte :=
  xorBytes l ((List.range ((l.length + 15) / 16)).flatMap (fun i => aesEnc ks (iv ++ beBytes 4 (i + 2))))

/-- The tag over additional data and ciphertext. -/
def gcmTag (ks : List (List Byte)) (iv aad c : List Byte) : List Byte :=
  let h := beNat (aesEnc ks (List.replicate 16 0))
  let s := ghash h (pad16 aad ++ pad16 c ++ beBytes 8 (8 * aad.length) ++ beBytes 8 (8 * c.length))
  xorBytes (beBytes 16 s) (aesEnc ks (iv ++ beBytes 4 1))

/-- Encrypt: the ciphertext, then the 16-byte tag. -/
def gcmEncrypt (key iv aad p : List Byte) : List Byte :=
  let ks := aesKeys key
  let c := gcmCtr ks iv p
  c ++ gcmTag ks iv aad c

/-- Decrypt a ciphertext followed by its tag; nothing where the tag is wrong. -/
def gcmDecrypt (key iv aad ct : List Byte) : Option (List Byte) :=
  let ks := aesKeys key
  let c := ct.take (ct.length - 16)
  if gcmTag ks iv aad c = ct.drop (ct.length - 16) then some (gcmCtr ks iv c) else none

end Sys2Proof.Machine
end

