-- ==== Sys2Proof/Machine/Ring.lean ====
section
/-! DEFINITION. Descriptor rings in compute SRAM: the descriptor of Table 13.1 and the ring rules of R526, which the
vehicle links and the Ethernet queues share (R606). -/
namespace Sys2Proof.Machine

/-- A descriptor of Table 13.1. -/
structure Desc where
  addr : Nat
  len : Nat
  flags : Nat
  deriving DecidableEq, Repr

/-- n bytes from a lie in compute SRAM (Table 2.1). -/
def inSram (a n : Nat) : Bool := decide (0x08000000 ≤ a) && decide (a + n ≤ 0x09000000)

/-- The descriptor at an address. -/
def Sys.desc (s : Sys) (a : Nat) : Desc := ⟨memNat s.mem a 4, memNat s.mem (a + 4) 2, memNat s.mem (a + 6) 2⟩

/-- Return a descriptor: LEN, FLAGS with OWN 0, TSTAMP. -/
def Sys.giveBack (s : Sys) (a len : Nat) (err : Bool) (stamp : Nat) : Sys :=
  s.store (a + 4) (leBytes 2 len ++ leBytes 2 (b2n err) ++ leBytes 8 stamp)

/-- What the controller finds at a ring position: an address outside compute SRAM, nothing it may take, or a descriptor
it owns. -/
inductive Take where
  | bad
  | none
  | own (a : Nat) (x : Desc)
  deriving DecidableEq, Repr

/-- Examine a ring of `n` descriptors at a position. -/
def Sys.take (s : Sys) (base n pos : Nat) : Take :=
  if n = 0 then .none
  else if !inSram base (16 * n) then .bad
  else
    let a := base + 16 * (pos % n)
    let x := s.desc a
    if !x.flags.testBit 15 then .none
    else if !inSram x.addr x.len then .bad
    else .own a x

/-- The bases and lengths of a pair of rings, and the longest frame a transmit descriptor may hold. -/
structure RingCfg where
  txBase : Nat
  txLen : Nat
  rxBase : Nat
  rxLen : Nat
  maxTx : Nat

/-- What an operation on rings leaves: the ring, the device, and whether a bad address stopped it. -/
structure RingOut where
  sys : Sys
  ring : Ring
  bad : Bool

/-- Look for a transmit descriptor to send. -/
def Sys.ringLook (s : Sys) (c : RingCfg) (r : Ring) (now : Nat) : RingOut :=
  match s.take c.txBase c.txLen r.txPos with
  | .bad => ⟨s, { r with stopped := true, busy := false }, true⟩
  | .none => ⟨s, { r with busy := false }, false⟩
  | .own _ _ => ⟨s, { r with busy := true, readyAt := now }, false⟩

/-- The frame taken has been sent, or given up: its descriptor is returned and the next one examined. A descriptor longer
than a frame may be is returned with ERR. -/
def Sys.ringSent (s : Sys) (c : RingCfg) (r : Ring) (now stamp : Nat) (ok : Bool) : RingOut :=
  match s.take c.txBase c.txLen r.txPos with
  | .bad => ⟨s, { r with stopped := true, busy := false }, true⟩
  | .none => ⟨s, { r with busy := false }, false⟩
  | .own a x =>
    (s.giveBack a x.len (!ok || decide (c.maxTx < x.len)) stamp).ringLook c { r with txPos := (r.txPos + 1) % c.txLen } now

/-- Place a received frame into the next owned receive descriptor; `none` where there is none. -/
def Sys.ringReceive (s : Sys) (c : RingCfg) (r : Ring) (stamp : Nat) (bytes : List Byte) : Option RingOut :=
  match s.take c.rxBase c.rxLen r.rxPos with
  | .bad => some ⟨s, { r with stopped := true, busy := false }, true⟩
  | .none => none
  | .own a x =>
    let n := min bytes.length x.len
    some ⟨(s.store x.addr (bytes.take n)).giveBack a n (decide (x.len < bytes.length)) stamp,
      { r with rxPos := (r.rxPos + 1) % c.rxLen }, false⟩

end Sys2Proof.Machine
end

