-- ==== Sys2Proof/Machine/Engine.lean ====
section
/-! DEFINITION. Job rings: the descriptor of Table 15.3 and the rules of R594, which the crypto engine (page 0x1A), the EXI
accelerator (0x1B) and the key island (0x12, R645) share. -/
namespace Sys2Proof.Machine

/-- The engine of a page. -/
def Dev.eng (d : Dev) (page : Nat) : EngState :=
  if page = 0x1A then d.cmp.cry else if page = 0x1B then d.cmp.exi else d.key.eng

/-- Replace it. -/
def Dev.setEng (d : Dev) (page : Nat) (x : EngState) : Dev :=
  if page = 0x1A then { d with cmp := { d.cmp with cry := x } }
  else if page = 0x1B then { d with cmp := { d.cmp with exi := x } }
  else { d with key := { d.key with eng := x } }

/-- The ring registers of a page stand at the same offsets on all three pages: base, length, head, tail, status. -/
def engBase (page : Nat) : Reg := ⟨page, 0x040, 0⟩
/-- Descriptors of the ring. -/
def engLen (page : Nat) : Reg := ⟨page, 0x044, 0⟩
/-- The index after the last filled descriptor. -/
def engHead (page : Nat) : Reg := ⟨page, 0x048, 0⟩
/-- The next descriptor to process. -/
def engTail (page : Nat) : Reg := ⟨page, 0x04C, 0⟩
/-- BUSY, STOPPED and the last failing STATUS. -/
def engStat (page : Nat) : Reg := ⟨page, 0x050, 0⟩

/-- The ring has a job and is not stopped. -/
def Dev.engHas (d : Dev) (page : Nat) : Bool :=
  decide (d.fld (engLen page) 0 9 0 ≠ 0) && decide (d.fld (engHead page) 0 9 0 ≠ d.fld (engTail page) 0 9 0) &&
    !d.bit (engStat page) 0 1

/-- BUSY follows. -/
def Dev.engShow (d : Dev) (page : Nat) : Dev := d.setBit (engStat page) 0 0 (d.engHas page)

/-- A write to HEAD, RLEN or RBASE: a write to HEAD restarts a stopped ring (R594). -/
def Dev.engWritten (d : Dev) (page off : Nat) : Dev :=
  (if off = 0x048 then d.setBit (engStat page) 0 1 false else d).engShow page

/-- A job descriptor. -/
structure Job where
  op : Nat
  slotKey : Bool
  irq : Bool
  key : Nat
  input : Nat
  inLen : Nat
  out : Nat
  outCap : Nat
  aux : Nat
  auxLen : Nat
  deriving DecidableEq, Repr

/-- The address of the present job's descriptor. -/
def Dev.jobAddr (d : Dev) (page : Nat) : Nat := d.fld (engBase page) 0 31 5 * 32 + 32 * d.fld (engTail page) 0 9 0

/-- The descriptor at an address. -/
def Sys.job (s : Sys) (a : Nat) : Job :=
  let f := fun (o n : Nat) => memNat s.mem (a + o) n
  { op := f 0 2, slotKey := decide (f 2 1 = 1), irq := (f 3 1).testBit 0, key := f 4 4, input := f 8 4, inLen := f 12 4
    out := f 16 4, outCap := f 20 4, aux := f 24 4, auxLen := f 28 2 }

/-- A buffer is empty or lies in compute SRAM. -/
def bufOk (a n : Nat) : Bool := decide (n = 0) || inSram a n

/-- The input, output and auxiliary buffers lie in compute SRAM (STATUS 0x04 otherwise). -/
def Job.bufsOk (j : Job) : Bool := bufOk j.input j.inLen && bufOk j.out j.outCap && bufOk j.aux j.auxLen

/-- Run the operation of the present job, if it is one of `ops` and not yet run: `f` gives STATUS and output, which is
written when STATUS is 0x01. An uncorrectable ECC error ends the job with 0x07, an address outside compute SRAM with 0x04,
and too small an output with 0x03. -/
def Sys.runJob (s : Sys) (t page : Nat) (eccOk : Bool) (ops : List Nat) (f : Job → Sys → (Nat × List Byte) × Sys) : Sys :=
  let s0 := s.onDev (·.at t)
  let a := s0.dev.jobAddr page
  let j := s0.job a
  if !(s0.dev.up (pageIsland page) && s0.dev.engHas page && (s0.dev.eng page).result.isNone && inSram a 32 && ops.contains j.op) then s0
  else if !j.bufsOk then s0.onDev (fun d => d.setEng page { result := some (4, 0) })
  else if !eccOk then s0.onDev (fun d => d.setEng page { result := some (7, 0) })
  else
    let ((st, out), s1) := f j s0
    if st ≠ 1 then s1.onDev (fun d => d.setEng page { result := some (st, 0) })
    else if j.outCap < out.length then s1.onDev (fun d => d.setEng page { result := some (3, 0) })
    else (s1.store j.out out).onDev (fun d => d.setEng page { result := some (1, out.length) })

/-- A job completes: STATUS and OUTLEN, the tail, JOBDONE or JOBERR; a status other than 0x01 and 0x02 stops the ring. -/
def Sys.jobEnds (s : Sys) (page st outLen : Nat) (writes : Bool) : Sys :=
  let a := s.dev.jobAddr page
  let j := s.job a
  let s1 := if !writes then s
    else
      let s1 := s.store (a + 30) [w8 st]
      if st = 1 ∧ outLen ≠ 0 then s1.store (a + 20) (leBytes 4 outLen) else s1
  s1.onDev (fun d =>
    let d1 := d.setEng page {}
    let n := d1.fld (engLen page) 0 9 0
    let d2 := d1.wr (engTail page) 0 (w32 ((d1.fld (engTail page) 0 9 0 + 1) % n))
    let d3 := if st = 1 then (if j.irq && writes then d2.ev page 0 else d2) else (d2.setFld (engStat page) 0 15 8 st).ev page 1
    let d4 := if st = 1 ∨ st = 2 then d3 else (d3.setBit (engStat page) 0 1 true).ev page 2
    d4.engShow page)

/-- JOB_DONE on a page whose operations are `known`: the job whose operation has run completes; one with an unknown OP ends
with 0x03, and a descriptor outside compute SRAM with 0x04. -/
def Sys.jobDone (s : Sys) (t page : Nat) (known : List Nat) : Sys :=
  let s0 := s.onDev (·.at t)
  if !(s0.dev.up (pageIsland page) && s0.dev.engHas page) then s0
  else
    let a := s0.dev.jobAddr page
    if !inSram a 32 then s0.jobEnds page 4 0 false
    else match (s0.dev.eng page).result with
      | some (st, n) => s0.jobEnds page st n true
      | none => if known.contains (s0.job a).op then s0 else s0.jobEnds page 3 0 true

end Sys2Proof.Machine
end

