-- ==== Sys2Proof/Machine/Ed448.lean ====
section
/-! DEFINITION. SHAKE256 (FIPS 202) and Ed448 (RFC 8032), which the crypto engine computes (R595). -/
namespace Sys2Proof.Machine

/-! ### SHAKE256 -/

/-- The round constants of Keccak-f[1600]. -/
def keccakRC : List W64 :=
  ([0x0000000000000001, 0x0000000000008082, 0x800000000000808A, 0x8000000080008000, 0x000000000000808B, 0x0000000080000001,
    0x8000000080008081, 0x8000000000008009, 0x000000000000008A, 0x0000000000000088, 0x0000000080008009, 0x000000008000000A,
    0x000000008000808B, 0x800000000000008B, 0x8000000000008089, 0x8000000000008003, 0x8000000000008002, 0x8000000000000080,
    0x000000000000800A, 0x800000008000000A, 0x8000000080008081, 0x8000000000008080, 0x0000000080000001, 0x8000000080008008]
    : List Nat).map (BitVec.ofNat 64)

/-- The rotation of lane x + 5y. -/
def keccakRot : List Nat := [0, 1, 62, 28, 27, 36, 44, 6, 55, 20, 3, 10, 43, 25, 39, 41, 45, 15, 21, 8, 18, 2, 61, 56, 14]

/-- One round of Keccak-f[1600] on 25 lanes. -/
def keccakRound (a : List W64) (rc : W64) : List W64 :=
  let at' := fun (l : List W64) (i : Nat) => l.getD i 0
  let c := (List.range 5).map (fun x => at' a x ^^^ at' a (x + 5) ^^^ at' a (x + 10) ^^^ at' a (x + 15) ^^^ at' a (x + 20))
  let a1 := (List.range 25).map (fun i => at' a i ^^^ at' c ((i + 4) % 5) ^^^ (at' c ((i + 1) % 5)).rotateLeft 1)
  let b := (List.range 25).map (fun i =>
    let x := (i % 5 + 3 * (i / 5)) % 5
    let j := x + 5 * (i % 5)
    (at' a1 j).rotateLeft (keccakRot.getD j 0))
  let r := (List.range 25).map (fun i =>
    at' b i ^^^ (~~~(at' b (i / 5 * 5 + (i + 1) % 5)) &&& at' b (i / 5 * 5 + (i + 2) % 5)))
  (at' r 0 ^^^ rc) :: r.drop 1

/-- Keccak-f[1600]. -/
def keccakF (a : List W64) : List W64 := keccakRC.foldl keccakRound a

/-- Absorb blocks of 136 bytes. -/
def shakeAbsorb : Nat → List Byte → List W64 → List W64
  | 0, _, a => a
  | n + 1, l, a =>
    shakeAbsorb n (l.drop 136)
      (keccakF ((List.range 25).map (fun i => a.getD i 0 ^^^ (if i < 17 then BitVec.ofNat 64 (leNat (slice l (8 * i) 8)) else 0))))

/-- SHAKE256 with at most 136 bytes of output. -/
def shake256 (l : List Byte) (n : Nat) : List Byte :=
  let z := 135 - l.length % 136
  let p := if z = 0 then l ++ [0x9F] else l ++ [0x1F] ++ List.replicate (z - 1) 0 ++ [0x80]
  ((shakeAbsorb (p.length / 136) p (List.replicate 25 0)).flatMap (fun w => leBytes 8 w.toNat)).take n

/-! ### The curve edwards448 -/

/-- The prime 2^448 - 2^224 - 1. -/
def edP : Nat := 2 ^ 448 - 2 ^ 224 - 1
/-- The order of the base point. -/
def edL : Nat := 2 ^ 446 - 13818066809895115352007386748515426880336692474882178609894547503885
/-- The coefficient d = -39081. -/
def edD : Nat := edP - 39081

/-- A point in projective coordinates. -/
structure EPoint where
  x : Nat
  y : Nat
  z : Nat
  deriving DecidableEq, Repr

/-- The base point. -/
def edB : EPoint :=
  { x := 224580040295924300187604334099896036246789641632564134246125461686950415467406032909029192869357953282578032075146446173674602635247710
    y := 298819210078481492676017930443930673437544040154080242095928241372331506189835876003536878655418784733982303233503462500531545062832660
    z := 1 }

/-- The sum of two points. -/
def edAdd (p q : EPoint) : EPoint :=
  let a := p.z * q.z % edP
  let b := a * a % edP
  let c := p.x * q.x % edP
  let d := p.y * q.y % edP
  let e := edD * c % edP * d % edP
  let f := subMod edP b e
  let g := (b + e) % edP
  let h := (p.x + p.y) * (q.x + q.y) % edP
  ⟨a * f % edP * subMod edP h (c + d) % edP, a * g % edP * subMod edP d c % edP, f * g % edP⟩

/-- A multiple, over n bits of the scalar from the highest. -/
def edMulAux (p : EPoint) (k : Nat) : Nat → EPoint → EPoint
  | 0, r => r
  | n + 1, r =>
    let r2 := edAdd r r
    edMulAux p k n (if k.testBit n then edAdd r2 p else r2)

/-- k times a point. -/
def edMul (k : Nat) (p : EPoint) : EPoint := edMulAux p k 456 ⟨0, 1, 1⟩

/-- The 57 bytes of a point. -/
def edEncode (p : EPoint) : List Byte :=
  let i := invMod edP p.z
  leBytes 57 (p.y * i % edP + p.x * i % edP % 2 * 2 ^ 455)

/-- The point of 57 bytes. -/
def edDecode (l : List Byte) : Option EPoint :=
  let v := leNat (l.take 57)
  let y := v % 2 ^ 455
  let sgn := v / 2 ^ 455 % 2
  let u := subMod edP (y * y) 1
  let w := subMod edP (edD * (y * y % edP)) 1
  let x := powMod edP u 3 * w % edP * powMod edP (powMod edP u 5 * powMod edP w 3) ((edP - 3) / 4) % edP
  if l.length = 57 ∧ y < edP ∧ w * (x * x % edP) % edP = u ∧ !(decide (x = 0) && decide (sgn = 1)) then
    some ⟨if x % 2 = sgn then x else edP - x, y, 1⟩
  else none

/-- The prefix of the hash for an empty context. -/
def edDom : List Byte := [0x53, 0x69, 0x67, 0x45, 0x64, 0x34, 0x34, 0x38, 0, 0]

/-- The scalar of a private key, and the second half of its hash. -/
def edSecret (sk : List Byte) : Nat × List Byte :=
  let h := shake256 sk 114
  (leNat (h.take 57) % 2 ^ 447 / 4 * 4 + 2 ^ 447, h.drop 57)

/-- The public key of a private key. -/
def edPub (sk : List Byte) : List Byte := edEncode (edMul (edSecret sk).1 edB)

/-- Sign a message. -/
def edSign (sk msg : List Byte) : List Byte :=
  let (s, pre) := edSecret sk
  let a := edEncode (edMul s edB)
  let r := leNat (shake256 (edDom ++ pre ++ msg) 114) % edL
  let rr := edEncode (edMul r edB)
  let k := leNat (shake256 (edDom ++ rr ++ a ++ msg) 114) % edL
  rr ++ leBytes 57 ((r + k * s) % edL)

/-- Two points are equal. -/
def edEq (p q : EPoint) : Bool := decide (p.x * q.z % edP = q.x * p.z % edP) && decide (p.y * q.z % edP = q.y * p.z % edP)

/-- Verify a signature of 114 bytes. -/
def edVerify (pk msg sig : List Byte) : Bool :=
  match edDecode pk, edDecode (sig.take 57) with
  | some a, some r =>
    let s := leNat (slice sig 57 57)
    let k := leNat (shake256 (edDom ++ sig.take 57 ++ pk ++ msg) 114) % edL
    decide (sig.length = 114) && decide (s < edL) &&
      edEq (edMul 4 (edMul s edB)) (edMul 4 (edAdd r (edMul k a)))
  | _, _ => false

end Sys2Proof.Machine
end

