-- ==== Sys2Proof/Machine/KeyTree.lean ====
section
/-! DEFINITION. The key tree (spec/16_keys_and_attestation.md, R629-R637): slots, derivation, generations, handles. -/
namespace Sys2Proof.Machine

/-- A slot beside its registers. -/
def Dev.keySlot (d : Dev) (n : Nat) : KeySlot := kvGet d.key.slots n {}
/-- Replace it. -/
def Dev.setKeySlot (d : Dev) (n : Nat) (x : KeySlot) : Dev := { d with key := { d.key with slots := kvSet d.key.slots n x {} } }

/-- A slot is enabled. -/
def Dev.slotEn (d : Dev) (n : Nat) : Bool := d.bit KEY_NCFG n 31
/-- Its usage (Table 16.3). -/
def Dev.slotUse (d : Dev) (n : Nat) : Nat := d.fld KEY_NCFG n 26 24
/-- Its parent. -/
def Dev.slotPar (d : Dev) (n : Nat) : Nat := d.fld KEY_NCFG n 7 0
/-- Its level. -/
def Dev.slotLvl (d : Dev) (n : Nat) : Nat := d.fld KEY_NCFG n 18 16
/-- It holds a derived key. -/
def Dev.derived (d : Dev) (n : Nat) : Bool := !(d.keySlot n).key.isEmpty
/-- Its generation. -/
def Dev.gen (d : Dev) (n : Nat) : Nat := kvGet d.key.gens n 0
/-- Its generation record has no valid copy (R634). -/
def Dev.genBad (d : Dev) (n : Nat) : Bool := kvGet d.key.genBad n false

/-- The slots. -/
def allSlots : List Nat := List.range 256

/-- The test root (R636). -/
def testRoot : List Byte := sha256 ("Kregokel Plosko PX48 test root".toList.map (fun c => w8 c.toNat))

/-- The key material of HKDF output under a usage (Table 16.3). -/
def shapeKey (usage : Nat) (okm : List Byte) : List Byte :=
  if usage = 2 then beBytes 32 (beNat okm % (p256.n - 1) + 1)
  else if usage = 3 then beBytes 48 (beNat okm % (p384.n - 1) + 1)
  else okm

/-- L of Table 16.3. -/
def usageLen (usage : Nat) : Nat := match usage with | 2 => 48 | 3 => 72 | 4 => 57 | _ => 32

/-- The derivation INFO of a slot (Table 16.4), with the label it was enabled under. -/
def Dev.keyInfo (d : Dev) (n : Nat) : List Byte :=
  let label := (List.range 4).flatMap (fun w => leBytes 4 (((kvGet d.key.cfgs n []).getD (w + 1) 0)).toNat)
  [0x41, 0x52, 0x54, 0x31] ++ leBytes 1 (d.slotLvl n) ++ leBytes 1 (d.slotUse n) ++ leBytes 1 d.key.lc ++
    leBytes 1 d.key.rootSel ++ leBytes 4 (d.gen (d.slotPar n)) ++ List.replicate 4 0 ++ label

/-- KEY_NSTAT, KEY_NGEN and KEY_NHANDLE of a slot, and the page's counts. -/
def Dev.slotShow (d : Dev) (n : Nat) : Dev :=
  let x := d.keySlot n
  let st := if !d.slotEn n then 0 else if d.derived n then 1 else if d.genBad n || d.fld KEY_NSTAT (d.slotPar n) 1 0 == 2 then 2 else 0
  let d1 := (d.setFld KEY_NSTAT n 1 0 st).wr KEY_NGEN n (w32 (d.gen n))
  let d2 := d1.wr KEY_NHANDLE n (if d.derived n then w32 ((1 + x.derivations) % 2 ^ 24 * 256 + n) else 0)
  let d3 := (d2.wr KEY_ROOTGEN 0 (w32 (d2.gen 0))).setFld KEY_STAT 0 15 8 (min 255 (allSlots.filter d2.slotEn).length)
  let bad := allSlots.any (fun k => d3.slotEn k && d3.genBad k)
  (d3.setBit KEY_STAT 0 1 bad).setBit KEY_STAT 0 0 (d3.derived 0 && d3.derived 1 && d3.derived 2 && !bad)

/-- A slot may derive: enabled, not derived, its own record valid, its parent derived. -/
def Dev.derivable (d : Dev) (n : Nat) : Bool :=
  d.slotEn n && !d.derived n && !d.genBad n && (decide (n = 0) || d.derived (d.slotPar n))

/-- Derive a slot from its parent, or slot 0 from the root (R631, R636, R637). -/
def Dev.derive (d : Dev) (root : List Byte) (n : Nat) : Dev :=
  if d.derivable n then
    let key := if n = 0 then root
      else shapeKey (d.slotUse n) (hkdfExpand (hkdfExtract (d.keySlot (d.slotPar n)).key) (d.keyInfo n) (usageLen (d.slotUse n)))
    (d.setKeySlot n { key, derivations := (d.keySlot n).derivations + 1 }).slotShow n
  else d

/-- The bytes of a range of fuse bits. -/
def fuseBytes (fuses lo n : Nat) : List Byte := leBytes n (fuses / 2 ^ lo)

/-- The root in force. -/
def Sys.rootKey (s : Sys) : List Byte := if s.dev.key.rootSel = 1 then testRoot else fuseBytes s.fuses 0 32

/-- SLOT_DERIVED: a slot finishes deriving (R632). -/
def Sys.slotDerived (s : Sys) (t n : Nat) : Sys :=
  let s0 := s.onDev (·.at t)
  if s0.dev.up .key && decide (n < 256) then s0.onDev (fun d => d.derive s0.rootKey n) else s0

/-- The descendants of a slot, within k levels. -/
def Dev.descend (d : Dev) (n : Nat) : Nat → List Nat
  | 0 => []
  | k + 1 =>
    let up := n :: d.descend n k
    allSlots.filter (fun x => decide (x ≠ 0) && d.slotEn x && up.contains (d.slotPar x))

/-- Wipe a slot's key. -/
def Dev.wipeSlot (d : Dev) (n : Nat) : Dev := (d.setKeySlot n { d.keySlot n with key := [] }).slotShow n

/-- Show and derive slots level by level. -/
def Dev.deriveAll (d : Dev) (root : List Byte) (l : List Nat) : Dev :=
  d.each (List.range 6) (fun lvl e => e.each (l.filter (fun n => decide (e.slotLvl n = lvl))) (fun n f => (f.derive root n).slotShow n))

/-- A new signing key: its indices start at 0, and its trees are not built (R641, R642). -/
def Dev.newSignKey (d : Dev) : Dev :=
  let r : SigRec := { next := 0, rootSel := d.key.rootSel, lc := d.key.lc, rootGen := d.gen 0, signGen := d.gen 1 }
  let k := { d.key with
    qnext := 0, qlimit := 0, topBuilt := false, built := [], building := [0, 1], topC := []
    sigRec := if d.key.rootSel = 0 then some r else d.key.sigRec
    ramRec := if d.key.rootSel = 0 then none else some r }
  (({ d with key := k }).wr KEY_SIGNEXT 0 0).wr KEY_SIGQ 0 0 |>.setFld KEY_SIGSTAT 0 4 0 4

/-- GENINC on a slot: the generation's new record, then the descendants' keys (R633, R634, R642). -/
def Dev.genInc (d : Dev) (root : List Byte) (i : Initiator) (n : Nat) (writeOk : Bool) : Dev :=
  if n = 2 then d.err 0x11 7 i 0x41C
  else if !d.slotEn n || d.genBad n then d
  else if d.gen n = 0xFFFFFFFF then d.setBit KEY_NSTAT n 4 true
  else if !writeOk then d.setBit KEY_NSTAT n 5 true
  else
    let ds := d.descend n 5
    let d1 := { d with key := { d.key with gens := kvSet d.key.gens n (d.gen n + 1) 0, genBad := d.key.genBad.filter (fun p => !ds.contains p.1) } }
    let d2 := (d1.each ds (fun x e => e.wipeSlot x)).slotShow n
    let d3 := (d2.deriveAll root ds).ev 0x11 0
    if ds.contains 2 then d3.newSignKey else d3

/-- GENINC: a write to KEY_NCTL. -/
def Sys.genIncWrite (s : Sys) (i : Initiator) (writeOk : Bool) : Sys :=
  s.onDev (fun d => d.gated i KEY_NCTL 1 (fun n e => e.genInc s.rootKey i n writeOk))

/-- R632 allows the enabling of a slot with a KEY_NCFG value. -/
def Dev.enableOk (d : Dev) (n : Nat) (v : Word) : Bool :=
  let p := bits v 7 0
  let label := fun (x : Nat) => (List.range 4).map (fun w => d.rd (KEY_NLABEL w) x)
  d.slotEn p && decide (d.slotUse p = 0) && d.derived p && decide (d.slotLvl p < 5) && decide (p ≠ n) &&
    !allSlots.any (fun x => decide (x ≠ n) && decide (x ≠ 0) && d.slotEn x && decide (d.slotPar x = p) && decide (label x = label n))

/-- A write to KEY_NCFG (R630, R632, R663). -/
def Dev.ncfgWrite (d : Dev) (i : Initiator) (n : Nat) (v : Word) : Dev :=
  let bad := d.err 0x11 7 i 0x400
  if n < 3 ∨ 6 ≤ bits v 26 24 then bad
  else if d.slotEn n then
    if bitOf v 31 then d
    else if allSlots.any (fun x => decide (x ≠ 0) && d.slotEn x && decide (d.slotPar x = n)) then bad
    else
      let d1 := (d.setBit KEY_NCFG n 31 false).setFld KEY_NCFG n 18 16 0
      { d1 with key := { d1.key with cfgs := kvDel d1.key.cfgs n } }.wipeSlot n
  else if !bitOf v 31 then d.wr KEY_NCFG n (v &&& 0x070000FF)
  else if !d.enableOk n v then bad
  else
    let w := putBits (v &&& 0x870000FF) 18 16 (d.slotLvl (bits v 7 0) + 1)
    let d1 := d.wr KEY_NCFG n w
    { d1 with key := { d1.key with cfgs := kvPut d1.key.cfgs n (w :: (List.range 4).map (fun k => d1.rd (KEY_NLABEL k) n)) } }.slotShow n

/-- SLOT_ENABLE: a write of KEY_NCFG with EN. -/
def Dev.slotEnable (d : Dev) (i : Initiator) (v : Word) : Dev :=
  d.gated i KEY_NCFG (v ||| 0x80000000) (fun n e => e.ncfgWrite i n (v ||| 0x80000000))

/-- The usages that an operation of the crypto engine or the key island takes its key from (Table 16.3). -/
def opUsage : Nat → List Nat
  | 0x10 => [1] | 0x11 => [1] | 0x20 => [2] | 0x40 => [2] | 0x22 => [3] | 0x41 => [3] | 0x30 => [4]
  | 0x61 => [2, 3, 4] | _ => []

/-- The key of a handle for an operation; none where the job must end with status 0x05 (R637, R643). -/
def Dev.handleKey (d : Dev) (h op : Nat) : Option (List Byte) :=
  let n := h % 256
  if d.up .key && decide (3 ≤ n) && d.slotEn n && d.derived n && decide (d.rd KEY_NHANDLE n = w32 h) && (opUsage op).contains (d.slotUse n)
  then some (d.keySlot n).key else none

end Sys2Proof.Machine
end

