-- ==== Sys2Proof/Machine/Crypto.lean ====
section
/-! DEFINITION. The operations of the crypto engine and of the EXI accelerator (spec/15_compute_island.md, R595-R599). -/
namespace Sys2Proof.Machine

/-- Bytes of compute SRAM. -/
def Sys.inBytes (s : Sys) (j : Job) : List Byte := s.read j.input j.inLen
/-- The auxiliary input. -/
def Sys.auxBytes (s : Sys) (j : Job) : List Byte := s.read j.aux j.auxLen

/-- The n key bytes of a job, or the status it ends with: 0x04 for an address outside compute SRAM, 0x05 for a handle that
names no usable slot (R597, R637). -/
def Sys.jobKey (s : Sys) (j : Job) (n : Nat) : Except Nat (List Byte) :=
  if j.slotKey then
    match s.dev.handleKey j.key j.op with
    | some k => .ok k
    | none => .error 5
  else if inSram j.key n then .ok (s.read j.key n)
  else .error 4

/-- Run an operation that takes n key bytes. -/
def Sys.withKey (s : Sys) (j : Job) (n : Nat) (f : List Byte → Nat × List Byte) : (Nat × List Byte) × Sys :=
  match s.jobKey j n with
  | .error e => ((e, []), s)
  | .ok k => (f k, s)

/-- n bytes of the DRBG: free values (R596). -/
def Dev.randomBytes (d : Dev) (n : Nat) : List Byte × Dev :=
  let ws := (List.range ((n + 3) / 4)).map (fun k => Config.freeWord 596 (d.fresh + k))
  ((ws.flatMap (fun w => leBytes 4 w.toNat)).take n, { d with fresh := d.fresh + ws.length })

/-- CRYPTO_SHA. -/
def Sys.cryptoSha (s : Sys) (t : Nat) (eccOk : Bool) : Sys :=
  s.runJob t 0x1A eccOk [1, 2, 3] (fun j q =>
    let m := q.inBytes j
    ((1, if j.op = 1 then sha256 m else if j.op = 2 then sha384 m else sha512 m), q))

/-- CRYPTO_AES_GCM_ENCRYPT; a key given by address has 128 bits where `short` says so. -/
def Sys.cryptoGcmEncrypt (s : Sys) (t : Nat) (eccOk short : Bool) : Sys :=
  s.runJob t 0x1A eccOk [0x10] (fun j q =>
    if j.auxLen < 12 then ((3, []), q)
    else
      let a := q.auxBytes j
      q.withKey j (if short then 16 else 32) (fun k => (1, gcmEncrypt k (a.take 12) (a.drop 12) (q.inBytes j))))

/-- CRYPTO_AES_GCM_DECRYPT: nothing is written when the tag is wrong (status 0x02). -/
def Sys.cryptoGcmDecrypt (s : Sys) (t : Nat) (eccOk short : Bool) : Sys :=
  s.runJob t 0x1A eccOk [0x11] (fun j q =>
    if j.auxLen < 12 ∨ j.inLen < 16 then ((3, []), q)
    else
      let a := q.auxBytes j
      q.withKey j (if short then 16 else 32) (fun k =>
        match gcmDecrypt k (a.take 12) (a.drop 12) (q.inBytes j) with
        | some p => (1, p)
        | none => (2, [])))

/-- The curve of an operation. -/
def opCurve (op : Nat) : Curve := if [0x22, 0x23, 0x41, 0x43].contains op then p384 else p256

/-- A private scalar lies in 1 to n - 1. -/
def Curve.scalarOk (c : Curve) (k : List Byte) : Bool := decide (0 < beNat k) && decide (beNat k < c.n)

/-- CRYPTO_ECDSA_SIGN (R596). -/
def Sys.cryptoEcdsaSign (s : Sys) (t : Nat) (eccOk : Bool) : Sys :=
  s.runJob t 0x1A eccOk [0x20, 0x22] (fun j q =>
    let c := opCurve j.op
    if j.inLen ≠ c.len then ((3, []), q)
    else q.withKey j c.len (fun k => if c.scalarOk k then (1, ecdsaSign c (beNat k) (q.inBytes j)) else (3, [])))

/-- CRYPTO_ECDSA_VERIFY: the public key, x then y, stands at KEY. -/
def Sys.cryptoEcdsaVerify (s : Sys) (t : Nat) (eccOk : Bool) : Sys :=
  s.runJob t 0x1A eccOk [0x21, 0x23] (fun j q =>
    let c := opCurve j.op
    if j.inLen ≠ c.len ∨ j.auxLen ≠ 2 * c.len then ((3, []), q)
    else q.withKey j (2 * c.len) (fun k => (if ecdsaVerify c k (q.inBytes j) (q.auxBytes j) then 1 else 2, [])))

/-- CRYPTO_ED448_SIGN. -/
def Sys.cryptoEdSign (s : Sys) (t : Nat) (eccOk : Bool) : Sys :=
  s.runJob t 0x1A eccOk [0x30] (fun j q => q.withKey j 57 (fun k => (1, edSign k (q.inBytes j))))

/-- CRYPTO_ED448_VERIFY. -/
def Sys.cryptoEdVerify (s : Sys) (t : Nat) (eccOk : Bool) : Sys :=
  s.runJob t 0x1A eccOk [0x31] (fun j q =>
    if j.auxLen ≠ 114 then ((3, []), q)
    else q.withKey j 57 (fun k => (if edVerify k (q.inBytes j) (q.auxBytes j) then 1 else 2, [])))

/-- CRYPTO_ECDH: a peer key that is no point of the curve ends with 0x02. -/
def Sys.cryptoEcdh (s : Sys) (t : Nat) (eccOk : Bool) : Sys :=
  s.runJob t 0x1A eccOk [0x40, 0x41] (fun j q =>
    let c := opCurve j.op
    if j.auxLen ≠ 2 * c.len then ((3, []), q)
    else q.withKey j c.len (fun k =>
      if !c.scalarOk k then (3, [])
      else match ecdh c (beNat k) (q.auxBytes j) with
        | some x => (1, x)
        | none => (2, [])))

/-- The entropy source fails its health tests: status 0x06 and ENTFAIL (R596). -/
def Sys.entropyFail (s : Sys) : (Nat × List Byte) × Sys := ((6, []), s.onDev (fun d => d.ev 0x1A 3))

/-- CRYPTO_KEY_PAIR_GENERATION: the private scalar, then x and y. -/
def Sys.cryptoKeyPair (s : Sys) (t : Nat) (eccOk entropyOk : Bool) : Sys :=
  s.runJob t 0x1A eccOk [0x42, 0x43] (fun j q =>
    let c := opCurve j.op
    if !entropyOk then q.entropyFail
    else
      let (bs, d1) := q.dev.randomBytes (c.len + 8)
      let k := beNat bs % (c.n - 1) + 1
      ((1, beBytes c.len k ++ c.pub k), { q with dev := d1 }))

/-- CRYPTO_RANDOM_BYTES: OUTLEN bytes. -/
def Sys.cryptoRandom (s : Sys) (t : Nat) (eccOk entropyOk : Bool) : Sys :=
  s.runJob t 0x1A eccOk [0x50] (fun j q =>
    if !entropyOk then q.entropyFail
    else
      let (bs, d1) := q.dev.randomBytes j.outCap
      ((1, bs), { q with dev := d1 }))

/-- The operations of Table 15.4. -/
def cryptoOps : List Nat := [1, 2, 3, 0x10, 0x11, 0x20, 0x21, 0x22, 0x23, 0x30, 0x31, 0x40, 0x41, 0x42, 0x43, 0x50]

/-- CRYPTO_JOB_DONE (R594). -/
def Sys.cryptoJobDone (s : Sys) (t : Nat) : Sys := s.jobDone t 0x1A cryptoOps

/-! ### EXI -/

/-- The deepest nesting of start elements in an event list (Table 15.6). -/
def eventDepth (l : List Byte) : Nat :=
  ((List.range (leAt l 8 8)).foldl (fun (p : Nat × Nat) k =>
    let kind := leAt l (16 * k) 1
    let cur := if kind = 3 then p.1 + 1 else if kind = 4 then p.1 - 1 else p.1
    (cur, max p.2 cur)) (0, 0)).2

/-- EXI_DECODE: a stream into an event list (R598). -/
def Sys.exiDecode (s : Sys) (t : Nat) (eccOk : Bool) : Sys :=
  s.runJob t 0x1B eccOk [1] (fun j q =>
    let x := q.inBytes j
    if !(decide (1 ≤ j.key) && decide (j.key ≤ 6)) then ((3, []), q)
    else if 65535 < j.inLen ∨ 24 < Config.exiDepth j.key x then ((9, []), q)
    else if !Config.exiValid 1 j.key x then ((8, []), q)
    else ((1, Config.exiOut 1 j.key x), q))

/-- EXI_ENCODE: an event list into a stream (R598, R599). -/
def Sys.exiEncode (s : Sys) (t : Nat) (eccOk : Bool) : Sys :=
  s.runJob t 0x1B eccOk [2] (fun j q =>
    let x := q.inBytes j
    let n := leAt x 8 8
    if !(decide (1 ≤ j.key) && decide (j.key ≤ 6)) then ((3, []), q)
    else if j.inLen < 16 * n ∨ n = 0 then ((8, []), q)
    else if 24 < eventDepth x then ((9, []), q)
    else if !Config.exiValid 2 j.key x then ((8, []), q)
    else
      let o := Config.exiOut 2 j.key x
      if 65535 < o.length then ((9, []), q) else ((1, o), q))

/-- EXI_JOB_DONE (R594). -/
def Sys.exiJobDone (s : Sys) (t : Nat) : Sys := s.jobDone t 0x1B [1, 2]

end Sys2Proof.Machine
end

