-- ==== Sys2Proof/Machine/Signer.lean ====
section
/-! DEFINITION. The signer, the key island's job ring and the measurements (spec/16_keys_and_attestation.md, R638-R645,
R657-R660), with the signed session records (R371-R373). -/
namespace Sys2Proof.Machine

/-! ### Indices and trees -/

/-- The key island works: it runs, and no power-fail warning pauses signing and tree building (R672). -/
def Dev.signs (d : Dev) : Bool := d.up .key && d.pwr.pfw.isNone

/-- The reservation record in force (R641): in NVM, or in the island's RAM under the test root. -/
def Dev.resRec (d : Dev) : Option SigRec := if d.key.rootSel = 1 then d.key.ramRec else d.key.sigRec

/-- Start building a tree (0 the top tree, j + 1 bottom tree j), unless it is built or being built. -/
def Dev.wantTree (d : Dev) (t : Nat) : Dev :=
  let have' := if t = 0 then d.key.topBuilt else d.key.built.contains (t - 1)
  if have' || d.key.building.contains t then d else { d with key := { d.key with building := d.key.building ++ [t] } }

/-- A bottom tree that no request waits for is built in the background only, which pauses in Cool (R640). -/
def Dev.paused (d : Dev) (t : Nat) : Bool :=
  d.cool && decide (t ≠ 0) && decide (t ≠ d.key.qnext / 32768 + 1) && !d.key.reqs.any (fun r => decide (r.q / 32768 + 1 = t))

/-- KEY_SIGSTAT and KEY_SIGQ. -/
def Dev.sigShow (d : Dev) : Dev :=
  let j := d.key.qnext / 32768
  let d1 := (d.setBit KEY_SIGSTAT 0 0 (d.key.built.contains j)).setBit KEY_SIGSTAT 0 1 (d.key.built.contains (j + 1))
  let d2 := (d1.setBit KEY_SIGSTAT 0 2 (d.key.building.any (fun t => !d.paused t))).setBit KEY_SIGSTAT 0 3 (d.key.building.any d.paused)
  d2.wr KEY_SIGQ 0 (w32 d.key.qnext)

/-- The next bottom tree is due once 16,384 leaves of the present one are used (R640). -/
def Dev.background (d : Dev) : Dev :=
  if 16384 ≤ d.key.qnext % 32768 then d.wantTree (d.key.qnext / 32768 + 2) else d

/-- TREE_BUILT: a build completes (R640). -/
def Dev.treeBuilt (d : Dev) (t tree : Nat) : Dev :=
  let d0 := d.at t
  if d0.signs && d0.key.building.contains tree && !d0.paused tree then
    let (c, d1) := d0.randomBytes 32
    let k := { d1.key with building := d1.key.building.filter (· ≠ tree) }
    let d2 := if tree = 0 then { d1 with key := { k with topBuilt := true } }
      else { d1 with key := { k with built := k.built ++ [tree - 1], topC := kvPut k.topC (tree - 1) c } }
    (d2.ev 0x12 3).sigShow
  else d0

/-- Whether a request may be made: a closed session record that awaits its signature, or the statement job of the ring. -/
def Sys.sigWanted (s : Sys) (w : SigFor) : Bool :=
  !(s.dev.key.reqs.any (fun r => decide (r.what = w))) &&
    (match w with
    | .session k => (match kvGet s.dev.bil.sess k none with
        | some x => decide (x.state = 2) && x.signAsked && (kvGet s.dev.key.done (k + 1) []).isEmpty
        | none => false)
    | .statement =>
      let a := s.dev.jobAddr 0x12
      let j := s.job a
      s.dev.engHas 0x12 && s.dev.key.eng.result.isNone && inSram a 32 && decide (j.op = 0x62) && decide (j.inLen = 32) &&
        decide (5844 ≤ j.outCap) && j.bufsOk && (kvGet s.dev.key.done 0 []).isEmpty)

/-- A refused request ends the statement's job; a session record stays CLOSED (R373). -/
def Dev.sigRefuse (d : Dev) (w : SigFor) (st : Nat) : Dev :=
  match w with
  | .statement => d.setEng 0x12 { result := some (st, 0) }
  | .session _ => d

/-- SIGN_REQUEST: a request takes its index, reserving a block of 64 where the last one is used up (R641); `writeOk` says
whether the record's write verified. -/
def Sys.signRequest (s : Sys) (t : Nat) (w : SigFor) (writeOk : Bool) : Sys :=
  let s0 := s.onDev (·.at t)
  let d := s0.dev
  if !(d.signs && s0.sigWanted w && d.derived 2) then s0
  else if d.bit KEY_SIGSTAT 0 5 then { s0 with dev := d.sigRefuse w 0xB }
  else
    let reserve : Option Dev :=
      if d.key.qnext ≠ d.key.qlimit then some d
      else if 2 ^ 30 ≤ d.key.qlimit then none
      else if !writeOk then none
      else
        let r : SigRec := { next := d.key.qlimit + 64, rootSel := d.key.rootSel, lc := d.key.lc, rootGen := d.gen 0, signGen := d.gen 1 }
        let k := { d.key with qlimit := d.key.qlimit + 64 }
        let d' : Dev := { d with key := if d.key.rootSel = 1 then { k with ramRec := some r } else { k with sigRec := some r } }
        some (d'.wr KEY_SIGNEXT 0 (w32 r.next))
    match reserve with
    | none =>
      if 2 ^ 30 ≤ d.key.qlimit then { s0 with dev := ((d.setBit KEY_SIGSTAT 0 4 true).ev 0x12 4).sigRefuse w 0xA }
      else { s0 with dev := d.sigRefuse w 0xB }
    | some d1 =>
      let q := d1.key.qnext
      let r : SigReq := { what := w, q, k2 := (d1.keySlot 2).key }
      let d2 : Dev := { d1 with key := { d1.key with qnext := q + 1, reqs := d1.key.reqs ++ [r] } }
      { s0 with dev := ((d2.wantTree 0).wantTree (q / 32768 + 1)).background.sigShow }

/-! ### The statement -/

/-- A measurement (Table 16.10). -/
def Dev.meas (d : Dev) (k : Nat) : List Byte := slice (kvGet d.key.meas k []) 0 32

/-- The configuration digest (R659). -/
def Sys.cfgDigest (s : Sys) : List Byte :=
  sha256 (leBytes 4 (s.dev.rd SAF_CFGCRC 0).toNat ++ (if s.imageValid then s.imageDigest else List.replicate 32 0) ++ s.dev.meas 7)

/-- The body of a Chromos statement (Table 16.11) with the nonce of the request and the index of its signature. -/
def Sys.statementBody (s : Sys) (nonce : List Byte) (q : Nat) (k2 : List Byte) : List Byte :=
  let d := s.dev
  let lc := d.rd LCM_STATE 0
  let part := match d.variant with | .px4840 => 0x4840 | .px4824 => 0x4824 | .px4812 => 0x4812
  let civil := if d.bit TMB_UTC 0 31 then twos (d.civil d.time) 32 else 0xFFFFFFFF
  leBytes 2 0x7E41 ++ [1, 0] ++ leBytes 4 448 ++ d.devId ++ leBytes 2 part ++ leBytes 1 (d.fld SYS_ID 0 11 8) ++
    leBytes 1 (bits lc 2 0) ++ leBytes 1 (bits lc 9 8 + 4 * b2n (bitOf lc 12) + 8 * b2n (bitOf lc 4)) ++
    leBytes 1 (d.fld BIL_SEALSTAT 0 7 0) ++ leBytes 1 (b2n (bitOf lc 16)) ++ [0] ++ leBytes 4 (d.rd BIL_SEALBRK 0).toNat ++
    leBytes 4 (d.gen 0) ++ leBytes 4 (d.gen 1) ++ leBytes 4 q ++ leBytes 8 d.time ++ leBytes 4 (d.mtime d.time) ++
    leBytes 4 civil ++ nonce ++ (List.range 8).flatMap d.meas ++ s.cfgDigest ++ signerPub k2 ++
    leBytes 2 (d.rd ATT_BSVNK 0).toNat ++ leBytes 2 (d.rd ATT_BSVNO 0).toNat

/-- SIGNATURE_DONE: the oldest request is signed, once the top tree and its bottom tree are built (R639, R641); one that
was made before a renewal completes under its old key (R642). -/
def Sys.signatureDone (s : Sys) (t : Nat) : Sys :=
  let s0 := s.onDev (·.at t)
  let d := s0.dev
  match d.key.reqs with
  | [] => s0
  | r :: rest =>
    let j := r.q / 32768
    let ready := decide (r.k2 ≠ (d.keySlot 2).key) || (d.key.topBuilt && d.key.built.contains j)
    if !(d.signs && ready) then s0
    else
      let (c, d1) := d.randomBytes 32
      let job := s0.job (d.jobAddr 0x12)
      let body := match r.what with
        | .session k => s0.read (sessSlot k) 256
        | .statement => s0.statementBody (slice (s0.read job.input job.inLen) 0 32) r.q r.k2
      let sig := signerSign r.k2 r.q (slice (kvGet d.key.topC j []) 0 32) c (sha256 body)
      let (key, out) := match r.what with | .session k => (k + 1, sig) | .statement => (0, body ++ sig)
      let d2 := { d1 with key := { d1.key with reqs := rest, done := kvPut d1.key.done key out } }
      { s0 with dev := (d2.incFld KEY_SIGSTAT 0 31 16).sigShow }

/-- SESSION_SIGNED: the key island's signature of a CLOSED body arrives (R373); after it, the ECDSA co-signature of a SIGNED
one, which the crypto engine makes with slot ATT_COSIG (R371). -/
def Sys.sessionSigned (s : Sys) (k t : Nat) : Sys :=
  let s0 := s.onDev (·.at t)
  let d := s0.dev
  match kvGet d.bil.sess k none with
  | none => s0
  | some x =>
    let sig := kvGet d.key.done (k + 1) []
    let co := d.fld ATT_COSIG 0 7 0
    if !d.up .metrology then s0
    else if x.state = 2 ∧ x.signAsked ∧ sig ≠ [] then
      let cos := bitOf (d.bilF BIL_CFG 0) 8
      let y : Sess := { x with state := 6, signAsked := false, cosigFrom := if cos then some t else none }
      ((s0.store (sessSlot k + 328) sig).store (sessSlot k + 256) [6]).onDev (fun e =>
        (({ e with key := { e.key with done := kvDel e.key.done (k + 1) } }.setSess k (some y)).setBit BIL_SLOTSIG 0 k false).ev 0x50 6)
    else if x.state = 6 ∧ x.cosigFrom.isSome ∧ d.up .compute ∧ d.up .key ∧ co ≠ 0 ∧ d.slotUse co = 2 ∧ d.derived co then
      let sig := ecdsaSign p256 (beNat (d.keySlot co).key) (sha256 (s0.read (sessSlot k) 256))
      ((s0.store (sessSlot k + 264) sig).store (sessSlot k + 256) [14]).onDev (fun e =>
        e.setSess k (some { x with state := 14, cosigFrom := none }))
    else s0

/-! ### The job ring (R645) -/

/-- CHROMOS_STATEMENT: the statement of the present job is written once it is signed; wrong lengths end it at once. -/
def Sys.chromosStatement (s : Sys) (t : Nat) (eccOk : Bool) : Sys :=
  let s0 := s.onDev (·.at t)
  let j := s0.job (s0.dev.jobAddr 0x12)
  let out := kvGet s0.dev.key.done 0 []
  if out.isEmpty ∧ j.inLen = 32 ∧ 5844 ≤ j.outCap ∧ j.bufsOk then s0
  else s0.runJob t 0x12 eccOk [0x62] (fun j q =>
    if j.inLen ≠ 32 ∨ j.outCap < 5844 then ((3, []), q)
    else ((1, out), q.onDev (fun e => { e with key := { e.key with done := kvDel e.key.done 0 } })))

/-- The length of an HSS public key, by the tree type it starts with. -/
def hssKeyLen (b : List Byte) : Nat := match lmsType (beNat (slice b 4 4)) with | some (m, _) => 28 + m | none => 60

/-- HSS_VERIFY: the public key stands at KEY, the message at IN, the signature at AUX (R644). -/
def Sys.hssVerifyJob (s : Sys) (t : Nat) (eccOk : Bool) : Sys :=
  s.runJob t 0x12 eccOk [0x60] (fun j q =>
    let n := hssKeyLen (q.read j.key 8)
    if !inSram j.key n then ((4, []), q)
    else ((if hssVerify (q.read j.key n) (q.inBytes j) (q.auxBytes j) then 1 else 2, []), q))

/-- SLOT_PUBLIC_KEY: the public key of a slot of usage 2, 3 or 4. -/
def Sys.slotPublicKey (s : Sys) (t : Nat) (eccOk : Bool) : Sys :=
  s.runJob t 0x12 eccOk [0x61] (fun j q =>
    match q.dev.handleKey j.key 0x61 with
    | none => ((5, []), q)
    | some k =>
      let u := q.dev.slotUse (j.key % 256)
      ((1, if u = 2 then p256.pub (beNat k) else if u = 3 then p384.pub (beNat k) else edPub k), q))

/-- SIGNER_PUBLIC_KEY: the 60-byte HSS public key, once the top tree is built. -/
def Sys.signerPublicKey (s : Sys) (t : Nat) (eccOk : Bool) : Sys :=
  let s0 := s.onDev (·.at t)
  if s0.dev.key.topBuilt then s0.runJob t 0x12 eccOk [0x63] (fun _ q => ((1, signerPub (q.dev.keySlot 2).key), q)) else s0

/-- KEY_JOB_DONE (R594, R645). -/
def Sys.keyJobDone (s : Sys) (t : Nat) : Sys := s.jobDone t 0x12 [0x60, 0x61, 0x62, 0x63]

/-! ### Measurements and versions -/

/-- A write of ATT_EXTCTL with EXTEND: measurement 6 or 7 becomes SHA-256 of its old value and ATT_EXTDATA (R658). -/
def Dev.extend (d : Dev) (v : Word) : Dev :=
  if !bitOf v 0 then d
  else
    let k := 6 + b2n (bitOf v 8)
    let data := (List.range 8).flatMap (fun w => leBytes 4 (d.rd (ATT_EXTDATA w) 0).toNat)
    { d with key := { d.key with meas := kvPut d.key.meas k (sha256 (d.meas k ++ data)) } }.ev 0x13 0

/-- MEASUREMENT_EXTEND. -/
def Dev.measurementExtend (d : Dev) (i : Initiator) (v : Word) : Dev := d.gated i ATT_EXTCTL v (fun _ e => e.extend v)

/-- The minima rise to the booted versions where those are higher (R657). -/
def Dev.svnRaise (d : Dev) (v : Word) : Dev :=
  if bitOf v 0 then
    (d.wr ATT_SVNK 0 (w32 (max (d.rd ATT_SVNK 0).toNat (d.rd ATT_BSVNK 0).toNat))).wr ATT_SVNO 0
      (w32 (max (d.rd ATT_SVNO 0).toNat (d.rd ATT_BSVNO 0).toNat))
  else d

/-- SVN_COMMIT: a write of ATT_SVNCOMMIT. -/
def Dev.svnCommit (d : Dev) (i : Initiator) (v : Word) : Dev := d.gated i ATT_SVNCOMMIT v (fun _ e => e.svnRaise v)

/-- ATT_MEASw shows the selected measurement. -/
def Dev.measWord (d : Dev) (w : Nat) : Word := w32 (leAt (d.meas (d.fld ATT_MSEL 0 2 0)) (4 * w) 4)

end Sys2Proof.Machine
end

