-- ==== Sys2Proof/Machine/LoadSwitch.lean ====
section
/-! DEFINITION. Protected load switch channels (spec/12_load_switches.md, R488-R521). -/
namespace Sys2Proof.Machine

/-- A channel's working state. -/
def Dev.lswC (d : Dev) (n : Nat) : LswChan := kvGet d.lsw.chan n {}
/-- Replace it. -/
def Dev.setLswC (d : Dev) (n : Nat) (x : LswChan) : Dev := { d with lsw := { d.lsw with chan := kvSet d.lsw.chan n x {} } }
/-- The channels present. -/
def Dev.lswL (d : Dev) : List Nat := List.range d.variant.loadSwitches
/-- LSW_CSTAT.STATE (Table 12.2): 0 OFF, 1 RAMP, 2 ON, 3 UVWAIT, 4 LATCHED. -/
def Dev.lswSt (d : Dev) (n : Nat) : Nat := d.fld LSW_CSTAT n 2 0
/-- The enabled cooling controllers that name a channel (R480, R492). -/
def Dev.lswOwners (d : Dev) (n : Nat) : List Nat :=
  (List.range 8).filter (fun c => d.bit THM_CCFG c 31 && decide (d.fld THM_CCFG c 28 24 = n))
/-- The command is on: DUTY 0 is equivalent to ON = 0 (R493). -/
def Dev.lswCmd (d : Dev) (n : Nat) : Bool := d.bit LSW_CCTL n 0 && decide (d.fld LSW_CCTL n 14 8 ≠ 0)
/-- A latch of Table 12.1 is set. -/
def Dev.lswLatched (d : Dev) (n : Nat) : Bool := decide (d.fld LSW_CSTAT n 8 5 ≠ 0)
/-- The retry limit blocks the channel (R512). -/
def Dev.retryBlocks (d : Dev) (n : Nat) : Bool :=
  decide (d.fld LSW_CRETRY n 15 8 ≠ 0) && decide (d.fld LSW_CRETRY n 15 8 ≤ d.fld LSW_CSTAT n 31 24)

/-- The state that a channel with its command on or off takes by R494, R508 and Table 12.2. -/
def Dev.lswTakes (d : Dev) (n : Nat) (on : Bool) : Nat :=
  if d.lswLatched n || d.retryBlocks n then 4
  else if d.bit LSW_CSTAT n 13 then 3
  else if !(d.bit LSW_CCFG n 31 && on) || d.lsw.linkLost || d.pwr.ifaceReset then 0
  else if d.lswSt n = 2 then 2 else 1

/-- A channel takes its state, and what shows it: STATE, OWNER, RETRYX, LSW_ONSUM and
LSW_TLSUM. A channel that may drive and does not starts its turn-on. -/
def Dev.lswShow (d : Dev) (n : Nat) : Dev :=
  let rx := d.retryBlocks n
  let old := d.lswSt n
  let st := d.lswTakes n (d.lswCmd n)
  let d1 := ((d.setFld LSW_CSTAT n 2 0 st).setBit LSW_CSTAT n 4 (!(d.lswOwners n).isEmpty)).setBit LSW_CSTAT n 9 rx
  let d2 := (d1.setBit LSW_ONSUM 0 n (decide (st = 2))).setBit LSW_TLSUM 0 n (d1.bit LSW_CSTAT n 8)
  let x : LswChan := { d2.lswC n with limitHit := (d2.lswC n).limitHit && rx }
  if st = 1 ∧ old ≠ 1 then d2.setLswC n { x with startAt := d.time, onAt := none }
  else if st = 2 then d2.setLswC n x
  else d2.setLswC n { x with onAt := none }

/-- A fault that R483 reports to the cooling controllers that own the channel: COOLFLT. -/
def Dev.coolFault (d : Dev) (n : Nat) : Dev :=
  match d.lswOwners n with
  | [] => d
  | cs => (d.each cs (fun c e => e.setBit THM_CSTAT c 9 true)).ev 0x60 5

/-- Set a latch (R505): bit 5 OCL, 6 SCL, 7 INRL, 8 TLATCH of LSW_CSTAT, with its event of page 0x64. -/
def Dev.lswLatch (d : Dev) (n b evb : Nat) : Dev :=
  let d1 := ((d.setBit LSW_CSTAT n b true).setBit LSW_FLTSUM 0 n true).incFld LSW_CFCNT n 15 0
  ((d1.ev 0x64 evb).coolFault n).lswShow n

/-- The retry counter is set to 0 (R513). -/
def Dev.retryZero (d : Dev) (n : Nat) : Dev := d.setFld LSW_CSTAT n 31 24 0

/-- TLCLR: accepted while A is at or below half of I2TLIM and Tfet at or below TFLIM - 20 K (R506, Table 12.1). -/
def Dev.tlClear (d : Dev) (n : Nat) : Dev :=
  let x := d.lswC n
  if x.acc * 2 ≤ d.fld LSW_CI2T n 31 16 * 1000000 ∧ x.tfet + 2000 * 2 ^ 32 ≤ d.fld LSW_CTLIM n 15 0 * 2 ^ 32 then
    (d.setBit LSW_CSTAT n 8 false).retryZero n
  else d.setBit LSW_CSTAT n 14 true

/-- The command link works again, at the latest when the island runs again: each channel whose command is on turns on (R519, log entry 93). -/
def Dev.lswResume (d : Dev) : Dev :=
  let d1 := { d with lsw := { d.lsw with linkLost := false } }
  d1.each d1.lswL (fun n e => e.lswShow n)

/-- A write of LSW_CCTL: the command, unless a cooling controller owns the channel (R492), and the three clears. -/
def Dev.lswWrite (d : Dev) (i : Initiator) (n : Nat) (v : Word) : Dev :=
  let clears := bits v 31 29
  let cmd := v &&& 0x03FF7F01
  let d1 := if (d.lswOwners n).isEmpty then (let e := d.wr LSW_CCTL n cmd
      if d.lsw.linkLost then e.lswResume else e)
    else if clears = 0 ∨ cmd ≠ d.rd LSW_CCTL n then d.err 0x64 7 i 0x420 else d
  let d2 := if bitOf v 29 then d1.setFld LSW_CSTAT n 7 5 0 else d1
  let d3 := if bitOf v 30 then d2.tlClear n else d2
  (if bitOf v 31 then d3.retryZero n else d3).lswShow n

/-- LOAD_SWITCH_COMMAND: a write of ON, DUTY and PWMF. -/
def Dev.loadCommand (d : Dev) (i : Initiator) (v : Word) : Dev :=
  d.gated i LSW_CCTL (v &&& 0x1FFFFFFF) (fun n e => e.lswWrite i n (v &&& 0x1FFFFFFF))

/-- LOAD_FAULT_CLEAR: a write with FCLR clears OCL, SCL and INRL (R505). -/
def Dev.loadFaultClear (d : Dev) (i : Initiator) (v : Word) : Dev :=
  d.gated i LSW_CCTL (v ||| 0x20000000) (fun n e => e.lswWrite i n (v ||| 0x20000000))

/-- THERMAL_LATCH_CLEAR: a write with TLCLR (R506). -/
def Dev.thermalLatchClear (d : Dev) (i : Initiator) (v : Word) : Dev :=
  d.gated i LSW_CCTL (v ||| 0x40000000) (fun n e => e.lswWrite i n (v ||| 0x40000000))

/-- RETRY_CLEAR: a write with RTCLR (R513). -/
def Dev.retryClear (d : Dev) (i : Initiator) (v : Word) : Dev :=
  d.gated i LSW_CCTL (v ||| 0x80000000) (fun n e => e.lswWrite i n (v ||| 0x80000000))

/-- A channel exists and its interface die works. -/
def Dev.lswHere (d : Dev) (n : Nat) : Bool := decide (n < d.variant.loadSwitches) && !d.pwr.ifaceReset

/-- TURN_ON_COMPLETE: VAUX - LSWn_OUT, in 10 mV, at or below 0.5 V in 3 samples in a row (R497). -/
def Dev.turnOnComplete (d : Dev) (t n : Nat) (drops : List Nat) : Dev :=
  let d0 := d.at t
  if d0.lswHere n && decide (d0.lswSt n = 1) && decide (3 ≤ drops.length) && (drops.take 3).all (fun x => decide (x ≤ 50)) then
    ((d0.setFld LSW_CSTAT n 2 0 2).setLswC n { d0.lswC n with onAt := some t }).lswShow n
  else d0

/-- INRUSH_TIMEOUT: turn-on not complete TINR ms after it started (R497). -/
def Dev.inrushTimeout (d : Dev) (t n : Nat) : Dev :=
  let d0 := d.at t
  if d0.lswHere n && decide (d0.lswSt n = 1) && decide ((d0.lswC n).startAt + max 1 (d0.fld LSW_CCFG n 7 0) * 1000000 ≤ t) then
    d0.lswLatch n 7 6
  else d0

/-- RSHUNT in micro-ohms, held to its limits (Table 12.3). -/
def Dev.rshunt (d : Dev) (n : Nat) : Nat := clampN (d.fld LSW_CSHUNT n 19 0) 1000 50000

/-- OVERCURRENT: the newest shunt samples, in 10 uV, newest first: OCN of them in a row above IOC in state ON (R491, R500). -/
def Dev.overcurrent (d : Dev) (t n : Nat) (shunt : List Nat) : Dev :=
  let d0 := d.at t
  let k := max 1 (d0.fld LSW_COC n 31 24)
  if d0.lswHere n && decide (d0.lswSt n = 2) && decide (k ≤ shunt.length) &&
      (shunt.take k).all (fun v => decide (d0.fld LSW_COC n 15 0 * d0.rshunt n < v * 1000)) then d0.lswLatch n 5 0
  else d0

/-- SHORT_CIRCUIT: the shunt voltage, in 10 uV, above SCTH x 10 mV while the gate is driven (R501). -/
def Dev.shortCircuit (d : Dev) (t n shunt : Nat) : Dev :=
  let d0 := d.at t
  if d0.lswHere n && (decide (d0.lswSt n = 1) || decide (d0.lswSt n = 2)) &&
      decide (clampN (d0.fld LSW_COC n 20 16) 1 25 * 1000 < shunt) then d0.lswLatch n 6 1
  else d0

/-- One step of both models of a channel with mean current i in 10 mA (R502-R504). -/
def Dev.fetStep (d : Dev) (n i : Nat) : Dev :=
  let x := d.lswC n
  let cur := if d.lswSt n = 1 ∨ d.lswSt n = 2 then i else 0
  let inom := d.fld LSW_CI2T n 15 0
  let acc := x.acc + cur * cur - inom * inom
  let tau := max 1 (d.fld LSW_CFET n 23 16) * 10
  let goal : Int := (d.fld (THM_DIE 9) 0 15 0 * 2 ^ 32 + cur * cur * d.fld LSW_CFET n 15 0 * d.fld LSW_CFET n 31 24 * 2 ^ 32 / 20000000 : Nat)
  let tf : Nat := ((x.tfet : Int) + (goal - (x.tfet : Int)) / (tau : Int)).toNat
  let d1 := d.setLswC n { x with acc, tfet := tf }
  let d2 := ((d1.wr LSW_CI2TACC n (w32 (min (acc / 100000) (2 ^ 32 - 1)))).setFld LSW_CTFET n 15 0 (min (tf / 2 ^ 32) 65535)).setFld LSW_CIMEAS n 15 0 (min cur 65535)
  if (d2.fld LSW_CI2T n 31 16 * 1000000 ≤ acc ∨ d2.fld LSW_CTLIM n 15 0 * 2 ^ 32 ≤ tf) ∧ ¬ d2.bit LSW_CSTAT n 8 then d2.lswLatch n 8 2
  else d2

/-- FET_MODEL_UPDATE: every 1 ms, the mean currents in 10 mA, LSWn_OUT and VAUX in 10 mV (R491, R502, R503). -/
def Dev.fetModel (d : Dev) (t : Nat) (cur outs : List Nat) (vaux : Nat) : Dev :=
  let d0 := d.at t
  if d0.up .pstage then
    (d0.setFld LSW_VAUX 0 15 0 vaux).each d0.lswL (fun n e => (e.setFld LSW_CIMEAS n 31 16 (outs.getD n 0)).fetStep n (cur.getD n 0))
  else d0

/-- VAUX_UNDERVOLTAGE: below 7.2 V every channel is off fast (R509). -/
def Dev.vauxUv (d : Dev) (t vaux : Nat) : Dev :=
  let d0 := d.at t
  if vaux < 720 ∧ ¬ d0.bit LSW_VAUX 0 16 then
    let d1 := (((d0.setFld LSW_VAUX 0 15 0 vaux).setBit LSW_VAUX 0 16 true).inc LSW_UVCNT 0).ev 0x64 3
    d1.each d1.lswL (fun n e => ((e.setBit LSW_CSTAT n 13 true).setLswC n { e.lswC n with rdlyFrom := none, onAt := none }).lswShow n)
  else d0

/-- VAUX_UNDERVOLTAGE_END: above 7.7 V; each channel's RDLY starts (R509, R510). -/
def Dev.vauxUvEnd (d : Dev) (t vaux : Nat) : Dev :=
  let d0 := d.at t
  if 770 < vaux ∧ d0.bit LSW_VAUX 0 16 then
    let d1 := (d0.setFld LSW_VAUX 0 15 0 vaux).setBit LSW_VAUX 0 16 false
    d1.each d1.lswL (fun n e => e.setLswC n { e.lswC n with rdlyFrom := some t })
  else d0

/-- RESTART_DELAY_EXPIRY: an attempt is due for a channel whose command is on; it counts whether the channel turns on or not
(R510-R512). -/
def Dev.restartDelay (d : Dev) (t n : Nat) : Dev :=
  let d0 := d.at t
  match (d0.lswC n).rdlyFrom with
  | none => d0
  | some s =>
    if d0.lswHere n && decide (s + max 1 (d0.fld LSW_CRETRY n 7 0) * 1000000 ≤ t) then
      let d1 := (d0.setBit LSW_CSTAT n 13 false).setLswC n { d0.lswC n with rdlyFrom := none }
      if d1.lswCmd n then
        let d2 := d1.incFld LSW_CSTAT n 31 24
        let first := d2.retryBlocks n && !(d2.lswC n).limitHit
        (if first then (d2.setLswC n { d2.lswC n with limitHit := true }).ev 0x64 5 else d2).lswShow n
      else d1.lswShow n
    else d0

/-- RETRY_RESET_TIMEOUT: 10 s in ON without under-voltage (R513). -/
def Dev.retryReset (d : Dev) (t n : Nat) : Dev :=
  let d0 := d.at t
  match (d0.lswC n).onAt with
  | none => d0
  | some s =>
    if d0.lswHere n && decide (d0.lswSt n = 2) && decide (s + 10000000000 ≤ t) then
      ((d0.retryZero n).setLswC n { d0.lswC n with onAt := some t }).lswShow n
    else d0

/-- Set an open-load flag: 10 OLON, 11 OLOFF, 12 SHVB; its first setting raises OPENLOAD (R517), and it is a fault of R483. -/
def Dev.openFlag (d : Dev) (n b : Nat) : Dev :=
  let d1 := (d.setBit LSW_CSTAT n b true).coolFault n
  if d.bit LSW_CSTAT n b then d1 else d1.ev 0x64 4

/-- OPEN_LOAD_ON: in ON the current, in mA, has been below IOL for lowNs of on-phases (R514). -/
def Dev.openLoadOn (d : Dev) (t n ma lowNs : Nat) : Dev :=
  let d0 := d.at t
  if d0.lswHere n && decide (d0.lswSt n = 2) && decide (ma < d0.fld LSW_COL n 31 16) &&
      decide (max 1 (d0.fld LSW_COL n 15 8) * 1000000 ≤ lowNs) then d0.openFlag n 10
  else d0

/-- OFF_STATE_TEST: the last 5 samples of LSWn_OUT, in 10 mV, without and with the pull-up (R515). -/
def Dev.offTest (d : Dev) (t n : Nat) (floating pulled : List Nat) : Dev :=
  let d0 := d.at t
  let may := decide (d0.variant = .px4840) && d0.lswHere n && d0.bit LSW_CCFG n 24 && decide (d0.lswSt n = 0) &&
    decide (100 ≤ d0.fld LSW_CCTL n 14 8) && !d0.bit LSW_VAUX 0 16 && !d0.bit LSW_CSTAT n 13 && decide ((d0.lswC n).testAt + 100000000 ≤ t)
  if !may then d0
  else
    let d1 := d0.setLswC n { d0.lswC n with testAt := t }
    if (floating.take 5).any (fun v => decide (200 ≤ v)) then d1.openFlag n 12
    else if (pulled.take 5).any (fun v => decide (d0.fld LSW_COL n 7 0 * 10 ≤ v)) then d1.openFlag n 11
    else d1

/-- COMMAND_LINK_LOSS: 100 us without the command link turns every channel off (R519). -/
def Dev.linkLoss (d : Dev) (t quietNs : Nat) : Dev :=
  let d0 := d.at t
  if 100000 ≤ quietNs then
    let d1 := { d0 with lsw := { d0.lsw with linkLost := true } }
    d1.each d1.lswL (fun n e => e.lswShow n)
  else d0

/-- The interface die is re-initialised: every channel off, latches, counter, A and Tfet at their initial values (R520). -/
def Dev.lswReset (d : Dev) : Dev :=
  d.each d.lswL (fun n e =>
    let e1 := (e.wr LSW_CSTAT n (if e.bit LSW_VAUX 0 16 then 0x2000 else 0)).setLswC n { tfet := e.fld (THM_DIE 9) 0 15 0 * 2 ^ 32 }
    ((e1.wr LSW_CI2TACC n 0).setFld LSW_CTFET n 15 0 (e.fld (THM_DIE 9) 0 15 0)).lswShow n)

end Sys2Proof.Machine
end

