-- ==== Sys2Proof/Machine/Thermal.lean ====
section
/-! DEFINITION. Cable cooling and thermal management (spec/11_thermal.md, R453-R487). -/
namespace Sys2Proof.Machine

/-! ### Conversion (R453, R457, R458) -/

/-- The Callendar-Van Dusen resistance of a PT1000 at v half-units of 0.01 degC, in 16 x 10^23ths of R0: IEC 60751 with
A 3.9083e-3, B -5.775e-7, C -4.183e-12. -/
def cvd (v : Int) : Int :=
  1600000000000000000000000 + 31266400000000000000 * v - 23100000000000 * v * v + (if v < 0 then -(4183 * (v - 20000) * v * v * v) else 0)

/-- The temperature of a PT1000 code in 0.01 K, to the nearest unit, clamped to 655.34 K. -/
def pt1000 (code : Nat) : Nat :=
  let goal : Int := (1600000000000000000000000 * code / 16384 : Nat)
  let u (t : Nat) : Int := 2 * ((t : Int) - 27315) - 1
  let t := (List.range 17).foldl (fun (t : Nat) k => if cvd (u (t + 2 ^ (16 - k))) ≤ goal then t + 2 ^ (16 - k) else t) 0
  min t 65534

/-- 2 atanh of a fraction in 2^64ths. -/
def atanh2 (a b : Int) : Int :=
  let z : Int := a * (2 ^ 80 : Nat) / b
  let z2 : Int := z * z / (2 ^ 80 : Nat)
  let r := (List.range 40).foldl (fun (s : Int × Int) (i : Nat) => (s.1 + s.2 / (2 * Int.ofNat i + 1), s.2 * z2 / (2 ^ 80 : Nat))) (0, z)
  2 * r.1 / (2 ^ 16 : Nat)

/-- ln (num / den) in 2^64ths. -/
def lnFrac (num den : Nat) : Int :=
  let k : Int := (num.log2 : Int) - (den.log2 : Int)
  let a := num * 2 ^ (-k).toNat
  let b := den * 2 ^ k.toNat
  k * atanh2 1 3 + atanh2 ((a : Int) - b) ((a : Int) + b)

/-- The temperature of an NTC code in 0.01 K: 1 / T = 1 / 298.15 K + ln (R / R0) / B, clamped (R458); none where the formula
has no value or its reciprocal is not positive. -/
def ntc (code r0 b : Nat) : Option Nat :=
  if code = 0 ∨ r0 = 0 ∨ b = 0 then none
  else
    let l := lnFrac (code * 125) (32 * r0)
    let s : Int := (2 ^ 64 : Nat) * (b : Int)
    let den := 100 * s + 29815 * l
    if den ≤ 0 then none else some (min (rneDiv (2981500 * s) den.toNat).toNat 65534)

/-- R is outside the range of Table 11.1. -/
def codeBroken (type code : Nat) : Bool :=
  if type = 1 then decide (code * 1000 < 50 * 256) || decide (250000 * 256 < code * 1000)
  else decide (code * 1000 < 600 * 16384) || decide (2600 * 16384 < code * 1000)

/-! ### Inputs -/

/-- An input's working state. -/
def Dev.thmI (d : Dev) (k : Nat) : ThmIn := kvGet d.thm.inp k {}
/-- Replace it. -/
def Dev.setThmI (d : Dev) (k : Nat) (x : ThmIn) : Dev := { d with thm := { d.thm with inp := kvSet d.thm.inp k x {} } }
/-- The inputs present. -/
def Dev.thmL (d : Dev) : List Nat := List.range d.variant.thermals
/-- EN of an input. -/
def Dev.thmEn (d : Dev) (k : Nat) : Bool := decide (k < d.variant.thermals) && d.bit THM_ICFG k 31
/-- The neighbourhood of an input, none for 0x10-0x1F. -/
def Dev.nbh (d : Dev) (k : Nat) : Option Nat := if d.fld THM_ICFG k 20 16 < 16 then some (d.fld THM_ICFG k 20 16) else none
/-- The members of a neighbourhood. -/
def Dev.members (d : Dev) (h : Nat) : List Nat := d.thmL.filter (fun k => decide (d.nbh k = some h))
/-- ISTAT.BROKEN, IMPL, DISPUTE, HOT, RATEX. -/
def Dev.thmFlag (d : Dev) (k b : Nat) : Bool := d.bit THM_ISTAT k b
/-- The value used. -/
def Dev.used (d : Dev) (k : Nat) : Nat := d.fld THM_IVAL k 15 0
/-- SRC of Table 11.2. -/
def Dev.thmSrc (d : Dev) (k : Nat) : Nat := d.fld THM_ISTAT k 3 2

/-- The interval of a band in frames (R467). -/
def bandP (b : Nat) : Nat := if b = 0 then 100 else if b = 1 then 10 else 1
/-- The interval of an input: the shortest of its neighbourhood's members. -/
def Dev.interval (d : Dev) (k : Nat) : Nat :=
  let b := match d.nbh k with
    | some h => ((d.members h).filter d.thmEn).foldl (fun m j => max m (d.fld THM_ISTAT j 1 0)) (d.fld THM_ISTAT k 1 0)
    | none => d.fld THM_ISTAT k 1 0
  bandP b
/-- An outlet's SAF_TPMASK names the input. -/
def Dev.inTpMask (d : Dev) (k : Nat) : Bool := (List.range d.variant.outlets).any (fun o => d.bit SAF_TPMASK o k)

/-- Input k converts in frame n (R456, R473). -/
def Dev.converts (d : Dev) (n k : Nat) : Bool :=
  d.thmEn k && (d.thm.first || d.inTpMask k ||
    (let p := d.interval k
     decide (n % p = ((d.nbh k).getD k) % p)))

/-- Take in one conversion: the code, the own reading, and the broken report after 2 codes out of range, ended by 3 within
it (R457, R458). -/
def Dev.takeCode (d : Dev) (k code : Nat) : Dev :=
  let c := min code 65535
  let ty := d.fld THM_ICFG k 25 24
  let r0 := d.fld THM_INTC k 19 0
  let b := d.fld THM_ICFG k 15 0
  let (own, d1) := if ty = 1 then
      match ntc c r0 b with
      | some v => (v, d)
      | none => let (w, e) := d.free 458; (min (w.toNat % 65536) 65534, e)
    else (pt1000 c, d)
  let x := d1.thmI k
  let out := codeBroken ty c
  let bad := if out then min (x.bad + 1) 2 else 0
  let good := if out then 0 else min (x.good + 1) 3
  let was := d1.thmFlag k 4
  let broken := if was then decide (good < 3) else decide (2 ≤ bad)
  let d2 := (((d1.setThmI k { x with own := some own, bad, good }).wr THM_IRAW k (w32 c)).setFld THM_IVAL k 31 16 own).setBit THM_ISTAT k 4 broken
  if broken && !was then ((d2.setBit THM_ISTAT k 16 true).setBit THM_BROKSUM 0 k true).ev 0x60 0 else d2

/-! ### Neighbourhoods (R460-R462) -/

/-- An enabled relation that takes part: its number, a, b, LO and HI in 0.01 K. -/
abbrev Rel := Nat × Nat × Nat × Int × Int

/-- The enabled relations of a neighbourhood that take part, and whether one names a wrong input (R460). -/
def Dev.relations (d : Dev) (h : Nat) : List Rel × Bool :=
  let en := (List.range 4).filter (fun r => d.bit (THM_REL r) h 31)
  let ok (r : Nat) : Bool := [d.fld (THM_REL r) h 20 16, d.fld (THM_REL r) h 28 24].all (fun k => decide (d.nbh k = some h) && d.thmEn k)
  ((en.filter ok).map (fun r =>
    (r, d.fld (THM_REL r) h 20 16, d.fld (THM_REL r) h 28 24, sext (d.fld (THM_RBND r) h 15 0) 16 * 10, sext (d.fld (THM_RBND r) h 31 16) 16 * 10)),
   !en.all ok)

/-- The own reading of a valid member: enabled, converted, not broken (R461). -/
def Dev.validOwn (d : Dev) (k : Nat) : Option Int :=
  if d.thmEn k && !d.thmFlag k 4 then (d.thmI k).own.map (fun x => (x : Int)) else none

/-- Evaluate a neighbourhood (R461). -/
def Dev.evalNbh (d : Dev) (h : Nat) : Dev :=
  let (rels, cfgerr) := d.relations h
  let judged : List (Rel × Bool) := rels.filterMap (fun r =>
    match d.validOwn r.2.1, d.validOwn r.2.2.1 with
    | some a, some b => some (r, decide (r.2.2.2.1 ≤ b - a) && decide (b - a ≤ r.2.2.2.2))
    | _, _ => none)
  let names (r : Rel) (k : Nat) : Bool := decide (r.2.1 = k) || decide (r.2.2.1 = k)
  let held := judged.foldl (fun s j => if j.2 then s + 2 ^ j.1.1 else s) 0
  let evald := judged.foldl (fun s j => s + 2 ^ j.1.1) 0
  let n := max 1 (d.fld THM_NCFG h 11 8)
  let d1 := d.wr THM_NSTAT h (w32 (held + 256 * evald + 65536 * b2n cfgerr))
  d1.each (d1.members h) (fun k e =>
    let mine := judged.filter (fun j => names j.1 k)
    let suspect := !mine.isEmpty && mine.all (fun j => !j.2)
    let others := judged.any (fun j => j.2 && !names j.1 k)
    let x := e.thmI k
    let susp := if suspect && others then min (x.susp + 1) n else 0
    let clear := if suspect then 0 else min (x.clear + 1) n
    let was := e.thmFlag k 5
    let impl := if was then decide (clear < n) else decide (n ≤ susp)
    let e1 := ((e.setThmI k { x with susp, clear, suspect }).setBit THM_ISTAT k 5 impl).setBit THM_ISTAT k 6 (suspect && !others)
    if impl && !was then ((e1.setBit THM_ISTAT k 17 true).setBit THM_IMPLSUM 0 k true).ev 0x60 1 else e1)

/-- The estimate of a member: the highest that its trusted neighbours imply (R462). -/
def Dev.estimate (d : Dev) (k : Nat) : Option Int :=
  match d.nbh k with
  | none => none
  | some h =>
    let marg : Int := d.fld THM_NCFG h 7 0 * 10
    let trusted (j : Nat) : Option Int := if decide (j ≠ k) && !(d.thmI j).suspect && !d.thmFlag j 5 then d.validOwn j else none
    let es : List Int := (d.relations h).1.filterMap (fun r =>
      if r.2.2.1 = k then (trusted r.2.1).map (fun t => t + r.2.2.2.2 + marg)
      else if r.2.1 = k then (trusted r.2.2.1).map (fun t => t - r.2.2.2.1 + marg)
      else none)
    es.foldl (fun (m : Option Int) e => match m with | none => some e | some y => some (max y e)) none

/-! ### Values, rates, bands (R463-R468) -/

/-- WARN, THROT, FINAL, SHUT and RST of an input. -/
def Dev.warn (d : Dev) (k : Nat) : Nat := d.fld THM_ILIM0 k 15 0
/-- THROT. -/
def Dev.throt (d : Dev) (k : Nat) : Nat := d.fld THM_ILIM1 k 15 0
/-- FINAL. -/
def Dev.final' (d : Dev) (k : Nat) : Nat := d.fld THM_ILIM0 k 31 16
/-- SHUT. -/
def Dev.shut (d : Dev) (k : Nat) : Nat := d.fld THM_ILIM1 k 31 16
/-- RST. -/
def Dev.rst (d : Dev) (k : Nat) : Nat := d.fld THM_ILIM2 k 15 0

/-- The limits are consistent (R465). -/
def Dev.limitsOk (d : Dev) (k : Nat) : Bool :=
  decide (d.rst k < d.throt k) && decide (d.warn k ≤ d.throt k) && decide (d.throt k ≤ d.shut k) && decide (d.warn k ≤ d.final' k) && decide (d.final' k ≤ d.shut k)

/-- The value used and its SRC (Table 11.2). -/
def Dev.valueOf (d : Dev) (k own : Nat) : Nat × Nat :=
  let br := d.thmFlag k 4
  let im := d.thmFlag k 5
  let di := d.thmFlag k 6
  let est : Option Nat := (d.estimate k).map (fun e => (clampI e 0 65534).toNat)
  if !d.limitsOk k then (65535, 2)
  else if d.bit THM_ICFG k 30 && (br || im || di) then (65535, 2)
  else if br || im then (match est with | some e => (e, 1) | none => (65535, 2))
  else if di then (match est with | some e => if own < e then (e, 1) else (own, 0) | none => (own, 0))
  else (own, 0)

/-- The value used at an earlier instant by linear interpolation between the stored ones, newest first, as a fraction of
numerator and denominator. -/
def valueAt (hist : List (Nat × Nat)) (t : Nat) : Option (Int × Nat) :=
  match hist with
  | (t1, v1) :: (t0, v0) :: r =>
    if t0 ≤ t ∧ t ≤ t1 then
      if t1 = t0 then some ((v1 : Int), 1) else some ((v0 : Int) * ((t1 - t0 : Nat) : Int) + ((v1 : Int) - v0) * ((t - t0 : Nat) : Int), t1 - t0)
    else valueAt ((t0, v0) :: r) t
  | _ => none

/-- Drop stored values that no interpolation one second back needs: all but the newest of those before it. -/
def pruneHist (t : Nat) : List (Nat × Nat) → List (Nat × Nat)
  | [] => []
  | p :: r => if p.1 ≤ t then [p] else p :: pruneHist t r

/-- The rate in 0.01 K/s (R466). -/
def Dev.rateOf (d : Dev) (k value src : Nat) : Int :=
  let x := d.thmI k
  if src ≠ 0 ∨ d.time < max x.enAt d.thm.startAt + 1000000000 then 0
  else match valueAt x.hist (d.time - 1000000000) with
    | some f => clampI (rneDiv ((value : Int) * (f.2 : Int) - f.1) f.2) (-32768) 32767
    | none => 0

/-- Determine value, rate, band and hotness of an input; `fresh` when it or its neighbourhood was evaluated in this frame. An input that
has not converted has no value yet, unless its limits force it hot. -/
def Dev.useInput (d : Dev) (k : Nat) (fresh : Bool) : Dev :=
  match (d.thmI k).own, d.limitsOk k with
  | none, true => d.setBit THM_ISTAT k 9 false
  | read, _ =>
    let own := read.getD 0
    let (v, src) := d.valueOf k own
    let x := d.thmI k
    let hist := if fresh then pruneHist (d.time - 1000000000) ((d.time, v) :: x.hist) else x.hist
    let d1 := d.setThmI k { x with hist }
    let rate := d1.rateOf k v src
    let rlim := d.fld THM_IRATE k 15 0
    let ratex := decide (rlim ≠ 0) && decide ((rlim : Int) < rate)
    let band := d.fld THM_ISTAT k 1 0
    let band' := if d.final' k ≤ v ∨ src = 2 then 2 else if (d.warn k ≤ v ∨ ratex) ∧ band = 0 then 1 else band
    let thr := if band' = 2 then d.final' k else d.warn k
    let low := decide (band' ≠ 0) && decide (v < thr) && decide (v + d.fld THM_ILIM2 k 31 24 * 10 ≤ thr) && !ratex
    let hot := decide (d.throt k ≤ v) || ratex || decide (src = 2)
    let d2 := d1.setThmI k { d1.thmI k with lowSince := if low then some (x.lowSince.getD d.time) else none }
    let st := band' + 4 * src
    let d3 := ((((d2.setFld THM_ISTAT k 3 0 st).setBit THM_ISTAT k 7 hot).setBit THM_ISTAT k 8 ratex).setBit THM_ISTAT k 9 (!d.limitsOk k)).setFld THM_IVAL k 15 0 v
    let d4 := (d3.wr THM_IRTE k (w32 (twos rate 16))).setBit THM_HOTSUM 0 k hot
    if band' = band then d4 else d4.ev 0x60 2

/-- A disabled input shows nothing and keeps no history; an enabled one starts its first second (R466). -/
def Dev.enableInput (d : Dev) (k : Nat) : Dev :=
  let x := d.thmI k
  if d.thmEn k then (if x.en then d else d.setThmI k { en := true, enAt := d.time })
  else if x.en then
    ((((d.setThmI k {}).setFld THM_ISTAT k 9 0 0).wr THM_IVAL k 0).wr THM_IRTE k 0).setBit THM_HOTSUM 0 k false
  else d

/-- BAND_FALL: 1 s below the lower threshold of the present band by BHYS (R467). -/
def Dev.bandFall (d : Dev) (t k : Nat) : Dev :=
  let d0 := d.at t
  let b := d0.fld THM_ISTAT k 1 0
  match (d0.thmI k).lowSince with
  | some s =>
    if d0.up .pstage && decide (s + 1000000000 ≤ t) && decide (0 < b) then
      ((d0.setFld THM_ISTAT k 1 0 (b - 1)).setThmI k { d0.thmI k with lowSince := none }).ev 0x60 2
    else d0
  | none => d0

/-! ### Outlets (R469-R473) -/

/-- An outlet's working state. -/
def Dev.thmO (d : Dev) (o : Nat) : ThmOut := kvGet d.thm.out o {}
/-- Replace it. -/
def Dev.setThmO (d : Dev) (o : Nat) (x : ThmOut) : Dev := { d with thm := { d.thm with out := kvSet d.thm.out o x {} } }
/-- The inputs in OMASK that are enabled. -/
def Dev.omask (d : Dev) (o : Nat) : List Nat := (maskList (d.rd THM_OMASK o).toNat d.variant.thermals).filter d.thmEn
/-- THM_OSTAT.STATE 2: Shutdown. -/
def Dev.inShutdown (d : Dev) (o : Nat) : Bool := decide (d.fld THM_OSTAT o 1 0 = 2)
/-- STEP: zero or below acts as CMAX (R469). -/
def Dev.thmStep (d : Dev) (o : Nat) : BF := if (bfOf (d.rd THM_OSTEP o)).pos? then bfOf (d.rd THM_OSTEP o) else bfOf (d.rd THM_OCMAX o)
/-- Kmax = ceil (CMAX / STEP), as far as the 8 bits of K reach. -/
def Dev.kmax (d : Dev) (o : Nat) : Nat :=
  let c := bfOf (d.rd THM_OCMAX o)
  let s := d.thmStep o
  if c.pos? && s.pos? then min (((c.num * (s.den : Int)) + s.num * (c.den : Int) - 1) / (s.num * (c.den : Int))).toNat 255 else 0
/-- The claim of K steps: max (0, CMAX - K x STEP). -/
def Dev.thmClaim (d : Dev) (o k : Nat) : Word :=
  let c := bfOf (d.rd THM_OCMAX o)
  let s := d.thmStep o
  let n := c.num * (s.den : Int) - (k : Int) * s.num * (c.den : Int)
  if n ≤ 0 then BF.zero.word else (bfRat n (c.den * s.den)).word
/-- Show K, STATE and the claim of an outlet that is not in shutdown. -/
def Dev.setK (d : Dev) (o k : Nat) : Dev :=
  ((d.setFld THM_OSTAT o 15 8 k).setFld THM_OSTAT o 1 0 (if k = 0 then 0 else 1)).wr THM_OCLAIM o (d.thmClaim o k)
/-- K rises by one up to Kmax, with the event (R470). -/
def Dev.stepUp (d : Dev) (o : Nat) : Dev :=
  let k := d.fld THM_OSTAT o 15 8
  if k < d.kmax o then (d.setK o (k + 1)).ev 0x60 3 else d
/-- A cooling controller with the outlet in OUTM has COOLFLT latched. -/
def Dev.coolFaultOf (d : Dev) (o : Nat) : Bool := (List.range 8).any (fun c => d.bit THM_CSTAT c 9 && d.bit THM_CSRCD c (16 + o))
/-- The first hot input of an outlet. -/
def Dev.firstHot (d : Dev) (o : Nat) : Option Nat := (d.omask o).find? (fun k => d.thmFlag k 7)

/-- The throttle of an outlet at an evaluation (R469, R470, R472). -/
def Dev.throttle (d : Dev) (o : Nat) : Dev :=
  let cf := d.coolFaultOf o
  let fh := d.firstHot o
  let hot := fh.isSome || cf
  let d1 := ((d.setBit THM_OSTAT o 16 hot).setBit THM_OSTAT o 17 cf).setFld THM_OSTAT o 28 24 (fh.getD 0x1F)
  let x := d1.thmO o
  if d1.inShutdown o then (d1.setThmO o { x with hot, coolFrom := none }).wr THM_OCLAIM o BF.zero.word
  else
    let d2 := if hot && !x.hot then d1.stepUp o else d1
    let cool := !hot && (d1.omask o).all (fun k => decide (d1.used k + d1.fld THM_ILIM2 k 23 16 * 10 ≤ d1.throt k))
    let d3 := d2.setThmO o { hot, dwellFrom := if hot && x.hot then x.dwellFrom else d.time, coolFrom := if cool then some (x.coolFrom.getD d.time) else none }
    d3.setK o (min (d3.fld THM_OSTAT o 15 8) (d3.kmax o))

/-- THROTTLE_STEP: DWELL while hot, or UPDWELL while cool, has passed (R470). -/
def Dev.throttleStep (d : Dev) (t o : Nat) : Dev :=
  let d0 := d.at t
  let x := d0.thmO o
  if !(d0.up .pstage && decide (o < d0.variant.outlets)) || d0.inShutdown o then d0
  else if x.hot then
    let n := max 1 (d0.fld THM_ODWELL o 15 0) * 1000000
    if x.dwellFrom + n ≤ t then (d0.stepUp o).setThmO o { x with dwellFrom := x.dwellFrom + n } else d0
  else match x.coolFrom with
    | some s =>
      let n := max 1 (d0.fld THM_ODWELL o 31 16) * 1000000
      if s + n ≤ t then (d0.setK o (d0.fld THM_OSTAT o 15 8 - 1)).setThmO o { x with coolFrom := some (s + n) } else d0
    | none => d0

/-! ### Shutdown and its records (R474-R479) -/

/-- Where the thermal-records partition starts. -/
def thmBase : Nat := 0x141C0000

/-- A state block (Table 11.3). -/
def stateBlock (seq latched rseq : Nat) : List Byte :=
  let b := leBytes 2 0x7E68 ++ leBytes 2 0 ++ leBytes 4 seq ++ leBytes 2 latched ++ leBytes 2 0 ++ leBytes 4 rseq ++ leBytes 236 0
  b ++ leBytes 4 (crc32 b)

/-- A verification failed: RECFAIL and its event. -/
def Dev.recFail (d : Dev) : Dev := (d.setBit THM_RECSTAT 0 8 true).ev 0x60 6

/-- Write the state block that does not hold the newest valid SEQ (R475). -/
def Sys.writeState (s : Sys) (latched : Nat) (ok : Bool) : Sys :=
  if !ok then s.onDev Dev.recFail
  else
    let b := match s.dev.thm.blkAt with | some 0 => 1 | _ => 0
    let seq := (s.dev.thm.blkSeq + 1) % 2 ^ 32
    let s1 := s.store (thmBase + 256 * b) (stateBlock seq latched (s.dev.rd THM_RSEQ 0).toNat)
    s1.onDev (fun d => { d with thm := { d.thm with blkSeq := seq, blkAt := some b, latched } })

/-- A thermal record (Table 11.4). -/
def Dev.thmRecord (d : Dev) (kind o : Nat) (cause : Option Nat) (claim : Word) : List Byte :=
  let src := match cause with | some k => d.thmSrc k | none => 0
  let en (k : Nat) : Bool := d.thmEn k
  let temps := (List.range 32).flatMap (fun k => leBytes 2 (if en k then d.used k else 0))
  let flags := (List.range 32).flatMap (fun k =>
    leBytes 1 (if en k then d.thmSrc k + 4 * d.fld THM_ISTAT k 6 4 + 32 * b2n (d.thmFlag k 8) + 64 * d.fld THM_ISTAT k 1 0 else 0))
  let raws := (List.range 32).flatMap (fun k => leBytes 2 (if en k then d.fld THM_IVAL k 31 16 else 0))
  let dies := (List.range 10).flatMap (fun n => leBytes 2 (d.fld (THM_DIE n) 0 15 0))
  let rate := match cause with | some k => twos (sext (d.fld THM_IRTE k 15 0) 16) 32 | none => 0
  let b := leBytes 2 0x7E48 ++ leBytes 1 kind ++ leBytes 1 o ++ leBytes 4 ((d.rd THM_RSEQ 0).toNat + 1) ++ leBytes 8 d.time ++
    leBytes 1 (cause.getD 0xFF) ++ leBytes 1 src ++ leBytes 2 0 ++ leBytes 4 (d.rd THM_OMASK o).toNat ++ leBytes 4 claim.toNat ++ leBytes 4 0 ++
    temps ++ flags ++ raws ++ dies ++ leBytes 4 rate ++ leBytes 36 0
  b ++ leBytes 4 (crc32 b)

/-- Write a record into the next of the 254 slots. -/
def Sys.writeRecord (s : Sys) (kind o : Nat) (cause : Option Nat) (claim : Word) (ok : Bool) : Sys :=
  if !ok then s.onDev Dev.recFail
  else
    let d := s.dev
    let slot := if d.rd THM_RSEQ 0 = 0 then 0 else (d.fld THM_RECSTAT 0 7 0 + 1) % 254
    let s1 := s.store (thmBase + 0x200 + 256 * slot) (d.thmRecord kind o cause claim)
    s1.onDev (fun e => (e.setFld THM_RECSTAT 0 7 0 slot).wr THM_RSEQ 0 (e.rd THM_RSEQ 0 + 1))

/-- LATCHED of Table 11.3: the outlets in shutdown. -/
def Dev.shutMask (d : Dev) : Nat := ((List.range d.variant.outlets).filter d.inShutdown).foldl (fun m o => m ||| 2 ^ o) 0

/-- THERMAL_SHUTDOWN: outlets with an input at or above SHUT enter shutdown; one state block, one record per outlet in
ascending order (R474, R475). -/
def Sys.shutdowns (s : Sys) (stateOk recOk : Bool) : Sys :=
  let d := s.dev
  let hits : List (Nat × Nat × Word) := (List.range d.variant.outlets).filterMap (fun o =>
    if d.inShutdown o then none
    else ((d.omask o).find? (fun k => ((d.thmI k).own.isSome || decide (d.thmSrc k = 2)) && decide (d.shut k ≤ d.used k))).map (fun k => (o, k, d.rd THM_OCLAIM o)))
  match hits with
  | [] => s
  | _ =>
    let s1 := s.onDev (fun e => e.each hits (fun h f =>
      ((f.setFld THM_OSTAT h.1 1 0 2).wr THM_OCLAIM h.1 BF.zero.word).ev 0x60 4))
    (s1.writeState s1.dev.shutMask stateOk).each hits (fun h e => e.writeRecord 1 h.1 (some h.2.1) h.2.2 recOk)

/-- An acknowledgement at an evaluation. Accepted in Shutdown while every input is at or below RST and none is forced hot; K becomes
Kmax, and the state block and a record are written; otherwise it is discarded with ACKREF (R476). -/
def Sys.judgeAck (s : Sys) (o : Nat) (stateOk recOk : Bool) : Sys :=
  let d := s.dev
  if d.inShutdown o && (d.omask o).all (fun k => decide (d.used k ≤ d.rst k) && decide (d.thmSrc k ≠ 2)) then
    let s1 := s.onDev (fun e =>
      { e.setK o (e.kmax o) with thm := { e.thm with out := kvMod e.thm.out o {} (fun x => { x with coolFrom := none }) } })
    (s1.writeState s1.dev.shutMask stateOk).writeRecord 2 o none (d.rd THM_OCLAIM o) recOk
  else s.onDev (fun e => e.setBit THM_OSTAT o 18 true)

/-- The acknowledgements that wait, in ascending outlet order; none is held any longer (R476, R485). -/
def Sys.judgeAcks (s : Sys) (stateOk recOk : Bool) : Sys :=
  let m := s.dev.thm.ack
  (s.onDev (fun d => { d with thm := { d.thm with ack := 0 } })).each ((List.range s.dev.variant.outlets).filter m.testBit)
    (fun o q => q.judgeAck o stateOk recOk)

/-- A write of THM_OCTL with ACK, judged at the next evaluation (R476, log entry 223). -/
def Dev.ackWrite (e : Dev) (o : Nat) (v : Word) : Dev :=
  if bitOf v 0 then { e with thm := { e.thm with ack := e.thm.ack ||| 2 ^ o } } else e

/-- SHUTDOWN_ACK: a write of THM_OCTL. -/
def Dev.shutdownAck (d : Dev) (i : Initiator) (v : Word) : Dev := d.gated i THM_OCTL v (fun o e => e.ackWrite o v)

/-- A valid block or record: its TAG and its CRC. -/
def thmValid (tag : Nat) (b : List Byte) : Bool := decide (leAt b 0 2 = tag) && decide (leAt b 252 4 = crc32 (b.take 252))

/-- The shutdown states at power-up and at a restart (R478, R479). -/
def Sys.thmRestore (s : Sys) : Sys :=
  let blk (n : Nat) : List Byte := s.read (thmBase + 256 * n) 256
  let ok (n : Nat) : Bool := thmValid 0x7E68 (blk n)
  let best : Option Nat := if ok 0 && ok 1 then some (if serialNewer (leAt (blk 1) 4 4) (leAt (blk 0) 4 4) then 1 else 0)
    else if ok 0 then some 0 else if ok 1 then some 1 else none
  let recs : List (Nat × List Byte) := (List.range 254).filterMap (fun n =>
    let b := s.read (thmBase + 0x200 + 256 * n) 256
    if thmValid 0x7E48 b then some (n, b) else none)
  let newest : Option (Nat × List Byte) := recs.foldl (fun (m : Option (Nat × List Byte)) r => match m with
    | none => some r
    | some y => some (if serialNewer (leAt r.2 4 4) (leAt y.2 4 4) then r else y)) none
  let lastOf (o : Nat) : Option (List Byte) := (recs.map (fun r => r.2)).foldl (fun (m : Option (List Byte)) r =>
    if leAt r 3 1 = o then (match m with | none => some r | some y => some (if serialNewer (leAt r 4 4) (leAt y 4 4) then r else y)) else m) none
  let base : Nat := match best with | some n => leAt (blk n) 8 2 | none => 65535
  let rseq : Nat := match best with | some n => leAt (blk n) 12 4 | none => 0
  let shut (o : Nat) : Bool := base.testBit o ||
    (match lastOf o with | some r => decide (leAt r 2 1 = 1) && serialNewer (leAt r 4 4) rseq | none => false)
  let norec (o : Nat) : Bool := decide (best.isSome) && base.testBit o &&
    (match lastOf o with | some r => decide (leAt r 2 1 = 2) | none => true)
  s.onDev (fun d =>
    let d1 := { d with thm := { d.thm with blkAt := best, blkSeq := (match best with | some n => leAt (blk n) 4 4 | none => 0), latched := base, first := true, startAt := d.time, inp := [], out := [] } }
    let d2 := match newest with
      | some r => (d1.setFld THM_RECSTAT 0 7 0 r.1).wr THM_RSEQ 0 (w32 (leAt r.2 4 4))
      | none => d1
    let d3 := if best.isNone then d2.setBit THM_RECSTAT 0 9 true else d2
    d3.each (List.range d3.variant.outlets) (fun o e =>
      let e1 := if shut o then e.setFld THM_OSTAT o 1 0 2 else e
      if norec o then e1.setBit THM_OSTAT o 19 true else e1))

/-! ### Cooling controllers (R480-R483) -/

/-- COOLING_UPDATE: one controller sets its channel's command. -/
def Dev.coolUpdate (d : Dev) (c : Nat) : Dev :=
  let n := d.fld THM_CCFG c 28 24
  if !d.bit THM_CCFG c 31 then d.setFld THM_CSTAT c 8 0 0 |>.setFld THM_CSTAT c 17 16 0 |>.setBit THM_CSTAT c 10 false
  else if 2 ≤ (d.lswOwners n).length then (d.setBit THM_CSTAT c 10 true).setFld THM_CSTAT c 8 0 0
  else
    let ts := ((maskList (d.rd THM_CSRC c).toNat d.variant.thermals).filter d.thmEn).map d.used ++
      (maskList (d.fld THM_CSRCD c 9 0) 10).map (fun k => d.fld (THM_DIE k) 0 15 0)
    let t := ts.foldl max 0
    let hi := d.fld THM_CCURV c 31 16
    let lo := d.fld THM_CCURV c 15 0
    let pct (h l : Nat) : Nat := min 100 (d.fld THM_CDUTY c h l)
    let outs := maskList (d.fld THM_CSRCD c 31 16) d.variant.outlets
    let shut := outs.any d.inShutdown
    let charging := outs.any (fun o => decide ((bfOf (d.rd ARB_VREQ o)).m ≠ 0))
    let pwm := d.bit THM_CCFG c 20
    let duty0 : Nat := if t ≤ lo then pct 7 0 else if hi ≤ t then pct 15 8
      else (rneDiv ((pct 7 0 : Int) * ((hi - lo : Nat) : Int) + ((pct 15 8 : Int) - pct 7 0) * ((t - lo : Nat) : Int)) (hi - lo)).toNat
    let on0 := if hi ≤ t then true else if t ≤ lo then false else d.bit THM_CSTAT c 8
    let duty := if shut then 100 else if charging then max duty0 (pct 23 16) else duty0
    let on := if pwm then decide (0 < duty) else on0 || shut || charging
    let duty' := if pwm then duty else if on then 100 else 0
    let ovr := if shut then 1 else if charging then 2 else 0
    let d1 := ((((d.setFld THM_CSTAT c 7 0 duty').setBit THM_CSTAT c 8 on).setFld THM_CSTAT c 17 16 ovr)).setBit THM_CSTAT c 10 false
    if n < d.variant.loadSwitches then
      (d1.wr LSW_CCTL n (w32 (b2n on + 256 * duty' + 65536 * clampN (d.fld THM_CCFG c 15 0) 20 1000))).lswShow n
    else d1

/-- FCLR clears COOLFLT only while the channel reports no fault (R483). -/
def Dev.coolWrite (e : Dev) (c : Nat) (v : Word) : Dev :=
  let n := e.fld THM_CCFG c 28 24
  if bitOf v 0 && !(e.lswLatched n || decide (e.fld LSW_CSTAT n 12 10 ≠ 0)) then e.setBit THM_CSTAT c 9 false else e

/-- COOLING_FAULT_CLEAR: a write to THM_CCTL. -/
def Dev.coolClear (d : Dev) (i : Initiator) (v : Word) : Dev := d.gated i THM_CCTL v (fun c e => e.coolWrite c v)

/-! ### The frame -/

/-- THERMAL_FRAME at t, a whole millisecond: the codes of this frame's conversions as (input, code), and whether the NVM
writes of a shutdown or an acknowledgement verify (R455, R475, R476, R485). -/
def Sys.thermalFrame (s : Sys) (t : Nat) (codes : List (Nat × Nat)) (stateOk recOk : Bool) : Sys :=
  let s0 := s.onDev (fun d => d.at t)
  if !(s0.dev.up .pstage && decide (t % 1000000 = 0)) then s0
  else
    let n : Nat := if s0.dev.thm.first then 0 else s0.dev.thm.epoch * 2 ^ 32 + (s0.dev.rd THM_FRAME 0).toNat + 1
    let s1 := s0.onDev (fun d0 =>
      let d := { d0 with thm := { d0.thm with epoch := n / 2 ^ 32 } }
      let d1 := (d.wr THM_FRAME 0 (w32 n)).each d.thmL (fun k e => e.enableInput k)
      let due := if d1.pwr.ifaceReset then [] else d1.thmL.filter (fun k => d1.converts n k && codes.any (fun c => decide (c.1 = k)))
      let d2 := d1.each due (fun k e => match codes.find? (fun c => decide (c.1 = k)) with | some c => e.takeCode k c.2 | none => e)
      let hs := (List.range 16).filter (fun h => due.any (fun k => decide (d2.nbh k = some h)))
      let d3 := (d2.each hs (fun h e => e.evalNbh h)).each (List.range 16) (fun h e => e.setBit THM_NSTAT h 16 (e.relations h).2)
      let d4 := if n % 10 = 0 then d3.each (List.range 10) (fun k e => e.wr (THM_DIE k) 0 (w32 (e.fld MON_IT k 15 0))) else d3
      let d5 := d4.each (d4.thmL.filter d4.thmEn) (fun k e =>
        e.useInput k (decide (k ∈ due) || (match e.nbh k with | some h => decide (h ∈ hs) | none => false)))
      { d5 with thm := { d5.thm with first := false } })
    let s2 := (s1.shutdowns stateOk recOk).judgeAcks stateOk recOk
    s2.onDev (fun d =>
      let d1 := d.each (List.range d.variant.outlets) (fun o e => e.throttle o)
      if n % 10 = 0 then d1.each (List.range 8) (fun c e => e.coolUpdate c) else d1)

end Sys2Proof.Machine
end

