-- ==== Sys2Proof/Machine/Boot.lean ====
section
/-! DEFINITION. The power-up sequence (spec/17_power_reset_bist.md, R686, R694-R699, and spec/16_keys_and_attestation.md,
R626, R636, R641, R646, R649, R650, R654-R658): self-test, life cycle, keys, the check of a bank, the start of the
islands. -/
namespace Sys2Proof.Machine

/-! ### What a reset returns (R676, Table 17.6) -/

/-- All bits. -/
def allOnes : Word := 0xFFFFFFFF

/-- Every register returns to its reset value but for the bits that `keep` names by page, offset and instance. -/
def Dev.resetRegs (d : Dev) (keep : Nat → Nat → Nat → Word) : Dev :=
  { d with regs := d.regs.filterMap (fun p =>
      let page := keyPage p.1
      let off := keyOff p.1
      let rst := (regAt d.variant page off).reset
      let m := keep page off (p.1 / 16 % 256)
      let v := (p.2 &&& m) ||| (rst &&& ~~~m)
      if m = allOnes then some p else if v = rst then none else some (p.1, v)) }

/-- Registers whose contents stand in NVM: PFWARN (R671), AUS_CFG (R710), the telegram generations (R436), the stored
unlock (R651), the version minima (R657), and the billing block's period stamp, snapshots, sessions and break count. -/
def nvmKeep (page off _inst : Nat) : Word :=
  if (page = 0x04 ∧ off = 0x044) ∨ (page = 0x75 ∧ off = 0x040) ∨ (page = 0x5E ∧ (off = 0x414 ∨ off = 0x41C)) ∨
      (page = 0x13 ∧ (off = 0x0A0 ∨ off = 0x0A4)) ∨ (page = 0x50 ∧ off = 0x05C) ∨ (page = 0x54 ∧ 0x048 ≤ off) ∨
      (page = 0x55 ∧ 0x040 ≤ off) ∨ (page = 0x56 ∧ off = 0x044) then allOnes
  else if page = 0x10 ∧ off = 0x068 then 0x100
  else if page = 0x54 ∧ off = 0x044 then 0xD
  else 0

/-- What a system reset leaves of the AON pages (R676): the RST page but for the count of restarts and the initiators' selections,
whose own islands reset (R75), the VSYS supervisor and its record, and what the last self-test showed, until the next one (R701). -/
def aonKeep (page off inst : Nat) : Word :=
  if page = 0x03 then (if off = 0x064 then 0x0000FFFF else if off = 0x020 then 0 else allOnes)
  else if page = 0x04 ∧ off = 0x048 then allOnes
  else if page = 0x04 ∧ off = 0x050 then 0xFFFF0002
  else if page = 0x05 ∧ (off = 0x040 ∨ off = 0x044 ∨ 0x400 ≤ off) then allOnes
  else nvmKeep page off inst

/-- What a life-cycle change leaves: the records of R684. -/
def lcKeep (page off inst : Nat) : Word :=
  if page = 0x03 ∧ (off = 0x040 ∨ off = 0x044 ∨ off = 0x068) then allOnes
  else if page = 0x04 ∧ off = 0x048 then allOnes
  else if page = 0x04 ∧ off = 0x050 then 0xFFFF0002
  else nvmKeep page off inst

/-- Reset values that differ between the parts (Tables 2.15, 3.3, R283). -/
def Dev.partDefaults (d : Dev) : Dev :=
  let v := d.variant
  let part : Nat := match v with | .px4840 => 0x4840 | .px4824 => 0x4824 | .px4812 => 0x4812
  let chans := [3, 4, 5] ++ (List.range v.outlets).map (fun n => 9 + 2 * n)
  let m := chans.foldl (fun a c => a ||| 2 ^ c) 0
  let base : Nat := match v with | .px4840 => 0x300 | .px4824 => 0x100 | .px4812 => 0
  let d1 := d.wr SYS_ID 0 (w32 (part * 65536 + 0x200 + (if v = .px4812 then 2 else 1)))
  let d2 := d1.wr SDM_CLKCFG 0 (match v with | .px4840 => 0xF | .px4824 => 0x7 | .px4812 => 0x3)
  let d3 := (d2.wr ACQ_FLTCH0 0 (w32 m)).wr ACQ_FLTCH1 0 (w32 (m / 2 ^ 32))
  (d3.wr ACQ_RGBASE d3.faultUnit (w32 base)).wr ACQ_RGSIZE d3.faultUnit 0x100

/-- The device after a reset of everything but the AON island's records: what `keep` leaves of the registers, the NVM's
contents, the log's queues, T; no working state of any island. -/
def Dev.fresh0 (d : Dev) (keep : Nat → Nat → Nat → Word) : Dev :=
  let r := d.resetRegs keep
  let p := d.pwr
  let b := d.bil
  let k := d.key
  let new : Dev :=
    { variant := d.variant, time := d.time, fresh := d.fresh, regs := r.regs, log := d.log
      pwr := { phase := .off, reachedNormal := false, holdN := p.holdN, resetN := p.resetN, resetLowSince := p.resetLowSince
               stuckRec := p.stuckRec, pfRec := p.pfRec, safetyResets := p.safetyResets, dwdSince := d.time, cwdSince := d.time
               ifaceReset := p.ifaceReset, ifaceHot := p.ifaceHot, rtc := p.rtc
               vauxLow := p.vauxLow, buck := p.buck, vioLow := p.vioLow }
      sys := { refreshFrom := d.sys.refreshFrom, wipedLc := d.sys.wipedLc, clkFrom := d.time }
      saf := { active := d.saf.active, faultLow := true
               conn := d.saf.conn.filterMap (fun p => if p.2.rxHave then some (p.1, { rxHave := true }) else none) }
      mtr := { adopted := d.mtr.adopted, adoptDue := d.mtr.adoptDue, flushDue := d.mtr.flushDue }
      bil := { b with openCh := none, closeBp := false, holdAt := [], live := [], snap := none }
      key := { gens := k.gens, cfgs := k.cfgs, sigRec := k.sigRec, unlock := k.unlock } }
  new.partDefaults

/-! ### Fuses and the life cycle -/

/-- How many of the 3 copies of LC hold bit k blown. -/
def lcCopies (fuses k : Nat) : Nat :=
  b2n (fuses.testBit (432 + k)) + b2n (fuses.testBit (437 + k)) + b2n (fuses.testBit (442 + k))

/-- The life-cycle state: the number of leading bits that at least 2 of the 3 copies hold blown (R646). -/
def lcState (fuses : Nat) : Nat := ((List.range 5).takeWhile (fun k => decide (2 ≤ lcCopies fuses k))).length

/-- The fuse bits of LC bits lo to hi - 1 in all three copies. -/
def lcMask (lo hi : Nat) : Nat :=
  (List.range 5).foldl (fun m k => if lo ≤ k ∧ k < hi then m ||| 2 ^ (432 + k) ||| 2 ^ (437 + k) ||| 2 ^ (442 + k) else m) 0

/-- Bits blown in fewer than 2 copies, which the next boot completes (R649). -/
def lcTorn (fuses : Nat) : Nat :=
  (List.range 5).foldl (fun m k => if lcCopies fuses k = 1 then m ||| lcMask k (k + 1) else m) 0

/-- Fuse field ROOT, IDSEED or OWNERKEY (0-2) is programmed: some bit blown, every word correctable (R626). -/
def Sys.programmed (s : Sys) (k : Nat) : Bool :=
  let (lo, n) : Nat × Nat := match k with | 0 => (0, 256) | 1 => (288, 128) | _ => (448, 256)
  !s.dev.sys.badFuses.testBit k && decide (s.fuses / 2 ^ lo % 2 ^ n ≠ 0)

/-- Debug is on: 1 by the state, 2 by a stored unlock, 0 off (R650, Table 16.11). -/
def debugBy (lc : Nat) (unlock : Bool) : Nat :=
  if lc = 0 ∨ lc = 1 ∨ lc = 4 then 1 else if (lc = 2 ∨ lc = 3) ∧ unlock then 2 else 0

/-- What LCM_STATE, LCM_DEVID, LCM_OWNER and SYS_STAT show of the fuses. -/
def Sys.showFuses (s : Sys) (torn : Bool) : Sys :=
  let lc := lcState s.fuses
  let dbg := debugBy lc s.dev.key.unlock
  let own := s.programmed 2
  let w := lc + 16 * b2n torn + 256 * dbg + 4096 * b2n (decide (dbg ≠ 0)) + 65536 * b2n own + 131072 * b2n s.metlock +
    2 ^ 20 * b2n (decide (s.dev.sys.badFuses % 8 ≠ 0))
  let ok := s.programmed 1
  s.onDev (fun d =>
    let d1 := d.wr LCM_STATE 0 (w32 w)
    let d2 := d1.each (List.range 4) (fun k e => e.wr (LCM_DEVID k) 0 (if ok then w32 (s.fuses / 2 ^ (288 + 32 * k)) else 0))
    let d3 := if own then d2.each (List.range 8) (fun k e => e.wr (LCM_OWNER k) 0 (w32 (s.fuses / 2 ^ (448 + 32 * k)))) else d2
    ((d3.setFld SYS_STAT 0 18 16 lc).setBit SYS_STAT 0 8 (decide (dbg ≠ 0))).setBit DBG_STAT 0 0 (decide (dbg ≠ 0)))

/-- Wipe every volatile memory and every NVM partition; the telegram generations, the AON records and the record of this
wipe stay (R649), and PSRAM and flash, which the controller never wipes (Table 17.6). -/
def Sys.wipeAll (s : Sys) (lc : Nat) : Sys :=
  let keep (page off inst : Nat) : Word :=
    if nvmKeep page off inst = 0 then allOnes
    else if page = 0x5E then allOnes else 0
  let s1 := { (s.wipe 0 0x20000000).wipe (2 ^ 32) (2 ^ 32 + 2 ^ 22) with bad := [] }.onDev (fun d => d.resetRegs keep)
  s1.onDev (fun d => { d with
    bil := {}, mtr := {}, thm := {}, saf := { d.saf with active := [] }
    key := {}, sys := { d.sys with wipedLc := lc } })

/-- The life cycle at boot: bits blown in fewer than 2 copies are completed; the first boot in a new state wipes (R646,
R649, R650). -/
def Sys.lifeBoot (s : Sys) (o : BootObs) : Sys :=
  let torn := lcTorn s.fuses
  let s1 := (s.blow torn).onDev (fun d => { d with sys := { d.sys with badFuses := o.badFuses } })
  let lc := lcState s1.fuses
  let s2 := if s1.dev.sys.wipedLc = lc then s1 else s1.wipeAll lc
  s2.showFuses (decide (torn ≠ 0))

/-! ### Keys at a reset of the key island -/

/-- KEY_NCFG and label words of the built-in slots (Table 16.2). -/
def builtIn (n : Nat) : List Word :=
  let label (t : String) : List Word := (List.range 4).map (fun w => w32 (leAt (t.toList.map (fun c => w8 c.toNat)) (4 * w) 4))
  if n = 0 then [0x80000000, 0, 0, 0, 0]
  else if n = 1 then 0x80010000 :: label "PX48 SIGN BRANCH"
  else 0x85020001 :: label "PX48 SIGNING KEY"

/-- The key island starts: root and state of R636, the slots' configurations (R632), the index of R641, the trees of R640,
fresh measurements 6 and 7 (R658). The slots derive in SLOT_DERIVED. -/
def Dev.keyBoot (d : Dev) (o : BootObs) : Dev :=
  let lc := d.fld LCM_STATE 0 2 0
  let root := b2n (decide (debugBy lc d.key.unlock ≠ 0))
  let cfgs := ((kvPut (kvPut (kvPut d.key.cfgs 0 (builtIn 0)) 1 (builtIn 1)) 2 (builtIn 2)))
  let gens := d.key.gens
  let r0 : SigRec := d.key.sigRec.getD { next := 0, rootSel := root, lc, rootGen := kvGet gens 0 0, signGen := kvGet gens 1 0 }
  let same := decide (r0.rootSel = root ∧ r0.lc = lc ∧ r0.rootGen = kvGet gens 0 0 ∧ r0.signGen = kvGet gens 1 0)
  let bad := o.badIndex && decide (root = 0)
  let next := if root = 1 ∨ bad ∨ !same then 0 else r0.next
  let k : KeyState :=
    { gens, cfgs, unlock := d.key.unlock, genBad := (o.badGens.filter (· < 256)).foldl (fun m n => kvPut m n true) []
      rootSel := root, lc, sigRec := d.key.sigRec
      ramRec := if root = 1 then some { next := 0, rootSel := 1, lc, rootGen := kvGet gens 0 0, signGen := kvGet gens 1 0 } else none
      qnext := next, qlimit := next, building := [0, next / 32768 + 1]
      meas := (d.key.meas.filter (fun m => decide (m.1 < 6))) ++ [(6, List.replicate 32 0), (7, List.replicate 32 0)] }
  let d1 : Dev := { d with key := k }
  let d2 := d1.each cfgs (fun c e =>
    (e.wr KEY_NCFG c.1 (c.2.getD 0 0)).each (List.range 4) (fun w f => f.wr (KEY_NLABEL w) c.1 (c.2.getD (w + 1) 0)))
  let d3 := d2.each (cfgs.map (fun c => c.1)) (fun n e => e.slotShow n)
  ((((d3.wr KEY_SIGNEXT 0 (w32 next)).setBit KEY_SIGSTAT 0 5 bad).sigShow).setFld LCM_STATE 0 9 8 (debugBy lc d.key.unlock)).setBit LCM_STATE 0 12
    (decide (root = 1)) |>.setBit DBG_STAT 0 0 (decide (debugBy lc d.key.unlock ≠ 0))
    |>.when (!k.genBad.isEmpty) (fun e => e.ev 0x11 1)

/-- LCM_DBGCTL shows the stored unlock. -/
def Dev.showUnlock (d : Dev) : Dev := d.setBit LCM_DBGCTL 0 8 d.key.unlock

/-! ### Self-test -/

/-- The parts in the order of Table 17.8. -/
def bistOrder : List Nat := [3, 1, 2, 5, 4, 6, 7, 8, 9]

/-- What the self-test finds in a part; one that is not listed passes. -/
def BootObs.part (o : BootObs) (p : Nat) : BistPart := (o.bist.find? (fun b => decide (b.part = p))).getD { part := p, result := 1 }

/-- A key or safety failure stops the run (R699). -/
def BootObs.stops (o : BootObs) (p : Nat) : Bool := (decide (p = 3) || decide (p = 1)) && decide ((o.part p).result = 3)

/-- Record a part's result: the signatures of an unlisted part are alike and otherwise free. -/
def Dev.bistPart (d : Dev) (o : BootObs) (p : Nat) : Dev :=
  let b := o.part p
  let d1 := d.setFld BST_RESULT 0 (2 * p + 1) (2 * p) b.result
  if o.bist.any (fun x => decide (x.part = p)) then
    (((d1.wr BST_LSIG p b.lsig).wr BST_LEXP p b.lexp).wr BST_MADDR p b.maddr).wr BST_MSTAT p b.mstat
  else
    let (w, d2) := d1.free 694
    (d2.wr BST_LSIG p w).wr BST_LEXP p w

/-- FULL_BIST: the parts in order, up to a key or safety failure; the interface die only with VAUX (R694-R699). The AON
island checks its own ROM. -/
def Dev.fullBist (d : Dev) (o : BootObs) : Dev :=
  let d0 := (d.resetRegs (fun page _ _ => if page = 0x05 then 0 else allOnes)).setFld BST_RESULT 0 1 0 1
  let stop := bistOrder.find? o.stops
  let ran := match stop with
    | some p => bistOrder.takeWhile (· ≠ p) ++ [p]
    | none => bistOrder
  let d1 := d0.each (ran.filter (fun p => decide (p ≠ 9) || o.vaux)) (fun p e => e.bistPart o p)
  { d1.wr BST_TIME 0 (w32 o.bistTime) with pwr := { d1.pwr with softRepairs := o.soft } }

/-! ### The boot ROM (R654-R656) -/

/-- Where a bank stands in the flash. -/
def bankBase (bank : Nat) : Nat := 0x20000000 + bank * 0x4000000

/-- MODEL'S OWN: the TCMs of the safety and metrology islands stand above the address map, where no bus access reaches. -/
def tcmBase (island : Nat) : Nat := 2 ^ 32 + (island - 1) * 2 ^ 20

/-- The length of the HSS signature that starts a list of bytes, below the levels' first public key. -/
def hssSigRest : Nat → List Byte → List Byte → Nat
  | n, key, sig =>
    match lmsTypes key with
    | none => 0
    | some (t, m, h) =>
      let l := lmsSigLen t m h
      match n with
      | 0 => l
      | n + 1 =>
        let rest := sig.drop l
        let next := match lmsTypes rest with | some (_, m', _) => rest.take (24 + m') | none => []
        l + next.length + hssSigRest n next (rest.drop next.length)

/-- A signature block at an address: public key, signature and end (Table 16.9). -/
def Sys.sigBlock (s : Sys) (a : Nat) : List Byte × List Byte × Nat :=
  let n := memNat s.mem a 4
  if 60 < n then ([], [], a + 4)
  else
    let key := s.read (a + 4) n
    let l := 4 + hssSigRest (min 8 (beNat (slice key 0 4)) - 1) (key.drop 4) ((s.read (a + 4 + n) 90000).drop 4)
    (key, s.read (a + 4 + n) l, a + 4 + n + l)

/-- An entry of a manifest. -/
structure BootEntry where
  island : Nat
  pad : Nat
  offset : Nat
  length : Nat
  load : Nat
  digest : List Byte
  deriving DecidableEq, Repr

/-- The entry at an address. -/
def Sys.bootEntry (s : Sys) (a : Nat) : BootEntry :=
  { island := memNat s.mem a 1, pad := memNat s.mem (a + 1) 3, offset := memNat s.mem (a + 4) 4, length := memNat s.mem (a + 8) 4
    load := memNat s.mem (a + 12) 4, digest := s.read (a + 16) 32 }

/-- An entry's image lies in its bank and its load address in the island's memory. -/
def BootEntry.ok (e : BootEntry) : Bool :=
  decide (e.pad = 0) && decide (e.offset + e.length ≤ 0x4000000) &&
    (if e.island = 1 then decide (e.load + e.length ≤ 0x80000)
     else if e.island = 2 then decide (e.load + e.length ≤ 0x40000)
     else decide (e.island = 3) && decide (0x08000000 ≤ e.load) && decide (e.load + e.length ≤ 0x09000000))

/-- A manifest that has passed. -/
structure Manifest where
  bank : Nat
  svnk : Nat
  svno : Nat
  size : Nat
  entries : List BootEntry
  deriving DecidableEq, Repr

/-- The 32 bytes of a digest constant. -/
def digestOf (f : Nat → Byte) : List Byte := (List.range 32).map f

/-- BOOT_VERIFY of a bank: its manifest, or its failure code (R655, R656). -/
def Sys.bankCheck (s : Sys) (bank : Nat) : Except Nat Manifest :=
  let b := bankBase bank
  let n := fun (a k : Nat) => memNat s.mem a k
  if n b 2 ≠ 0x7E46 ∨ n (b + 2) 1 ≠ 1 then .error 1
  else
    let nk := n (b + 3) 1
    let ksig := b + 8 + 48 * nk
    let (kk, ks, kend) := s.sigBlock ksig
    let no := n (kend + 4) 1
    let osig := kend + 8 + 48 * no
    let (ok, os, oend) := s.sigBlock osig
    let ents := (List.range nk).map (fun k => s.bootEntry (b + 8 + 48 * k)) ++ (List.range no).map (fun k => s.bootEntry (kend + 8 + 48 * k))
    let count := fun (l : List BootEntry) (i : Nat) => (l.filter (fun e => decide (e.island = i))).length
    if !(decide (sha256 kk = digestOf Config.codeKeyDigest) && hssVerify kk (sha256 (s.read b (ksig - b))) ks) then .error 2
    else if !((!s.programmed 2 || decide (sha256 ok = fuseBytes s.fuses 448 32)) && hssVerify ok (sha256 (s.read b (osig - b))) os) then .error 3
    else if n (b + 4) 4 < (s.dev.rd ATT_SVNK 0).toNat ∨ n kend 4 < (s.dev.rd ATT_SVNO 0).toNat then .error 5
    else if !(decide (nk = 2) && decide (no = 1) && decide (count (ents.take 2) 1 = 1) && decide (count (ents.take 2) 2 = 1) &&
        decide (count (ents.drop 2) 3 = 1) && ents.all BootEntry.ok) then .error 6
    else if !ents.all (fun e => decide (sha256 (s.read (b + e.offset) e.length) = e.digest)) then .error 4
    else .ok { bank, svnk := n (b + 4) 4, svno := n kend 4, size := oend - b, entries := ents }

/-- Where an entry's image goes. -/
def BootEntry.target (e : BootEntry) : Nat := if e.island = 3 then e.load else tcmBase e.island + e.load

/-- Boot a manifest: the images into place, versions and measurements (R655, R658). -/
def Sys.loadImages (s : Sys) (m : Manifest) : Sys :=
  let b := bankBase m.bank
  let s1 := s.each m.entries (fun e q => q.store e.target (s.read (b + e.offset) e.length))
  let dig := fun (i : Nat) => ((m.entries.find? (fun e => decide (e.island = i))).map BootEntry.digest).getD []
  s1.onDev (fun d =>
    let d1 := (d.wr ATT_BSVNK 0 (w32 m.svnk)).wr ATT_BSVNO 0 (w32 m.svno)
    let meas := kvPut (kvPut (kvPut (kvPut d1.key.meas 2 (sha256 (s.read b m.size))) 3 (dig 1)) 4 (dig 2)) 5 (dig 3)
    let img := (m.entries.find? (fun e => decide (e.island = 3))).map (fun e => (b + e.offset, e.length, e.load))
    { d1 with key := { d1.key with meas }, sys := { d1.sys with image := img } })

/-- The boot source (R654): the images of a bank, with ATT_BOOT; true where the islands may start. -/
def Sys.bootRom (s : Sys) (o : BootObs) : Sys × Bool :=
  let dbg := s.dev.bit DBG_STAT 0 0
  let banks : List Nat := if s.dev.fld LCM_STATE 0 2 0 = 0 then [] else match o.bootsel % 4 with | 0 => [0, 1] | 1 => [1, 0] | _ => []
  match banks with
  | [a, b] =>
    match s.bankCheck a with
    | .ok m => ((s.loadImages m).onDev (fun d => d.wr ATT_BOOT 0 (w32 a)), true)
    | .error e =>
      let code := fun (x k : Nat) => k * 2 ^ (8 + 4 * x)
      match s.bankCheck b with
      | .ok m => ((s.loadImages m).onDev (fun d => d.wr ATT_BOOT 0 (w32 (b + 16 + code a e))), true)
      | .error e' => (s.onDev (fun d => d.wr ATT_BOOT 0 (w32 (code a e + code b e'))), false)
  | _ => (s, dbg && o.downloaded && decide (o.bootsel % 4 = 2 ∨ s.dev.fld LCM_STATE 0 2 0 = 0))

end Sys2Proof.Machine
end

