-- ==== Sys2Proof/Machine/State.lean ====
section
/-! DEFINITION. The state of the block: the queue of commands that wait, and everything the spec gives the PX48. The ways a
step can stop. The state right after reset. -/
namespace Sys2Proof.Machine

/-- The PX48. `sys` holds the memories, the fuses and the device: the register file and every block's working state. -/
structure State where
  /-- The commands that wait, first in, first out. -/
  pending : List Instr
  /-- Everything else. -/
  sys : Sys
  deriving DecidableEq, Repr

/-- No command of the PX48 faults: a bus error is an answer to its initiator (R50), and every failure that the spec names
is an effect on the state. Safe: there is nothing to raise. -/
inductive Fault where
  deriving DecidableEq, Repr

/-- A command without a meaning. No command is left so: every arm of `exec` is a meaning. Safe: a refusal proves nothing. -/
inductive Refusal where
  /-- Raised by an arm of `exec` whose command has no meaning yet; none does. Safe. -/
  | notModelled (mnemonic : String)
  deriving DecidableEq, Repr

/-- The PX48 right after a power-on reset of a part with no fuse blown: every register at the reset value of its table,
those that differ between the parts at the value of this one (a PX4840), the life cycle of the fuses (R646), the built-in
key slots (R632), every island running at level Normal, no memory written. -/
def State.reset : State :=
  { pending := []
    sys := (({ dev := Dev.partDefaults {} } : Sys).showFuses false).onDev (fun d => d.keyBoot {}) }

end Sys2Proof.Machine
end

