-- ==== Sys2Proof/Machine/Cmd.lean ====
section
/-! DEFINITION. How a meaning acts on the state: every command runs to its end and leaves the queue alone. -/
namespace Sys2Proof.Machine

/-- The next state of a command that acts on the device and its memories. -/
def State.onSys (st : State) (f : Sys → Sys) : Host.Outcome State Fault Refusal := .next { st with sys := f st.sys }

/-- The next state of a command that acts on the device alone. -/
def State.onDev (st : State) (f : Dev → Dev) : Host.Outcome State Fault Refusal := st.onSys (fun s => s.onDev f)

/-- A command that an input of I/O bank b brings: while the bank is unsupplied its inputs read as in reset (R668), so that only
time passes. -/
def State.fromBank (st : State) (b t : Nat) (f : State → Host.Outcome State Fault Refusal) : Host.Outcome State Fault Refusal :=
  if st.sys.dev.bankOff b then st.onDev (·.at t) else f st

end Sys2Proof.Machine
end

