-- ==== Sys2Proof/Machine/Can.lean ====
section
/-! DEFINITION. CAN FD controllers (spec/13_vehicle_and_field_links.md, R540-R551). -/
namespace Sys2Proof.Machine

/-- A controller's working state. -/
def Dev.can (d : Dev) (n : Nat) : CanRec := kvGet d.ports.can n {}
/-- Replace it. -/
def Dev.setCan (d : Dev) (n : Nat) (x : CanRec) : Dev := { d with ports := { d.ports with can := kvSet d.ports.can n x {} } }

/-- PBS_CSTAT bits 1:0: 0 error-active, 1 error-passive, 2 bus-off. -/
def Dev.canMode (d : Dev) (n : Nat) : Nat := d.fld PBS_CSTAT n 1 0

/-- A controller is on its bus: present, enabled, not in Standby, not bus-off (R548, R551). -/
def Dev.canOn (d : Dev) (n : Nat) : Bool :=
  decide (n < d.variant.canCtls) && d.up .link && decide (d.level ≠ .standby) && d.bit PBS_CCFG n 31 && decide (d.canMode n ≠ 2)

/-- The bytes that a DLC stands for: above 8 only in CAN FD frames. -/
def dlcLen (fdf : Bool) (dlc : Nat) : Nat :=
  if dlc ≤ 8 then dlc else if !fdf then 8 else [12, 16, 20, 24, 32, 48, 64].getD (dlc - 9) 64

/-- The FIFO of a controller: urgent or normal. -/
def CanRec.fifo (x : CanRec) (urgent : Bool) : List CanQueued := if urgent then x.urg else x.norm

/-- Replace a FIFO. -/
def CanRec.setFifo (x : CanRec) (urgent : Bool) (l : List CanQueued) : CanRec :=
  if urgent then { x with urg := l } else { x with norm := l }

/-- PBS_TXSTAT shows the counts; HEADLATE belongs to the present head. -/
def Dev.canShow (d : Dev) (n : Nat) : Dev :=
  let x := d.can n
  (d.setFld PBS_TXSTAT n 5 0 x.norm.length).setFld PBS_TXSTAT n 13 8 x.urg.length

/-- Replace a FIFO whose head has changed: the head timer starts anew (R547). -/
def Dev.newHead (d : Dev) (n : Nat) (urgent : Bool) (l : List CanQueued) : Dev :=
  let x := (d.can n).setFifo urgent l
  let x' := if urgent then { x with headU := d.time, dropU := false } else { x with headN := d.time, dropN := false }
  ((d.setCan n x').setBit PBS_TXSTAT n (16 + b2n urgent) false).canShow n

/-! ### Queueing -/

/-- The frame in an initiator's staging registers (Table 13.6). -/
def Dev.stagedFrame (d : Dev) (i : Initiator) (n : Nat) : CanFrame :=
  let id := d.rdB PBS_TXID n i.id
  let ctl := d.rdB PBS_TXCTL n i.id
  let fdf := bitOf ctl 8
  let bytes := (List.range 16).flatMap (fun w => leBytes 4 (d.rdB (PBS_TXDATA w) n i.id).toNat)
  { ide := bitOf id 31, id := if bitOf id 31 then bits id 28 0 else bits id 10 0
    fdf, brs := fdf && bitOf ctl 9, dlc := bits ctl 3 0, data := bytes.take (dlcLen fdf (bits ctl 3 0)) }

/-- A write of PBS_TXPUSH: bit 0 queues to the normal FIFO, bit 1 to the urgent one; both, or a push to a full FIFO, has
no effect (R545). -/
def Dev.canPush (d : Dev) (i : Initiator) (n : Nat) (v : Word) : Dev :=
  let b := bits v 1 0
  if b = 0 ∨ b = 3 then d
  else
    let u := decide (b = 2)
    let l := (d.can n).fifo u
    if 32 ≤ l.length then (d.setBit PBS_TXSTAT n 20 true).ev 0x6E 6
    else
      let l' := l ++ [{ frame := d.stagedFrame i n, pushedAt := d.time }]
      if l.isEmpty then d.newHead n u l' else (d.setCan n ((d.can n).setFifo u l')).canShow n

/-- CAN_PUSH_NORMAL: a write of PBS_TXPUSH with bit 0. -/
def Dev.canPushNormal (d : Dev) (i : Initiator) (v : Word) : Dev :=
  d.gated i PBS_TXPUSH (v ||| 1) (fun n e => e.canPush i n (v ||| 1))

/-- CAN_PUSH_URGENT: a write of PBS_TXPUSH with bit 1. -/
def Dev.canPushUrgent (d : Dev) (i : Initiator) (v : Word) : Dev :=
  d.gated i PBS_TXPUSH (v ||| 2) (fun n e => e.canPush i n (v ||| 2))

/-! ### Error counts and bus-off -/

/-- The transmit and receive error counts. -/
def Dev.tec (d : Dev) (n : Nat) : Nat := d.fld PBS_CSTAT n 23 16
/-- The receive error count. -/
def Dev.recCnt (d : Dev) (n : Nat) : Nat := d.fld PBS_CSTAT n 15 8

/-- BUS_OFF: PBSn_TX recessive, BUSOFFL and the event; BOFLUSH empties both FIFOs (R548). -/
def Dev.busOff (d : Dev) (n : Nat) : Dev :=
  let d1 := (((d.setFld PBS_CSTAT n 1 0 2).setFld PBS_CSTAT n 23 16 255).setBit PBS_CSTAT n 24 true).setBit PBS_BOSUM 0 n true
  let d2 := d1.ev 0x6E 2
  let d3 := d2.setCan n { d2.can n with recover := none }
  if d3.bit PBS_CCFG n 24 then (d3.newHead n false []).newHead n true [] else d3

/-- Error-active or error-passive by the counts; turning passive raises ERRPASS. -/
def Dev.canCounts (d : Dev) (n tec rec : Nat) : Dev :=
  if 255 < tec then d.busOff n
  else
    let d1 := (d.setFld PBS_CSTAT n 23 16 tec).setFld PBS_CSTAT n 15 8 (min 255 rec)
    let passive := decide (127 < tec) || decide (127 < rec)
    let d2 := d1.setFld PBS_CSTAT n 1 0 (b2n passive)
    if passive && decide (d.canMode n = 0) then d2.ev 0x6E 3 else d2

/-! ### Attempts -/

/-- The key of an identifier's collision count. -/
def collKey (f : CanFrame) : Nat := b2n f.ide * 2 ^ 29 + f.id

/-- IDENTIFIER_COLLISION: the identifier is recorded, COLL set and raised (R549). -/
def Dev.collision (d : Dev) (n : Nat) (f : CanFrame) : Dev :=
  (((d.wr PBS_COLLID n (w32 (b2n f.ide * 2 ^ 31 + f.id))).setBit PBS_CSTAT n 25 true).setBit PBS_COLLSUM 0 n true).ev 0x6E 4

/-- Whether a removal of the head waits for the end of the attempt. -/
def CanRec.drop (x : CanRec) (urgent : Bool) : Bool := if urgent then x.dropU else x.dropN

/-- The error counter field of PBS_ERRCNT that an ending counts in. -/
def canErrField : CanEnd → Option (Nat × Nat)
  | .success | .lost => none
  | .bit _ => some (7, 0)
  | .stuff => some (15, 8)
  | .form | .ack _ => some (23, 16)

/-- The FIFO whose head is on the bus in an attempt that began at an instant: the urgent one if it held a frame then
(R546). -/
def CanRec.offered (x : CanRec) (start : Nat) : Option (Bool × CanQueued) :=
  match x.urg, x.norm with
  | u :: _, l => if u.pushedAt ≤ start then some (true, u) else
      (match l with | q :: _ => if q.pushedAt ≤ start then some (false, q) else none | [] => none)
  | [], q :: _ => if q.pushedAt ≤ start then some (false, q) else none
  | [], [] => none

/-- CAN_TX_ATTEMPT_END: the attempt of controller n whose arbitration began at `start` ends (R546-R550). -/
def Dev.canAttemptEnd (d : Dev) (t n start : Nat) (how : CanEnd) : Dev :=
  let d0 := d.at t
  if !(d0.canOn n) || d0.bit PBS_CCFG n 28 then d0
  else
    match (d0.can n).offered start with
    | none => d0
    | some (u, q) =>
      let k := collKey q.frame
      let cnt := kvGet (d0.can n).coll k 0 + 1
      let hit := decide (how = .bit true) && decide (3 ≤ cnt)
      let cnt' := if how = .bit true ∧ !hit then cnt else 0
      let d1 := d0.setCan n { d0.can n with coll := kvSet (d0.can n).coll k cnt' 0 }
      let d2 := if hit then d1.collision n q.frame else d1
      let d3 := match canErrField how with
        | some (hi, lo) => d2.incFld PBS_ERRCNT n hi lo
        | none => d2
      let ok := decide (how = .success)
      let gone := ok || (d3.can n).drop u || (hit && d3.bit PBS_CCFG n 20)
      let d4 := if ok then (d3.wr PBS_TXCNT n (d3.rd PBS_TXCNT n + 1)).ev 0x6E 1 else d3
      let d5 := if gone then d4.newHead n u (((d4.can n).fifo u).drop 1) else d4
      let tec := match how with
        | .success => d5.tec n - 1
        | .lost => d5.tec n
        | .ack quiet => if quiet && decide (d5.canMode n = 1) then d5.tec n else d5.tec n + 8
        | _ => d5.tec n + 8
      d5.canCounts n tec (d5.recCnt n)

/-- Remove the head, or all frames, of a FIFO: the head on the bus leaves at the end of its attempt unless it succeeds
(R547). -/
def Dev.canRemove (d : Dev) (n : Nat) (urgent all onBus : Bool) : Dev :=
  let l := (d.can n).fifo urgent
  match l with
  | [] => d
  | q :: r =>
    if onBus && d.canOn n then
      let x := (d.can n).setFifo urgent (if all then [q] else l)
      (d.setCan n (if urgent then { x with dropU := true } else { x with dropN := true })).canShow n
    else d.newHead n urgent (if all then [] else r)

/-- RECOVER: in bus-off the recovery starts; elsewhere it has no effect and is recorded (R548). -/
def Dev.canRecoverBit (d : Dev) (i : Initiator) (n : Nat) : Dev :=
  if d.canMode n = 2 then d.setCan n { d.can n with recover := some ((d.can n).recover.getD d.time) }
  else d.err 0x6E 7 i 0x410

/-- A write of PBS_CCTL; `onN` and `onU` say whether the head of the normal and the urgent FIFO is on the bus. -/
def Dev.canCtl (d : Dev) (i : Initiator) (n : Nat) (v : Word) (onN onU : Bool) : Dev :=
  let d1 := d.when (bitOf v 0) (fun e => e.canRecoverBit i n)
  let d2 := d1.when (bitOf v 4 || bitOf v 8) (fun e => e.canRemove n false (bitOf v 8) onN)
  d2.when (bitOf v 5 || bitOf v 9) (fun e => e.canRemove n true (bitOf v 9) onU)

/-- CAN_RECOVER: a write of RECOVER. -/
def Dev.canRecover (d : Dev) (i : Initiator) : Dev := d.gated i PBS_CCTL 1 (fun n e => e.canCtl i n 1 false false)

/-- ABORTN. -/
def Dev.canAbortN (d : Dev) (i : Initiator) (onBus : Bool) : Dev :=
  d.gated i PBS_CCTL 0x10 (fun n e => e.canCtl i n 0x10 onBus false)

/-- ABORTU. -/
def Dev.canAbortU (d : Dev) (i : Initiator) (onBus : Bool) : Dev :=
  d.gated i PBS_CCTL 0x20 (fun n e => e.canCtl i n 0x20 false onBus)

/-- FLUSHN. -/
def Dev.canFlushN (d : Dev) (i : Initiator) (onBus : Bool) : Dev :=
  d.gated i PBS_CCTL 0x100 (fun n e => e.canCtl i n 0x100 onBus false)

/-- FLUSHU. -/
def Dev.canFlushU (d : Dev) (i : Initiator) (onBus : Bool) : Dev :=
  d.gated i PBS_CCTL 0x200 (fun n e => e.canCtl i n 0x200 false onBus)

/-- CAN clocks of 12.5 ns in a nominal bit (R541). -/
def Dev.canBit (d : Dev) (n : Nat) : Nat :=
  let w := d.rd PBS_NBT n
  (bits w 24 16 + 1) * (1 + (bits w 15 8 + 1) + (bits w 6 0 + 1))

/-- CAN_RECOVERY_DONE: after 128 occurrences of 11 recessive bits the controller is error-active (R548). -/
def Dev.canRecoveryDone (d : Dev) (t n : Nat) : Dev :=
  let d0 := d.at t
  match (d0.can n).recover with
  | none => d0
  | some s =>
    if n < d0.variant.canCtls ∧ d0.up .link ∧ d0.canMode n = 2 ∧ s * 2 + 128 * 11 * d0.canBit n * 25 ≤ t * 2 then
      let d1 := (d0.setFld PBS_CSTAT n 1 0 0).setFld PBS_CSTAT n 23 8 0
      (d1.setBit PBS_BOSUM 0 n false).setCan n { d1.can n with recover := none }
    else d0

/-- HEAD_TIMEOUT: a head has waited HEADTMO x 0.1 ms (R547). -/
def Dev.headTimeout (d : Dev) (t n : Nat) (urgent : Bool) : Dev :=
  let d0 := d.at t
  let x := d0.can n
  let tmo := d0.fld PBS_CCFG n 15 0
  if n < d0.variant.canCtls ∧ d0.up .link ∧ tmo ≠ 0 ∧ !(x.fifo urgent).isEmpty ∧
      (if urgent then x.headU else x.headN) + tmo * 100000 ≤ t ∧ !d0.bit PBS_TXSTAT n (16 + b2n urgent) then
    (d0.setBit PBS_TXSTAT n (16 + b2n urgent) true).ev 0x6E 5
  else d0

/-! ### Reception -/

/-- Object k of controller n takes a frame (R542). -/
def Dev.objMatches (d : Dev) (n k : Nat) (f : CanFrame) : Bool :=
  let flt := d.rd (PBS_ROFILT k) n
  let msk := d.rd (PBS_ROMASK k) n
  let top := if f.ide then 28 else 10
  bitOf flt 31 && decide (bitOf flt 30 = f.ide) && (!bitOf msk 31 || f.fdf) &&
    decide ((w32 f.id ^^^ flt) &&& msk &&& maskOf top 0 = 0)

/-- Store bytes of a frame into an object's data words. -/
def Dev.objData (d : Dev) (inst j : Nat) (data : List Byte) : Dev :=
  d.each (List.range ((data.length + 3) / 4)) (fun w e =>
    let r := PBS_RODATA j w
    let part := (data.drop (4 * w)).take 4
    e.wr r inst (w32 (leNat (part ++ (leBytes 4 (e.rd r inst).toNat).drop part.length))))

/-- A frame goes whole into object k, with NEWDAT, MSGLOST, UPD and the stamp of its start of frame (R543). -/
def Dev.objTake (d : Dev) (n k stamp : Nat) (f : CanFrame) : Dev :=
  let inst := 4 * n + k / 16
  let j := k % 16
  let st := d.rd (PBS_ROSTAT j) inst
  let data := f.data.take (dlcLen f.fdf f.dlc)
  let st' := w32 (1 + 2 * b2n (bitOf st 1 || bitOf st 0) + 256 * ((bits st 15 8 + 1) % 256))
  let d1 := (d.wr (PBS_ROSTAT j) inst st').wr (PBS_ROID j) inst (w32 (b2n f.ide * 2 ^ 31 + f.id % 2 ^ 29))
  let d2 := d1.wr (PBS_RODLC j) inst
    (w32 (dlcLen f.fdf f.dlc * 65536 + b2n f.esi * 1024 + b2n f.brs * 512 + b2n f.fdf * 256 + f.dlc % 16))
  let d3 := (d2.wr (PBS_ROTSLO j) inst (w32 stamp)).wr (PBS_ROTSHI j) inst (w32 (stamp / 2 ^ 32))
  let d4 := d3.objData inst j data
  if bitOf (d4.rd (PBS_ROFILT k) n) 29 then d4.ev 0x6E 0 else d4

/-- CAN_FRAME_RECEIVE: a frame is received without error; a remote frame, and one that no object takes, counts as
unmatched (R540, R542). -/
def Dev.canReceive (d : Dev) (t n stamp : Nat) (f : CanFrame) : Dev :=
  let d0 := d.at t
  if !d0.canOn n then d0
  else
    let d1 := if d0.recCnt n ≤ 127 then d0.canCounts n (d0.tec n) (d0.recCnt n - 1)
      else
        let (w, e) := d0.free 540
        e.canCounts n (e.tec n) (119 + w.toNat % 9)
    match if f.remote then none else (List.range 64).find? (fun k => d1.objMatches n k f) with
    | none => d1.incFld PBS_ERRCNT n 31 24
    | some k => d1.objTake n k stamp f

/-- CAN_RECEIVE_ERROR: a frame being received ends in an error; `dominant` marks the cases in which ISO 11898-1 raises the
receive error count by 8 (R540). -/
def Dev.canReceiveError (d : Dev) (t n : Nat) (kind : CanRxErr) (dominant : Bool) : Dev :=
  let d0 := d.at t
  if !d0.canOn n then d0
  else
    let d1 := match kind with
      | .bit => d0.incFld PBS_ERRCNT n 7 0
      | .stuff => d0.incFld PBS_ERRCNT n 15 8
      | .form | .crc => d0.incFld PBS_ERRCNT n 23 16
    d1.canCounts n (d1.tec n) (d1.recCnt n + (if dominant then 8 else 1))

/-- A write to a controller's registers that R541 refuses while EN is 1. -/
def Dev.canRefuses (d : Dev) (off n : Nat) (v : Word) : Bool :=
  d.bit PBS_CCFG n 31 &&
    (decide (off = 0x404) || decide (off = 0x408) || (decide (off = 0x400) && decide (bits v 30 28 ≠ d.fld PBS_CCFG n 30 28)))

end Sys2Proof.Machine
end

