-- ==== Sys2Proof/Machine/Ethernet.lean ====
section
/-! DEFINITION. The Ethernet MACs (spec/15_compute_island.md, R604-R609). -/
namespace Sys2Proof.Machine

/-- The rings of a queue, MAC * 4 + queue. -/
def Dev.ethQ (d : Dev) (k : Nat) : Ring := kvGet d.cmp.eth k {}
/-- Replace them. -/
def Dev.setEthQ (d : Dev) (k : Nat) (r : Ring) : Dev := { d with cmp := { d.cmp with eth := kvSet d.cmp.eth k r {} } }

/-- A cabinet-ring port (R605). -/
def Dev.ringPort (d : Dev) (m : Nat) : Bool := d.bit ETH_MCFG m 24

/-- A MAC runs: enabled, at Normal, Limp and Hold with its island, a ring port also through its restart (R590); in Standby
ETH0 alone (R608). -/
def Dev.macOn (d : Dev) (m : Nat) : Bool :=
  decide (m < d.variant.macs) && d.bit ETH_MCFG m 31 && decide (d.pwr.phase = .running) &&
    (if d.level = .standby then decide (m = 0) else d.up .compute || d.ringPort m)

/-- A backend link in Limp, where Table 1.5 (R37) stops it: a MAC that is no cabinet-ring port carries no frame. The spec does
not say which links the backend links are (DEDUCED, log 224). -/
def Dev.backendStops (d : Dev) (m : Nat) : Bool := decide (d.level = .limp) && !d.ringPort m

/-- A queue's rings move. -/
def Dev.ethRings (d : Dev) (m q : Nat) : Bool :=
  d.macOn m && !d.backendStops m && d.up .compute && decide (d.level ≠ .standby) && decide (q < 4) && !(d.ethQ (4 * m + q)).stopped

/-- A queue's rings. -/
def Dev.ethCfg (d : Dev) (k : Nat) : RingCfg :=
  { txBase := (d.rd ETH_QTXBASE k).toNat, txLen := d.fld ETH_QLEN k 9 0
    rxBase := (d.rd ETH_QRXBASE k).toNat, rxLen := d.fld ETH_QLEN k 25 16, maxTx := 1518 }

/-- Take over what a ring operation left. -/
def Dev.ethTook (d : Dev) (k off : Nat) (r : Ring) (bad : Bool) : Dev :=
  let d1 := d.setEthQ k r
  if bad then (d1.errHw 0x79 7 off).ev 0x78 3 else d1

/-- Firmware may not write queue 3's window on a ring port (R606). -/
def Dev.ethRefuses (d : Dev) (k : Nat) : Bool := decide (k % 4 = 3) && d.ringPort (k / 4)

/-- TXPOLL on a queue: examine its transmit ring. -/
def Dev.ethPoll (d : Dev) (m : KV Byte) (i : Initiator) (k : Nat) (v : Word) : Dev :=
  if d.ethRefuses k then d.err 0x79 7 i 0x40C
  else if bitOf v 0 && d.ethRings (k / 4) (k % 4) && !(d.ethQ k).busy then
    let o := ({ mem := m } : Sys).ringLook (d.ethCfg k) (d.ethQ k) d.time
    d.ethTook k 0x400 o.ring o.bad
  else d

/-- ETH_TX_POLL: a write to ETH_QKICK. -/
def Sys.ethTxPoll (s : Sys) (i : Initiator) (v : Word) : Sys :=
  s.onDev (fun d => d.gated i ETH_QKICK v (fun k e => e.ethPoll s.mem i k v))

/-- ETH_FRAME_SENT: the frame of a queue's descriptor leaves, stamped at its start; a higher queue that had a frame before
that start goes first (R606, R607). -/
def Sys.ethFrameSent (s : Sys) (t m q stamp : Nat) : Sys :=
  let s0 := s.onDev (·.at t)
  let d := s0.dev
  let k := 4 * m + q
  let waits := (List.range 4).any (fun p => decide (q < p) && (d.ethQ (4 * m + p)).busy && decide ((d.ethQ (4 * m + p)).readyAt < stamp))
  if d.ethRings m q && (d.ethQ k).busy && !waits then
    let o := s0.ringSent (d.ethCfg k) (d.ethQ k) t stamp true
    { o.sys with dev := ((d.ethTook k 0x400 o.ring o.bad).setBit ETH_MSTAT m 9 true).ev 0x78 1 }
  else s0

/-! ### Reception -/

/-- A MAC's own address. -/
def Dev.macAddr (d : Dev) (m : Nat) : List Byte := leBytes 4 (d.rd ETH_MACLO m).toNat ++ leBytes 2 (d.fld ETH_MACHI m 15 0)

/-- The broadcast address. -/
def broadcast : List Byte := List.replicate 6 0xFF

/-- The parts of a frame: destination, the 802.1Q tag, EtherType and payload. -/
structure EthFrame where
  dst : List Byte
  tag : Option Nat
  etherType : Nat
  payload : List Byte

/-- Read a frame's header. -/
def ethFrame (b : List Byte) : EthFrame :=
  if beNat (slice b 12 2) = 0x8100 then
    { dst := b.take 6, tag := some (beNat (slice b 14 2)), etherType := beNat (slice b 16 2), payload := b.drop 18 }
  else { dst := b.take 6, tag := none, etherType := beNat (slice b 12 2), payload := b.drop 14 }

/-- A MAC accepts a destination (R606). -/
def Dev.ethAccepts (d : Dev) (m : Nat) (dst : List Byte) : Bool :=
  let h := crc32 dst / 2 ^ 26
  d.bit ETH_MCFG m 20 || decide (dst = d.macAddr m) || decide (dst = broadcast) ||
    ((leAt dst 0 1).testBit 0 && (if h < 32 then d.bit ETH_MCHASHLO m h else d.bit ETH_MCHASHHI m (h - 32)))

/-- A payload holds 6 bytes of 0xFF and then 16 copies of an address, at some offset (R608). -/
def hasPattern (addr : List Byte) : List Byte → Bool
  | [] => false
  | b :: r =>
    decide ((b :: r).take 102 = broadcast ++ (List.replicate 16 addr).flatten) || hasPattern addr r

/-- ETH_WAKE_FRAME: a frame selects an enabled wake source of ETH_WAKE (R608). -/
def Dev.wakeFrame (d : Dev) (f : EthFrame) : Bool :=
  let own := d.macAddr 0
  let w := d.rd ETH_WAKE 0
  (bitOf w 0 && (decide (f.dst = own) || decide (f.dst = broadcast)) && hasPattern own f.payload) ||
    (bitOf w 1 && decide (f.dst = own)) || (decide (bits w 31 16 ≠ 0) && decide (f.etherType = bits w 31 16))

/-- The cabinet connection a path B telegram belongs to, by its source (R439). -/
def Dev.telConn (d : Dev) (b : List Byte) : Option Nat :=
  (List.range d.variant.cabinets).find? (fun c => decide (leAt b 2 2 = d.fld STG_CCFG c 15 0))

/-- ETH_FRAME_RECEIVE: a frame without its FCS arrives at a MAC, its start-of-frame delimiter at `stamp` (R604-R608). -/
def Sys.ethFrameReceive (s : Sys) (t m stamp : Nat) (goodFcs : Bool) (b : List Byte) : Sys :=
  let s0 := s.onDev (·.at t)
  let d := s0.dev
  let f := ethFrame b
  if !d.macOn m || d.backendStops m then s0
  else if !goodFcs ∨ b.length < 14 ∨ 1518 < b.length then { s0 with dev := d.incFld ETH_ERRCNT m 31 16 }
  else if d.level = .standby then (if d.wakeFrame f then { s0 with dev := d.wake t 2 } else s0)
  else if d.ringPort m && decide (f.etherType = 0x88B5) && decide (f.tag.map (· % 4096) = some (d.fld STG_CFG 0 27 16)) then
    match d.telConn f.payload with
    | some c => { s0 with dev := d.telegramReceive t c 1 f.payload }
    | none => s0
  else if !d.ethAccepts m f.dst then s0
  else
    let q := match f.tag with | some g => d.fld ETH_PCPMAP m (2 * (g / 8192 % 8) + 1) (2 * (g / 8192 % 8)) | none => 0
    let k := 4 * m + q
    if !d.ethRings m q then s0
    else
      match s0.ringReceive (d.ethCfg k) (d.ethQ k) stamp b with
      | none => { s0 with dev := d.incFld ETH_ERRCNT m 15 0 }
      | some o =>
        let d1 := d.ethTook k 0x404 o.ring o.bad
        { o.sys with dev := if o.bad then d1 else (d1.setBit ETH_MSTAT m 8 true).ev 0x78 0 }

/-- ETH_LINK_CHANGE: the SGMII link comes up with a speed, or goes down (R604). -/
def Dev.ethLinkChange (d : Dev) (t m : Nat) (isUp : Bool) (speed : Nat) : Dev :=
  let d0 := d.at t
  if d0.macOn m then
    let sel := d0.fld ETH_MCFG m 29 28
    let d1 := d0.setBit ETH_MSTAT m 0 isUp
    (if isUp then d1.setFld ETH_MSTAT m 2 1 (if sel = 3 then speed else sel) else d1).ev 0x78 2
  else d0

/-- A write to a queue's ring registers starts its rings anew. -/
def Dev.ethChanged (d : Dev) (k : Nat) : Dev := d.setEthQ k {}

end Sys2Proof.Machine
end

