-- ==== Sys2Proof/Machine/Interrupts.lean ====
section
/-! DEFINITION. The interrupt controller (spec/15_compute_island.md, R591, R592) and the memory errors of the compute
island (R586, R588). -/
namespace Sys2Proof.Machine

/-- The condition of a source of Table 15.2 holds. -/
def Dev.srcAsserted (d : Dev) (n : Nat) : Bool :=
  if n = 0 then false
  else if n ≤ 128 then pagePresent d.variant (n - 1) && d.pageIrq (n - 1)
  else if n ≤ 136 then
    decide ((n - 129) / 2 < d.variant.macs) && d.bit ETH_MSTAT ((n - 129) / 2) (8 + (n - 129) % 2)
  else if n ≤ 140 then d.bit (BLK_EVF 0x09) 0 (n - 137)
  else false

/-- A source is pending: asserted, and not claimed without completion (R591). -/
def Dev.srcPending (d : Dev) (n : Nat) : Bool := d.srcAsserted n && !d.cmp.claimed.testBit n

/-- PIC_PENDw. -/
def Dev.picPend (d : Dev) (w : Nat) : Word :=
  w32 ((List.range 32).foldl (fun s k => if d.srcPending (32 * w + k) then s + 2 ^ k else s) 0)

/-- The priority of a source. -/
def Dev.srcPrio (d : Dev) (n : Nat) : Nat := d.fld (PIC_PRIO (n / 8)) 0 (4 * (n % 8) + 2) (4 * (n % 8))

/-- A source is enabled for a context. -/
def Dev.srcEnabled (d : Dev) (c n : Nat) : Bool := d.bit (PIC_EN (n / 32)) c (n % 32)

/-- The source that a claim by a context takes: the highest priority, then the lowest number; 0 for none. -/
def Dev.bestSource (d : Dev) (c : Nat) : Nat :=
  (List.range 256).foldl (fun b n =>
    if d.srcPending n && d.srcEnabled c n && decide (0 < d.srcPrio n) && (decide (b = 0) || decide (d.srcPrio b < d.srcPrio n))
    then n else b) 0

/-- A context's external interrupt is raised: a pending, enabled source above its threshold. -/
def Dev.ctxInterrupt (d : Dev) (c : Nat) : Bool :=
  (List.range 256).any (fun n => d.srcPending n && d.srcEnabled c n && decide (d.fld (PIC_THR c) 0 2 0 < d.srcPrio n))

/-- What a read of PIC_CLAIMc does: it claims the best source. -/
def Dev.claimSource (d : Dev) (c : Nat) : Word × Dev :=
  let n := d.bestSource c
  (w32 n, if n = 0 then d else { d with cmp := { d.cmp with claimed := d.cmp.claimed ||| 2 ^ n } })

/-- What a write to PIC_CLAIMc does: a source enabled for the context is completed, and any other number ignored. -/
def Dev.completeSource (d : Dev) (c : Nat) (v : Word) : Dev :=
  let n := v.toNat
  if n < 256 ∧ d.srcEnabled c n ∧ d.cmp.claimed.testBit n then { d with cmp := { d.cmp with claimed := d.cmp.claimed - 2 ^ n } }
  else d

/-- INTERRUPT_COMPLETE: a write to PIC_CLAIMc. -/
def Dev.interruptComplete (d : Dev) (i : Initiator) (c : Nat) (v : Word) : Dev :=
  d.gated i (PIC_CLAIM (c % 8)) v (fun _ e => e.completeSource (c % 8) v)

/-- SRAM_READ_ECC: an access or scrubber pass meets an error in compute SRAM at an address, or in a hart's cache; a scrubber
pass has no initiator (R586, R588). A corrected read answers the word, an uncorrectable one a bus error. -/
def Sys.sramReadEcc (s : Sys) (i : Option Initiator) (a : Nat) (e : MemErr) : Sys :=
  let answer (err : Bool) (v : Word) (x : Dev) : Dev := match i with | some q => x.answer q err v | none => x
  let word := w32 (memNat s.mem (a / 4 * 4) 4)
  s.onDev (fun d =>
    if !d.up .compute then d
    else match e with
      | .corrected => (answer false word d).inc PIC_ECCCNT 0
      | .uncorrectable => (((answer true 0 d).wr PIC_ECCADDR 0 (w32 a)).setBit PIC_MEMERR 0 0 true).ev 0x19 0
      | .cacheCorrected => answer false word d
      | .cacheUncorrectable => (answer true 0 d).setBit PIC_MEMERR 0 1 true
      | .instructionParity => answer false word d)

end Sys2Proof.Machine
end

