-- ==== Sys2Proof/Machine/VehicleLink.lean ====
section
/-! DEFINITION. Vehicle links (spec/13_vehicle_and_field_links.md, R522-R529). -/
namespace Sys2Proof.Machine

/-- A link's working state. -/
def Dev.vlk (d : Dev) (n : Nat) : VlkRec := kvGet d.ports.vlk n {}
/-- Replace it. -/
def Dev.setVlk (d : Dev) (n : Nat) (x : VlkRec) : Dev := { d with ports := { d.ports with vlk := kvSet d.ports.vlk n x {} } }

/-- A link works: present, enabled, in a mode other than Off, and not in Standby (R522, R529). -/
def Dev.vlkOn (d : Dev) (n : Nat) : Bool :=
  decide (n < d.variant.outlets) && d.up .link && decide (d.level ≠ .standby) && d.bit VLK_LCFG n 31 &&
    (decide (d.fld VLK_LCFG n 1 0 = 1) || decide (d.fld VLK_LCFG n 1 0 = 2))

/-- Its rings move: not while the compute island is down (R529), nor once a bad address has stopped them (R526). -/
def Dev.vlkRings (d : Dev) (n : Nat) : Bool := d.vlkOn n && d.up .compute && !(d.vlk n).ring.stopped

/-- A link's rings. -/
def Dev.vlkCfg (d : Dev) (n : Nat) : RingCfg :=
  { txBase := (d.rd VLK_TXRING n).toNat, txLen := d.fld VLK_RINGLEN n 9 0
    rxBase := (d.rd VLK_RXRING n).toNat, rxLen := d.fld VLK_RINGLEN n 25 16, maxTx := 1514 }

/-- Take over what a ring operation left; `off` is the ring register that a bad address is recorded with. -/
def Dev.vlkTook (d : Dev) (n off : Nat) (r : Ring) (bad : Bool) : Dev :=
  let d1 := (d.setVlk n { d.vlk n with ring := r }).setBit VLK_LSTAT n 1 r.busy
  if bad then (d1.errHw 0x68 7 off).ev 0x68 3 else d1

/-- TXPOLL: examine the transmit ring. -/
def Dev.vlkPoll (d : Dev) (m : KV Byte) (n : Nat) (v : Word) : Dev :=
  if bitOf v 0 && d.vlkRings n && !(d.vlk n).ring.busy then
    let o := ({ mem := m } : Sys).ringLook (d.vlkCfg n) (d.vlk n).ring d.time
    d.vlkTook n 0x410 o.ring o.bad
  else d

/-- VLK_TX_POLL: a write to VLK_KICK. -/
def Sys.vlkTxPoll (s : Sys) (i : Initiator) (v : Word) : Sys :=
  s.onDev (fun d => d.gated i VLK_KICK v (fun n e => e.vlkPoll s.mem n v))

/-- VLK_FRAME_SENT: the frame of the descriptor taken leaves the link, its start of frame stamped, or its transmission is
abandoned. -/
def Sys.vlkFrameSent (s : Sys) (t n stamp : Nat) (ok : Bool) : Sys :=
  let s0 := s.onDev (·.at t)
  let d := s0.dev
  if d.vlkRings n && (d.vlk n).ring.busy then
    let o := s0.ringSent (d.vlkCfg n) (d.vlk n).ring t stamp ok
    let d1 := d.vlkTook n 0x410 o.ring o.bad
    { o.sys with dev := if ok then d1.ev 0x68 1 else d1.incFld VLK_ERRCNT n 31 16 }
  else s0

/-- VLK_FRAME_RECEIVE: a frame arrives; one with a bad FCS is discarded and counted (R526). -/
def Sys.vlkFrameReceive (s : Sys) (t n stamp : Nat) (goodFcs : Bool) (bytes : List Byte) : Sys :=
  let s0 := s.onDev (·.at t)
  let d := s0.dev
  if !d.vlkOn n then s0
  else if !goodFcs then { s0 with dev := d.incFld VLK_ERRCNT n 15 0 }
  else
    let d1 := d.setVlk n { d.vlk n with goodAt := some t }
    if !d1.vlkRings n then { s0 with dev := d1 }
    else
      match s0.ringReceive (d1.vlkCfg n) (d1.vlk n).ring stamp bytes with
      | none => { s0 with dev := d1 }
      | some o =>
        let d2 := d1.vlkTook n 0x414 o.ring o.bad
        { o.sys with dev := if o.bad then d2 else d2.ev 0x68 0 }

/-- VLK_ACTSUM: the links that have received a good frame in the last second. -/
def Dev.vlkActsum (d : Dev) : Word :=
  w32 ((List.range d.variant.outlets).foldl (fun s n =>
    match (d.vlk n).goodAt with
    | some t => if d.time ≤ t + 1000000000 then s + 2 ^ n else s
    | none => s) 0)

/-- A Green PHY link works (R524). -/
def Dev.greenPhy (d : Dev) (n : Nat) : Bool := d.vlkOn n && decide (d.fld VLK_LCFG n 1 0 = 2)

/-- START begins a measurement, or begins it anew (R525). -/
def Dev.attenWrite (e : Dev) (n : Nat) (v : Word) : Dev :=
  if bitOf v 0 && e.greenPhy n then
    (e.setVlk n { e.vlk n with att := some (e.time, max 1 (bits v 15 8)) }).setFld VLK_LSTAT n 15 4 0
  else e

/-- ATTENUATION_START: a write to VLK_ATTCTL. -/
def Dev.attenStart (d : Dev) (i : Initiator) (v : Word) : Dev := d.gated i VLK_ATTCTL v (fun n e => e.attenWrite n v)

/-- The mean of whole-dB readings, rounded to the nearest dB; 0xFF where there is none. -/
def meanDb (l : List Nat) : Nat := if l.isEmpty then 0xFF else min 0xFE ((2 * l.sum + l.length) / (2 * l.length))

/-- ATTENUATION_DONE: NSOUND sounds have come, or 600 ms have passed. A sound is its reading of each carrier group in dB,
where it had one. -/
def Dev.attenDone (d : Dev) (t n : Nat) (sounds : List (List (Option Nat))) : Dev :=
  let d0 := d.at t
  match (d0.vlk n).att with
  | none => d0
  | some (since, ns) =>
    if d0.greenPhy n && (decide (ns ≤ sounds.length) || decide (since + 600000000 ≤ t)) then
      let ss := sounds.take ns
      let group (g : Nat) : Nat := if 58 ≤ g then 0xFF else meanDb (ss.filterMap (fun x => (x[g]?).join))
      let d1 := d0.each (List.range 15) (fun w e =>
        e.wr (VLK_ATT w) n (w32 (leNat ((List.range 4).map (fun b => w8 (group (4 * w + b)))))))
      let d2 := d1.setVlk n { d1.vlk n with att := none }
      ((d2.setBit VLK_LSTAT n 4 true).setFld VLK_LSTAT n 15 8 ss.length).ev 0x68 2
    else d0

/-- A write to VLK_LCFG that R522 refuses: MODE 3, or a change of MODE while EN is 1. -/
def Dev.vlkRefuses (d : Dev) (n : Nat) (v : Word) : Bool :=
  decide (bits v 1 0 = 3) || (d.bit VLK_LCFG n 31 && decide (bits v 1 0 ≠ d.fld VLK_LCFG n 1 0))

/-- A write to a link's configuration or rings: a link that is off measures nothing, and a write to a ring register starts
its rings anew. -/
def Dev.vlkChanged (d : Dev) (off n : Nat) : Dev :=
  if off = 0x400 then
    if d.vlkOn n then d
    else (d.setVlk n { d.vlk n with att := none, ring := { (d.vlk n).ring with busy := false } }).setBit VLK_LSTAT n 1 false
  else if 0x410 ≤ off ∧ off ≤ 0x418 then (d.setVlk n { d.vlk n with ring := {} }).setBit VLK_LSTAT n 1 false
  else d

end Sys2Proof.Machine
end

