-- ==== Sys2Proof/Machine/Reset.lean ====
section
/-! DEFINITION. Island restarts and resets (spec/17_power_reset_bist.md, R665-R690, R754, and spec/01_architecture.md, R38):
what each loses and keeps, the recovery window, the start of the islands at boot. -/
namespace Sys2Proof.Machine

/-! ### Islands -/

/-- Show an island's state in RST_ISLSTAT. -/
def Dev.setIsl (d : Dev) (x : Island) (n : Nat) : Dev := d.setFld RST_ISLSTAT 0 (2 * x.idx + 1) (2 * x.idx) n

/-- An island's recovery window. -/
def Dev.islRec (d : Dev) (x : Island) : IslandRec := kvGet d.pwr.isl x.idx {}
/-- Replace it. -/
def Dev.setIslRec (d : Dev) (x : Island) (r : IslandRec) : Dev := { d with pwr := { d.pwr with isl := kvSet d.pwr.isl x.idx r {} } }

/-- The PWR_CAUSE bit of an island's failure (Tables 1.6, 1.11); none for the acquisition and key islands. -/
def islandCause : Island → Option Nat
  | .compute => some 0 | .control => some 2 | .link => some 3 | .pstage => some 4 | .metrology => some 5 | _ => none

/-- Apply the cause table for an island (Table 1.6). -/
def Dev.islandApplies (d : Dev) (x : Island) : Dev := match islandCause x with | some n => d.addCause n | none => d

/-- What an island's restart leaves of a register: the configuration (R682, Table 17.6), but no ARM bit, ring head, lock,
selection, flag or syndrome; of the power-stage island the load switches (R519); of the compute island the timebase, the
mailboxes, and the ring ports with their queue 3 (R590). -/
def Dev.restartKeep (d : Dev) (x : Island) (page off inst : Nat) : Word :=
  if pageIsland page ≠ x then allOnes
  else if off < 0x040 ∧ page < 0x100 then (if off = 0x018 then allOnes else 0)
  else if x = .compute ∧ (page = 0x09 ∨ page = 0x1E ∨ page = 0x1F) then allOnes
  else if (page = 0x78 ∧ 0x400 ≤ off ∧ d.ringPort inst) ∨ (page = 0x79 ∧ inst % 4 = 3 ∧ d.ringPort (inst / 4)) then allOnes
  else if 0x64 ≤ page ∧ page ≤ 0x67 then allOnes
  else if page = 0x41 ∧ off = 0x418 ∨ page = 0x54 ∧ off = 0x040 then 0
  else if page = 0x56 ∨ page = 0x51 ∧ off = 0x040 then allOnes
  else if (page = 0x1A ∨ page = 0x1B ∨ page = 0x12) ∧ off = 0x048 then 0
  else if x = .metrology ∧ nvmKeep page off inst ≠ 0 then nvmKeep page off inst
  else match rowOf d.variant page off with
    | none => 0
    | some r =>
      let m := r.rw ||| r.txn ||| r.sealed
      if (0x42 ≤ page ∧ page ≤ 0x45 ∨ page = 0x47) ∧ off = 0x040 then m &&& ~~~1 else m

/-- The copies of BLK_CHSEL of an island's own initiators return to 0 (R75). -/
def Dev.clearSelects (d : Dev) (x : Island) : Dev :=
  { d with regs := d.regs.filter (fun p =>
      !(decide (keyOff p.1 = 0x020) && decide (keyPage p.1 < 0x100) && decide ((Initiator.ofId (keyBank p.1)).island = x))) }

/-- Writes held back for an island are lost with it and stay unacknowledged (R97); an initiator of the island has no access
and no fence waiting any more. -/
def Dev.dropHeld (d : Dev) (x : Island) : Dev :=
  let lost := d.txn.held.filter (fun w => decide (pageIsland w.page = x))
  let others := (lost.map PendWrite.init).filter (fun i => decide (i.island ≠ x))
  { d with txn := { d.txn with
      held := d.txn.held.filter (fun w => decide (pageIsland w.page ≠ x) && decide (w.init.island ≠ x))
      fences := d.txn.fences.filter (fun f => decide (f.1.island ≠ x))
      reads := d.txn.reads.filter (fun r => decide (r.init.island ≠ x))
      stores := d.txn.stores.filter (fun r => decide (r.init.island ≠ x))
      dropped := d.txn.dropped.filter (fun i => decide (i.island ≠ x)) ++ others } }

/-- The island's working state beside its registers, lost with its logic. -/
def Dev.loseState (d : Dev) (x : Island) : Dev :=
  match x with
  | .control => { d.txnRestart with sdm := {}, links := d.linksRestart, loop := {}, arb := {}, share := {}, grouped := [], headDead := false }
  | .acquisition => { d with acq := {} }
  | .link => { d with ports := {}, plc := {}, pair := { cfg := d.pair.cfg } }
  | .pstage => { d with thm := { latched := d.thm.latched } }
  | .compute => { d.setFld DBG_STAT 0 11 8 0 with
      cmp := { eth := d.cmp.eth.filter (fun p => decide (p.1 % 4 = 3) && d.ringPort (p.1 / 4)) }
      pwr := { d.pwr with vreqFrozenAt := some (d.pwr.vreqFrozenAt.getD d.time) } }
  | .key => { d with key := { d.key with slots := [], reqs := [], done := [], topBuilt := false, built := [], building := [], eng := {} } }
  | .metrology => { d with
      bil := { d.bil with openCh := none, closeBp := false, holdAt := [] }
      pwr := { d.pwr with gridLostAt := some (d.pwr.gridLostAt.getD d.time) } }
  | _ => d

/-- The memories of an island are wiped (R682). -/
def Sys.wipeIsland (s : Sys) (x : Island) : Sys :=
  match x with
  | .compute => s.wipe 0x08000000 0x09000000
  | .acquisition => s.wipe 0x10000000 0x10400000
  | .safety => s.wipe (tcmBase 1) (tcmBase 1 + 0x80000)
  | .metrology => s.wipe (tcmBase 2) (tcmBase 2 + 0x40000)
  | _ => s

/-- The island stops: its logic is reset and its memories are wiped, its configuration stays (R682); what its initiators and
its pages had open goes with it (R75, R92, R93, R97). -/
def Sys.loseIsland (s : Sys) (x : Island) (stat : Nat) : Sys :=
  let s1 := s.onDev (fun d =>
    let d1 := (d.txnIslandReset x).resetRegs (d.restartKeep x)
    let d2 := (((d1.loseState x).clearSelects x).dropHeld x).setIsl x stat
    if x = .metrology then d2.mbxTargetDown 1 else d2)
  s1.wipeIsland x

/-- Count an island's restart in RST_LASTISL with its cause, and raise ISLRST. -/
def Dev.noteRestart (d : Dev) (x : Island) (cause : Nat) : Dev :=
  ((d.setFld RST_LASTISL 0 11 0 (cause * 256 + x.idx)).incFld RST_LASTISL 0 31 16).ev 0x03 0

/-- An island's restart begins (R682); before a metrology restart the flush record is written, unless the accumulators
themselves are in error (R331). -/
def Sys.restartBegins (s : Sys) (x : Island) (cause : Nat) (accErr : Bool) : Sys :=
  let s1 := if x = .metrology ∧ ¬ accErr then s.flush else s
  (s1.loseIsland x 1).onDev (fun d => d.noteRestart x cause)

/-- Steps 1-4 of R396: the keep-alive stops, FAULT_N goes low, XTRIP_OUT_N is released, the failure is signalled; the safety
island no longer runs. -/
def Dev.safetyFails (d : Dev) : Dev :=
  let d1 := (((d.keepaliveLoss d.time).setBit SAF_XSTAT 0 1 false).setIsl .safety 2).mbxTargetDown 0
  { d1 with saf := { d1.saf with faultLow := true } }

/-- A fault of an island (R38, R67, R397, R643, R681): a single-island restart with its recovery window; a second one inside
the window applies the cause table and holds the island off. -/
def Sys.islandFault (s : Sys) (x : Island) (cause : Nat) (accErr : Bool) : Sys :=
  let d := s.dev
  if d.pwr.phase ≠ .running ∨ x = .aon ∨ x = .iface then s
  else if x = .safety then (if d.up .safety then s.onDev Dev.safetyFails else s)
  else if 2 ≤ d.islStat x then s
  else
    let r := d.islRec x
    let inside : Bool := match r.faultAt with | some f => !r.asked && decide (d.time < f + 10000000) | none => false
    if inside then
      (s.loseIsland x 2).onDev (fun e => (e.setIslRec x { r with faultAt := none }).islandApplies x)
    else (s.restartBegins x cause accErr).onDev (fun e => e.setIslRec x { r with faultAt := some e.time, asked := false })

/-- ISLAND_FAILURE. -/
def Sys.islandFailure (s : Sys) (t : Nat) (x : Island) (cause : Nat) (accErr : Bool) : Sys :=
  (s.onDev (·.at t)).islandFault x cause accErr

/-- RECOVERY_WINDOW_EXPIRY: an island not running again 10 ms after its fault applies the cause table (R38). -/
def Dev.windowExpiry (d : Dev) (t : Nat) (x : Island) : Dev :=
  let d0 := d.at t
  let r := d0.islRec x
  match r.faultAt with
  | some f =>
    if f + 10000000 ≤ t then
      let d1 := d0.setIslRec x { r with faultAt := none }
      if d0.islStat x = 1 then d1.islandApplies x else d1
    else d0
  | none => d0

/-- The islands that RST_ISLRST restarts (R681). -/
def restartable (x : Island) : Bool :=
  match x with | .metrology | .compute | .control | .acquisition | .link | .pstage => true | _ => false

/-- A request to restart an island (R681); an island that Standby has switched off stays off, and so does one that a power-fail
warning has shed (R672) or its temperature holds off (R691), which restarts when R673 or R691 says so. -/
def Sys.askRestart (s : Sys) (i : Initiator) (x : Island) : Sys :=
  if !restartable x then s.onDev (fun d => d.err 0x03 7 i 0x05C)
  else if s.dev.islStat x = 1 ∨ s.dev.islStat x = 3 ∨ (s.dev.islRec x).shed ∨ (s.dev.islRec x).hot then s
  else (s.restartBegins x 4 (decide (s.dev.islStat x = 2))).onDev (fun d => d.setIslRec x { faultAt := some d.time, asked := true })

/-- A write to RST_ISLRST. -/
def Sys.restartsAsked (q : Sys) (i : Initiator) (v : Word) : Sys :=
  q.each (maskList v.toNat 10) (fun k z => z.askRestart i (Island.ofIdx k))

/-- ISLAND_RESTART_REQUEST: that write through its gate. -/
def Sys.restartRequest (s : Sys) (i : Initiator) (v : Word) : Sys := s.gated i RST_ISLRST v (fun _ q => q.restartsAsked i v)

/-! ### Islands start -/

/-- The control island runs again: enabled channels settle (R116), the schedule, frame period and token show what is
committed, the static share table is in force (R236); T has resumed from the AON count (R611). -/
def Dev.controlStart (d : Dev) (resumed : Bool) : Dev :=
  let d1 := d.each (List.range d.variant.sdInputs) (fun c e => if e.bit SDM_CHCFG c 0 then e.startSettle c else e)
  let d2 := d1.each (List.range d1.variant.contexts) (fun n e => e.setCtxR n { e.ctxR n with cfgWas := e.rd LPE_CTXCFG n, srcWas := e.rd LPE_SRC n })
  let d2 := (d2.setBit SHR_STAT 0 8 true).each d2.outletsL (fun o e => (e.wr SHR_CLAIM o (e.rd SHR_STATIC o)).setBit SHR_OSTAT o 2 true)
  let d3 := (d2.showSched.wr CAB_FPER 0 (w32 (d2.fld LPE_FRAMECFG 0 11 0 / 2))).showToken.showClocks 0
  if resumed then (d3.setBit TMB_STAT 0 8 true).ev 0x09 6 else d3

/-- The link island runs again: its modems start, pilot states read 7 until accepted. -/
def Dev.linkStart (d : Dev) : Dev :=
  let d1 := d.plcBoot
  d1.each (List.range d1.variant.outlets) (fun n e => e.pilEnabled n false)

/-- The compute island's image is loaded again from the bank booted and checked against measurement 5 (R682). -/
def Sys.reloadImage (s : Sys) : Sys × Bool :=
  match s.dev.sys.image with
  | none => (s, true)
  | some (src, len, load) =>
    let b := s.read src len
    if sha256 b = s.dev.meas 5 then (s.store load b, true) else (s, false)

/-- What an island does as it runs again (R326, R473, R478, R519, R582, R643, R710). -/
def Sys.islandStart (s : Sys) (x : Island) (o : BootObs) : Sys :=
  match x with
  | .control => s.onDev (fun d => d.controlStart true)
  | .link => s.onDev (fun d =>
      let c := d.rd AUS_CFG 0
      let d1 := ((d.wr AUS_CFG 0 d.pair.cfg).pairBoot).wr AUS_CFG 0 c
      d1.linkStart)
  | .pstage => s.thmRestore.onDev Dev.lswResume
  | .metrology => s.restoreMetrology true
  | .key => s.onDev (fun d => d.keyBoot o)
  | .compute => s.onDev (fun d => { d with pwr := { d.pwr with vreqFrozenAt := none, cwdSince := d.time } })
  | _ => s

/-- A compute restart cannot end before 10 ms from its start: reloading and checking the image takes longer (R38). -/
def Dev.tooEarly (d : Dev) (x : Island) : Bool :=
  decide (x = .compute) && (match (d.islRec x).faultAt with | some f => decide (d.time < f + 10000000) | none => false)

/-- ISLAND_RESTART_DONE: the hardware of a restarting island runs again, or its restart fails: its hardware does not (`ok`), or
the compute image fails its check; it is then held off (R38, R682). A restart that ends 10 ms or more after the fault has
applied the cause table by then. -/
def Sys.restartDone (s : Sys) (t : Nat) (x : Island) (ok : Bool) (o : BootObs) : Sys :=
  let s0 := s.onDev (fun d => d.windowExpiry t x)
  if s0.dev.pwr.phase ≠ .running ∨ s0.dev.islStat x ≠ 1 ∨ (ok ∧ s0.dev.tooEarly x) then s0
  else
    let (s1, good) := if x = .compute ∧ ok then s0.reloadImage else (s0, true)
    if ok && good then
      let s2 := s1.onDev (fun d => ((d.setIsl x 0).setIslRec x { d.islRec x with shed := false, hot := false }).setBit CLK_STAT 0
        (16 + x.idx) true)
      s2.islandStart x o
    else
      s0.onDev (fun d => ((d.setIsl x 2).setIslRec x {}).islandApplies x)

/-! ### Boot -/

/-- PFWARN in 10 mV (R671, Table 17.9). -/
def Dev.pfwarn (d : Dev) : Nat := 200 + 10 * clampN (d.fld MON_VSYSCFG 0 5 0) 6 30

/-- The safety island starts with the stored configuration, or with everything disabled (R400). -/
def Dev.safetyStart (d : Dev) (o : BootObs) : Dev :=
  if d.saf.active.isEmpty then d
  else if o.badSafety then d.setBit SAF_STAT 0 2 true
  else d.applyImage d.saf.active

/-- RST_CAUSE, RST_PINLOW and the log's entries for the reset that has ended (Table 18.6, R684, R687). -/
def Dev.bootRecords (d : Dev) : Dev :=
  let d1 := if d.bit RST_CAUSE 0 0 && d.pwr.pfRec then { d.setBit RST_CAUSE 0 8 true with pwr := { d.pwr with pfRec := false } } else d
  let d2 := match d1.pwr.stuckRec with
    | none => d1
    | some (f, r, ms) =>
      let e := (((d1.setBit RST_CAUSE 0 2 true).setBit RST_CAUSE 0 7 true).wr RST_PINLOW 0 (w32 (min (ms / 10) 0xFFFFFFFF))).logPut 0 0x02
        (leBytes 4 ms ++ leBytes 8 f ++ leBytes 8 r)
      { e with pwr := { e.pwr with stuckRec := none } }
  d2.logPut 0 0x01 (leBytes 4 (d2.rd RST_CAUSE 0).toNat ++ leBytes 4 (d2.rd RST_LASTISL 0).toNat)

/-- The islands that start (Table 17.4, step 8): those whose part passed; without images only the hardware that needs none;
in SCRAPPED only AON and key (Table 16.6). -/
def Dev.startsAt (d : Dev) (o : BootObs) (images : Bool) (p : Nat) : Bool :=
  if p = 0 ∨ p = 3 then true
  else decide (d.fld LCM_STATE 0 2 0 ≠ 5) && decide ((o.part p).result ≠ 3) && (images || !(decide (p = 1) || decide (p = 2)))

/-- Steps 7 and 8 of Table 17.4: the boot ROM, the start of the islands, and the level (Table 1.5, R656, R699). -/
def Sys.startAll (s : Sys) (o : BootObs) : Sys :=
  let (s1, images) := s.bootRom o
  let runs := fun (p : Nat) => s1.dev.startsAt o images p
  let s2 := s1.onDev (fun d =>
    let d1 := (d.wr RST_ISLSTAT 0 0).each ((List.range 10).filter (fun p => !runs p)) (fun p e => e.setIsl (Island.ofIdx p) 2)
    let d2 := d1.wr CLK_STAT 0 (w32 (7 + 65536 * ((List.range 10).foldl (fun m p => if runs p then m + 2 ^ p else m) 0)))
    let die := !o.vaux || decide ((o.part 9).result = 3)
    { d2 with pwr := { d2.pwr with phase := .running, ifaceReset := die, vauxLow := !o.vaux, dwdSince := d2.time, cwdSince := d2.time } })
  let s3 := if runs 2 then (s2.showLast.sealBoot o.jumper).restoreMetrology false else s2
  let s4 := if runs 8 then s3.thmRestore else s3
  s4.onDev (fun d =>
    let d1 := d.when (runs 5) (fun e => e.controlStart false)
    let d2 := d1.when (runs 7) (fun e => e.pairBoot.linkStart)
    let d3 := (d2.when (runs 1) (fun e => e.safetyStart o)).lswReset.bootRecords
    if (List.range 10).any (fun p => decide ((o.part p).result = 3)) then d3.addCause 6
    else if images && decide (d3.fld LCM_STATE 0 2 0 ≠ 5) then { d3 with pwr := { d3.pwr with reachedNormal := true } }.faultPin
    else d3.setLevel .hold)

/-- From step 6 on: the self-test, the life cycle, the keys, the boot ROM (R686, R699). -/
def Sys.boot (s : Sys) (o : BootObs) : Sys :=
  let hold (q : Sys) (bist : Bool) : Sys := q.onDev (fun d =>
    { (d.when bist (fun e => e.setBit RST_CAUSE 0 10 true)) with
      pwr := { d.pwr with phase := .heldBist, bistRetried := d.pwr.bistRetried || !bist } })
  let s1 := s.onDev (fun d => d.fullBist o)
  if bistOrder.any o.stops then hold s1 true
  else if !o.romOk then hold s1 false
  else
    let s2 := ((s1.lifeBoot o).onDev (fun d =>
      { d.showUnlock with key := { d.key with meas := [(0, sha256 ((List.range 0x10000).map Config.bootRom)), (1, digestOf Config.seqRomDigest)] } })).logBoot
    (s2.onDev (fun d => d.keyBoot o)).startAll o

/-- The power-up sequence: it waits for VSYS (R671), before the buck starts, and at step 5 for RESET_N (R686, R754); the supplies
of the I/O banks are as sampled (R668). -/
def Sys.powerUp (s : Sys) (o : BootObs) : Sys :=
  let s := s.onDev (fun d => { d with pwr := { d.pwr with vioLow := o.vioLow } })
  let wait (p : Phase) : Sys := s.onDev (fun d =>
    { d.setFld MON_VSTAT 0 15 0 o.vsys with
      pwr := { d.pwr with
        phase := p
        resetN := o.resetN
        resetLowSince := if o.resetN then none else some (d.pwr.resetLowSince.getD d.time) } })
  if o.vsys < s.dev.pfwarn + 10 then wait .waitVsys
  else if !o.resetN then (wait .waitPin).onDev (fun d => { d with pwr := { d.pwr with buck := true } })
  else (s.onDev (fun d =>
    { (d.setFld MON_VSTAT 0 15 0 o.vsys).setBit MON_VSTAT 0 16 false with
      pwr := { d.pwr with resetN := true, resetLowSince := none, pfw := none, buck := true } })).boot o

/-! ### Resets -/

/-- The volatile memories are wiped (Table 17.6); PSRAM and flash are not touched. -/
def Sys.wipeVolatile (s : Sys) : Sys := (((s.wipeIsland .compute).wipeIsland .acquisition).wipeIsland .safety).wipeIsland .metrology

/-- SYSTEM_RESET (R676-R678): the flush but after a brown-out, every island and the AON pages re-initialised; `bit` is its
RST_CAUSE bit. A running self-test or hold ends. -/
def Sys.systemReset (s : Sys) (bit : Nat) (flush : Bool) : Sys :=
  let s1 := if flush then s.flush else s
  s1.wipeVolatile.onDev (fun d =>
    let w := d.pwr.pfw
    let d1 := (d.fresh0 aonKeep).setBit RST_CAUSE 0 bit true
    { d1.wr RST_ISLSTAT 0 0 with pwr := { d1.pwr with pfw := w } })

/-- POWER_ON_RESET: VSYS has risen through the POR release; T starts at 0 (Table 17.3), and stands at t when the islands
start. -/
def Sys.powerOn (s : Sys) (t : Nat) (o : BootObs) : Sys :=
  let s1 := s.wipeVolatile.onDev (fun d =>
    let d1 := ({ d with time := 0 }).fresh0 nvmKeep
    let d2 := d1.wr RST_CAUSE 0 1
    { d2 with
      time := t, log := [], hi := []
      pwr := { d2.pwr with safetyResets := [], rtc := 0, ifaceHot := false, resetLowSince := none, bistRetried := false, dwdSince := t, cwdSince := t, buck := false } })
  s1.powerUp o

/-- BROWN_OUT_RESET: VSYS below 2.35 V; it ends as VSYS rises through the POR release; no flush (R677, R754). -/
def Sys.brownOut (s : Sys) (t : Nat) (o : BootObs) : Sys :=
  let s1 := (s.onDev (·.at t)).systemReset 1 false
  (s1.onDev (fun d => { d with pwr := { d.pwr with pfw := none, buck := false } })).powerUp o

/-- PIN_RESET: RESET_N low in 160 consecutive samples of the AON RC; it also ends a hold of R680 or R699. The sequence waits
at step 5 for RESET_N (R675, R686). -/
def Sys.pinReset (s : Sys) (t lowSamples : Nat) : Sys :=
  let s0 := s.onDev (·.at t)
  if 160 ≤ lowSamples ∧ s0.dev.pwr.phase ≠ .off then
    (s0.systemReset 2 true).onDev (fun d =>
      { d with pwr := { d.pwr with phase := .waitPin, resetN := false, resetLowSince := some (t - lowSamples * 125 / 2), bistRetried := false } })
  else s0

/-- RESET_N_RISE: the sequence resumes from step 6; RST_PINLOW takes the low time, a stuck-reset record its rising edge
(R686, R687). -/
def Sys.resetRise (s : Sys) (t : Nat) (o : BootObs) : Sys :=
  let s0 := s.onDev (·.at t)
  if s0.dev.pwr.phase ≠ .waitPin then s0.onDev (fun d => { d with pwr := { d.pwr with resetN := true, resetLowSince := none } })
  else
    let since := s0.dev.pwr.resetLowSince.getD t
    let s1 := s0.onDev (fun d =>
      { d.wr RST_PINLOW 0 (w32 (min ((t - since) / 10000000) 0xFFFFFFFF)) with
        pwr := { d.pwr with stuckRec := d.pwr.stuckRec.map (fun _ => (since, t, (t - since) / 1000000)) } })
    s1.powerUp { o with resetN := true }

/-- STUCK_RESET_RECORD: a low period of RESET_N longer than 5 s is recorded, and updated every 60 s (R687). -/
def Dev.stuckReset (d : Dev) (t : Nat) : Dev :=
  let d0 := d.at t
  match d0.pwr.resetLowSince with
  | none => d0
  | some f =>
    let ms := (t - f) / 1000000
    let due : Bool := match d0.pwr.stuckRec with | some (f', _, m) => decide (f' ≠ f) || decide (m + 60000 ≤ ms) | none => true
    if 5000 < ms ∧ due then ({ d0 with pwr := { d0.pwr with stuckRec := some (f, 0, ms) } }).ev 0x03 1 else d0

/-- A write to RST_SWRST: 0x5A01 resets; other values have no effect and are recorded (Table 17.9). -/
def Sys.swReset (q : Sys) (i : Initiator) (v : Word) (o : BootObs) : Sys :=
  if v = 0x5A01 then (q.systemReset 4 true).powerUp o else q.onDev (fun d => d.err 0x03 7 i 0x048)

/-- SOFTWARE_RESET: that write through its gate. -/
def Sys.softwareReset (s : Sys) (i : Initiator) (v : Word) (o : BootObs) : Sys :=
  s.gated i RST_SWRST v (fun _ q => q.swReset i v o)

/-- DEVICE_WATCHDOG_EXPIRY (R679). -/
def Sys.deviceWatchdog (s : Sys) (t : Nat) (o : BootObs) : Sys :=
  let s0 := s.onDev (·.at t)
  let n := s0.dev.fld RST_DWDCFG 0 15 0
  if s0.dev.pwr.phase = .running ∧ n ≠ 0 ∧ s0.dev.pwr.dwdSince + n * 1000000 ≤ t then (s0.systemReset 3 true).powerUp o else s0

/-- A write to RST_DWDKICK by an initiator that SRC names (R679). -/
def Dev.dwdKick (e : Dev) (i : Initiator) (v : Word) : Dev :=
  if !bitOf v 0 then e
  else if (e.fld RST_DWDCFG 0 23 16).testBit i.id then { e with pwr := { e.pwr with dwdSince := e.time } }
  else e.err 0x03 7 i 0x050

/-- DEVICE_WATCHDOG_KICK: that write through its gate. -/
def Dev.deviceKick (d : Dev) (i : Initiator) (v : Word) : Dev := d.gated i RST_DWDKICK v (fun _ e => e.dwdKick i v)

/-- COMPUTE_WATCHDOG_EXPIRY: only the compute island restarts (R679). -/
def Sys.computeWatchdog (s : Sys) (t : Nat) : Sys :=
  let s0 := s.onDev (·.at t)
  let n := s0.dev.fld RST_CWDCFG 0 15 0
  if s0.dev.up .compute ∧ n ≠ 0 ∧ s0.dev.pwr.cwdSince + n * 1000000 ≤ t then s0.islandFault .compute 1 false else s0

/-- A write to RST_CWDKICK by a hart (R679). -/
def Dev.cwdKick (e : Dev) (i : Initiator) (v : Word) : Dev :=
  if !bitOf v 0 then e
  else if i.isCore then { e with pwr := { e.pwr with cwdSince := e.time } }
  else e.err 0x03 7 i 0x058

/-- COMPUTE_WATCHDOG_KICK: that write through its gate. -/
def Dev.computeKick (d : Dev) (i : Initiator) (v : Word) : Dev := d.gated i RST_CWDKICK v (fun _ e => e.cwdKick i v)

/-- SAFETY_FAILURE: R396, then the reset of Table 17.3; the third in 600 s holds the device (R680). -/
def Sys.safetyFailure (s : Sys) (t : Nat) (o : BootObs) : Sys :=
  let s0 := s.onDev (·.at t)
  if s0.dev.pwr.phase ≠ .running then s0
  else
    let l := (s0.dev.pwr.safetyResets.filter (fun x => decide (t ≤ x + 600000000000))) ++ [t]
    let s1 := (s0.onDev Dev.safetyFails).systemReset 5 true
    let s2 := s1.onDev (fun d => { d.wr RST_SAFHIST 0 (w32 (min l.length 3)) with pwr := { d.pwr with safetyResets := l } })
    if 3 ≤ l.length then
      s2.onDev (fun d => { d.setBit RST_CAUSE 0 9 true with pwr := { d.pwr with phase := .heldSafety } })
    else s2.powerUp o

/-- BIST_RETRY: full BIST runs once more 1 s after a key or safety failure (R699). -/
def Sys.bistRetry (s : Sys) (t : Nat) (o : BootObs) : Sys :=
  let s0 := s.onDev (·.at t)
  if s0.dev.pwr.phase = .heldBist ∧ ¬ s0.dev.pwr.bistRetried then
    (s0.onDev (fun d => { d with pwr := { d.pwr with bistRetried := true } })).powerUp o
  else s0

end Sys2Proof.Machine
end

