-- ==== Sys2Proof/Machine/LifeCycle.lean ====
section
/-! DEFINITION. Life-cycle requests, debug unlock and the owner key (spec/16_keys_and_attestation.md, R625-R627, R646-R653). -/
namespace Sys2Proof.Machine

/-- A request ends with a value of Table 16.7, and LCDONE. -/
def Dev.lcEnd (d : Dev) (r : Nat) : Dev :=
  (({ d with key := { d.key with lcReq := none } }.wr LCM_NONCE 0 0).wr LCM_RSTAT 0 (w32 r)).ev 0x10 0

/-- A transition of Table 16.5, the blowing of ROOT (target 6) or a debug unlock (7), from a state and an initiator. -/
def lcAllowed (frm target : Nat) (i : Initiator) : Bool :=
  let dbg := decide (i = .debug)
  let any := i.isCore || dbg
  if target = 5 then decide (frm < 5) && any
  else if target = 6 then decide (frm = 1) && dbg
  else if target = 7 then decide (frm = 2 ∨ frm = 3) && any
  else (decide (frm = 0 ∧ target = 1) && dbg) || (decide (frm = 1 ∧ target = 2) && dbg) || (decide (frm = 2 ∧ target = 3) && any) ||
    (decide ((frm = 2 ∨ frm = 3) ∧ target = 4) && any)

/-- The prerequisites of Table 16.5. -/
def Sys.lcPrereq (s : Sys) (target : Nat) : Bool :=
  let good (k : Nat) : Bool := s.programmed k
  match target with
  | 2 => good 0 && good 1
  | 3 => good 2
  | 6 => decide (s.fuses % 2 ^ 256 = 0)
  | _ => true

/-- The first check of a request that fails, as its LCM_RSTAT value; 0 where none does (R647). -/
def Sys.lcCheck (s : Sys) (i : Initiator) (target : Nat) : Nat :=
  if !lcAllowed (s.dev.fld LCM_STATE 0 2 0) target i then 3
  else if s.dev.level ≠ .hold then 8
  else if !s.lcPrereq target then 6
  else 0

/-- A write to LCM_REQ: the request is checked, and answered with a fresh nonce (R647). -/
def Sys.lcAsk (q : Sys) (i : Initiator) (v : Word) : Sys :=
  let target := bits v 2 0
  if target = 0 then q
  else
    match q.lcCheck i target with
    | 0 => q.onDev (fun d =>
        let (n, d1) := d.free 647
        ({ d1 with key := { d1.key with lcReq := some { target, init := i, nonce := n.toNat, since := d1.time } } }.wr LCM_NONCE 0 n).wr LCM_RSTAT 0 1)
    | r => q.onDev (fun d => d.lcEnd r)

/-- That write through its gate. -/
def Sys.lcRequest (s : Sys) (i : Initiator) (v : Word) : Sys := s.gated i LCM_REQ v (fun _ q => q.lcAsk i v)

/-- LC_REQUEST_STATE: a target of 1 to 5. -/
def Sys.lcRequestState (s : Sys) (i : Initiator) (target : Nat) : Sys := s.lcRequest i (w32 (if 5 < target then 0 else target))
/-- LC_REQUEST_BLOW_ROOT. -/
def Sys.lcRequestBlowRoot (s : Sys) (i : Initiator) : Sys := s.lcRequest i 6
/-- LC_REQUEST_DEBUG_UNLOCK. -/
def Sys.lcRequestUnlock (s : Sys) (i : Initiator) : Sys := s.lcRequest i 7

/-- An authorisation at LCM_AUTHADDR for a purpose and nonce, under the service key, or the owner key where `owner` allows it
(R653). -/
def Sys.authorised (s : Sys) (purpose : List Byte) (nonce : Nat) (owner : Bool) : Bool :=
  let a := (s.dev.rd LCM_AUTHADDR 0).toNat
  let (key, sig, stop) := s.sigBlock a
  let dig := sha256 key
  decide (0x08000000 ≤ a) && decide (stop ≤ 0x09000000) &&
    (decide (dig = digestOf Config.serviceKeyDigest) || (owner && s.programmed 2 && decide (dig = fuseBytes s.fuses 448 32))) &&
    hssVerify key (sha256 (purpose ++ s.dev.devId ++ leBytes 4 nonce)) sig

/-- Blow a set of fuse bits, of which `burnt` names those that take; true where every one verifies. -/
def Sys.program (s : Sys) (want burnt : Nat) : Sys × Bool := (s.blow (want &&& burnt), decide (want &&& burnt = want))

/-- LC_TRANSITION: transactions are discarded, the LC bits are blown, the device resets as a power-on reset does, but for T and
the records (R648, Table 17.3). -/
def Sys.lcTransition (s : Sys) (frm target burnt : Nat) (o : BootObs) : Sys :=
  let s1 := s.onDev Dev.txnLifecycle
  let want := lcMask (if target = 5 then 0 else frm) target
  let left := want &&& (want ^^^ (s1.fuses &&& want))
  let (s2, ok) := s1.program left burnt
  if !ok then s2.onDev (fun d => d.lcEnd 7)
  else
    let s3 := s2.wipeVolatile.onDev (fun d =>
      let d1 := ((d.fresh0 lcKeep).setBit RST_CAUSE 0 6 true).wr RST_ISLSTAT 0 0
      { d1 with log := [], hi := [] })
    s3.powerUp o

/-- A fresh ROOT from the entropy source, with its code bits (R627). -/
def Dev.freshRoot (d : Dev) : Nat × Dev :=
  let (b, d1) := d.randomBytes 36
  (leNat b, d1)

/-- LCM_CONFIRM with the nonce within 1 s by the same initiator executes the checked request (R647, R648, R651, R627);
`burnt` names the fuse bits that take. -/
def Sys.lcExecute (q : Sys) (i : Initiator) (v : Word) (burnt : Nat) (o : BootObs) : Sys :=
  match q.dev.key.lcReq with
  | none => q
  | some r =>
    if v.toNat ≠ r.nonce ∨ i ≠ r.init ∨ r.since + 1000000000 < q.dev.time then q.onDev (fun d => d.lcEnd 5)
    else
      match q.lcCheck i r.target with
      | 0 =>
        if r.target = 6 then
          let (root, d1) := q.dev.freshRoot
          let (q1, ok) := ({ q with dev := d1 }).program root burnt
          q1.onDev (fun d => d.lcEnd (if ok then 2 else 7))
        else if r.target = 7 then
          if q.authorised [0x44, 0x42, 0x47, 0x31] r.nonce true then
            q.onDev (fun d => ({ d with key := { d.key with unlock := true } }).showUnlock.lcEnd 2)
          else q.onDev (fun d => d.lcEnd 4)
        else if r.target = 4 ∧ ¬ q.authorised [0x52, 0x54, 0x4E, 0x31] r.nonce false then q.onDev (fun d => d.lcEnd 4)
        else (q.onDev (fun d => d.lcEnd 2)).lcTransition (q.dev.fld LCM_STATE 0 2 0) r.target burnt o
      | e => q.onDev (fun d => d.lcEnd e)

/-- LC_CONFIRM: a write to LCM_CONFIRM at t. -/
def Sys.lcConfirm (s : Sys) (t : Nat) (i : Initiator) (v : Word) (burnt : Nat) (o : BootObs) : Sys :=
  (s.onDev (·.at t)).gated i LCM_CONFIRM v (fun _ q => q.lcExecute i v burnt o)

/-- LCM_DBGCTL.RELOCK clears the stored unlock, from the next reset of the key island on (R651). -/
def Dev.relock (e : Dev) (v : Word) : Dev :=
  if bitOf v 0 then ({ e with key := { e.key with unlock := false } }).showUnlock else e

/-- DEBUG_RELOCK: a write to LCM_DBGCTL. -/
def Dev.debugRelock (d : Dev) (i : Initiator) (v : Word) : Dev := d.gated i LCM_DBGCTL v (fun _ e => e.relock v)

/-- The digest in LCM_OWNER0-7 as a number, byte 0 lowest. -/
def Dev.ownerDigest (d : Dev) : Nat := leNat ((List.range 8).flatMap (fun k => leBytes 4 (d.rd (LCM_OWNER k) 0).toNat))

/-- In PROVISIONED, once, a non-zero digest is blown into OWNERKEY (R652). -/
def Sys.ownerBlow (q : Sys) (v : Word) (burnt : Nat) : Sys :=
  let dig := q.dev.ownerDigest
  if bitOf v 0 && decide (q.dev.fld LCM_STATE 0 2 0 = 2) && decide (q.fuses / 2 ^ 448 % 2 ^ 256 = 0) && decide (dig ≠ 0) then
    let (ecc, d1) := q.dev.free 652
    let (q1, ok) := ({ q with dev := d1 }).program (dig <<< 448 ||| ecc.toNat <<< 704) burnt
    if ok then q1.onDev (fun d => d.setBit LCM_STATE 0 16 true) else q1
  else q

/-- OWNER_SET: a write to LCM_OWNERSET. -/
def Sys.ownerSet (s : Sys) (i : Initiator) (v : Word) (burnt : Nat) : Sys :=
  s.gated i LCM_OWNERSET v (fun _ q => q.ownerBlow v burnt)

/-- LCM_OWNER0-7 read only once OWNERKEY is blown (Table 16.12). -/
def Dev.ownerFrozen (d : Dev) (page off : Nat) : Bool :=
  decide (page = 0x10) && decide (0x080 ≤ off) && decide (off < 0x0A0) && d.bit LCM_STATE 0 16

end Sys2Proof.Machine
end

