-- ==== Sys2Proof/Machine/Monitor.lean ====
section
/-! DEFINITION. Supplies, clocks and monitors: the power-fail warning and its end (R670-R673, R700), the interface die (R685),
temperature, supply and speed monitors (R691-R693), crystals and PLLs (R67), NVM errors and refresh (R68), hard repair
(R697), Standby entry (R37-R41), the debug port and its trace output (R70, R71). -/
namespace Sys2Proof.Machine

/-! ### Power-fail warning -/

/-- The islands shed by a warning. -/
def shedIslands : List Island := [.control, .acquisition, .link, .pstage, .compute]

/-- METROLOGY_FLUSH within the warning: samples stamped before it still count (R327). -/
def Sys.warnFlush (s : Sys) (samples : List (Nat × List Int)) (t : Nat) : Sys :=
  ((samples.filter (fun x => decide (x.1 < t))).foldl (fun (q : Sys) x => q.onDev (fun d => d.meteringSample x.1 x.2)) s).flush

/-- POWER_FAIL_WARNING: VSYS below PFWARN. The load is shed, each shed island counts as failed, metrology flushes (R672);
during a wait of the power-up sequence it only waits on (R671, R700). -/
def Sys.powerFail (s : Sys) (t vsys : Nat) (samples : List (Nat × List Int)) : Sys :=
  let s0 := s.onDev (·.at t)
  if s0.dev.pfwarn ≤ vsys ∨ s0.dev.pwr.pfw.isSome ∨ s0.dev.pwr.phase = .off then s0
  else
    let s1 := s0.onDev (fun d =>
      let d1 := ((d.setFld MON_VSTAT 0 16 0 (65536 + vsys)).setBit MON_STAT 0 1 true).incFld MON_STAT 0 31 16
      { d1.ev 0x04 6 with pwr := { d1.pwr with pfw := some (t, vsys), pfRec := true, stableSince := none } })
    if s1.dev.pwr.phase ≠ .running then s1
    else
      let hit := shedIslands.filter (fun x => decide (s1.dev.islStat x ≠ 2))
      let s2 := s1.each hit (fun x q => (q.loseIsland x 2).onDev (fun d => d.setIslRec x { d.islRec x with shed := true, faultAt := none }))
      let s3 := s2.onDev (fun d => d.each hit (fun x e => e.islandApplies x))
      s3.warnFlush samples t

/-- POWER_FAIL_WARNING_END: VSYS has risen through PFWARN + 0.1 V; `low` is the lowest it reached. Metering resumes at the next
sample; a power-up that waited goes on (R330, R671, R673, R700). -/
def Sys.powerFailEnd (s : Sys) (t vsys low : Nat) (o : BootObs) : Sys :=
  let s0 := s.onDev (·.at t)
  if vsys < s0.dev.pfwarn + 10 then s0
  else
    let s1 := match s0.dev.pwr.pfw with
      | none => s0
      | some (f, v) => s0.onDev (fun d =>
        let d1 := (d.setFld MON_VSTAT 0 16 0 vsys).logPut 0 0x04 (leBytes 8 f ++ leBytes 2 (min v low))
        { d1 with pwr := { d1.pwr with pfw := none, stableSince := some t }, mtr := { d1.mtr with stop := none } })
    if s1.dev.pwr.phase = .waitVsys then s1.powerUp { o with vsys } else s1

/-- SHED_ISLAND_RESTART: 10 ms at or above PFWARN + 0.1 V (R673). -/
def Sys.shedRestart (s : Sys) (t : Nat) : Sys :=
  let s0 := s.onDev (·.at t)
  match s0.dev.pwr.stableSince with
  | none => s0
  | some f =>
    if f + 10000000 ≤ t ∧ s0.dev.pwr.pfw.isNone ∧ s0.dev.pwr.phase = .running then
      let s1 := s0.onDev (fun d => { d with pwr := { d.pwr with stableSince := none } })
      s1.each (shedIslands.filter (fun x => (s1.dev.islRec x).shed)) (fun x q =>
        (q.restartBegins x 5 false).onDev (fun d => d.setIslRec x { d.islRec x with shed := false }))
    else s0

/-! ### The interface die (R685, R691) -/

/-- The interface die enters its reset: gates off, load switches at their initial state. -/
def Dev.ifaceDown (d : Dev) : Dev :=
  let d1 := { d with pwr := { d.pwr with ifaceReset := true } }
  ((d1.setFld SOUT_KASTAT 0 1 1 0).allPairsOff).lswReset

/-- INTERFACE_DIE_RESET: VAUX below 6.0 V, in 10 mV. -/
def Dev.ifaceResetAt (d : Dev) (t vaux : Nat) : Dev :=
  let d0 := d.at t
  let d1 : Dev := if vaux < 600 then { d0 with pwr := { d0.pwr with vauxLow := true } } else d0
  if vaux < 600 ∧ ¬ d0.pwr.ifaceReset then d1.ifaceDown else d1

/-- The interface die leaves its reset; a self-test that has not run for want of VAUX runs (R699). -/
def Dev.ifaceUp (d : Dev) (b : BistPart) : Dev :=
  let o : BootObs := { bist := [{ b with part := 9 }] }
  let d1 := if d.fld BST_RESULT 0 19 18 = 0 then d.bistPart o 9 else d
  if d1.fld BST_RESULT 0 19 18 = 3 then (d1.setIsl .iface 2).addCause 6
  else d1.when (decide (d1.islStat .iface = 0)) (fun e => { e with pwr := { e.pwr with ifaceReset := false } })

/-- INTERFACE_DIE_RESET_END: VAUX above 6.5 V and the temperature monitor does not hold the die. -/
def Dev.ifaceResetEnd (d : Dev) (t vaux : Nat) (b : BistPart) : Dev :=
  let d0 := d.at t
  let d1 : Dev := if 650 < vaux then { d0 with pwr := { d0.pwr with vauxLow := false } } else d0
  if 650 < vaux ∧ d0.pwr.ifaceReset ∧ ¬ d0.pwr.ifaceHot ∧ d0.pwr.phase = .running then d1.ifaceUp b else d1

/-! ### Monitors -/

/-- A threshold in whole degrees as 0.01 K. -/
def centiK (celsius : Nat) : Nat := celsius * 100 + 27315

/-- THOT of MON_TCFG in 0.01 K. -/
def Dev.thot (d : Dev) : Nat := centiK (d.fld MON_TCFG 0 15 8)
/-- TWARN in 0.01 K; above THOT it acts as THOT. -/
def Dev.twarn (d : Dev) : Nat := min (centiK (d.fld MON_TCFG 0 7 0)) d.thot

/-- An island fails by its monitor (R692): a safety failure, a key restart, or an island failure. -/
def Sys.monitorFails (s : Sys) (x : Island) : Sys := s.islandFault x 3 false

/-- 140 degrees for 1 ms: an island fails and is held off, the safety island is a safety failure, the interface die goes into
its reset (R691). -/
def Sys.tooHot (s : Sys) (x : Island) : Sys :=
  let flagged := s.onDev (fun d => (d.setBit MON_ISTAT x.idx 2 true).ev 0x04 2)
  match x with
  | .aon => flagged
  | .safety => flagged.islandFault .safety 3 false
  | .iface => flagged.onDev (fun d =>
      let d1 := d.setBit MON_ISTAT 9 8 true
      ({ d1 with pwr := { d1.pwr with ifaceHot := true } }).ifaceDown)
  | _ =>
    if s.dev.islStat x = 0 ∨ s.dev.islStat x = 1 then
      let q := if x = .metrology then flagged.flush else flagged
      (q.loseIsland x 2).onDev (fun d =>
        ((d.setIslRec x { d.islRec x with hot := true, faultAt := none }).setBit MON_ISTAT x.idx 8 true).islandApplies x)
    else flagged

/-- An island held off by its temperature restarts at THOT - 10 degrees (R691); the die leaves its reset. -/
def Sys.cooledDown (s : Sys) (x : Island) : Sys :=
  let s1 := s.onDev (fun d => d.setBit MON_ISTAT x.idx 8 false)
  if x = .iface then
    s1.onDev (fun d =>
      let d1 := { d with pwr := { d.pwr with ifaceHot := false } }
      if d1.pwr.vauxLow then d1 else d1.ifaceUp { part := 9, result := 1 })
  else (s1.restartBegins x 3 true).onDev (fun d => d.setIslRec x { d.islRec x with hot := false })

/-- TEMPERATURE_READ: a sensor's value in 0.01 K (R691). -/
def Sys.temperatureRead (s : Sys) (t k temp : Nat) : Sys :=
  let s0 := s.onDev (·.at t)
  let d := s0.dev
  if 10 ≤ k then s0
  else
    let was := d.fld MON_IT k 15 0
    let d1 := d.wr MON_IT k (w32 (temp % 65536 + 65536 * max (temp % 65536) (d.fld MON_IT k 31 16)))
    let up (th : Nat) : Bool := decide (th ≤ temp) && decide (was < th)
    let d2 := if up d1.twarn then (d1.setBit MON_ISTAT k 0 true).ev 0x04 0 else d1
    let d3 := if up d2.thot then
        let e := (d2.setBit MON_ISTAT k 1 true).ev 0x04 1
        if e.bit MON_TCFG 0 16 then
          let bad := (e.bit PWR_STAT 0 0 = false) && decide (e.profile ≠ 2) && e.profileBreach 2
          (e.askProfile 2).when bad (fun f => f.setBit MON_STAT 0 0 true)
        else e
      else d2
    let crit := decide (centiK 140 ≤ temp)
    let since := kvGet d3.pwr.critSince (k + 1) 0
    let d4 : Dev := { d3 with pwr := { d3.pwr with critSince := if crit then (if since = 0 then kvPut d3.pwr.critSince (k + 1) (t + 1) else d3.pwr.critSince)
                                                     else kvDel d3.pwr.critSince (k + 1) } }
    let s4 := { s0 with dev := d4 }
    let x := Island.ofIdx k
    let held := if x = .iface then d4.pwr.ifaceHot else (d4.islRec x).hot
    if d4.pwr.phase ≠ .running then s4
    else if crit && decide (since ≠ 0) && decide (since + 999999 ≤ t) && !held then s4.tooHot x
    else if held && decide (temp ≤ d4.thot - 1000) then s4.cooledDown x
    else s4

/-- SUPPLY_DEVIATION: a core supply outside 0.72-0.88 V for 1 us (R692). -/
def Sys.supplyDeviation (s : Sys) (t k mv ns : Nat) : Sys :=
  let s0 := s.onDev (·.at t)
  if 10 ≤ k then s0
  else
    let s1 := s0.onDev (fun d => d.wr MON_IV k (w32 (mv % 65536)))
    if (mv < 720 ∨ 880 < mv) ∧ 1000 ≤ ns then
      (s1.onDev (fun d => (d.setBit MON_ISTAT k 3 true).ev 0x04 3)).monitorFails (Island.ofIdx k)
    else s1

/-- PROCESS_SPEED_CHECK: the slack of an island's replica path in percent, every 10 ms (R693). -/
def Sys.speedCheck (s : Sys) (t k slack : Nat) : Sys :=
  let s0 := s.onDev (·.at t)
  if 10 ≤ k then s0
  else
    let s1 := s0.onDev (fun d =>
      let m := if d.pwr.slackSeen.testBit k then min (d.fld MON_IP k 15 8) (min slack 255) else min slack 255
      let d1 := (d.wr MON_IP k (w32 (min slack 255 + 256 * m)))
      let d2 : Dev := { d1 with pwr := { d1.pwr with slackSeen := d1.pwr.slackSeen ||| 2 ^ k } }
      if slack < clampN (d2.fld MON_PCFG 0 7 0) 6 50 then (d2.setBit MON_ISTAT k 4 true).ev 0x04 4 else d2)
    if slack < 5 then (s1.onDev (fun d => (d.setBit MON_ISTAT k 5 true).ev 0x04 5)).monitorFails (Island.ofIdx k) else s1

/-! ### Clocks (R67) -/

/-- CRYSTAL_LOSS: 10 us without an edge of the 25 MHz (0) or 32.768 kHz (1) crystal; the safety island loses its reference with
the first. -/
def Sys.crystalLoss (s : Sys) (t which quietNs : Nat) : Sys :=
  let s0 := s.onDev (·.at t)
  if which < 2 ∧ 10000 ≤ quietNs then
    let s1 := s0.onDev (fun d => ((d.setBit CLK_STAT 0 which false).setBit CLK_LOSS 0 which true).ev 0x01 which)
    if which = 0 then s1.islandFault .safety 3 false else s1
  else s0

/-- PLL_LOSS: an island's PLL out of lock, or its oscillator lost, for 1 us. The AON island's is the 16 MHz RC (RCOK); it and the
interface die are in no row of Table 1.6. -/
def Sys.pllLoss (s : Sys) (t k ns : Nat) : Sys :=
  let s0 := s.onDev (·.at t)
  if k < 10 ∧ 1000 ≤ ns then
    (s0.onDev (fun d =>
      let d1 := ((d.setBit CLK_STAT 0 (16 + k) false).setBit CLK_LOSS 0 (16 + k) true).ev 0x01 2
      d1.when (decide (k = 0)) (fun e => e.setBit CLK_STAT 0 2 false))).islandFault (Island.ofIdx k) 3 false
  else s0

/-- CLK_INOM of an island in the present profile, kHz (Tables 1.1, 1.4, 2.17). -/
def Dev.nominalKhz (d : Dev) (k : Nat) : Nat :=
  match k with
  | 0 => 16000 | 1 => 200000 | 2 => 150000 | 3 => 100000
  | 4 => (match d.profile with | 0 => 1200000 | 1 => 800000 | _ => 600000)
  | 5 => if d.profile = 0 then 800000 else 600000
  | 6 => 400000 | 7 => 250000 | 8 => 100000 | _ => 0

/-- CLK_IFREQ of an island takes the measurement of the last full millisecond: what a clock measures is free, one value for each
measurement, and 0 before the first (R66, log entry 151). -/
def Dev.measureClock (d : Dev) (k : Nat) : Dev :=
  let n := (d.time - d.sys.clkFrom) / 1000000
  if kvGet d.sys.clkSeen k 0 = n then d
  else
    let (w, d1) := d.free 66
    { d1.wr CLK_IFREQ k (w &&& 0xFFFFFF) with sys := { d1.sys with clkSeen := kvSet d1.sys.clkSeen k n 0 } }

/-! ### NVM (R68) -/

/-- The rights to the NVM window (Table 2.2) and the block protection of the user partition (R68). -/
def Dev.nvmOk (d : Dev) (i : Initiator) (write : Bool) (a : Nat) : Bool :=
  if a < 0x14080000 then !write || decide (i = .metrology)
  else if a < 0x140C0000 then decide (i = .key)
  else if a < 0x141D0000 then !write
  else if a < 0x143D0000 then !write || ((i.isCore || decide (i = .debug)) && !d.bit NVM_UPROT 0 ((a - 0x141D0000) / 0x10000))
  else false

/-- A word of the window is damaged: its reads get a bus error, and the record that holds it fails its CRC, until it is
written whole. The complement stands for the damage where a record is checked. -/
def Sys.damage (s : Sys) (a : Nat) : Sys :=
  if s.bad.contains a then s
  else
    let s1 := s.store a ((s.read a 4).map (fun b => ~~~b))
    { s1 with bad := a :: s1.bad }

/-- NVM_READ_ECC: a read of an NVM word finds an error, corrected or not; `i` is the initiator that read, none for the
controller itself. A corrected read answers the word (R68); an initiator without the right to read gets its bus error and meets
no word (R52). -/
def Sys.nvmReadEcc (s : Sys) (t : Nat) (i : Option Initiator) (addr : Nat) (corrected : Bool) : Sys :=
  let s0 := s.onDev (·.at t)
  let a := addr / 4 * 4
  let barred (x : Initiator) : Bool := !s0.dev.reaches x 0 || decide (x = .mirror) || !s0.dev.nvmOk x false a
  if !(decide (0x14000000 ≤ a) && decide (a < 0x14400000)) then s0
  else if i.any barred then s0.onDev (fun d => match i with | some x => d.answer x true 0 | none => d)
  else if corrected then
    s0.onDev (fun d =>
      let d1 := d.inc NVM_ECCCNT 0
      match i with | some x => d1.answer x false (w32 (memNat s0.mem a 4)) | none => d1)
  else
    (s0.damage a).onDev (fun d => d.nvmUncorrectable i a)

/-- NVM_REFRESH_PASS_END: a pass of 365 days ends and the next one starts. -/
def Dev.refreshEnd (d : Dev) (t : Nat) : Dev :=
  let d0 := d.at t
  let year := 365 * 86400 * 1000000000
  if d0.sys.refreshFrom + year ≤ t then
    ({ d0 with sys := { d0.sys with refreshFrom := d0.sys.refreshFrom + year } }).ev 0x0A 1
  else d0

/-- NVM_STAT: REFRESH shows from the pass's first nanosecond on, so that the reset value is 0 (Table 2.18, log entry 183); days
since its start. A write in progress is not seen between commands. -/
def Dev.nvmStat (d : Dev) : Word :=
  w32 (2 * b2n (decide (d.sys.refreshFrom < d.time)) + 65536 * min ((d.time - d.sys.refreshFrom) / 86400000000000) 65535)

/-- NVM_REFPOS: the 2^20 words of the window in equal steps over the pass. -/
def Dev.nvmRefpos (d : Dev) : Word := w32 ((d.time - d.sys.refreshFrom) * 1048576 / (365 * 86400 * 1000000000) % 1048576 * 4)

/-! ### Hard repair (R697) -/

/-- The free entries of the REPAIR fuses. -/
def freeRepairs (fuses : Nat) : List Nat := (List.range 96).filter (fun k => !fuses.testBit (768 + 32 * k + 31))

/-- BST_HREPAIR: the soft repairs of this boot are blown into REPAIR. -/
def Sys.repairNow (s : Sys) (verifyOk : Bool) : Sys :=
  let free := freeRepairs s.fuses
  let soft := s.dev.pwr.softRepairs
  let status (q : Sys) (n : Nat) : Sys := q.onDev (fun d => d.wr BST_HRSTAT 0 (w32 (n + 256 * (freeRepairs q.fuses).length)))
  if s.dev.level ≠ .hold then status s 4
  else if soft.isEmpty then status s 2
  else if free.length < soft.length then status s 3
  else
    let m := (free.zip soft).foldl (fun (a : Nat) p => a ||| ((p.2 ||| 0x80000000).toNat <<< (768 + 32 * p.1))) 0
    if !verifyOk then (status s 5).onDev (fun d => d.ev 0x05 0)
    else
      let q := (s.blow m).onDev (fun d => { d with pwr := { d.pwr with softRepairs := [] } })
      (status q 1).onDev (fun d => d.ev 0x05 0)

/-- A write to BST_HREPAIR by a compute core or the debug port, in every life-cycle state but SCRAPPED. -/
def Sys.repairWrite (q : Sys) (i : Initiator) (v : Word) (verifyOk : Bool) : Sys :=
  if bitOf v 0 && (i.isCore || decide (i = .debug)) && decide (q.dev.fld LCM_STATE 0 2 0 ≠ 5) then q.repairNow verifyOk else q

/-- HARD_REPAIR: that write through its gate. -/
def Sys.hardRepair (s : Sys) (i : Initiator) (v : Word) (verifyOk : Bool) : Sys :=
  s.gated i BST_HREPAIR v (fun _ q => q.repairWrite i v verifyOk)

/-! ### Standby entry (R37, Table 17.6) -/

/-- What an island that Standby switches off keeps of a register: its configuration, locks and selections, and of the link
island the pilot ports. -/
def Dev.standbyKeep (d : Dev) (x : Island) (page off inst : Nat) : Word :=
  if pageIsland page ≠ x then allOnes
  else if off < 0x040 then (if off = 0x010 ∨ off = 0x01C then 0 else allOnes)
  else if page = 0x6C ∨ page = 0x6D ∨ page = 0x75 then allOnes
  else d.restartKeep x page off inst

/-- STANDBY_ENTRY_DONE: the compute, acquisition and link islands are off (Table 1.5); fault pods close as aborted, the
telegram connections are closed at once (R286, R443), the loop's intervals end (R178). -/
def Sys.standbyDone (s : Sys) (t : Nat) : Sys :=
  let s0 := s.onDev (·.at t)
  if !s0.dev.pwr.standbyEntry then s0
  else
    let off := [Island.compute, .acquisition, .link]
    let s1 := (s0.onDev (·.setLevel .standby)).abortPods.onDev (fun d =>
      let d1 := d.endSatIntervals.frameIdle
      let d2 := d1.each off (fun x e => (e.resetRegs (e.standbyKeep x)).setIsl x 3)
      { d2 with acq := {}, plc := {}
                ports := { pil := d2.ports.pil }, cmp := { eth := d2.cmp.eth.filter (fun p => decide (p.1 % 4 = 3) && d2.ringPort (p.1 / 4)) } })
    (s1.onDev (fun d => d.each d.connsL (fun c e => if e.connState c = 0 then e else e.setConn c 0))).wipeIsland .acquisition

/-! ### Debug port (R70, R71) -/

/-- DBG_SWOCFG.BAUD, held to its limits. -/
def Dev.swoBaud (d : Dev) : Nat := clampN (d.fld DBG_SWOCFG 0 23 0) 9600 25000000

/-- The bytes that have left DBG_SWO by now: 10 bits each at BAUD, while EN is 1. -/
def Dev.swoDrain (d : Dev) : Dev :=
  if d.bit DBG_SWOCFG 0 31 && d.bit DBG_STAT 0 0 then
    let per := 10000000000 / d.swoBaud
    let n := min ((d.time - d.sys.swoAt) / per) d.sys.swo.length
    { d with sys := { d.sys with swo := d.sys.swo.drop n, swoAt := if n = d.sys.swo.length then d.time else d.sys.swoAt + n * per } }
  else { d with sys := { d.sys with swoAt := d.time } }

/-- A write to DBG_SWOTX; a full FIFO of 64 bytes drops it and sets OVR. -/
def Dev.swoPut (e : Dev) (v : Word) : Dev :=
  let e1 := e.swoDrain
  if 64 ≤ e1.sys.swo.length then (e1.setBit DBG_SWOSTAT 0 8 true).ev 0x0B 1
  else { e1 with sys := { e1.sys with swo := e1.sys.swo ++ [w8 (bits v 7 0)], swoAt := if e1.sys.swo.isEmpty then e1.time else e1.sys.swoAt } }

/-- SWO_TRANSMIT: that write through its gate. -/
def Dev.swoTransmit (d : Dev) (i : Initiator) (v : Word) : Dev := d.gated i DBG_SWOTX v (fun _ e => e.swoPut v)

/-- What the debug module does with a hart of the running compute island (R70): DBG_STAT bits 11:8 show the halted ones; a step
of a halted hart runs one instruction of it and leaves it halted. -/
def Dev.hartAsk (d : Dev) (ask : DbgAsk) : Dev :=
  match ask with
  | .halt h => if h < 4 ∧ d.up .compute then d.setBit DBG_STAT 0 (8 + h) true else d
  | .resume h => if h < 4 then d.setBit DBG_STAT 0 (8 + h) false else d
  | .access | .step _ => d

/-- DEBUGGER_ATTACH: an access of a debugger through the debug module, which answers only while debug is enabled. -/
def Dev.debuggerAttach (d : Dev) (t : Nat) (ask : DbgAsk) : Dev :=
  let d0 := d.at t
  if d0.bit DBG_STAT 0 0 then
    let first := !d0.bit DBG_STAT 0 1
    (((d0.setBit DBG_STAT 0 1 true).inc DBG_ATTCNT 0).when first (fun e => e.ev 0x0B 0)).hartAsk ask
  else d0

end Sys2Proof.Machine
end

