-- ==== Sys2Proof/Machine/Timebase.lean ====
section
/-! DEFINITION. The timebase page (spec/15_compute_island.md, R610-R617) and the harts' timer interrupts (R593). -/
namespace Sys2Proof.Machine

/-- While FOLLOW is 1 firmware may not write RATE, OFFS and UTC (R615). -/
def Dev.following (d : Dev) : Bool := d.bit TMB_STAT 0 4

/-- A discipline write: FREE and HOLDOVER lead to TRACKING (Table 15.7). -/
def Dev.discipline (d : Dev) : Dev :=
  { d.setFld TMB_STAT 0 1 0 1 with tmb := { d.tmb with disciplined := d.time } }

/-- A write to TMB_RATE (R610, R613). -/
def Dev.setRate (e : Dev) (i : Initiator) (v : Word) : Dev :=
  if e.following then e.err 0x09 7 i 0x048 else (e.wr TMB_RATE 0 v).discipline

/-- TIMEBASE_RATE_WRITE: that write through its gate. -/
def Dev.rateWrite (d : Dev) (i : Initiator) (v : Word) : Dev := d.gated i TMB_RATE v (fun _ e => e.setRate i v)

/-- A write to TMB_OFFSHI applies both words at once (R612). -/
def Dev.setOffset (e : Dev) (i : Initiator) (v : Word) : Dev :=
  if e.following then e.err 0x09 7 i 0x050
  else
    let offs := sext (v.toNat * 2 ^ 32 + (e.rd TMB_OFFSLO 0).toNat) 64
    let e1 := { e.wr TMB_OFFSHI 0 v with tmb := { e.tmb with offs } }
    e1.discipline.ev 0x09 5

/-- OFFSET_WRITE: that write through its gate. -/
def Dev.offsetWrite (d : Dev) (i : Initiator) (v : Word) : Dev := d.gated i TMB_OFFSHI v (fun _ e => e.setOffset i v)

/-- HOLDOVER_ENTRY: no discipline write for HOLDT ms (R613). -/
def Dev.holdoverEntry (d : Dev) (t : Nat) : Dev :=
  let d0 := d.at t
  if d0.fld TMB_STAT 0 1 0 = 1 ∧ d0.tmb.disciplined + max 1 (d0.fld TMB_HOLD 0 15 0) * 1000000 ≤ t then
    (d0.setFld TMB_STAT 0 1 0 2).ev 0x09 4
  else d0

/-- The value an alarm is set to. -/
def Dev.alarmAt (d : Dev) (a : Nat) : Nat := (d.rd (TMB_ALMHI a) 0).toNat * 2 ^ 32 + (d.rd (TMB_ALMLO a) 0).toNat

/-- An armed alarm that T has reached fires once (R614). -/
def Dev.alarmCheck (d : Dev) (a : Nat) : Dev :=
  if a < 4 ∧ d.tmb.armed.testBit a ∧ d.alarmAt a ≤ d.time then
    { d.ev 0x09 a with tmb := { d.tmb with armed := d.tmb.armed - 2 ^ a } }
  else d

/-- A write to TMB_ALMaHI arms alarm a; one at or below T fires at once (R614). -/
def Dev.setAlarm (e : Dev) (a : Nat) (v : Word) : Dev :=
  ({ e.wr (TMB_ALMHI a) 0 v with tmb := { e.tmb with armed := e.tmb.armed ||| 2 ^ a } }).alarmCheck a

/-- ALARM_ARM: that write through its gate. -/
def Dev.alarmArm (d : Dev) (i : Initiator) (a : Nat) (v : Word) : Dev :=
  d.gated i (TMB_ALMHI (a % 4)) v (fun _ e => e.setAlarm (a % 4) v)

/-- ALARM_FIRE: T reaches an armed alarm (R614). -/
def Dev.alarmFire (d : Dev) (t a : Nat) : Dev := (d.at t).alarmCheck a

/-- A hart's machine timer interrupt is pending while T is at or above PIC_MTCMPh (R593). -/
def Dev.timerDue' (d : Dev) (h : Nat) : Bool :=
  decide ((d.rd (PIC_MTCMPHI h) 0).toNat * 2 ^ 32 + (d.rd (PIC_MTCMPLO h) 0).toNat ≤ d.time)

/-- Show which harts' timer interrupts are pending. -/
def Dev.timers (d : Dev) : Dev :=
  { d with cmp := { d.cmp with mtip := (List.range 4).foldl (fun s h => if d.timerDue' h then s + 2 ^ h else s) 0 } }

/-- MACHINE_TIMER_INTERRUPT: T reaches a hart's PIC_MTCMPh (R593). -/
def Dev.machineTimer (d : Dev) (t : Nat) : Dev := (d.at t).timers

end Sys2Proof.Machine
end

