-- ==== Sys2Proof/Machine/Uart.lean ====
section
/-! DEFINITION. RS-485 ports (spec/13_vehicle_and_field_links.md, R552-R555, R559). -/
namespace Sys2Proof.Machine

/-- A UART's working state. -/
def Dev.ser (d : Dev) (n : Nat) : SerRec := kvGet d.ports.ser n {}
/-- Replace it. -/
def Dev.setSer (d : Dev) (n : Nat) (x : SerRec) : Dev := { d with ports := { d.ports with ser := kvSet d.ports.ser n x {} } }

/-- A UART runs: at Normal, Limp and Hold (R555). -/
def Dev.serOn (d : Dev) (n : Nat) : Bool :=
  decide (n < d.variant.uarts) && d.up .link && decide (d.level ≠ .standby) && d.bit SER_CFG n 31

/-- The bit rate, held to its limits. -/
def Dev.serRate (d : Dev) (n : Nat) : Nat := clampN (d.fld SER_BAUD n 23 0) 300 10000000

/-- The bits of a character, start and stop bits included (R552). -/
def Dev.serChar (d : Dev) (n : Nat) : Nat :=
  1 + (if d.bit SER_CFG n 8 then 7 else 8) + b2n (decide (d.fld SER_CFG n 13 12 ≠ 0)) + (if d.bit SER_CFG n 16 then 2 else 1)

/-- k bit times in ns. -/
def Dev.serBits (d : Dev) (n k : Nat) : Nat := k * 1000000000 / d.serRate n

/-- SER_STAT shows the FIFO counts, and whether the transmitter is empty. -/
def Dev.serShow (d : Dev) (n : Nat) : Dev :=
  let x := d.ser n
  ((d.setFld SER_STAT n 6 0 x.rx.length).setFld SER_STAT n 14 8 x.tx.length).setBit SER_STAT n 18
    (d.bit SER_CFG n 31 && x.tx.isEmpty && (!x.de || decide (x.txAt ≤ d.time)))

/-- The bytes whose start bit has begun leave the transmit FIFO. -/
def Dev.serDrain (d : Dev) (n : Nat) : Dev :=
  let x := d.ser n
  if !(d.serOn n && x.de) then d
  else
    let y := x.tx.foldl (fun (y : SerRec) _ =>
      if y.txAt ≤ d.time then { y with tx := y.tx.drop 1, txAt := y.txAt + d.serBits n (d.serChar n) } else y) x
    (d.setSer n y).serShow n

/-- With a byte to send and no character in flight the UART drives SERn_DE high, and sends DEPRE bit times later (R553). -/
def Dev.serStart (d : Dev) (n : Nat) : Dev :=
  let x := d.ser n
  if d.serOn n && !x.tx.isEmpty && (!x.de || (decide (x.tx.length = 1) && decide (x.txAt ≤ d.time))) then
    (d.setSer n { x with de := true, txAt := d.time + d.serBits n (d.fld SER_DE n 15 8) }).serShow n
  else d.serShow n

/-- A byte to send; ignored while the FIFO is full. -/
def Dev.serSend (d : Dev) (n : Nat) (v : Word) : Dev :=
  let d1 := d.serDrain n
  let x := d1.ser n
  if 64 ≤ x.tx.length then d1 else (d1.setSer n { x with tx := x.tx ++ [w8 v.toNat] }).serStart n

/-- UART_TX_WRITE: a write to SER_TX. -/
def Dev.uartTxWrite (d : Dev) (i : Initiator) (v : Word) : Dev := d.gated i SER_TX v (fun n e => e.serSend n v)

/-- UART_TX_DONE: DEPOST bit times after the last stop bit SERn_DE goes low (R553). -/
def Dev.uartTxDone (d : Dev) (t n : Nat) : Dev :=
  let d1 := (d.at t).serDrain n
  let x := d1.ser n
  if d1.serOn n && x.de && x.tx.isEmpty && decide (x.txAt + d1.serBits n (d1.fld SER_DE n 7 0) ≤ t) then
    ((d1.setSer n { x with de := false }).serShow n).ev 0x74 2
  else d1

/-- UART_RX_CHAR: a character arrives, with its parity, framing and break marks (R552, R553). -/
def Dev.uartRxChar (d : Dev) (t n : Nat) (ch : Byte) (perr ferr brk : Bool) : Dev :=
  let d1 := (d.at t).serDrain n
  let x := d1.ser n
  if !d1.serOn n || (x.de && !d1.bit SER_CFG n 24) then d1
  else
    let d2 := (d1.setSer n { x with rxAt := some t }).setBit SER_STAT n 16 false
    if 64 ≤ x.rx.length then (d2.setBit SER_STAT n 17 true).ev 0x74 3
    else
      let c := if d2.bit SER_CFG n 8 then ch.toNat % 128 else ch.toNat
      let w := w32 (0x8000 + b2n brk * 0x400 + b2n ferr * 0x200 + b2n perr * 0x100 + c)
      ((d2.setSer n { d2.ser n with rx := x.rx ++ [w] }).serShow n).ev 0x74 0

/-- What a read of SER_RX gives: with VALID 1 the byte leaves the FIFO (Table 13.7). -/
def Dev.serPop (d : Dev) (n : Nat) : Word × Dev :=
  let x := d.ser n
  match x.rx with
  | [] => (0, d)
  | w :: r => (w, (d.setSer n { x with rx := r }).serShow n)

/-- UART_IDLE: the line has been idle for IDLE x 0.5 character times after a received character (R554). -/
def Dev.uartIdle (d : Dev) (t n : Nat) : Dev :=
  let d1 := (d.at t).serDrain n
  let k := d1.fld SER_TMO n 7 0
  match (d1.ser n).rxAt with
  | none => d1
  | some s =>
    if d1.serOn n ∧ k ≠ 0 ∧ s * 2 + d1.serBits n (k * d1.serChar n) ≤ t * 2 then
      ((d1.setSer n { d1.ser n with rxAt := none }).setBit SER_STAT n 16 true).ev 0x74 1
    else d1

end Sys2Proof.Machine
end

