-- ==== Sys2Proof/Machine/Xspi.lean ====
section
/-! DEFINITION. The xSPI ports (spec/15_compute_island.md, R600-R602): commands and held reads. -/
namespace Sys2Proof.Machine

/-- A port's registers stand at the same offsets of pages 0x1C and 0x1D. -/
def xspReg (p off reset : Nat) : Reg := ⟨0x1C + p, off, w32 reset⟩
/-- XSP_CMD. -/
def xspCmd (p : Nat) : Reg := xspReg p 0x044 0
/-- XSP_STAT. -/
def xspStat (p : Nat) : Reg := xspReg p 0x054 0

/-- The reads held at a port. -/
def Dev.xspHeld (d : Dev) (p : Nat) : List HeldRead := if p = 0 then d.cmp.xsp0.held else d.cmp.xsp1.held
/-- Replace them. -/
def Dev.setXspHeld (d : Dev) (p : Nat) (l : List HeldRead) : Dev :=
  if p = 0 then { d with cmp := { d.cmp with xsp0 := { held := l } } } else { d with cmp := { d.cmp with xsp1 := { held := l } } }

/-- A command or its polling runs. -/
def Dev.xspBusy (d : Dev) (p : Nat) : Bool := d.bit (xspStat p) 0 0

/-- A write of XSP_CMD: with GO a command starts, unless one runs (R601). -/
def Dev.xspWrite (d : Dev) (p : Nat) (v : Word) : Dev :=
  if d.xspBusy p then d
  else
    let d1 := d.wr (xspCmd p) 0 (v &&& 0x83FFFFFF)
    if bitOf v 31 then d1.setBit (xspStat p) 0 0 true else d1

/-- XSPI_COMMAND: a write of XSP_CMD with GO, on port 0 or 1. -/
def Dev.xspiCommand (d : Dev) (i : Initiator) (p : Nat) (v : Word) : Dev :=
  d.gated i (xspCmd (p % 2)) (v ||| 0x80000000) (fun _ e => e.xspWrite (p % 2) (v ||| 0x80000000))

/-- The word that a read of n bytes gives an initiator; a 64-bit read shows its low word. -/
def Sys.readWord (s : Sys) (a n : Nat) : Word := w32 (memNat s.mem a (min n 4))

/-- XSPI_COMMAND_DONE: the command and its polling end; the bytes the device answered a read command with, and the changes
that it made to its array; held reads proceed (R601). -/
def Sys.xspiCommandDone (s : Sys) (t p : Nat) (data : List Byte) (changes : List (Nat × Byte)) : Sys :=
  let p := p % 2
  let s0 := s.onDev (·.at t)
  if !(s0.dev.up .compute && s0.dev.xspBusy p) then s0
  else
    let base := if p = 0 then 0x20000000 else 0x30000000
    let s1 := s0.each changes (fun c q => if c.1 < 0x10000000 then q.store (base + c.1) [c.2] else q)
    let cmd := s1.dev.rd (xspCmd p) 0
    let n := min 8 (bits cmd 23 20)
    let d1 := if !bitOf cmd 24 ∧ n ≠ 0 then
        let bs := slice data 0 n
        (s1.dev.wr (xspReg p 0x04C 0) 0 (w32 (leNat (bs.take 4)))).wr (xspReg p 0x050 0) 0 (w32 (leNat (bs.drop 4)))
      else s1.dev
    let d2 := ((d1.setBit (xspCmd p) 0 31 false).setBit (xspStat p) 0 0 false).ev (0x1C + p) 0
    let d3 := d2.each (d2.xspHeld p) (fun h e => e.answer h.init false (s1.readWord h.addr h.size))
    { s1 with dev := d3.setXspHeld p [] }

/-- XSPI_READ_TIMEOUT: a read held for RDTMO us gets a bus error (R601). -/
def Dev.xspiReadTimeout (d : Dev) (t p : Nat) : Dev :=
  let p := p % 2
  let d0 := d.at t
  let lim := (d0.rd (xspReg p 0x05C 0x186A0) 0).toNat * 1000
  let late := fun (h : HeldRead) => decide (h.since + lim ≤ t)
  if (d0.xspHeld p).any late then
    let d1 := d0.each ((d0.xspHeld p).filter late) (fun h e => e.answer h.init true 0)
    ((d1.setXspHeld p ((d1.xspHeld p).filter (fun h => !late h))).setBit (xspStat p) 0 8 true).ev (0x1C + p) 1
  else d0

end Sys2Proof.Machine
end

