-- ==== Sys2Proof/Machine/Bus.lean ====
section
/-! DEFINITION. The bus: what a write does at the register it reaches, what a read answers, and every other access to the
address map (spec/02_register_model.md). A register with an effect of its own takes the meaning its command has; every other
register takes the write field by field (R749). -/
namespace Sys2Proof.Machine

/-! ### Common registers (Table 2.4) -/

/-- The number of event bits of a page: BLK_EVF, BLK_EVS and BLK_EVE hold these bits and no others. -/
def evBits (page : Nat) : Nat :=
  match page with
  | 0x00 | 0x05 | 0x13 | 0x19 | 0x1E | 0x1F | 0x21 | 0x22 | 0x5A | 0x5C => 1
  | 0x03 | 0x07 | 0x0A | 0x11 | 0x1C | 0x1D | 0x29 | 0x38 | 0x58 | 0x5E | 0x6C | 0x0B => 2
  | 0x01 | 0x1B | 0x20 | 0x3C => 3
  | 0x04 => 7
  | 0x09 => 8
  | 0x10 => 1
  | 0x12 => 5
  | 0x1A | 0x24 | 0x3E | 0x40 | 0x68 | 0x74 | 0x78 => 4
  | 0x28 | 0x75 => 6
  | 0x48 | 0x50 => 9
  | 0x60 | 0x64 | 0x6E => 7
  | 0x72 => 6
  | _ => 0

/-- A write of 1 to a BLK_EVS bit sets the flag as the event would (R58). -/
def Dev.eventWrite (d : Dev) (page : Nat) (v : Word) : Dev := d.each (maskList v.toNat (evBits page)) (fun n e => e.ev page n)

/-- BLK_LOCK bit 0 is set for good (R63, R64). -/
def Dev.lockWrite (d : Dev) (page : Nat) (v : Word) : Dev := if bitOf v 0 then d.setBit (BLK_LOCK page) 0 0 true else d

/-- BLK_CHSEL of the initiator takes INST (R72-R74). -/
def Dev.chselWrite (d : Dev) (i : Initiator) (page : Nat) (v : Word) : Dev := d.wrI (BLK_CHSEL page) i (v &&& 0xFF)

/-- A write to a common register. -/
def Dev.commonWrite (d : Dev) (i : Initiator) (page off : Nat) (v : Word) : Dev :=
  let m := w32 (2 ^ evBits page - 1)
  match off with
  | 0x010 => d.wr (BLK_EVF page) 0 (d.rd (BLK_EVF page) 0 &&& ~~~(v &&& m))
  | 0x014 => d.eventWrite page v
  | 0x018 => d.wr (BLK_EVE page) 0 (v &&& m)
  | 0x01C => if bitOf v 31 then d.setBit (BLK_ERR page) 0 31 false else d
  | 0x020 => d.chselWrite i page v
  | 0x024 => d.lockWrite page v
  | _ => d

/-! ### Registers that take no plain write -/

/-- What a write that reaches its register outside its own command meets and no state shows: a free bit. -/
def Dev.freeBit (d : Dev) : Bool × Dev :=
  let (w, d1) := d.free 749
  (bitOf w 0, d1)

/-- A write with one free observation. -/
def Sys.withBit (s : Sys) (f : Bool → Sys → Sys) : Sys :=
  let (b, d1) := s.dev.freeBit
  f b { s with dev := d1 }

/-- VEHICLE_REQUEST_WRITE at ARB_VREQ: the claim that stands from the next boundary (R212); a lapse ends (R30, R713). -/
def Dev.vreqWrite (d : Dev) (i : Initiator) (o : Nat) (v : Word) : Dev :=
  let d1 := d.fieldsWrite i 0x38 0x454 o false v
  d1.setArbR o { d1.arbR o with vreqDead := false, vreqFrom := none }

/-- The meaning of a write at a register with an effect of its own, in the order of the pages; none for a plain register. -/
def Sys.command (s : Sys) (i : Initiator) (page off inst : Nat) (inTxn : Bool) (v : Word) : Option Sys :=
  let on (f : Dev → Dev) : Option Sys := some (s.onDev f)
  match page * 4096 + off with
  | 0x00060 => on (fun d => d.fence i)
  | 0x02040 => on (fun d => d.askProfile (bits v 1 0))
  | 0x02044 => on (fun d => d.levelWrite v)
  | 0x0204C => on (fun d => d.causeWrite v)
  | 0x03048 => some (s.swReset i v {})
  | 0x03050 => on (fun d => d.dwdKick i v)
  | 0x03058 => on (fun d => d.cwdKick i v)
  | 0x0305C => some (s.restartsAsked i v)
  | 0x05048 => some (s.withBit (fun b q => q.repairWrite i v b))
  | 0x06040 => on (fun d => d.txnBegin i v)
  | 0x06044 => on (fun d => d.txnCommit i v)
  | 0x06048 => on (fun d => d.txnAbort i v)
  | 0x07074 => on (fun d => d.swPut i v)
  | 0x09048 => on (fun d => d.setRate i v)
  | 0x09050 => on (fun d => d.setOffset i v)
  | 0x09064 => on (fun d => d.setAlarm 0 v)
  | 0x0906C => on (fun d => d.setAlarm 1 v)
  | 0x09074 => on (fun d => d.setAlarm 2 v)
  | 0x0907C => on (fun d => d.setAlarm 3 v)
  | 0x0B048 => on (fun d => d.swoPut v)
  | 0x10044 => some (s.lcAsk i v)
  | 0x1004C => some (s.lcExecute i v (2 ^ 4096 - 1) {})
  | 0x10068 => on (fun d => d.relock v)
  | 0x1006C => some (s.ownerBlow v (2 ^ 4096 - 1))
  | 0x11400 => on (fun d => d.ncfgWrite i inst v)
  | 0x1141C => if bitOf v 0 then some (s.withBit (fun b q => q.onDev (fun d => d.genInc q.rootKey i inst b))) else some s
  | 0x13060 => on (fun d => d.extend v)
  | 0x130B0 => on (fun d => d.svnRaise v)
  | 0x1C044 => on (fun d => d.xspWrite 0 v)
  | 0x1D044 => on (fun d => d.xspWrite 1 v)
  | 0x1E040 => on (fun d => d.mbxAsk i 0 v)
  | 0x1F040 => on (fun d => d.mbxAsk i 1 v)
  | 0x1E04C => on (fun d => d.mbxRelease i 0 v)
  | 0x1F04C => on (fun d => d.mbxRelease i 1 v)
  | 0x21040 => on (fun d => d.calStart i v)
  | 0x22040 => on (fun d => d.snapRequest v)
  | 0x24400 => on (fun d => d.cabLcfg i inst inTxn v)
  | 0x29040 => on (fun d => d.tunCtl i v)
  | 0x38454 => on (fun d => d.vreqWrite i inst v)
  | 0x3E410 => on (fun d => d.modctl i inst v)
  | 0x40044 => on (fun d => d.swTrigger v)
  | 0x41418 => on (fun d => d.readReport inst v)
  | 0x42040 => on (fun d => d.sqctl i 0 v)
  | 0x43040 => on (fun d => d.sqctl i 1 v)
  | 0x44040 => on (fun d => d.sqctl i 2 v)
  | 0x45040 => on (fun d => d.sqctl i 3 v)
  | 0x47040 => on (fun d => if d.simple then d.stcfg i v else d)
  | 0x5804C => on (fun d => d.askTripReset v)
  | 0x5A408 => on (fun d => d.prstWrite inst v)
  | 0x5C404 => some (s.withBit (fun b q => q.onDev (fun d => d.outCtl inst v (if b then 10000000 else 0))))
  | 0x62418 => on (fun d => d.ackWrite inst v)
  | 0x63418 => on (fun d => d.coolWrite inst v)
  | 0x64420 => on (fun d => d.lswWrite i inst v)
  | 0x6841C => on (fun d => d.vlkPoll s.mem inst v)
  | 0x68424 => on (fun d => d.attenWrite inst v)
  | 0x6C404 => on (fun d => (d.fieldsWrite i page off inst inTxn v).pilGenerate inst)
  | 0x6E410 => some (s.withBit (fun b q => q.withBit (fun c r => r.onDev (fun d => d.canCtl i inst v b c))))
  | 0x71460 => on (fun d => d.canPush i inst v)
  | 0x7340C => on (fun d => d.plcCtl i inst v)
  | 0x74410 => on (fun d => d.serSend inst v)
  | 0x75044 => on (fun d => d.askHandover v)
  | 0x7940C => on (fun d => d.ethPoll s.mem i inst v)
  | k => if 0x19044 ≤ k ∧ k < 0x19084 ∧ (k - 0x19044) % 8 = 0 then on (fun d => d.completeSource ((k - 0x19044) / 8) v) else none

/-! ### Plain registers: refusals, and what follows from a write -/

/-- Writes that a block's own rules refuse, recorded with KIND 7. -/
def Dev.blockRefuses (d : Dev) (page off inst : Nat) (v : Word) : Bool :=
  d.acqFrozen page off inst ||
  match page * 4096 + off with
  | 0x0904C | 0x09054 => d.following
  | 0x29044 | 0x29048 | 0x2904C | 0x2A400 => decide (d.tunState = 1)
  | 0x40400 => decide (bits v 1 0 = 3)
  | 0x60400 => decide (2 ≤ bits v 25 24)
  | 0x68400 => d.vlkRefuses inst v
  | 0x6E400 | 0x6E404 | 0x6E408 => d.canRefuses off inst v
  | 0x72400 => d.plmRefuses inst v
  | 0x73400 => d.plcRefuses inst v
  | 0x74400 => decide (bits v 13 12 = 3)
  | 0x79400 | 0x79404 | 0x79408 => d.ethRefuses inst
  | k => decide (0x11400 ≤ k ∧ k < 0x12000) && decide (inst < 3)

/-- A write of 1 to OLOFFEN where off-state detection is absent (R517). -/
def Dev.noOloffen (d : Dev) (page off : Nat) (v : Word) : Bool :=
  decide (page = 0x64) && decide (off = 0x400) && decide (d.variant ≠ .px4840) && bitOf v 24

/-- The word that a register takes from a write: OLOFFEN stays 0 where off-state detection is absent (R517), an SDM channel's
ACQ_CHCFG reads 0 (Table 7.7). -/
def Dev.taken (d : Dev) (page off inst : Nat) (v : Word) : Word :=
  if d.noOloffen page off v then v &&& 0xFEFFFFFF
  else if page = 0x40 ∧ off = 0x400 ∧ inst < d.variant.sdInputs then 0
  else v

/-- What stands before a write that changes how a running count is taken. -/
def Dev.beforeWrite (d : Dev) (page off inst : Nat) : Dev :=
  match page * 4096 + off with
  | 0x0B044 => d.swoDrain
  | 0x74400 | 0x74404 => d.serDrain inst
  | _ => d

/-- The fault recorder lets go of its unit when EN falls (R281, R282). -/
def Dev.fltChanged (d : Dev) : Dev :=
  let u := d.faultUnit
  if d.bit ACQ_FLTCFG 0 0 ∨ ¬ (d.unit u).running then d
  else ((d.setUnit u { d.unit u with running := false, pods := [], hist := [] }).wr ACQ_FLTSTAT 0 0).acqShow

/-- What follows from a plain write: `was` is the register before it. -/
def Dev.afterWrite (d : Dev) (page off inst : Nat) (was : Word) : Dev :=
  let now := d.rd (regAt d.variant page off) inst
  match page * 4096 + off with
  | 0x02050 => d.faultPin
  | 0x0304C => { d with pwr := { d.pwr with dwdSince := d.time } }
  | 0x03054 => { d with pwr := { d.pwr with cwdSince := d.time } }
  | 0x12040 | 0x12044 | 0x12048 | 0x1A040 | 0x1A044 | 0x1A048 | 0x1B040 | 0x1B044 | 0x1B048 => d.engWritten page off
  | 0x190A0 | 0x190A4 | 0x190A8 | 0x190AC | 0x190B0 | 0x190B4 | 0x190B8 | 0x190BC => d.timers
  | 0x20040 => (d.showClocks was).sealTouched page off
  | 0x20400 => (if (was ^^^ now) &&& 3 ≠ 0 then d.startSettle inst else d).sealTouched page off
  | 0x20404 => (if was ≠ now then d.startSettle inst else d).sealTouched page off
  | 0x46040 => d.fltChanged
  | 0x63400 => d.each (List.range d.variant.loadSwitches) (fun n e => e.lswShow n)
  | 0x64400 | 0x6441C => d.lswShow inst
  | 0x68400 | 0x68410 | 0x68414 | 0x68418 => d.vlkChanged off inst
  | 0x6C400 => d.pilEnabled inst (bitOf was 31)
  | 0x72400 => d.plmChanged inst
  | 0x73400 => d.plcEnabled inst (bitOf was 31)
  | 0x74400 | 0x74404 => d.serStart inst
  | 0x79400 | 0x79404 | 0x79408 => d.ethChanged inst
  | _ => d

/-- A write to a plain register. -/
def Dev.plainWrite (d : Dev) (i : Initiator) (page off inst : Nat) (inTxn : Bool) (v : Word) : Dev :=
  if d.blockRefuses page off inst v then d.err (errPage page) 7 i off
  else if d.ownerFrozen page off then d
  else
    let d1 := d.beforeWrite page off inst
    let was := d1.rd (regAt d.variant page off) inst
    let d2 := (d1.fieldsWrite i page off inst inTxn (d1.taken page off inst v)).afterWrite page off inst was
    if d.noOloffen page off v then d2.err (errPage page) 7 i off else d2

/-- What a write does at the register it reaches, once its gate has passed it. -/
def Sys.act (s : Sys) (i : Initiator) (page off inst : Nat) (inTxn : Bool) (v : Word) : Sys :=
  if off < 0x040 ∧ page < 0x100 then s.onDev (fun d => d.commonWrite i page off v)
  else if 0x48 ≤ page ∧ page ≤ 0x57 then s.onDev (fun d => d.metroWrite i page off inst v)
  else match s.command i page off inst inTxn v with
    | some q => q
    | none => s.onDev (fun d => d.plainWrite i page off inst inTxn v)

/-! ### Writes -/

/-- An address of a register page or coefficient block that is on the map and aligned. -/
def onMap (page off : Nat) : Bool :=
  decide (off < 4096) && decide (off % 4 = 0) && (decide (page < 0x80) || (decide (0x100 ≤ page) && decide (page < 0x180)))

/-- An access that the register pages do not accept: no effect, a bus error, and KIND 6 at a page that is there (R55). -/
def Dev.badAccess (d : Dev) (i : Initiator) (page off : Nat) : Dev :=
  let d1 := d.answer i true 0
  if d.reaches i page && pagePresent d.variant (errPage page) then d1.err (errPage page) 6 i off else d1

/-- An initiator's write of a word to a register or coefficient word, through its gate (R50-R97). -/
def Sys.write (s : Sys) (i : Initiator) (page off : Nat) (v : Word) : Sys :=
  if !onMap page off then s.onDev (fun d => d.badAccess i page (off % 4096))
  else s.gatedAt i page off (s.dev.instOf i page off) true v (fun n q => q.act i page off n false v)

/-- A write that was held back takes effect, or is refused as at any other time (R97). -/
def Sys.late (s : Sys) (w : PendWrite) : Sys :=
  let d := s.dev
  if d.locked w.page w.off then s.onDev (fun e => e.err (errPage w.page) 3 w.init w.off)
  else if d.denied w.init w.page w.off then s.onDev (fun e => e.err (errPage w.page) 2 w.init w.off)
  else if d.mirrorHeld w.init w.page then s.onDev (fun e => e.err (errPage w.page) 7 w.init w.off)
  else
    let send := d.mirrors w.init w.page w.off
    (s.act w.init w.page w.off w.inst false w.val).onDev (fun e =>
      if send then { e with pair := { e.pair with mirrorOut := e.pair.mirrorOut ++ [w] } } else e)

/-- A held write may take effect: its island runs, and it does not stand behind a fence. -/
def Dev.free? (d : Dev) (w : PendWrite) : Bool := d.up (pageIsland w.page) && !(w.behind && d.fenced w.init)

/-- One held write in issue order: it takes effect where it may, else it stays held. `again` are the initiators whose next fence
write has just taken effect: their later writes stand behind that fence (R96). -/
def Sys.releaseOne (p : Sys × List Initiator) (w : PendWrite) : Sys × List Initiator :=
  let (s, again) := p
  let w1 := if again.contains w.init then { w with behind := true } else w
  if s.dev.free? w1 then (s.late w1, if w.page = 0x00 ∧ w.off = 0x060 then w.init :: again else again)
  else (s.onDev (fun d => { d with txn := { d.txn with held := d.txn.held ++ [w1] } }), again)

/-- The held writes that may take effect now do so, in issue order (R96, R97). -/
def Sys.releaseWrites (s : Sys) : Sys :=
  (s.dev.txn.held.foldl Sys.releaseOne (s.onDev (fun d => { d with txn := { d.txn with held := [] } }), [])).1

/-! ### Reads -/

/-- The LO registers whose read latches the HI register, as the offset of HI (R751). -/
def hiOf (page off : Nat) : Option Nat :=
  match page * 4096 + off with
  | 0x09040 | 0x28044 | 0x4804C | 0x49400 | 0x49408 | 0x49430 | 0x49438 | 0x58430 | 0x6C414 | 0x72050 | 0x72058 | 0x72060
  | 0x734A0 | 0x52480 | 0x52488 | 0x54050 | 0x54060 => some (off + 4)
  | k =>
    if 0x52400 ≤ k ∧ k < 0x52480 ∧ k % 8 = 0 then some (off + 4)
    else if 0x54400 ≤ k ∧ k < 0x54420 ∧ k % 8 = 0 then some (off + 4)
    else none

/-- BLK_PAGEID (Table 2.5). -/
def pageId (p : PageInfo) (page : Nat) : Word := w32 (page * 2 ^ 24 + p.code * 2 ^ 16 + p.sub * 2 ^ 12 + 16)

/-- The feature bits of a page (BLK_CAP.FEAT). -/
def featOf (v : Variant) (p : PageInfo) : Nat := match v with | .px4840 => p.feat40 | .px4824 => p.feat24 | .px4812 => p.feat12

/-- BLK_CAP (Table 2.6). -/
def pageCap (v : Variant) (p : PageInfo) (page : Nat) : Word :=
  let rows := (pageRows page).filter (fun r => !r.only12 || decide (v = .px4812))
  let inst := (instCount v page).getD 0
  w32 (inst % 256 * 2 ^ 24 + b2n (instCount v page).isSome * 2 ^ 23 + b2n (rows.any (fun r => decide (r.txn ≠ 0))) * 2 ^ 22 +
    b2n (rows.any (fun r => decide (r.sealed ≠ 0))) * 2 ^ 21 + featOf v p)

/-- A register that hardware computes at the read: its value, and the state after it. -/
def Sys.computed (s : Sys) (page off inst : Nat) : Option (Word × Sys) :=
  let d := s.dev
  let val (w : Word) : Option (Word × Sys) := some (w, s)
  match page * 4096 + off with
  | 0x01400 => let d1 := d.measureClock inst; some (d1.rd CLK_IFREQ inst, { s with dev := d1 })
  | 0x01404 => val (w32 (d.nominalKhz inst))
  | 0x09040 => val (w32 d.time)
  | 0x09044 => val (w32 (d.time / 2 ^ 32))
  | 0x03068 => val (w32 (min 3 (d.pwr.safetyResets.filter (fun x => decide (d.time ≤ x + 600000000000))).length))
  | 0x0A040 => val d.nvmStat
  | 0x0A044 => val d.nvmRefpos
  | 0x0B04C => let d1 := d.swoDrain; some (w32 (d1.sys.swo.length + 256 * b2n (d1.bit DBG_SWOSTAT 0 8)), { s with dev := d1 })
  | 0x2040C => val (d.gdctl inst)
  | 0x2841C => val (w32 (d.satTime inst))
  | 0x3F404 => val (d.mvTime inst)
  | 0x50058 => val (w32 (d.mtime d.time))
  | 0x58040 => val d.safStat
  | 0x68040 => val d.vlkActsum
  | 0x72068 => val d.zcPer
  | 0x74414 => let (w, d1) := d.serPop inst; some (w, { s with dev := d1 })
  | 0x74418 => let d1 := d.serDrain inst; some (d1.rd SER_STAT inst, { s with dev := d1 })
  | 0x75060 => val 0
  | 0x75070 => val d.hbAge
  | k =>
    if 0x08080 ≤ k ∧ k < 0x080C0 then val (s.logWord ((k - 0x08080) / 4))
    else if 0x13080 ≤ k ∧ k < 0x130A0 then val (d.measWord ((k - 0x13080) / 4))
    else if 0x180C0 ≤ k ∧ k < 0x180E0 then val (d.picPend ((k - 0x180C0) / 4))
    else if 0x19044 ≤ k ∧ k < 0x19084 ∧ (k - 0x19044) % 8 = 0 then
      let (w, d1) := d.claimSource ((k - 0x19044) / 8)
      some (w, { s with dev := d1 })
    else none

/-- What a read of a present register gives its initiator, before the latches of LO and HI words. -/
def Sys.value (s : Sys) (i : Initiator) (page off inst : Nat) : Word × Sys :=
  let d := s.dev
  if off < 0x040 ∧ page < 0x100 then
    (match off with
      | 0x000 => (pageInfo page).elim 0 (fun p => pageId p page)
      | 0x004 => (pageInfo page).elim 0 (fun p => pageCap d.variant p page)
      | 0x014 => 0
      | 0x020 => d.rdI (BLK_CHSEL page) i
      | _ => d.rd (regAt d.variant page off) 0, s)
  else match s.computed page off inst with
    | some r => r
    | none =>
      match rowOf d.variant page off with
      | none => (0, s)
      | some r =>
        let b := if r.banked then i.id else 0
        let reg := regAt d.variant page off
        let w := d.rdB reg inst b
        (w, if r.rc = 0 then s else s.onDev (fun e => e.wrB reg inst b (w &&& ~~~r.rc)))

/-- An initiator's write to a page is held back. -/
def Dev.holdsWrite (d : Dev) (i : Initiator) (page : Nat) : Bool := d.txn.held.any (fun w => decide (w.init = i) && decide (w.page = page))

/-- After a BISTHOLD the debug port alone reads what the failed run left on the BST page, until a boot passes (R701). -/
def Dev.bistShown (d : Dev) (i : Initiator) (page : Nat) : Bool :=
  decide (page = 0x05) && decide (i = .debug) && d.bit RST_CAUSE 0 10 && decide (d.pwr.phase ≠ .running)

/-- A read of a present register that no write waits for: a HI word as this initiator's last read of its LO word latched it
(R751); a free value from a page whose island does not run (log entry 146). -/
def Sys.readNow (s : Sys) (i : Initiator) (page off inst : Nat) : Sys :=
  let d := s.dev
  if !d.up (pageIsland page) && !d.bistShown i page then
    let (w, d1) := d.free 95
    { s with dev := d1.answer i false w }
  else
    let (w, s1) := s.value i page off inst
    let loKey := ((regAt d.variant page (off - 4)).key inst i.id)
    let w1 : Word := if 4 ≤ off ∧ hiOf page (off - 4) = some off then
        (match d.hi.find? (fun p => decide (p.1 = loKey)) with | some p => p.2 | none => w) else w
    s1.onDev (fun e =>
      let e1 : Dev := match hiOf page off with
        | some h => { e with hi := kvPut e.hi ((regAt e.variant page off).key inst i.id) (s1.value i page h inst).1 }
        | none => e
      e1.answer i false w1)

/-- A read: 0 from an absent page or instance (R5, R7); behind a held write of the initiator to the page it waits, and answers
once that write has taken effect (R95). -/
def Sys.readReg (s : Sys) (i : Initiator) (page off : Nat) : Sys :=
  let d := s.dev
  let inst := d.instOf i page off
  if !onMap page off then s.onDev (fun e => e.badAccess i page (off % 4096))
  else if !d.reaches i page && !d.bistShown i page then s.onDev (fun e => e.answer i true 0)
  else if d.isAbsent page off inst then s.onDev (fun e => e.answer i false 0)
  else if d.holdsWrite i page then
    s.onDev (fun e => { e with txn := { e.txn with reads := e.txn.reads ++ [{ init := i, page, off, inst }] } })
  else s.readNow i page off inst

/-! ### Memory (Tables 2.1, 2.2 and 15.1) -/

/-- What the map holds at an access of n bytes from an address. -/
inductive Place where
  /-- A word of a register page or coefficient block: page and offset. -/
  | reg (page off : Nat)
  /-- Memory that the initiator may reach so. -/
  | mem
  /-- Capture RAM above the variant's capacity (R51). -/
  | absent
  /-- The map of xSPI port p. -/
  | xspi (p : Nat)
  /-- Nothing, or no right (R50). -/
  | none
  deriving DecidableEq, Repr

/-- An access lies inside a region. -/
def inside (lo hi a n : Nat) : Bool := decide (lo ≤ a) && decide (a + n ≤ hi)

/-- Where an access goes. -/
def Dev.place (d : Dev) (i : Initiator) (write atomic : Bool) (a n : Nat) : Place :=
  if inside 0x40000000 0x40080000 a n then .reg ((a - 0x40000000) / 4096) (a % 4096)
  else if inside 0x50000000 0x50080000 a n then .reg (0x100 + (a - 0x50000000) / 4096) (a % 4096)
  else if !d.reaches i 0 || decide (i = .mirror) || decide (n = 0) then .none
  else if inside 0x00000000 0x00010000 a n then (if write || atomic then .none else .mem)
  else if inside 0x08000000 0x09000000 a n then .mem
  else if inside 0x10000000 0x10400000 a n then
    (if atomic then .none else if inside 0x10000000 (0x10000000 + d.variant.captureBytes) a n then .mem else .absent)
  else if inside 0x14000000 0x14400000 a n then
    (if atomic || !([1, 2, 4, 8].contains n) || decide (a % n ≠ 0) || !d.nvmOk i write a then .none else .mem)
  else if inside 0x20000000 0x30000000 a n then
    (if write || atomic || decide (d.fld (xspReg 0 0x040 0x807) 0 31 24 = 0) ||
      decide (2 ^ d.fld (xspReg 0 0x040 0x807) 0 31 24 < a - 0x20000000 + n) then .none else .xspi 0)
  else if inside 0x30000000 0x40000000 a n then
    (if decide (d.fld (xspReg 1 0x040 0x807) 0 31 24 = 0) ||
      decide (2 ^ d.fld (xspReg 1 0x040 0x807) 0 31 24 < a - 0x30000000 + n) then .none else .xspi 1)
  else .none

/-- The damaged NVM word that an access reads, if any. -/
def Sys.badWord (s : Sys) (a n : Nat) : Option Nat :=
  if inside 0x14000000 0x14400000 a n then s.bad.find? (fun w => decide (w < a + n) && decide (a < w + 4)) else none

/-- A read of memory answers its low word, or a bus error where it meets a damaged NVM word (R68); a write stores the bytes, or
waits while a fence of its initiator has not completed (R96). -/
def Sys.memAccess (s : Sys) (i : Initiator) (write : Bool) (a n v : Nat) : Sys :=
  match (if write then none else s.badWord a n) with
  | some w => s.onDev (fun d => d.nvmUncorrectable (some i) w)
  | none =>
    let s1 := s.onDev (fun d => d.answer i false (s.readWord a n))
    if !write then s1
    else if s.dev.fenced i then
      s1.onDev (fun d => { d with txn := { d.txn with stores := d.txn.stores ++ [{ init := i, addr := a, size := n, val := v }] } })
    else s1.store a (leBytes n v)

/-- The memory writes whose initiator has no fence waiting any more take effect, in issue order (R96). -/
def Sys.releaseStores (s : Sys) : Sys :=
  let go := s.dev.txn.stores.filter (fun p => !s.dev.fenced p.init)
  let stay := s.dev.txn.stores.filter (fun p => s.dev.fenced p.init)
  (s.onDev (fun d => { d with txn := { d.txn with stores := stay } })).each go (fun p q => q.store p.addr (leBytes p.size p.val))

/-- The reads that no held write of their initiator to the page precedes any more answer now, once the page's island runs
(R95). -/
def Sys.releaseReads (s : Sys) : Sys :=
  let ready (r : PendRead) : Bool := !s.dev.holdsWrite r.init r.page && s.dev.up (pageIsland r.page)
  let go := s.dev.txn.reads.filter ready
  let stay := s.dev.txn.reads.filter (fun r => !ready r)
  (s.onDev (fun d => { d with txn := { d.txn with reads := stay } })).each go (fun r q => q.readNow r.init r.page r.off r.inst)

/-- What waited for an island or a fence and need wait no more takes effect: writes, then reads (R95-R97). -/
def Sys.releaseHeld (s : Sys) : Sys := s.releaseWrites.releaseStores.releaseReads

/-- An access of n bytes to the address map. One outside the map, without rights, misaligned or of the wrong size has no effect
and gets a bus error (R50, R52, R55, R587); an atomic access reads and, with `write`, stores the word it has computed. -/
def Sys.access (s : Sys) (i : Initiator) (write atomic : Bool) (a n v : Nat) : Sys :=
  match s.dev.place i write atomic a n with
  | .none => s.onDev (fun d => d.answer i true 0)
  | .absent => s.onDev (fun d => if write then (d.answer i false 0).absWrite a i 0 false else d.answer i false 0)
  | .mem => s.memAccess i write a n v
  | .xspi p =>
    if !write && s.dev.xspBusy p then
      s.onDev (fun d => d.setXspHeld p (d.xspHeld p ++ [{ init := i, addr := a, size := n, since := d.time }]))
    else s.memAccess i write a n v
  | .reg page off =>
    if atomic || decide (n ≠ 4) || decide (off % 4 ≠ 0) then s.onDev (fun d => d.badAccess i page off)
    else if write then s.write i page off (w32 v)
    else s.readReg i page off

end Sys2Proof.Machine
end

