-- ==== Sys2Proof/Machine/Control.lean ====
section
/-! DEFINITION. The loop-frame boundary with everything that applies at it (R181, R87-R89, R708, R709), the fences' completion
(R97), mirrored writes (R706), and the restarts and level changes after which held writes take effect. -/
namespace Sys2Proof.Machine

/-! ### The boundary (R181) -/

/-- Step 1: the frame counter, 0 at the first boundary after the control island leaves reset (R165). -/
def Dev.countFrame (d : Dev) : Dev :=
  let f := if d.loop.started then d.frame + 1 else 0
  let d1 := (d.wr LPE_FRAMELO 0 (w32 f)).wr LPE_FRAMEHI 0 (w32 (f / 2 ^ 32))
  { d1 with loop := { d1.loop with started := true, boundaryAt := d1.time } }

/-- A staged write is no longer permitted: its REASON, 0 where it is (R87). -/
def Dev.recheck (d : Dev) (w : PendWrite) : Nat := if d.locked w.page w.off then 3 else if d.sealBad w then 4 else 0

/-- The writes of a commit, in staging order (R88). -/
def Sys.applyWrites (s : Sys) (ws : List PendWrite) : Sys := s.each ws (fun w q => q.act w.init w.page w.off w.inst true w.val)

/-- The contexts whose registers or coefficients a list of writes touches. -/
def touchedContexts (ws : List PendWrite) : List Nat :=
  (ws.filterMap (fun w => if w.page = 0x28 ∧ 0x400 ≤ w.off then some w.inst else if 0x100 ≤ w.page then some (w.page - 0x100) else none)).eraseDups

/-- A commit that writes every word of a coefficient group of Table 4.16 makes it usable again (R175). -/
def Dev.groupsWritten (d : Dev) (ws : List PendWrite) (n : Nat) : Dev :=
  let x := d.ctxR n
  let whole (g : Nat) : Bool := (groupOffs g).all (fun o => ws.any (fun w => decide (w.page = 0x100 + n) && decide (w.off = o)))
  d.setCtxR n { x with badGroups := (List.range 9).foldl (fun m g => if m.testBit g && whole g then m - 2 ^ g else m) x.badGroups }

/-- A write goes to a slot or control register of an arbiter (R204): the arbiter. -/
def arbOf (w : PendWrite) : Option Nat :=
  if w.page = 0x38 ∧ ((0x400 ≤ w.off ∧ w.off < 0x420) ∨ w.off = 0x450) then some w.inst
  else if w.page = 0x39 ∧ ((0x040 ≤ w.off ∧ w.off < 0x060) ∨ w.off = 0x088) then some 16
  else none

/-- The value of a write's register. -/
def Dev.regOf (d : Dev) (w : PendWrite) : Word := d.rd (regAt d.variant w.page w.off) w.inst

/-- What follows from the writes of commits that have applied, `old` being the state before them: the contexts' states
(Table 4.10), usable coefficient groups, arbiters in their first frame (R204), the tuning session (R221), the schedule
and the frame period. -/
def Dev.afterCommit (d old : Dev) (ws : List PendWrite) : Dev :=
  let d1 := d.each (touchedContexts ws) (fun n e => (e.groupsWritten ws n).ctxCommitted n)
  let d2 := d1.each ws (fun w e => match arbOf w with
    | some a => if old.regOf w ≠ d.regOf w then e.setArbR a { e.arbR a with fresh := true } else e
    | none => e)
  let n := d2.tunCtx
  let moved := decide (old.rd LPE_CTXCFG n ≠ d.rd LPE_CTXCFG n) || decide (old.rd LPE_SRC n ≠ d.rd LPE_SRC n) ||
    decide (old.rd LPE_FRAMECFG 0 ≠ d.rd LPE_FRAMECFG 0)
  let d3 := if moved && decide (d2.tunState = 1) then d2.tunAbort 3 else d2
  d3.showSched.wr CAB_FPER 0 (w32 (d3.fld LPE_FRAMECFG 0 11 0 / 2))

/-- One commit at its boundary: abandoned where a target island has failed or more than 1 ms has passed since its validation
(R90), failed where a commit it was validated on has failed, where a staged write is no longer permitted (R87, R89), or where
the profile or a module's move now forbids it (R35, R231); else all its writes apply (R88). Log entry 158 marks what R89 and R90
leave open: that a commit both abandoned and doomed ends with RESULT 0x5, and that every end without applying dooms. -/
def Sys.commitApply (s : Sys) (c : Commit) : Sys :=
  let d := s.dev
  if d.targetDown c || decide (max (c.validAt.getD 0) (c.ackAt.getD 0) + 1000000 < d.time) then s.onDev (fun e => e.commitFails c 5 0 0)
  else if c.doomed then s.onDev (fun e => e.commitFails c 3 6 0)
  else match c.staged.find? (fun w => decide (d.recheck w ≠ 0)) with
    | some w => s.onDev (fun e => e.commitFails c 3 (d.recheck w) (addrOf w.page w.off))
    | none =>
      let o := d.overlay c.staged
      match firstFail [o.checkPeriod, checkMoving d o] with
      | some x => s.onDev (fun e => e.commitFails c 3 6 (crossAddr x.regs c.staged))
      | none =>
        (s.applyWrites c.staged).onDev (fun e =>
          ((e.afterCommit d c.staged).commitEnd c 2 0 0).wrI TXN_FRAME c.init (e.rd LPE_FRAMELO 0))

/-- A commit that is ready at this boundary: validated, and acknowledged where it must be, at least 2 us before (R86, R708). -/
def Dev.commitReady (d : Dev) (c : Commit) : Bool :=
  let past (x : Option Nat) : Bool := match x with | some a => decide (a + 2000 ≤ d.time) | none => false
  past c.validAt && (!c.needsAck || past c.ackAt)

/-- The commits that apply at this boundary, in the order of their requests (R89); none passes an earlier one that waits. -/
def Sys.commitsApply (s : Sys) : Sys :=
  s.each (s.dev.txn.commits.takeWhile s.dev.commitReady) (fun c q =>
    match q.dev.txn.commits.find? (fun x => decide (x.seq = c.seq)) with
    | some c' => q.commitApply c'
    | none => q)

/-- The partner's commits that this device has acknowledged apply at their boundary (R708). -/
def Sys.mirroredCommits (s : Sys) : Sys :=
  let ready (p : List PendWrite × Nat) : Bool := decide (p.2 + 2000 ≤ s.dev.time)
  let go := (s.dev.pair.commitsIn.filter ready).map Prod.fst
  let s1 := s.onDev (fun d => { d with pair := { d.pair with commitsIn := d.pair.commitsIn.filter (fun p => !ready p) } })
  s1.each go (fun ws q =>
    (q.applyWrites (ws.map (fun w => { w with init := .mirror }))).onDev (fun d => d.afterCommit q.dev ws))

/-- The bits of a register that a copy carries: its settings, neither flags nor commands. -/
def copyMask (v : Variant) (page off : Nat) : Word :=
  match rowOf v page off with
  | some r => ~~~(r.w1c ||| r.wo)
  | none => if off = 0x018 ∨ off = 0x024 then 0xFFFFFFFF else 0

/-- The copy of R709 applies at one boundary, as a commit: every mirrored register takes the value sent, or its reset value where
the copy does not list it; the frame counter follows the active device's. -/
def Sys.applyCopy (s : Sys) : Sys :=
  match s.dev.pair.copyIn with
  | none => s
  | some c =>
    let v := s.dev.variant
    let unlisted : List PendWrite := s.dev.syncOut.regs.filterMap (fun r =>
      if c.regs.any (fun x => decide (x.page = r.page ∧ x.off = r.off ∧ x.inst = r.inst)) then none
      else some { init := .mirror, page := r.page, off := r.off, inst := r.inst, val := (regAt v r.page r.off).reset &&& copyMask v r.page r.off })
    let listed : List PendWrite := c.regs.map (fun r =>
      { init := .mirror, page := r.page, off := r.off, inst := r.inst, val := r.val &&& copyMask v r.page r.off })
    let ws := (unlisted ++ listed).filter (fun w => s.dev.mirrored w.page && !s.dev.isAbsent w.page w.off w.inst)
    let s1 := s.applyWrites ws
    s1.onDev (fun d =>
      let d1 := d.afterCommit s.dev ws
      let d2 := (d1.wr LPE_FRAMELO 0 (w32 (c.frame + 1))).wr LPE_FRAMEHI 0 (w32 ((c.frame + 1) / 2 ^ 32))
      ({ d2 with pair := { d2.pair with copyIn := none, copied := true } }).syncDone)

/-- The links at a boundary; the modules of one that leaves Up are Unknown (Table 6.1, R225). -/
def Dev.linksBoundary (d : Dev) : Dev :=
  d.each (List.range d.variant.cabinets) (fun l e =>
    let e1 := e.linkBoundary l
    if e.linkState l = 2 ∧ e1.linkState l ≠ 2 then e1.linkLost l else e1)

/-- Step 4 and 5: arbiters, shares, links, moves, the pair and the due contexts of the frame that starts. The modules of a link that has
just entered Dead stay in the frame's grouping: their availability is zero from the next frame on (R139). -/
def Dev.frameStart (d : Dev) : Dev :=
  let d0 := d.each (List.range d.variant.contexts) (fun n e => e.setBit LPE_CSTAT n 4 false)
  let d1 := d0.each (List.range 17) (fun a e => if a = 16 ∨ a < e.variant.outlets then e.arbBoundary a else e)
  let d2 := d1.shareBoundary
  let d3 := d2.linksBoundary.shareMoves
  let died (l : Nat) : Bool := decide (d3.linkState l = 3) && decide (d2.linkState l = 2)
  let d4 : Dev := { d3 with grouped := d3.modulesL.foldl (fun (m : KV Nat) k =>
    kvSet m k (if died (k / 8) then d2.groupOf k else d3.groupOf k) 0) [] }
  let d5 := d4.tunBoundary.pairBoundary
  { d5 with loop := { d5.loop with due := d5.dueList, distributed := false } }

/-- LOOP_FRAME_BOUNDARY at t, with the bitstream of every channel up to it (R108, R181). -/
def Sys.frameBoundary (s : Sys) (t : Nat) (xs : List Stream) : Sys :=
  let s0 := s.onDev (·.at t)
  if !s0.dev.up .control then s0
  else
    let s1 := s0.onDev (fun d =>
      let d1 := ((d.keepShareInputs.countFrame.controlSamples xs).takeSnapshot).profileApply
      d1.each (List.range 17) (fun a e => e.setArbR a { e.arbR a with fresh := false }))
    (s1.commitsApply.mirroredCommits.applyCopy).onDev Dev.frameStart

/-! ### What the active device sends of a frame (Table 18.1) -/

/-- The contexts that this frame evaluated: due, and not missed. -/
def Dev.evaluatedCtxs (d : Dev) : List Nat := d.dueList.filter (fun n => !d.loop.missed.contains n)

/-- The frame mirror of the present frame: of every evaluated context its ST_ words, output and LPE_MISSCNT; every arbiter's
decision and identity; the allocator's claims, short[] and cycle frame; the module states and the move slots. -/
def Dev.frameMirror (d : Dev) : FrameMirror :=
  { frame := d.frame
    ctxs := d.evaluatedCtxs.map (fun n =>
      { ctx := n, st := (List.range 14).map (fun k => d.rd (coefReg n (0x100 + 4 * k)) 0), out := d.rd LPE_OUT n, misscnt := d.rd LPE_MISSCNT n })
    arbs := (List.range d.variant.outlets ++ [16]).map (fun a =>
      if a = 16 then { arb := 16, win := d.rd ARB_SITEWIN 0, wstat := d.rd ARB_SITEWST 0, ident := (d.arbR 16).ident }
      else { arb := a, win := d.rd ARB_WIN a, wstat := d.rd ARB_WSTAT a, ident := (d.arbR a).ident })
    claims := (List.range d.variant.outlets).map (fun o => d.rd SHR_CLAIM o)
    short := (List.range d.variant.outlets).map (fun o => d.fld SHR_OSTAT o 31 16)
    cycFrame := (d.rd SHR_CYCFRM 0).toNat
    mods := d.modulesL.map (fun m => (m, d.rd RGP_MODSTAT m))
    moves := (List.range 8).map (fun k => (k, d.slot k)) }

/-- The active device sends one frame mirror per loop frame, once the frame's outputs are out. -/
def Dev.sendFrameMirror (d : Dev) : Dev :=
  if decide (d.pstate = 4) && d.up .link && d.ausalUp && (decide (d.partnerState = 2) || decide (d.partnerState = 3)) then
    ({ d with pair := { d.pair with frameOut := some d.frameMirror } }).pairSend
  else d

/-- OUTPUT_DISTRIBUTION: the outputs are routed and the C-frames leave, once per frame, and the frame mirror with them (R170,
R705). -/
def Dev.outputDistribution (d : Dev) : Dev :=
  let e := d.distribute
  if e.loop.distributed && !d.loop.distributed then e.sendFrameMirror else e

/-- LOG_ENTRY_WRITE, with the copy of an own entry that goes to the partner while the pair link is up (R722, R723, Table 18.1). -/
def Sys.logWrite (s : Sys) (t src : Nat) : Sys :=
  let d := s.dev.at t
  let own : Option LogEntry := if src < 16 ∧ d.pwr.phase ≠ .off then (d.logSrc src).fifo.head? else none
  (s.logEntryWrite t src).onDev (fun e =>
    match own with
    | some x => if decide (e.pstate ≠ 0) && e.up .link && e.ausalUp then ({ e with pair := { e.pair with logOut := some (src, x) } }).pairSend else e
    | none => e)

/-! ### Fences (R96, R97) -/

/-- A mirrored write of the initiator waits for the partner's acknowledgement (R706). -/
def Dev.mirrorWaits (d : Dev) (i : Initiator) : Bool := d.ausalUp && d.pair.mirrorOut.any (fun w => decide (w.init = i))

/-- FENCE_COMPLETE: every earlier write of the initiator has taken effect, and the partner has acknowledged the mirrored ones
(`acked`). -/
def Sys.fenceComplete (s : Sys) (i : Initiator) (acked : Bool) : Sys :=
  let d := s.dev
  if d.fenced i && !d.outstanding i && (acked || !d.mirrorWaits i) then
    let d1 := if acked then { d with pair := { d.pair with mirrorOut := d.pair.mirrorOut.filter (fun w => decide (w.init ≠ i)) } } else d
    Sys.releaseHeld { s with dev := (d1.fenceEnd i).wrI SYS_FENCE i 0 }
  else s

/-- FENCE_TIMEOUT: a fence with a write unacknowledged after 100 us completes and sets FAIL. -/
def Sys.fenceTimeout (s : Sys) (i : Initiator) (t : Nat) : Sys :=
  let s0 := s.onDev (·.at t)
  match s0.dev.fenceAt i with
  | none => s0
  | some f =>
    if f + 100000 ≤ t ∧ (s0.dev.outstanding i || s0.dev.mirrorWaits i) then
      (s0.onDev (fun d => (d.fenceEnd i).wrI SYS_FENCE i 1)).releaseHeld
    else s0

/-! ### Mirrored writes (R706) -/

/-- MIRRORED_WRITE: a device in SYNC or STANDBY performs a write of its partner as initiator 0x8. -/
def Sys.mirroredWrite (s : Sys) (t page off inst : Nat) (v : Word) : Sys :=
  let s0 := s.onDev (·.at t)
  if onMap page off && s0.dev.up .link && s0.dev.ausalUp && (decide (s0.dev.pstate = 2) || decide (s0.dev.pstate = 3)) && s0.dev.mirrored page then
    s0.gatedAt .mirror page off inst false v (fun n q => q.act .mirror page off n false v)
  else s0

end Sys2Proof.Machine
end

