-- ==== Sys2Proof/Machine/CmdAcq.lean ====
section
/-! DEFINITION. The meanings of the commands of acquisition (R253-R289): each is the operation that the rule names. -/
namespace Sys2Proof.Machine

/-- CAPTURE_TICK (R267). -/
def execCaptureTick (t : Nat) (sdm : List (Option Nat)) (pilot : List (Nat × Nat × Option Int)) (st : State) : Host.Outcome State Fault Refusal :=
  st.onSys (fun s => s.captureTick t sdm pilot)

/-- SEQUENCER_TIMER_EXPIRY (R268). -/
def execSequencerTimerExpiry (t : Nat) (unit : Nat) (n : Nat) (st : State) : Host.Outcome State Fault Refusal :=
  st.onDev (fun d => (d.at t).timerExpiry unit n)

/-- SEQUENCER_COUNTER_LIMIT (R268). -/
def execSequencerCounterLimit (t : Nat) (unit : Nat) (n : Nat) (st : State) : Host.Outcome State Fault Refusal :=
  st.onDev (fun d => (d.at t).counterLimit unit n)

/-- POD_CLOSE (R279). -/
def execPodClose (t : Nat) (unit : Nat) (st : State) : Host.Outcome State Fault Refusal :=
  st.onSys (fun s => s.podClose t unit)

/-- SEQUENCER_ARM (R262). -/
def execSequencerArm (i : Initiator) (unit : Nat) (v : Word) (st : State) : Host.Outcome State Fault Refusal :=
  st.onDev (fun d => d.gated i (ACQ_SQCTL (unit % 4)) (v ||| 1) (fun _ e => e.sqctl i (unit % 4) (v ||| 1)))

/-- SEQUENCER_DISARM (R265). -/
def execSequencerDisarm (i : Initiator) (unit : Nat) (v : Word) (st : State) : Host.Outcome State Fault Refusal :=
  st.onDev (fun d => d.gated i (ACQ_SQCTL (unit % 4)) (v &&& 0xFFFFFFFE) (fun _ e => e.sqctl i (unit % 4) (v &&& 0xFFFFFFFE)))

/-- SOFTWARE_TRIGGER (R268). -/
def execSoftwareTrigger (i : Initiator) (v : Word) (st : State) : Host.Outcome State Fault Refusal :=
  st.onDev (fun d => d.gated i ACQ_SWTRG v (fun _ e => e.swTrigger v))

/-- POD_READ_REPORT (R260). -/
def execPodReadReport (i : Initiator) (v : Word) (st : State) : Host.Outcome State Fault Refusal :=
  st.onDev (fun d => d.gated i ACQ_RDCNT v (fun u e => e.readReport u v))

/-- TRIGGER_PIN_EDGE (R274). -/
def execTriggerPinEdge (t : Nat) (pin : Nat) (rising : Bool) (stampPs : Nat) (widthPs : Nat) (st : State) : Host.Outcome State Fault Refusal :=
  st.fromBank 1 t (fun x => x.onDev (fun d => (d.at t).pinEdge pin rising stampPs widthPs))

/-- SIMPLE_TRIGGER_ARM (R289). -/
def execSimpleTriggerArm (i : Initiator) (v : Word) (st : State) : Host.Outcome State Fault Refusal :=
  st.onDev (fun d => d.gated i ACQ_STCFG v (fun _ e => if e.simple then e.stcfg i v else e))

end Sys2Proof.Machine
end

