-- ==== Sys2Proof/Machine/CmdBilling.lean ====
section
/-! DEFINITION. The meanings of the commands of billing and the metrology seal (R339-R392): each is the operation that the rule names. -/
namespace Sys2Proof.Machine

/-- BILLING_GET (R377). -/
def execBillingGet (i : Initiator) (st : State) : Host.Outcome State Fault Refusal :=
  st.onSys (fun s => s.billingGet i)

/-- BILLING_SET (R377). -/
def execBillingSet (i : Initiator) (x : BilSet) (st : State) : Host.Outcome State Fault Refusal :=
  st.onSys (fun s => s.billingSet i x)

/-- BILLING_CHALLENGE (R378). -/
def execBillingChallenge (i : Initiator) (st : State) : Host.Outcome State Fault Refusal :=
  st.onSys (fun s => s.billingChallenge i)

/-- CHALLENGE_EXPIRY (R378). -/
def execChallengeExpiry (t : Nat) (st : State) : Host.Outcome State Fault Refusal :=
  st.onDev (fun d => d.challengeExpiry t)

/-- SETTARIFF (R349). -/
def execSettariff (i : Initiator) (ch : Nat) (tariff : Nat) (st : State) : Host.Outcome State Fault Refusal :=
  st.onSys (fun s => s.setTariff i ch tariff)

/-- CLOSEBP (R358). -/
def execClosebp (i : Initiator) (st : State) : Host.Outcome State Fault Refusal :=
  st.onSys (fun s => s.closeBp i)

/-- SNAP (R366). -/
def execSnap (i : Initiator) (pair : Bool) (partner : Option (Nat × Nat)) (st : State) : Host.Outcome State Fault Refusal :=
  st.onSys (fun s => s.snapMethod i pair partner)

/-- SNAP_PAIR_TIMEOUT (R369). -/
def execSnapPairTimeout (t : Nat) (st : State) : Host.Outcome State Fault Refusal :=
  st.onDev (fun d => d.snapPairTimeout t)

/-- SNAP_HOLD_EXPIRY (R368). -/
def execSnapHoldExpiry (bank : Nat) (t : Nat) (st : State) : Host.Outcome State Fault Refusal :=
  st.onDev (fun d => d.snapHoldExpiry bank t)

/-- SESSION_START (R370). -/
def execSessionStart (i : Initiator) (outlet : Nat) (tag : List Byte) (fromPartner : Bool) (st : State) : Host.Outcome State Fault Refusal :=
  st.onSys (fun s => s.sessionStart i outlet tag fromPartner)

/-- SESSION_STOP (R370). -/
def execSessionStop (i : Initiator) (outlet : Nat) (fromPartner : Bool) (st : State) : Host.Outcome State Fault Refusal :=
  st.onSys (fun s => s.sessionStop i outlet fromPartner)

/-- SESSION_ACK (R374). -/
def execSessionAck (i : Initiator) (outlet : Nat) (slot : Nat) (st : State) : Host.Outcome State Fault Refusal :=
  st.onSys (fun s => s.sessionAck i outlet slot)

/-- SESSION_SIGNED (R373). -/
def execSessionSigned (slot : Nat) (t : Nat) (st : State) : Host.Outcome State Fault Refusal :=
  st.onSys (fun s => s.sessionSigned slot t)

/-- COSIGN_TIMEOUT (R373). -/
def execCosignTimeout (slot : Nat) (t : Nat) (st : State) : Host.Outcome State Fault Refusal :=
  st.onDev (fun d => d.cosignTimeout slot t)

/-- SEAL_LOCK (R386). -/
def execSealLock (i : Initiator) (st : State) : Host.Outcome State Fault Refusal :=
  st.onSys (fun s => s.sealLock i)

/-- SEAL_RESEAL (R387). -/
def execSealReseal (i : Initiator) (st : State) : Host.Outcome State Fault Refusal :=
  st.onSys (fun s => s.sealReseal i)

/-- SEAL_JUMPER_OPEN (R385). -/
def execSealJumperOpen (mismatches : Nat) (st : State) : Host.Outcome State Fault Refusal :=
  st.onSys (fun s => s.jumperOpen mismatches)

/-- SEAL_JUMPER_CLOSE (R385). -/
def execSealJumperClose (matching : Nat) (st : State) : Host.Outcome State Fault Refusal :=
  st.onSys (fun s => if s.dev.bankOff 7 then s else s.jumperClose matching)

end Sys2Proof.Machine
end

