-- ==== Sys2Proof/Machine/CmdBus.lean ====
section
/-! DEFINITION. The meanings of the commands of the bus, transactions and fences (R50-R97): each is the operation that the rule names. -/
namespace Sys2Proof.Machine

/-- REGISTER_WRITE (R749). -/
def execRegisterWrite (i : Initiator) (page : Nat) (off : Nat) (v : Word) (st : State) : Host.Outcome State Fault Refusal :=
  st.onSys (fun s => s.write i page off v)

/-- BUS_ACCESS_ERROR (R50). -/
def execBusAccessError (i : Initiator) (write : Bool) (atomic : Bool) (addr : Nat) (size : Nat) (v : Nat) (st : State) : Host.Outcome State Fault Refusal :=
  st.onSys (fun s => s.access i write atomic addr size v)

/-- EVENT_SET (R58). -/
def execEventSet (i : Initiator) (page : Nat) (v : Word) (st : State) : Host.Outcome State Fault Refusal :=
  st.onDev (fun d => d.gated i (BLK_EVS page) v (fun _ e => e.eventWrite page v))

/-- PAGE_LOCK (R63). -/
def execPageLock (i : Initiator) (page : Nat) (v : Word) (st : State) : Host.Outcome State Fault Refusal :=
  st.onDev (fun d => d.gated i (BLK_LOCK page) v (fun _ e => e.lockWrite page v))

/-- CHANNEL_SELECT (R74). -/
def execChannelSelect (i : Initiator) (page : Nat) (v : Word) (st : State) : Host.Outcome State Fault Refusal :=
  st.onDev (fun d => d.gated i (BLK_CHSEL page) v (fun _ e => e.chselWrite i page v))

/-- LO_READ_LATCH (R751). -/
def execLoReadLatch (i : Initiator) (page : Nat) (off : Nat) (st : State) : Host.Outcome State Fault Refusal :=
  st.onSys (fun s => s.readReg i page off)

/-- TXN_BEGIN (R80). -/
def execTxnBegin (i : Initiator) (v : Word) (st : State) : Host.Outcome State Fault Refusal :=
  st.onDev (fun d => d.gated i TXN_BEGIN v (fun _ e => e.txnBegin i v))

/-- STAGED_WRITE (R82). -/
def execStagedWrite (i : Initiator) (page : Nat) (off : Nat) (v : Word) (st : State) : Host.Outcome State Fault Refusal :=
  st.onSys (fun s => s.write i page off v)

/-- TXN_COMMIT (R86). -/
def execTxnCommit (i : Initiator) (v : Word) (st : State) : Host.Outcome State Fault Refusal :=
  st.onDev (fun d => d.gated i TXN_COMMIT v (fun _ e => e.txnCommit i v))

/-- TXN_ABORT (R80). -/
def execTxnAbort (i : Initiator) (v : Word) (st : State) : Host.Outcome State Fault Refusal :=
  st.onDev (fun d => d.gated i TXN_ABORT v (fun _ e => e.txnAbort i v))

/-- VALIDATION_DONE (R85). -/
def execValidationDone (t : Nat) (st : State) : Host.Outcome State Fault Refusal :=
  st.onDev (fun d => (d.at t).validationDone)

/-- COMMIT_ABANDON (R90). -/
def execCommitAbandon (i : Initiator) (t : Nat) (st : State) : Host.Outcome State Fault Refusal :=
  st.onDev (fun d => (d.at t).commitAbandon i)

/-- TXN_IDLE_TIMEOUT (R92). -/
def execTxnIdleTimeout (i : Initiator) (t : Nat) (st : State) : Host.Outcome State Fault Refusal :=
  st.onDev (fun d => (d.at t).txnIdle i)

/-- FENCE (R96). -/
def execFence (i : Initiator) (v : Word) (st : State) : Host.Outcome State Fault Refusal :=
  st.onDev (fun d => d.gated i SYS_FENCE v (fun _ e => e.fence i))

/-- FENCE_COMPLETE (R97). -/
def execFenceComplete (i : Initiator) (acked : Bool) (st : State) : Host.Outcome State Fault Refusal :=
  st.onSys (fun s => s.fenceComplete i acked)

/-- FENCE_TIMEOUT (R97). -/
def execFenceTimeout (i : Initiator) (t : Nat) (st : State) : Host.Outcome State Fault Refusal :=
  st.onSys (fun s => s.fenceTimeout i t)

end Sys2Proof.Machine
end

