-- ==== Sys2Proof/Machine/CmdCompute.lean ====
section
/-! DEFINITION. The meanings of the commands of interrupts, engines, ports, Ethernet, timebase, mailboxes (R585-R622): each is the operation that the rule names. -/
namespace Sys2Proof.Machine

/-- INTERRUPT_CLAIM (R591). -/
def execInterruptClaim (i : Initiator) (ctx : Nat) (st : State) : Host.Outcome State Fault Refusal :=
  st.onSys (fun s => s.readReg i 0x19 (0x044 + 8 * (ctx % 8)))

/-- INTERRUPT_COMPLETE (R591). -/
def execInterruptComplete (i : Initiator) (ctx : Nat) (v : Word) (st : State) : Host.Outcome State Fault Refusal :=
  st.onDev (fun d => d.interruptComplete i ctx v)

/-- CRYPTO_SHA (R595). -/
def execCryptoSha (t : Nat) (eccOk : Bool) (st : State) : Host.Outcome State Fault Refusal :=
  st.onSys (fun s => s.cryptoSha t eccOk)

/-- CRYPTO_AES_GCM_ENCRYPT (R595). -/
def execCryptoAesGcmEncrypt (t : Nat) (eccOk : Bool) (short : Bool) (st : State) : Host.Outcome State Fault Refusal :=
  st.onSys (fun s => s.cryptoGcmEncrypt t eccOk short)

/-- CRYPTO_AES_GCM_DECRYPT (R595). -/
def execCryptoAesGcmDecrypt (t : Nat) (eccOk : Bool) (short : Bool) (st : State) : Host.Outcome State Fault Refusal :=
  st.onSys (fun s => s.cryptoGcmDecrypt t eccOk short)

/-- CRYPTO_ECDSA_SIGN (R596). -/
def execCryptoEcdsaSign (t : Nat) (eccOk : Bool) (st : State) : Host.Outcome State Fault Refusal :=
  st.onSys (fun s => s.cryptoEcdsaSign t eccOk)

/-- CRYPTO_ECDSA_VERIFY (R595). -/
def execCryptoEcdsaVerify (t : Nat) (eccOk : Bool) (st : State) : Host.Outcome State Fault Refusal :=
  st.onSys (fun s => s.cryptoEcdsaVerify t eccOk)

/-- CRYPTO_ED448_SIGN (R595). -/
def execCryptoEd448Sign (t : Nat) (eccOk : Bool) (st : State) : Host.Outcome State Fault Refusal :=
  st.onSys (fun s => s.cryptoEdSign t eccOk)

/-- CRYPTO_ED448_VERIFY (R595). -/
def execCryptoEd448Verify (t : Nat) (eccOk : Bool) (st : State) : Host.Outcome State Fault Refusal :=
  st.onSys (fun s => s.cryptoEdVerify t eccOk)

/-- CRYPTO_ECDH (R595). -/
def execCryptoEcdh (t : Nat) (eccOk : Bool) (st : State) : Host.Outcome State Fault Refusal :=
  st.onSys (fun s => s.cryptoEcdh t eccOk)

/-- CRYPTO_KEY_PAIR_GENERATION (R596). -/
def execCryptoKeyPairGeneration (t : Nat) (eccOk : Bool) (entropyOk : Bool) (st : State) : Host.Outcome State Fault Refusal :=
  st.onSys (fun s => s.cryptoKeyPair t eccOk entropyOk)

/-- CRYPTO_RANDOM_BYTES (R596). -/
def execCryptoRandomBytes (t : Nat) (eccOk : Bool) (entropyOk : Bool) (st : State) : Host.Outcome State Fault Refusal :=
  st.onSys (fun s => s.cryptoRandom t eccOk entropyOk)

/-- CRYPTO_JOB_DONE (R594). -/
def execCryptoJobDone (t : Nat) (st : State) : Host.Outcome State Fault Refusal :=
  st.onSys (fun s => s.cryptoJobDone t)

/-- EXI_DECODE (R598). -/
def execExiDecode (t : Nat) (eccOk : Bool) (st : State) : Host.Outcome State Fault Refusal :=
  st.onSys (fun s => s.exiDecode t eccOk)

/-- EXI_ENCODE (R598). -/
def execExiEncode (t : Nat) (eccOk : Bool) (st : State) : Host.Outcome State Fault Refusal :=
  st.onSys (fun s => s.exiEncode t eccOk)

/-- EXI_JOB_DONE (R594). -/
def execExiJobDone (t : Nat) (st : State) : Host.Outcome State Fault Refusal :=
  st.onSys (fun s => s.exiJobDone t)

/-- XSPI_COMMAND (R601). -/
def execXspiCommand (i : Initiator) (port : Nat) (v : Word) (st : State) : Host.Outcome State Fault Refusal :=
  st.onDev (fun d => d.xspiCommand i port v)

/-- XSPI_COMMAND_DONE (R601). -/
def execXspiCommandDone (t : Nat) (port : Nat) (data : List Byte) (changes : List (Nat × Byte)) (st : State) : Host.Outcome State Fault Refusal :=
  st.onSys (fun s => s.xspiCommandDone t port data changes)

/-- XSPI_READ_TIMEOUT (R601). -/
def execXspiReadTimeout (t : Nat) (port : Nat) (st : State) : Host.Outcome State Fault Refusal :=
  st.onDev (fun d => d.xspiReadTimeout t port)

/-- ETH_FRAME_RECEIVE (R606). -/
def execEthFrameReceive (t : Nat) (mac : Nat) (stamp : Nat) (goodFcs : Bool) (bytes : List Byte) (st : State) : Host.Outcome State Fault Refusal :=
  st.fromBank 5 t (fun x => x.onSys (fun s => s.ethFrameReceive t mac stamp goodFcs bytes))

/-- ETH_TX_POLL (R606). -/
def execEthTxPoll (i : Initiator) (v : Word) (st : State) : Host.Outcome State Fault Refusal :=
  st.onSys (fun s => s.ethTxPoll i v)

/-- TIMEBASE_RATE_WRITE (R610). -/
def execTimebaseRateWrite (i : Initiator) (v : Word) (st : State) : Host.Outcome State Fault Refusal :=
  st.onDev (fun d => d.rateWrite i v)

/-- OFFSET_WRITE (R612). -/
def execOffsetWrite (i : Initiator) (v : Word) (st : State) : Host.Outcome State Fault Refusal :=
  st.onDev (fun d => d.offsetWrite i v)

/-- HOLDOVER_ENTRY (R613). -/
def execHoldoverEntry (t : Nat) (st : State) : Host.Outcome State Fault Refusal :=
  st.onDev (fun d => d.holdoverEntry t)

/-- ALARM_ARM (R614). -/
def execAlarmArm (i : Initiator) (a : Nat) (v : Word) (st : State) : Host.Outcome State Fault Refusal :=
  st.onDev (fun d => d.alarmArm i a v)

/-- ALARM_FIRE (R614). -/
def execAlarmFire (t : Nat) (a : Nat) (st : State) : Host.Outcome State Fault Refusal :=
  st.onDev (fun d => d.alarmFire t a)

/-- MAILBOX_REQUEST (R619). -/
def execMailboxRequest (i : Initiator) (m : Nat) (v : Word) (st : State) : Host.Outcome State Fault Refusal :=
  st.onDev (fun d => d.mailboxRequest i (m % 2) v)

/-- MAILBOX_RESPONSE (R619). -/
def execMailboxResponse (i : Initiator) (m : Nat) (st : State) : Host.Outcome State Fault Refusal :=
  st.onDev (fun d => d.mailboxResponse i (m % 2))

/-- MAILBOX_ACK (R619). -/
def execMailboxAck (i : Initiator) (m : Nat) (v : Word) (st : State) : Host.Outcome State Fault Refusal :=
  st.onDev (fun d => d.mailboxAck i (m % 2) v)

/-- MAILBOX_TIMEOUT (R620). -/
def execMailboxTimeout (i : Initiator) (m : Nat) (t : Nat) (st : State) : Host.Outcome State Fault Refusal :=
  st.onDev (fun d => d.mailboxTimeout i (m % 2) t)

/-- ETH_LINK_CHANGE (R604). -/
def execEthLinkChange (t : Nat) (mac : Nat) (isUp : Bool) (speed : Nat) (st : State) : Host.Outcome State Fault Refusal :=
  st.onDev (fun d => d.ethLinkChange t mac isUp speed)

/-- ETH_FRAME_SENT (R606). -/
def execEthFrameSent (t : Nat) (mac : Nat) (queue : Nat) (stamp : Nat) (st : State) : Host.Outcome State Fault Refusal :=
  st.onSys (fun s => s.ethFrameSent t mac queue stamp)

/-- MACHINE_TIMER_INTERRUPT (R593). -/
def execMachineTimerInterrupt (t : Nat) (st : State) : Host.Outcome State Fault Refusal :=
  st.onDev (fun d => d.machineTimer t)

/-- SRAM_READ_ECC (R588). -/
def execSramReadEcc (i : Option Initiator) (addr : Nat) (e : MemErr) (st : State) : Host.Outcome State Fault Refusal :=
  st.onSys (fun s => s.sramReadEcc i addr e)

end Sys2Proof.Machine
end

