-- ==== Sys2Proof/Machine/CmdKeys.lean ====
section
/-! DEFINITION. The meanings of the commands of keys, signatures, the life cycle, attestation (R625-R663): each is the operation that the rule names. -/
namespace Sys2Proof.Machine

/-- SLOT_ENABLE (R632). -/
def execSlotEnable (i : Initiator) (v : Word) (st : State) : Host.Outcome State Fault Refusal :=
  st.onDev (fun d => d.slotEnable i v)

/-- SLOT_DERIVED (R632). -/
def execSlotDerived (t : Nat) (slot : Nat) (st : State) : Host.Outcome State Fault Refusal :=
  st.onSys (fun s => s.slotDerived t slot)

/-- GENINC (R633). -/
def execGeninc (i : Initiator) (writeOk : Bool) (st : State) : Host.Outcome State Fault Refusal :=
  st.onSys (fun s => s.genIncWrite i writeOk)

/-- HSS_VERIFY (R644). -/
def execHssVerify (t : Nat) (eccOk : Bool) (st : State) : Host.Outcome State Fault Refusal :=
  st.onSys (fun s => s.hssVerifyJob t eccOk)

/-- SLOT_PUBLIC_KEY (R645). -/
def execSlotPublicKey (t : Nat) (eccOk : Bool) (st : State) : Host.Outcome State Fault Refusal :=
  st.onSys (fun s => s.slotPublicKey t eccOk)

/-- CHROMOS_STATEMENT (R660). -/
def execChromosStatement (t : Nat) (eccOk : Bool) (st : State) : Host.Outcome State Fault Refusal :=
  st.onSys (fun s => s.chromosStatement t eccOk)

/-- SIGNER_PUBLIC_KEY (R645). -/
def execSignerPublicKey (t : Nat) (eccOk : Bool) (st : State) : Host.Outcome State Fault Refusal :=
  st.onSys (fun s => s.signerPublicKey t eccOk)

/-- KEY_JOB_DONE (R594). -/
def execKeyJobDone (t : Nat) (st : State) : Host.Outcome State Fault Refusal :=
  st.onSys (fun s => s.keyJobDone t)

/-- SIGN_REQUEST (R641). -/
def execSignRequest (t : Nat) (what : SigFor) (writeOk : Bool) (st : State) : Host.Outcome State Fault Refusal :=
  st.onSys (fun s => s.signRequest t what writeOk)

/-- SIGNATURE_DONE (R639). -/
def execSignatureDone (t : Nat) (st : State) : Host.Outcome State Fault Refusal :=
  st.onSys (fun s => s.signatureDone t)

/-- TREE_BUILT (R640). -/
def execTreeBuilt (t : Nat) (tree : Nat) (st : State) : Host.Outcome State Fault Refusal :=
  st.onDev (fun d => d.treeBuilt t tree)

/-- LC_REQUEST_STATE (R647). -/
def execLcRequestState (i : Initiator) (target : Nat) (st : State) : Host.Outcome State Fault Refusal :=
  st.onSys (fun s => s.lcRequestState i target)

/-- LC_REQUEST_BLOW_ROOT (R627). -/
def execLcRequestBlowRoot (i : Initiator) (st : State) : Host.Outcome State Fault Refusal :=
  st.onSys (fun s => s.lcRequestBlowRoot i)

/-- LC_REQUEST_DEBUG_UNLOCK (R651). -/
def execLcRequestDebugUnlock (i : Initiator) (st : State) : Host.Outcome State Fault Refusal :=
  st.onSys (fun s => s.lcRequestUnlock i)

/-- LC_CONFIRM (R647). -/
def execLcConfirm (t : Nat) (i : Initiator) (v : Word) (burnt : Nat) (o : BootObs) (st : State) : Host.Outcome State Fault Refusal :=
  st.onSys (fun s => s.lcConfirm t i v burnt o)

/-- DEBUG_RELOCK (R651). -/
def execDebugRelock (i : Initiator) (v : Word) (st : State) : Host.Outcome State Fault Refusal :=
  st.onDev (fun d => d.debugRelock i v)

/-- OWNER_SET (R652). -/
def execOwnerSet (i : Initiator) (v : Word) (burnt : Nat) (st : State) : Host.Outcome State Fault Refusal :=
  st.onSys (fun s => s.ownerSet i v burnt)

/-- MEASUREMENT_EXTEND (R658). -/
def execMeasurementExtend (i : Initiator) (v : Word) (st : State) : Host.Outcome State Fault Refusal :=
  st.onDev (fun d => d.measurementExtend i v)

/-- SVN_COMMIT (R657). -/
def execSvnCommit (i : Initiator) (v : Word) (st : State) : Host.Outcome State Fault Refusal :=
  st.onDev (fun d => d.svnCommit i v)

end Sys2Proof.Machine
end

