-- ==== Sys2Proof/Machine/PilotDecode.lean ====
section
/-! DEFINITION. Pilot decoders (spec/13_vehicle_and_field_links.md, R533-R538). -/
namespace Sys2Proof.Machine

/-- A band LO-HI of a band register holds a value. -/
def inBand (w : Word) (x : Int) : Bool := decide (sext (bits w 15 0) 16 ≤ x) && decide (x ≤ sext (bits w 31 16) 16)

/-- Bands A-F of a set. -/
def Dev.bands (d : Dev) (s : Nat) : List Word :=
  [d.rd (PIL_BANDA s) 0, d.rd (PIL_BANDB s) 0, d.rd (PIL_BANDC s) 0, d.rd (PIL_BANDD s) 0, d.rd (PIL_BANDE s) 0, d.rd (PIL_BANDF s) 0]

/-- The first band that holds a value, or 6 INVALID. -/
def firstBand (bs : List Word) (x : Int) : Nat := min 6 ((bs.findIdx? (fun w => inBand w x)).getD 6)

/-- The mean of samples in mV, to the nearest, ties to even; an empty mean is a free value. -/
def Dev.meanMv (d : Dev) (l : List Int) : Int × Dev :=
  if l.isEmpty then
    let (w, d1) := d.free 534
    (sext w.toNat 16, d1)
  else (rneDiv l.sum l.length, d)

/-- Decoders run while the link island does, and in Standby (R538). -/
def Dev.pilRuns (d : Dev) (n : Nat) : Bool :=
  decide (n < d.variant.outlets) && d.bit PIL_PCFG n 31 && decide (d.pwr.phase = .running) &&
    (decide (d.islStat .link = 0) || decide (d.islStat .link = 3))

/-- PILOT_WINDOW: the window that ends at t, a whole millisecond, with the edges seen in it, its high-plateau, low-plateau
and all samples in mV, and period and high time in ns of the last complete PWM period (R534). -/
def Dev.pilotWindow (d : Dev) (t n : Nat) (rise fall : Bool) (hi lo all : List Int) (period : Option (Nat × Nat)) : Dev :=
  let d0 := d.at t
  if !(d0.pilRuns n && decide (t % 1000000 = 0) && decide ((d0.pil n).lastEnd < t)) then d0
  else
    let s := b2n (d0.bit PIL_PCFG n 4)
    let pwm := rise && fall
    let (vh, d1) := d0.meanMv (if pwm then hi else all)
    let (vl, d2) := d1.meanMv (if pwm then lo else [])
    let diodeBad := pwm && !inBand (d2.rd (PIL_BANDLOW s) 0) vl
    let cls := if diodeBad then 6
      else if pwm then firstBand ((d2.bands s).take 5) vh
      else firstBand (d2.bands s) vh
    let d3 := if diodeBad then (d2.setBit PIL_PSTAT n 9 true).ev 0x6C 1 else d2
    let d4 := ((d3.setFld PIL_PSTAT n 6 4 cls).setBit PIL_PSTAT n 8 pwm).wr PIL_PLVL n (w32 (twos vl 16 * 65536 + twos vh 16))
    let d5 := match pwm, period with
      | true, some (p, h) =>
        if p = 0 then d4
        else d4.wr PIL_PMEAS n (w32 (min 2047 ((2000000000 + p) / (2 * p)) * 65536 + min 1023 ((2000 * h + p) / (2 * p))))
      | _, _ => d4
    let x := (d5.pil n).settle t
    let runs := decide (x.cls = cls) && decide (x.lastEnd + 1000000 = t) && decide (0 < x.runLen)
    d5.setPil n { x with cls, runLen := if runs then x.runLen + 1 else 1, runFrom := if runs then x.runFrom else t - 1000000, lastEnd := t }

/-- PILOT_STATE_ACCEPT: DEB windows in a row show a state other than the accepted one (R536); in Standby it is the PILOT
wake source (R538). -/
def Dev.pilotAccept (d : Dev) (t n : Nat) : Dev :=
  let d0 := d.at t
  let x := d0.pil n
  if d0.pilRuns n && decide (0 < x.runLen) && decide (max 1 (d0.fld PIL_PCFG n 23 16) ≤ x.runLen) &&
      decide (x.cls ≠ d0.fld PIL_PSTAT n 2 0) then
    let d1 := (((d0.setFld PIL_PSTAT n 2 0 x.cls).wr PIL_PTSLO n (w32 x.runFrom)).wr PIL_PTSHI n (w32 (x.runFrom / 2 ^ 32))).inc PIL_PCNT n
    (d1.ev 0x6C 0).wake t 0
  else d0

end Sys2Proof.Machine
end

