-- ==== Sys2Proof/Machine/CmdLinks.lean ====
section
/-! DEFINITION. The meanings of the commands of vehicle links, pilots, CAN, RS-485 (R521-R559): each is the operation that the rule names. -/
namespace Sys2Proof.Machine

/-- ATTENUATION_START (R525). -/
def execAttenuationStart (i : Initiator) (v : Word) (st : State) : Host.Outcome State Fault Refusal :=
  st.onDev (fun d => d.attenStart i v)

/-- ATTENUATION_DONE (R525). -/
def execAttenuationDone (t : Nat) (link : Nat) (sounds : List (List (Option Nat))) (st : State) : Host.Outcome State Fault Refusal :=
  st.onDev (fun d => d.attenDone t link sounds)

/-- VLK_TX_POLL (R526). -/
def execVlkTxPoll (i : Initiator) (v : Word) (st : State) : Host.Outcome State Fault Refusal :=
  st.onSys (fun s => s.vlkTxPoll i v)

/-- VLK_FRAME_RECEIVE (R526). -/
def execVlkFrameReceive (t : Nat) (link : Nat) (stamp : Nat) (goodFcs : Bool) (bytes : List Byte) (st : State) : Host.Outcome State Fault Refusal :=
  st.fromBank 6 t (fun x => x.onSys (fun s => s.vlkFrameReceive t link stamp goodFcs bytes))

/-- VLK_FRAME_SENT (R526). -/
def execVlkFrameSent (t : Nat) (link : Nat) (stamp : Nat) (ok : Bool) (st : State) : Host.Outcome State Fault Refusal :=
  st.onSys (fun s => s.vlkFrameSent t link stamp ok)

/-- PILOT_WINDOW (R534). -/
def execPilotWindow (t : Nat) (port : Nat) (rise : Bool) (fall : Bool) (hi : List Int) (lo : List Int) (all : List Int) (period : Option (Nat × Nat)) (st : State) : Host.Outcome State Fault Refusal :=
  st.onDev (fun d => d.pilotWindow t port rise fall hi lo all period)

/-- PILOT_STATE_ACCEPT (R536). -/
def execPilotStateAccept (t : Nat) (port : Nat) (st : State) : Host.Outcome State Fault Refusal :=
  st.onDev (fun d => d.pilotAccept t port)

/-- PILOT_GENERATOR_WRITE (R532). -/
def execPilotGeneratorWrite (i : Initiator) (v : Word) (st : State) : Host.Outcome State Fault Refusal :=
  st.onDev (fun d => d.pilotWrite i v)

/-- CAN_FRAME_RECEIVE (R543). -/
def execCanFrameReceive (t : Nat) (ctl : Nat) (stamp : Nat) (f : CanFrame) (st : State) : Host.Outcome State Fault Refusal :=
  st.fromBank 2 t (fun x => x.onDev (fun d => d.canReceive t ctl stamp f))

/-- CAN_PUSH_NORMAL (R545). -/
def execCanPushNormal (i : Initiator) (v : Word) (st : State) : Host.Outcome State Fault Refusal :=
  st.onDev (fun d => d.canPushNormal i v)

/-- CAN_PUSH_URGENT (R545). -/
def execCanPushUrgent (i : Initiator) (v : Word) (st : State) : Host.Outcome State Fault Refusal :=
  st.onDev (fun d => d.canPushUrgent i v)

/-- CAN_TX_ATTEMPT_END (R546). -/
def execCanTxAttemptEnd (t : Nat) (ctl : Nat) (start : Nat) (how : CanEnd) (st : State) : Host.Outcome State Fault Refusal :=
  st.onDev (fun d => d.canAttemptEnd t ctl start how)

/-- CAN_RECOVER (R548). -/
def execCanRecover (i : Initiator) (st : State) : Host.Outcome State Fault Refusal :=
  st.onDev (fun d => d.canRecover i)

/-- CAN_RECOVERY_DONE (R548). -/
def execCanRecoveryDone (t : Nat) (ctl : Nat) (st : State) : Host.Outcome State Fault Refusal :=
  st.onDev (fun d => d.canRecoveryDone t ctl)

/-- ABORTN (R547). -/
def execAbortn (i : Initiator) (onBus : Bool) (st : State) : Host.Outcome State Fault Refusal :=
  st.onDev (fun d => d.canAbortN i onBus)

/-- ABORTU (R547). -/
def execAbortu (i : Initiator) (onBus : Bool) (st : State) : Host.Outcome State Fault Refusal :=
  st.onDev (fun d => d.canAbortU i onBus)

/-- FLUSHN (R547). -/
def execFlushn (i : Initiator) (onBus : Bool) (st : State) : Host.Outcome State Fault Refusal :=
  st.onDev (fun d => d.canFlushN i onBus)

/-- FLUSHU (R547). -/
def execFlushu (i : Initiator) (onBus : Bool) (st : State) : Host.Outcome State Fault Refusal :=
  st.onDev (fun d => d.canFlushU i onBus)

/-- HEAD_TIMEOUT (R547). -/
def execHeadTimeout (t : Nat) (ctl : Nat) (urgent : Bool) (st : State) : Host.Outcome State Fault Refusal :=
  st.onDev (fun d => d.headTimeout t ctl urgent)

/-- UART_TX_WRITE (R553). -/
def execUartTxWrite (i : Initiator) (v : Word) (st : State) : Host.Outcome State Fault Refusal :=
  st.onDev (fun d => d.uartTxWrite i v)

/-- UART_RX_CHAR (R552). -/
def execUartRxChar (t : Nat) (uart : Nat) (ch : Byte) (perr : Bool) (ferr : Bool) (brk : Bool) (st : State) : Host.Outcome State Fault Refusal :=
  st.fromBank 2 t (fun x => x.onDev (fun d => d.uartRxChar t uart ch perr ferr brk))

/-- UART_RX_READ (R559). -/
def execUartRxRead (i : Initiator) (st : State) : Host.Outcome State Fault Refusal :=
  st.onSys (fun s => s.readReg i 0x74 0x414)

/-- UART_IDLE (R554). -/
def execUartIdle (t : Nat) (uart : Nat) (st : State) : Host.Outcome State Fault Refusal :=
  st.onDev (fun d => d.uartIdle t uart)

/-- UART_TX_DONE (R553). -/
def execUartTxDone (t : Nat) (uart : Nat) (st : State) : Host.Outcome State Fault Refusal :=
  st.onDev (fun d => d.uartTxDone t uart)

/-- POLL_ROUND_START (R566). -/
def execPollRoundStart (t : Nat) (m : Nat) (st : State) : Host.Outcome State Fault Refusal :=
  st.onDev (fun d => d.pollRoundStart t m)

/-- POLL_ATTEMPT (R567). -/
def execPollAttempt (t : Nat) (m : Nat) (st : State) : Host.Outcome State Fault Refusal :=
  st.onDev (fun d => d.pollAttempt t m)

/-- RESP_RECEIVE (R567). -/
def execRespReceive (t : Nat) (m : Nat) (phyOk : Bool) (f : List Byte) (st : State) : Host.Outcome State Fault Refusal :=
  st.onDev (fun d => d.respReceive t m phyOk f)

/-- RESPONSE_TIMEOUT (R567). -/
def execResponseTimeout (t : Nat) (m : Nat) (st : State) : Host.Outcome State Fault Refusal :=
  st.onDev (fun d => d.responseTimeout t m)

/-- SLAVE_LOST (R571). -/
def execSlaveLost (t : Nat) (slave : Nat) (st : State) : Host.Outcome State Fault Refusal :=
  st.onDev (fun d => d.slaveLost t slave)

/-- DLPUSH (R569). -/
def execDlpush (i : Initiator) (v : Word) (st : State) : Host.Outcome State Fault Refusal :=
  st.onDev (fun d => d.dlPush i v)

/-- MODESET (R575). -/
def execModeset (i : Initiator) (v : Word) (st : State) : Host.Outcome State Fault Refusal :=
  st.onDev (fun d => d.modeSet i v)

/-- ZERO_CROSS_EDGE (R577). -/
def execZeroCrossEdge (t : Nat) (p : Nat) (st : State) : Host.Outcome State Fault Refusal :=
  st.fromBank 3 t (fun x => x.onDev (fun d => d.zeroCross t p))

/-- CAN_RECEIVE_ERROR (R540). -/
def execCanReceiveError (t : Nat) (ctl : Nat) (kind : CanRxErr) (dominant : Bool) (st : State) : Host.Outcome State Fault Refusal :=
  st.onDev (fun d => d.canReceiveError t ctl kind dominant)

end Sys2Proof.Machine
end

