-- ==== Sys2Proof/Machine/CmdLoop.lean ====
section
/-! DEFINITION. The meanings of the commands of the loop frame, sensing, cabinet links, arbiters, tuning (R98-R222): each is the operation that the rule names. -/
namespace Sys2Proof.Machine

/-- LOOP_FRAME_BOUNDARY (R181). -/
def execLoopFrameBoundary (t : Nat) (streams : List Stream) (st : State) : Host.Outcome State Fault Refusal :=
  st.onSys (fun s => s.frameBoundary t streams)

/-- FRAME_CLOCK_FALLBACK (R104). -/
def execFrameClockFallback (t : Nat) (quietNs : Nat) (st : State) : Host.Outcome State Fault Refusal :=
  st.onDev (fun d => (d.at t).frameClockFallback quietNs)

/-- FAST_TRIP_SAMPLE (R426). -/
def execFastTripSample (t : Nat) (streams : List Stream) (st : State) : Host.Outcome State Fault Refusal :=
  st.onSys (fun s => (s.onDev (fun d => d.fastTrip t streams)).releaseHeld)

/-- STUCK_DETECT (R117). -/
def execStuckDetect (t : Nat) (ch : Nat) (quietBits : Nat) (clockQuietNs : Nat) (st : State) : Host.Outcome State Fault Refusal :=
  st.onDev (fun d => (d.at t).stuckDetect ch quietBits clockQuietNs)

/-- STUCK_CLEAR (R117). -/
def execStuckClear (t : Nat) (ch : Nat) (goodBits : Nat) (st : State) : Host.Outcome State Fault Refusal :=
  st.onDev (fun d => (d.at t).stuckClear ch goodBits)

/-- SETTLE_END (R116). -/
def execSettleEnd (t : Nat) (ch : Nat) (st : State) : Host.Outcome State Fault Refusal :=
  st.onDev (fun d => (d.at t).settleEnd ch)

/-- SKEW_CAL_START (R113). -/
def execSkewCalStart (i : Initiator) (v : Word) (st : State) : Host.Outcome State Fault Refusal :=
  st.onDev (fun d => d.gated i SDM_CALCTL v (fun _ e => e.calStart i v))

/-- SKEW_CAL_DONE (R113). -/
def execSkewCalDone (t : Nat) (delay : Int) (rmsRef : Nat) (rmsMeas : Nat) (st : State) : Host.Outcome State Fault Refusal :=
  st.onDev (fun d => (d.at t).calDone delay rmsRef rmsMeas)

/-- SNAPSHOT_REQUEST (R121). -/
def execSnapshotRequest (i : Initiator) (v : Word) (st : State) : Host.Outcome State Fault Refusal :=
  st.onDev (fun d => d.gated i SDM_SNAPCTL v (fun _ e => e.snapRequest v))

/-- CONTROL_SAMPLES_VALID (R167). -/
def execControlSamplesValid (t : Nat) (hits : List (Nat × Nat)) (st : State) : Host.Outcome State Fault Refusal :=
  st.onDev (fun d => (d.at t).samplesValid hits)

/-- EVALUATION_DEADLINE (R174). -/
def execEvaluationDeadline (t : Nat) (st : State) : Host.Outcome State Fault Refusal :=
  st.onDev (fun d => (d.at t).evalDeadline)

/-- OUTPUT_DISTRIBUTION (R170). -/
def execOutputDistribution (t : Nat) (st : State) : Host.Outcome State Fault Refusal :=
  st.onDev (fun d => (d.at t).outputDistribution)

/-- MISS_ESCALATION (R176). -/
def execMissEscalation (ctx : Nat) (st : State) : Host.Outcome State Fault Refusal :=
  st.onSys (fun s => (s.onDev (fun d => d.missEscalation ctx)).releaseHeld)

/-- SATURATION_LIMIT (R180). -/
def execSaturationLimit (ctx : Nat) (t : Nat) (st : State) : Host.Outcome State Fault Refusal :=
  st.onSys (fun s => (s.onDev (fun d => d.saturationLimit ctx t)).releaseHeld)

/-- T_FRAME_RECEIVE (R127). -/
def execTFrameReceive (t : Nat) (link : Nat) (rd : Bool) (syms : List Nat) (st : State) : Host.Outcome State Fault Refusal :=
  st.fromBank 5 t (fun x => x.onDev (fun d => (d.at t).tFrameIn link rd syms))

/-- T_FRAME_CUTOFF (R137). -/
def execTFrameCutoff (t : Nat) (link : Nat) (st : State) : Host.Outcome State Fault Refusal :=
  st.onDev (fun d => (d.at t).tCutoff link)

/-- S_FRAME_SEND (R130). -/
def execSFrameSend (t : Nat) (link : Nat) (tel : List Byte) (st : State) : Host.Outcome State Fault Refusal :=
  st.onDev (fun d => (d.at t).sFrame link tel)

/-- CABINET_REARM (R140). -/
def execCabinetRearm (i : Initiator) (v : Word) (st : State) : Host.Outcome State Fault Refusal :=
  st.onDev (fun d => d.gated i CAB_LCFG (v ||| 0x10000) (fun l e => e.cabLcfg i l false (v ||| 0x10000)))

/-- VEHICLE_REQUEST_WRITE (R212). -/
def execVehicleRequestWrite (i : Initiator) (v : Word) (st : State) : Host.Outcome State Fault Refusal :=
  st.onDev (fun d => d.gated i ARB_VREQ v (fun o e => e.vreqWrite i o v))

/-- TUNING_START (R218). -/
def execTuningStart (i : Initiator) (v : Word) (st : State) : Host.Outcome State Fault Refusal :=
  st.onDev (fun d => d.gated i LPE_TUNCTL (v ||| 1) (fun _ e => e.tunCtl i (v ||| 1)))

/-- TUNING_STOP (R221). -/
def execTuningStop (i : Initiator) (v : Word) (st : State) : Host.Outcome State Fault Refusal :=
  st.onDev (fun d => d.gated i LPE_TUNCTL (v ||| 2) (fun _ e => e.tunCtl i (v ||| 2)))

/-- TUNING_POINT_DONE (R219). -/
def execTuningPointDone (t : Nat) (st : State) : Host.Outcome State Fault Refusal :=
  st.onDev (fun d => (d.at t).tunPointDone)

end Sys2Proof.Machine
end

