-- ==== Sys2Proof/Machine/CmdMetro.lean ====
section
/-! DEFINITION. The meanings of the commands of metrology (R290-R338): each is the operation that the rule names. -/
namespace Sys2Proof.Machine

/-- METERING_SAMPLE (R294). -/
def execMeteringSample (stamp : Nat) (samples : List Int) (st : State) : Host.Outcome State Fault Refusal :=
  st.onDev (fun d => d.meteringSample stamp samples)

/-- FALLBACK_TICK (R305). -/
def execFallbackTick (t : Nat) (st : State) : Host.Outcome State Fault Refusal :=
  st.onDev (fun d => d.fallbackTickAt t)

/-- LATCH (R308). -/
def execLatch (t : Nat) (st : State) : Host.Outcome State Fault Refusal :=
  st.onSys (fun s => s.latch t)

/-- REVERSE_EVENT_START (R316). -/
def execReverseEventStart (t : Nat) (ch : Nat) (st : State) : Host.Outcome State Fault Refusal :=
  st.onDev (fun d => (d.at t).reverseStart ch)

/-- REVERSE_EVENT_END (R317). -/
def execReverseEventEnd (t : Nat) (ch : Nat) (st : State) : Host.Outcome State Fault Refusal :=
  st.onDev (fun d => (d.at t).reverseEnd ch)

/-- PULSE_START (R319). -/
def execPulseStart (n : Nat) (t : Nat) (st : State) : Host.Outcome State Fault Refusal :=
  st.onDev (fun d => d.pulseStart n t)

/-- PULSE_END (R319). -/
def execPulseEnd (n : Nat) (t : Nat) (st : State) : Host.Outcome State Fault Refusal :=
  st.onDev (fun d => d.pulseEnd n t)

/-- PAIR_LATCH_COMPARE (R335). -/
def execPairLatchCompare (t : Nat) (seq : Nat) (settings : List Word) (incs : List (Nat × Nat)) (st : State) : Host.Outcome State Fault Refusal :=
  st.onDev (fun d => (d.at t).pairCompare seq settings incs)

/-- TOTALS_ADOPT (R334). -/
def execTotalsAdopt (t : Nat) (a : Adoption) (st : State) : Host.Outcome State Fault Refusal :=
  st.onDev (fun d => (d.at t).adopt a)

end Sys2Proof.Machine
end

