-- ==== Sys2Proof/Machine/CmdPair.lean ====
section
/-! DEFINITION. The meanings of the commands of the redundant pair and the event log (R702-R732): each is the operation that the rule names. -/
namespace Sys2Proof.Machine

/-- HEARTBEAT_SEND (R705). -/
def execHeartbeatSend (t : Nat) (st : State) : Host.Outcome State Fault Refusal :=
  st.onDev (fun d => d.heartbeatSend t)

/-- HEARTBEAT_RECEIVE (R615). -/
def execHeartbeatReceive (t : Nat) (seq : Nat) (acked : Nat) (h : Heartbeat) (st : State) : Host.Outcome State Fault Refusal :=
  st.fromBank 5 t (fun x => x.onSys (fun s => s.onDev (fun d => d.heartbeatReceive t seq acked h)))

/-- FRAME_MIRROR_RECEIVE (R705). -/
def execFrameMirrorReceive (t : Nat) (seq : Nat) (m : FrameMirror) (st : State) : Host.Outcome State Fault Refusal :=
  st.fromBank 5 t (fun x => x.onDev (fun d => d.frameMirrorReceive t seq m))

/-- AUSAL_REPLAY (R703). -/
def execAusalReplay (t : Nat) (lane : Nat) (first : Nat) (unackedNs : Nat) (st : State) : Host.Outcome State Fault Refusal :=
  st.onDev (fun d => d.ausalReplay t lane first unackedNs)

/-- LANE_DOWN (R704). -/
def execLaneDown (t : Nat) (lane : Nat) (quietNs : Nat) (st : State) : Host.Outcome State Fault Refusal :=
  st.onDev (fun d => d.laneDown t lane quietNs)

/-- LANE_UP (R704). -/
def execLaneUp (t : Nat) (lane : Nat) (idles : Nat) (st : State) : Host.Outcome State Fault Refusal :=
  st.fromBank 5 t (fun x => x.onDev (fun d => d.laneUp t lane idles))

/-- MIRRORED_WRITE (R706). -/
def execMirroredWrite (t : Nat) (page : Nat) (off : Nat) (inst : Nat) (v : Word) (st : State) : Host.Outcome State Fault Refusal :=
  st.onSys (fun s => s.mirroredWrite t page off inst v)

/-- MIRROR_COMMIT_ACK (R708). -/
def execMirrorCommitAck (t : Nat) (i : Initiator) (ws : List PendWrite) (st : State) : Host.Outcome State Fault Refusal :=
  st.onDev (fun d => d.mirrorCommitAck t i ws)

/-- SYNC_COPY (R709). -/
def execSyncCopy (t : Nat) (c : SyncCopy) (st : State) : Host.Outcome State Fault Refusal :=
  st.onDev (fun d => d.syncCopy t c)

/-- WAIT_TIMEOUT (R711). -/
def execWaitTimeout (t : Nat) (st : State) : Host.Outcome State Fault Refusal :=
  st.onDev (fun d => d.waitTimeout t)

/-- TAKEOVER (R713). -/
def execTakeover (t : Nat) (handover : Bool) (st : State) : Host.Outcome State Fault Refusal :=
  st.onDev (fun d => d.takeover t handover)

/-- DEMOTION (R714). -/
def execDemotion (t : Nat) (st : State) : Host.Outcome State Fault Refusal :=
  st.onDev (fun d => d.demotion t)

/-- HANDOVER (R715). -/
def execHandover (i : Initiator) (v : Word) (st : State) : Host.Outcome State Fault Refusal :=
  st.onDev (fun d => d.handover i v)

/-- FIRMWARE_EVENT_PUT (R721). -/
def execFirmwareEventPut (i : Initiator) (v : Word) (st : State) : Host.Outcome State Fault Refusal :=
  st.onDev (fun d => d.firmwareEventPut i v)

/-- LOG_ENTRY_WRITE (R722). -/
def execLogEntryWrite (t : Nat) (src : Nat) (st : State) : Host.Outcome State Fault Refusal :=
  st.onSys (fun s => s.logWrite t src)

/-- PARTNER_LOG_ENTRY (R723). -/
def execPartnerLogEntry (t : Nat) (src : Nat) (code : Nat) (sseq : Nat) (stamp : Nat) (data : List Byte) (st : State) : Host.Outcome State Fault Refusal :=
  st.onDev (fun d => d.partnerLogEntry t src code sseq stamp data)

end Sys2Proof.Machine
end

