-- ==== Sys2Proof/Machine/CmdPower.lean ====
section
/-! DEFINITION. The meanings of the commands of clocks, NVM, debug, levels and islands (R30-R48, R65-R71): each is the operation that the rule names. -/
namespace Sys2Proof.Machine

/-- CRYSTAL_LOSS (R67). -/
def execCrystalLoss (t : Nat) (which : Nat) (quietNs : Nat) (st : State) : Host.Outcome State Fault Refusal :=
  st.onSys (fun s => s.crystalLoss t which quietNs)

/-- PLL_LOSS (R67). -/
def execPllLoss (t : Nat) (isl : Nat) (ns : Nat) (st : State) : Host.Outcome State Fault Refusal :=
  st.onSys (fun s => s.pllLoss t isl ns)

/-- NVM_READ_ECC (R68). -/
def execNvmReadEcc (t : Nat) (i : Option Initiator) (addr : Nat) (corrected : Bool) (st : State) : Host.Outcome State Fault Refusal :=
  st.onSys (fun s => s.nvmReadEcc t i addr corrected)

/-- NVM_REFRESH_PASS_END (R68). -/
def execNvmRefreshPassEnd (t : Nat) (st : State) : Host.Outcome State Fault Refusal :=
  st.onDev (fun d => d.refreshEnd t)

/-- SWO_TRANSMIT (R70). -/
def execSwoTransmit (i : Initiator) (v : Word) (st : State) : Host.Outcome State Fault Refusal :=
  st.onDev (fun d => d.swoTransmit i v)

/-- DEBUGGER_ATTACH (R71). -/
def execDebuggerAttach (a : DbgAccess) (st : State) : Host.Outcome State Fault Refusal :=
  st.fromBank 1 a.time (fun x => x.onDev (fun d => d.debuggerAttach a.time a.ask))

/-- PROFILE_CHANGE_REQUEST (R32). -/
def execProfileChangeRequest (i : Initiator) (v : Word) (st : State) : Host.Outcome State Fault Refusal :=
  st.onDev (fun d => d.profileRequest i v)

/-- LEVEL_REQUEST_NORMAL (R752). -/
def execLevelRequestNormal (i : Initiator) (holdN : Bool) (st : State) : Host.Outcome State Fault Refusal :=
  st.onSys (fun s => (s.onDev (fun d => d.reqNormal i holdN)).releaseHeld)

/-- LEVEL_REQUEST_LIMP (R752). -/
def execLevelRequestLimp (i : Initiator) (holdN : Bool) (st : State) : Host.Outcome State Fault Refusal :=
  st.onDev (fun d => d.reqLimp i holdN)

/-- LEVEL_REQUEST_HOLD (R752). -/
def execLevelRequestHold (i : Initiator) (st : State) : Host.Outcome State Fault Refusal :=
  st.onSys (fun s => (s.onDev (fun d => d.reqHold i)).releaseHeld)

/-- LEVEL_REQUEST_STANDBY (R40). -/
def execLevelRequestStandby (i : Initiator) (st : State) : Host.Outcome State Fault Refusal :=
  st.onDev (fun d => d.reqStandby i)

/-- STANDBY_ENTRY_DONE (R41). -/
def execStandbyEntryDone (t : Nat) (st : State) : Host.Outcome State Fault Refusal :=
  st.onSys (fun s => s.standbyDone t)

/-- WAKE_EVENT (R42). -/
def execWakeEvent (t : Nat) (src : Nat) (st : State) : Host.Outcome State Fault Refusal :=
  st.onSys (fun s => (s.onDev (fun d => d.wake t src)).releaseHeld)

/-- HOLD_PIN_LOW (R37). -/
def execHoldPinLow (t : Nat) (lowNs : Nat) (st : State) : Host.Outcome State Fault Refusal :=
  st.onSys (fun s => (s.onDev (fun d => d.holdPinLow t lowNs)).releaseHeld)

/-- ISLAND_FAILURE (R38). -/
def execIslandFailure (t : Nat) (isl : Island) (cause : Nat) (accErr : Bool) (st : State) : Host.Outcome State Fault Refusal :=
  st.onSys (fun s => s.islandFailure t isl cause accErr)

/-- RECOVERY_WINDOW_EXPIRY (R38). -/
def execRecoveryWindowExpiry (t : Nat) (isl : Island) (st : State) : Host.Outcome State Fault Refusal :=
  st.onSys (fun s => (s.onDev (fun d => d.windowExpiry t isl)).releaseHeld)

/-- CAUSE_CLEAR (R48). -/
def execCauseClear (i : Initiator) (v : Word) (holdN : Bool) (st : State) : Host.Outcome State Fault Refusal :=
  st.onDev (fun d => d.causeClear i v holdN)

/-- VREQ_HOLD_EXPIRY (R30). -/
def execVreqHoldExpiry (t : Nat) (st : State) : Host.Outcome State Fault Refusal :=
  st.onDev (fun d => d.vreqExpiry t)

/-- HEADROOM_HOLD_EXPIRY (R30). -/
def execHeadroomHoldExpiry (t : Nat) (st : State) : Host.Outcome State Fault Refusal :=
  st.onDev (fun d => d.headroomExpiry t)

end Sys2Proof.Machine
end

