-- ==== Sys2Proof/Machine/CmdReset.lean ====
section
/-! DEFINITION. The meanings of the commands of resets, watchdogs, supplies, self-test (R665-R701): each is the operation that the rule names. -/
namespace Sys2Proof.Machine

/-- POWER_ON_RESET (R686). -/
def execPowerOnReset (t : Nat) (o : BootObs) (st : State) : Host.Outcome State Fault Refusal :=
  st.onSys (fun s => s.powerOn t o)

/-- BROWN_OUT_RESET (R754). -/
def execBrownOutReset (t : Nat) (o : BootObs) (st : State) : Host.Outcome State Fault Refusal :=
  st.onSys (fun s => s.brownOut t o)

/-- PIN_RESET (R675). -/
def execPinReset (t : Nat) (lowSamples : Nat) (st : State) : Host.Outcome State Fault Refusal :=
  st.onSys (fun s => s.pinReset t lowSamples)

/-- SOFTWARE_RESET (R674). -/
def execSoftwareReset (i : Initiator) (v : Word) (o : BootObs) (st : State) : Host.Outcome State Fault Refusal :=
  st.onSys (fun s => s.softwareReset i v o)

/-- DEVICE_WATCHDOG_EXPIRY (R679). -/
def execDeviceWatchdogExpiry (t : Nat) (o : BootObs) (st : State) : Host.Outcome State Fault Refusal :=
  st.onSys (fun s => s.deviceWatchdog t o)

/-- DEVICE_WATCHDOG_KICK (R679). -/
def execDeviceWatchdogKick (i : Initiator) (v : Word) (st : State) : Host.Outcome State Fault Refusal :=
  st.onDev (fun d => d.deviceKick i v)

/-- COMPUTE_WATCHDOG_EXPIRY (R679). -/
def execComputeWatchdogExpiry (t : Nat) (st : State) : Host.Outcome State Fault Refusal :=
  st.onSys (fun s => s.computeWatchdog t)

/-- COMPUTE_WATCHDOG_KICK (R679). -/
def execComputeWatchdogKick (i : Initiator) (v : Word) (st : State) : Host.Outcome State Fault Refusal :=
  st.onDev (fun d => d.computeKick i v)

/-- ISLAND_RESTART_REQUEST (R681). -/
def execIslandRestartRequest (i : Initiator) (v : Word) (st : State) : Host.Outcome State Fault Refusal :=
  st.onSys (fun s => s.restartRequest i v)

/-- ISLAND_RESTART_DONE (R682). -/
def execIslandRestartDone (t : Nat) (isl : Island) (ok : Bool) (o : BootObs) (st : State) : Host.Outcome State Fault Refusal :=
  st.onSys (fun s => (s.restartDone t isl ok o).releaseHeld)

/-- POWER_FAIL_WARNING (R672). -/
def execPowerFailWarning (t : Nat) (vsys : Nat) (samples : List (Nat × List Int)) (st : State) : Host.Outcome State Fault Refusal :=
  st.onSys (fun s => (s.powerFail t vsys samples).releaseHeld)

/-- POWER_FAIL_WARNING_END (R673). -/
def execPowerFailWarningEnd (t : Nat) (vsys : Nat) (low : Nat) (o : BootObs) (st : State) : Host.Outcome State Fault Refusal :=
  st.onSys (fun s => (s.powerFailEnd t vsys low o).releaseHeld)

/-- SHED_ISLAND_RESTART (R673). -/
def execShedIslandRestart (t : Nat) (st : State) : Host.Outcome State Fault Refusal :=
  st.onSys (fun s => s.shedRestart t)

/-- STUCK_RESET_RECORD (R687). -/
def execStuckResetRecord (t : Nat) (st : State) : Host.Outcome State Fault Refusal :=
  st.onDev (fun d => d.stuckReset t)

/-- INTERFACE_DIE_RESET (R685). -/
def execInterfaceDieReset (t : Nat) (vaux : Nat) (st : State) : Host.Outcome State Fault Refusal :=
  st.onDev (fun d => d.ifaceResetAt t vaux)

/-- INTERFACE_DIE_RESET_END (R685). -/
def execInterfaceDieResetEnd (t : Nat) (vaux : Nat) (part : BistPart) (st : State) : Host.Outcome State Fault Refusal :=
  st.onDev (fun d => d.ifaceResetEnd t vaux part)

/-- TEMPERATURE_READ (R691). -/
def execTemperatureRead (t : Nat) (k : Nat) (temp : Nat) (st : State) : Host.Outcome State Fault Refusal :=
  st.onSys (fun s => (s.temperatureRead t k temp).releaseHeld)

/-- SUPPLY_DEVIATION (R692). -/
def execSupplyDeviation (t : Nat) (k : Nat) (mv : Nat) (ns : Nat) (st : State) : Host.Outcome State Fault Refusal :=
  st.onSys (fun s => s.supplyDeviation t k mv ns)

/-- PROCESS_SPEED_CHECK (R693). -/
def execProcessSpeedCheck (t : Nat) (k : Nat) (slack : Nat) (st : State) : Host.Outcome State Fault Refusal :=
  st.onSys (fun s => s.speedCheck t k slack)

/-- BIST_RETRY (R699). -/
def execBistRetry (t : Nat) (o : BootObs) (st : State) : Host.Outcome State Fault Refusal :=
  st.onSys (fun s => s.bistRetry t o)

/-- HARD_REPAIR (R697). -/
def execHardRepair (i : Initiator) (v : Word) (verifyOk : Bool) (st : State) : Host.Outcome State Fault Refusal :=
  st.onSys (fun s => s.hardRepair i v verifyOk)

/-- RESET_N_RISE (R686). -/
def execResetNRise (t : Nat) (o : BootObs) (st : State) : Host.Outcome State Fault Refusal :=
  st.onSys (fun s => s.resetRise t o)

end Sys2Proof.Machine
end

