-- ==== Sys2Proof/Machine/CmdSafety.lean ====
section
/-! DEFINITION. The meanings of the commands of safety inputs, outputs, trips and telegrams (R393-R447): each is the operation that the rule names. -/
namespace Sys2Proof.Machine

/-- SAFETY_CYCLE (R394). -/
def execSafetyCycle (t : Nat) (o : SafetyObs) (st : State) : Host.Outcome State Fault Refusal :=
  st.onSys (fun s => (s.onDev (fun d => d.safetyCycle t o.fclrOff o.tcm)).releaseHeld)

/-- TEST_PULSE (R405). -/
def execTestPulse (t : Nat) (out : Nat) (reachedLow : Bool) (st : State) : Host.Outcome State Fault Refusal :=
  st.onDev (fun d => d.testPulse t out reachedLow)

/-- RAMP_OPEN (R425). -/
def execRampOpen (t : Nat) (outlet : Nat) (withinNs : Nat) (st : State) : Host.Outcome State Fault Refusal :=
  st.onDev (fun d => d.rampOpen t outlet withinNs)

/-- PIN_OVERTEMP_TRIP (R427). -/
def execPinOvertempTrip (t : Nat) (outlet : Nat) (readings : List (Nat × Option Nat × Bool)) (st : State) : Host.Outcome State Fault Refusal :=
  st.onSys (fun s => (s.onDev (fun d => d.pinConversion t outlet readings)).releaseHeld)

/-- RELIEF_WINDOW_EXPIRY (R427). -/
def execReliefWindowExpiry (t : Nat) (outlet : Nat) (st : State) : Host.Outcome State Fault Refusal :=
  st.onDev (fun d => d.reliefExpiry t outlet)

/-- READBACK_FAULT (R418). -/
def execReadbackFault (t : Nat) (pair : Nat) (hs : Bool) (ls : Bool) (gatesAt : Option Nat) (partnerOn : Bool) (st : State) : Host.Outcome State Fault Refusal :=
  st.onDev (fun d => d.readback t pair hs ls gatesAt partnerOn)

/-- DARK_TEST (R419). -/
def execDarkTest (t : Nat) (pair : Nat) (hsUs : Option Nat) (lsUs : Option Nat) (partnerHolds : Bool) (st : State) : Host.Outcome State Fault Refusal :=
  st.onDev (fun d => d.darkTest t pair hsUs lsUs partnerHolds)

/-- DARK_TEST_TIMEOUT (R419). -/
def execDarkTestTimeout (t : Nat) (pair : Nat) (st : State) : Host.Outcome State Fault Refusal :=
  st.onDev (fun d => d.darkTimeout t pair)

/-- DARK_TEST_OVERDUE (R420). -/
def execDarkTestOverdue (t : Nat) (pair : Nat) (st : State) : Host.Outcome State Fault Refusal :=
  st.onDev (fun d => d.darkOverdue t pair)

/-- KEEPALIVE_LOSS (R415). -/
def execKeepaliveLoss (t : Nat) (st : State) : Host.Outcome State Fault Refusal :=
  st.onDev (fun d => d.keepaliveLoss t)

/-- SAFETY_FAILURE (R396). -/
def execSafetyFailure (t : Nat) (o : BootObs) (st : State) : Host.Outcome State Fault Refusal :=
  st.onSys (fun s => s.safetyFailure t o)

/-- XTRIP_INPUT (R445). -/
def execXtripInput (t : Nat) (lowNs : Nat) (nowHigh : Bool) (st : State) : Host.Outcome State Fault Refusal :=
  st.fromBank 7 t (fun x => x.onSys (fun s => (s.onDev (fun d => d.xtripInput t lowNs nowHigh)).releaseHeld))

/-- XTRIP_TEST_PULSE (R447). -/
def execXtripTestPulse (t : Nat) (st : State) : Host.Outcome State Fault Refusal :=
  st.onDev (fun d => d.xtripPulse t)

/-- XLINE_TIMEOUT (R447). -/
def execXlineTimeout (t : Nat) (st : State) : Host.Outcome State Fault Refusal :=
  st.onDev (fun d => d.xlineTimeout t)

/-- TRIP_RESET_REQUEST (R430). -/
def execTripResetRequest (i : Initiator) (v : Word) (st : State) : Host.Outcome State Fault Refusal :=
  st.onDev (fun d => d.tripReset i v)

/-- PAIR_RESET_REQUEST (R413). -/
def execPairResetRequest (i : Initiator) (v : Word) (st : State) : Host.Outcome State Fault Refusal :=
  st.onDev (fun d => d.pairResetRequest i v)

/-- OUTPUT_FAULT_CLEAR (R421). -/
def execOutputFaultClear (i : Initiator) (v : Word) (offNs : Nat) (st : State) : Host.Outcome State Fault Refusal :=
  st.onDev (fun d => d.outputFaultClear i v offNs)

/-- SAFETY_CONFIG_LOAD (R399). -/
def execSafetyConfigLoad (i : Initiator) (st : State) : Host.Outcome State Fault Refusal :=
  st.onDev (fun d => d.configLoad i)

/-- SAFETY_CONFIG_CONFIRM (R399). -/
def execSafetyConfigConfirm (i : Initiator) (st : State) : Host.Outcome State Fault Refusal :=
  st.onDev (fun d => d.configConfirm i)

/-- SAFETY_RESET_SERVICE (R621). -/
def execSafetyResetService (i : Initiator) (st : State) : Host.Outcome State Fault Refusal :=
  st.onDev (fun d => d.resetService i)

/-- SAFETY_OUTPUTS_SERVICE (R621). -/
def execSafetyOutputsService (i : Initiator) (st : State) : Host.Outcome State Fault Refusal :=
  st.onDev (fun d => d.outputsService i)

/-- TELEGRAM_SEND (R438). -/
def execTelegramSend (t : Nat) (conn : Nat) (st : State) : Host.Outcome State Fault Refusal :=
  st.onDev (fun d => d.telegramSend t conn)

/-- TELEGRAM_RECEIVE (R440). -/
def execTelegramReceive (t : Nat) (conn : Nat) (path : Nat) (bytes : List Byte) (st : State) : Host.Outcome State Fault Refusal :=
  st.onDev (fun d => d.telegramReceive t conn path bytes)

/-- SINGLE_COPY_ACCEPT (R441). -/
def execSingleCopyAccept (t : Nat) (conn : Nat) (st : State) : Host.Outcome State Fault Refusal :=
  st.onDev (fun d => d.singleAccept t conn)

/-- TELEGRAM_WATCHDOG_EXPIRY (R443). -/
def execTelegramWatchdogExpiry (t : Nat) (conn : Nat) (st : State) : Host.Outcome State Fault Refusal :=
  st.onDev (fun d => d.telWatchdog t conn)

/-- CONNECTION_OPEN_TIMEOUT (R443). -/
def execConnectionOpenTimeout (t : Nat) (conn : Nat) (st : State) : Host.Outcome State Fault Refusal :=
  st.onDev (fun d => d.openTimeout t conn)

/-- CONNECTION_REOPEN (R443). -/
def execConnectionReopen (t : Nat) (conn : Nat) (st : State) : Host.Outcome State Fault Refusal :=
  st.onDev (fun d => d.connReopen t conn)

/-- GRACE_EXPIRY (R443). -/
def execGraceExpiry (t : Nat) (conn : Nat) (st : State) : Host.Outcome State Fault Refusal :=
  st.onDev (fun d => d.graceExpiry t conn)

/-- SAFETY_INPUT_SAMPLE (R408). -/
def execSafetyInputSample (t : Nat) (contacts : Nat) (st : State) : Host.Outcome State Fault Refusal :=
  st.onDev (fun d => d.inputSample t contacts)

end Sys2Proof.Machine
end

