-- ==== Sys2Proof/Machine/CmdShare.lean ====
section
/-! DEFINITION. The meanings of the commands of site power sharing and regrouping (R224-R250): each is the operation that the rule names. -/
namespace Sys2Proof.Machine

/-- ALLOCATION_CYCLE (R232). -/
def execAllocationCycle (t : Nat) (st : State) : Host.Outcome State Fault Refusal :=
  st.onDev (fun d => (d.at t).allocationCycle)

/-- MODULE_REBUILD (R226). -/
def execModuleRebuild (t : Nat) (m : Nat) (st : State) : Host.Outcome State Fault Refusal :=
  st.onDev (fun d => (d.at t).rebuild m)

/-- MODULE_MOVE_REQUEST (R241). -/
def execModuleMoveRequest (i : Initiator) (v : Word) (st : State) : Host.Outcome State Fault Refusal :=
  st.onDev (fun d => d.gated i RGP_MODCTL (v ||| 0x10) (fun m e => e.modctl i m (v ||| 0x10)))

/-- MODULE_PARK_REQUEST (R241). -/
def execModuleParkRequest (i : Initiator) (v : Word) (st : State) : Host.Outcome State Fault Refusal :=
  st.onDev (fun d => d.gated i RGP_MODCTL (v ||| 0x1000) (fun m e => e.modctl i m (v ||| 0x1000)))

/-- MODULE_RELEASE (R225). -/
def execModuleRelease (i : Initiator) (v : Word) (st : State) : Host.Outcome State Fault Refusal :=
  st.onDev (fun d => d.gated i RGP_MODCTL (v ||| 1) (fun m e => e.modctl i m (v ||| 1)))

/-- MOVE_PHASE_ADVANCE (R242). -/
def execMovePhaseAdvance (t : Nat) (slot : Nat) (st : State) : Host.Outcome State Fault Refusal :=
  st.onDev (fun d => (d.at t).movePhaseAdvance slot)

/-- MOVE_PHASE_TIMEOUT (R247). -/
def execMovePhaseTimeout (t : Nat) (slot : Nat) (st : State) : Host.Outcome State Fault Refusal :=
  st.onDev (fun d => (d.at t).movePhaseTimeout slot)

end Sys2Proof.Machine
end

