-- ==== Sys2Proof/Machine/CmdSwitch.lean ====
section
/-! DEFINITION. The meanings of the commands of load switches (R488-R520): each is the operation that the rule names. -/
namespace Sys2Proof.Machine

/-- LOAD_SWITCH_COMMAND (R492). -/
def execLoadSwitchCommand (i : Initiator) (v : Word) (st : State) : Host.Outcome State Fault Refusal :=
  st.onDev (fun d => d.loadCommand i v)

/-- TURN_ON_COMPLETE (R497). -/
def execTurnOnComplete (t : Nat) (ch : Nat) (drops : List Nat) (st : State) : Host.Outcome State Fault Refusal :=
  st.onDev (fun d => d.turnOnComplete t ch drops)

/-- INRUSH_TIMEOUT (R497). -/
def execInrushTimeout (t : Nat) (ch : Nat) (st : State) : Host.Outcome State Fault Refusal :=
  st.onDev (fun d => d.inrushTimeout t ch)

/-- OVERCURRENT (R500). -/
def execOvercurrent (t : Nat) (ch : Nat) (shunt : List Nat) (st : State) : Host.Outcome State Fault Refusal :=
  st.onDev (fun d => d.overcurrent t ch shunt)

/-- SHORT_CIRCUIT (R501). -/
def execShortCircuit (t : Nat) (ch : Nat) (shunt : Nat) (st : State) : Host.Outcome State Fault Refusal :=
  st.onDev (fun d => d.shortCircuit t ch shunt)

/-- FET_MODEL_UPDATE (R502). -/
def execFetModelUpdate (t : Nat) (cur : List Nat) (outs : List Nat) (vaux : Nat) (st : State) : Host.Outcome State Fault Refusal :=
  st.onDev (fun d => d.fetModel t cur outs vaux)

/-- LOAD_FAULT_CLEAR (R505). -/
def execLoadFaultClear (i : Initiator) (v : Word) (st : State) : Host.Outcome State Fault Refusal :=
  st.onDev (fun d => d.loadFaultClear i v)

/-- THERMAL_LATCH_CLEAR (R506). -/
def execThermalLatchClear (i : Initiator) (v : Word) (st : State) : Host.Outcome State Fault Refusal :=
  st.onDev (fun d => d.thermalLatchClear i v)

/-- RETRY_CLEAR (R513). -/
def execRetryClear (i : Initiator) (v : Word) (st : State) : Host.Outcome State Fault Refusal :=
  st.onDev (fun d => d.retryClear i v)

/-- RETRY_RESET_TIMEOUT (R513). -/
def execRetryResetTimeout (t : Nat) (ch : Nat) (st : State) : Host.Outcome State Fault Refusal :=
  st.onDev (fun d => d.retryReset t ch)

/-- VAUX_UNDERVOLTAGE (R509). -/
def execVauxUndervoltage (t : Nat) (vaux : Nat) (st : State) : Host.Outcome State Fault Refusal :=
  st.onDev (fun d => d.vauxUv t vaux)

/-- VAUX_UNDERVOLTAGE_END (R510). -/
def execVauxUndervoltageEnd (t : Nat) (vaux : Nat) (st : State) : Host.Outcome State Fault Refusal :=
  st.onDev (fun d => d.vauxUvEnd t vaux)

/-- RESTART_DELAY_EXPIRY (R510). -/
def execRestartDelayExpiry (t : Nat) (ch : Nat) (st : State) : Host.Outcome State Fault Refusal :=
  st.onDev (fun d => d.restartDelay t ch)

/-- OPEN_LOAD_ON (R514). -/
def execOpenLoadOn (t : Nat) (ch : Nat) (ma : Nat) (lowNs : Nat) (st : State) : Host.Outcome State Fault Refusal :=
  st.onDev (fun d => d.openLoadOn t ch ma lowNs)

/-- OFF_STATE_TEST (R515). -/
def execOffStateTest (t : Nat) (ch : Nat) (floating : List Nat) (pulled : List Nat) (st : State) : Host.Outcome State Fault Refusal :=
  st.onDev (fun d => d.offTest t ch floating pulled)

/-- COMMAND_LINK_LOSS (R519). -/
def execCommandLinkLoss (t : Nat) (quietNs : Nat) (st : State) : Host.Outcome State Fault Refusal :=
  st.onDev (fun d => d.linkLoss t quietNs)

end Sys2Proof.Machine
end

