-- ==== Sys2Proof/Machine/CmdThermal.lean ====
section
/-! DEFINITION. The meanings of the commands of cable cooling and thermal management (R453-R487): each is the operation that the rule names. -/
namespace Sys2Proof.Machine

/-- THERMAL_FRAME (R485). -/
def execThermalFrame (t : Nat) (codes : List (Nat × Nat)) (stateOk : Bool) (recOk : Bool) (st : State) : Host.Outcome State Fault Refusal :=
  st.onSys (fun s => s.thermalFrame t codes stateOk recOk)

/-- BAND_FALL (R467). -/
def execBandFall (t : Nat) (input : Nat) (st : State) : Host.Outcome State Fault Refusal :=
  st.onDev (fun d => d.bandFall t input)

/-- THROTTLE_STEP (R470). -/
def execThrottleStep (t : Nat) (outlet : Nat) (st : State) : Host.Outcome State Fault Refusal :=
  st.onDev (fun d => d.throttleStep t outlet)

/-- SHUTDOWN_ACK (R476). -/
def execShutdownAck (t : Nat) (i : Initiator) (ack : Bool) (rest : BitVec 31) (st : State) : Host.Outcome State Fault Refusal :=
  st.onDev (fun d => (d.at t).shutdownAck i (rest ++ BitVec.ofBool ack))

/-- COOLING_FAULT_CLEAR (R483). -/
def execCoolingFaultClear (i : Initiator) (v : Word) (st : State) : Host.Outcome State Fault Refusal :=
  st.onDev (fun d => d.coolClear i v)

end Sys2Proof.Machine
end

