-- ==== Sys2Proof/Machine/Dispatch.lean ====
section
/-! DEFINITION. The meaning of every command: one arm for each constructor of Instr. -/
namespace Sys2Proof.Machine

def exec (i : Instr) (s : State) : Host.Outcome State Fault Refusal :=
  match i with
  | .registerWrite x0 x1 x2 x3 => Sys2Proof.Machine.execRegisterWrite x0 x1 x2 x3 s
  | .busAccessError x0 x1 x2 x3 x4 x5 => Sys2Proof.Machine.execBusAccessError x0 x1 x2 x3 x4 x5 s
  | .eventSet x0 x1 x2 => Sys2Proof.Machine.execEventSet x0 x1 x2 s
  | .pageLock x0 x1 x2 => Sys2Proof.Machine.execPageLock x0 x1 x2 s
  | .channelSelect x0 x1 x2 => Sys2Proof.Machine.execChannelSelect x0 x1 x2 s
  | .loReadLatch x0 x1 x2 => Sys2Proof.Machine.execLoReadLatch x0 x1 x2 s
  | .txnBegin x0 x1 => Sys2Proof.Machine.execTxnBegin x0 x1 s
  | .stagedWrite x0 x1 x2 x3 => Sys2Proof.Machine.execStagedWrite x0 x1 x2 x3 s
  | .txnCommit x0 x1 => Sys2Proof.Machine.execTxnCommit x0 x1 s
  | .txnAbort x0 x1 => Sys2Proof.Machine.execTxnAbort x0 x1 s
  | .validationDone x0 => Sys2Proof.Machine.execValidationDone x0 s
  | .commitAbandon x0 x1 => Sys2Proof.Machine.execCommitAbandon x0 x1 s
  | .txnIdleTimeout x0 x1 => Sys2Proof.Machine.execTxnIdleTimeout x0 x1 s
  | .fence x0 x1 => Sys2Proof.Machine.execFence x0 x1 s
  | .fenceComplete x0 x1 => Sys2Proof.Machine.execFenceComplete x0 x1 s
  | .fenceTimeout x0 x1 => Sys2Proof.Machine.execFenceTimeout x0 x1 s
  | .crystalLoss x0 x1 x2 => Sys2Proof.Machine.execCrystalLoss x0 x1 x2 s
  | .pllLoss x0 x1 x2 => Sys2Proof.Machine.execPllLoss x0 x1 x2 s
  | .nvmReadEcc x0 x1 x2 x3 => Sys2Proof.Machine.execNvmReadEcc x0 x1 x2 x3 s
  | .nvmRefreshPassEnd x0 => Sys2Proof.Machine.execNvmRefreshPassEnd x0 s
  | .swoTransmit x0 x1 => Sys2Proof.Machine.execSwoTransmit x0 x1 s
  | .debuggerAttach x0 => Sys2Proof.Machine.execDebuggerAttach x0 s
  | .profileChangeRequest x0 x1 => Sys2Proof.Machine.execProfileChangeRequest x0 x1 s
  | .levelRequestNormal x0 x1 => Sys2Proof.Machine.execLevelRequestNormal x0 x1 s
  | .levelRequestLimp x0 x1 => Sys2Proof.Machine.execLevelRequestLimp x0 x1 s
  | .levelRequestHold x0 => Sys2Proof.Machine.execLevelRequestHold x0 s
  | .levelRequestStandby x0 => Sys2Proof.Machine.execLevelRequestStandby x0 s
  | .standbyEntryDone x0 => Sys2Proof.Machine.execStandbyEntryDone x0 s
  | .wakeEvent x0 x1 => Sys2Proof.Machine.execWakeEvent x0 x1 s
  | .holdPinLow x0 x1 => Sys2Proof.Machine.execHoldPinLow x0 x1 s
  | .islandFailure x0 x1 x2 x3 => Sys2Proof.Machine.execIslandFailure x0 x1 x2 x3 s
  | .recoveryWindowExpiry x0 x1 => Sys2Proof.Machine.execRecoveryWindowExpiry x0 x1 s
  | .causeClear x0 x1 x2 => Sys2Proof.Machine.execCauseClear x0 x1 x2 s
  | .vreqHoldExpiry x0 => Sys2Proof.Machine.execVreqHoldExpiry x0 s
  | .headroomHoldExpiry x0 => Sys2Proof.Machine.execHeadroomHoldExpiry x0 s
  | .loopFrameBoundary x0 x1 => Sys2Proof.Machine.execLoopFrameBoundary x0 x1 s
  | .frameClockFallback x0 x1 => Sys2Proof.Machine.execFrameClockFallback x0 x1 s
  | .fastTripSample x0 x1 => Sys2Proof.Machine.execFastTripSample x0 x1 s
  | .stuckDetect x0 x1 x2 x3 => Sys2Proof.Machine.execStuckDetect x0 x1 x2 x3 s
  | .stuckClear x0 x1 x2 => Sys2Proof.Machine.execStuckClear x0 x1 x2 s
  | .settleEnd x0 x1 => Sys2Proof.Machine.execSettleEnd x0 x1 s
  | .skewCalStart x0 x1 => Sys2Proof.Machine.execSkewCalStart x0 x1 s
  | .skewCalDone x0 x1 x2 x3 => Sys2Proof.Machine.execSkewCalDone x0 x1 x2 x3 s
  | .snapshotRequest x0 x1 => Sys2Proof.Machine.execSnapshotRequest x0 x1 s
  | .controlSamplesValid x0 x1 => Sys2Proof.Machine.execControlSamplesValid x0 x1 s
  | .evaluationDeadline x0 => Sys2Proof.Machine.execEvaluationDeadline x0 s
  | .outputDistribution x0 => Sys2Proof.Machine.execOutputDistribution x0 s
  | .missEscalation x0 => Sys2Proof.Machine.execMissEscalation x0 s
  | .saturationLimit x0 x1 => Sys2Proof.Machine.execSaturationLimit x0 x1 s
  | .tFrameReceive x0 x1 x2 x3 => Sys2Proof.Machine.execTFrameReceive x0 x1 x2 x3 s
  | .tFrameCutoff x0 x1 => Sys2Proof.Machine.execTFrameCutoff x0 x1 s
  | .sFrameSend x0 x1 x2 => Sys2Proof.Machine.execSFrameSend x0 x1 x2 s
  | .cabinetRearm x0 x1 => Sys2Proof.Machine.execCabinetRearm x0 x1 s
  | .vehicleRequestWrite x0 x1 => Sys2Proof.Machine.execVehicleRequestWrite x0 x1 s
  | .tuningStart x0 x1 => Sys2Proof.Machine.execTuningStart x0 x1 s
  | .tuningStop x0 x1 => Sys2Proof.Machine.execTuningStop x0 x1 s
  | .tuningPointDone x0 => Sys2Proof.Machine.execTuningPointDone x0 s
  | .allocationCycle x0 => Sys2Proof.Machine.execAllocationCycle x0 s
  | .moduleRebuild x0 x1 => Sys2Proof.Machine.execModuleRebuild x0 x1 s
  | .moduleMoveRequest x0 x1 => Sys2Proof.Machine.execModuleMoveRequest x0 x1 s
  | .moduleParkRequest x0 x1 => Sys2Proof.Machine.execModuleParkRequest x0 x1 s
  | .moduleRelease x0 x1 => Sys2Proof.Machine.execModuleRelease x0 x1 s
  | .movePhaseAdvance x0 x1 => Sys2Proof.Machine.execMovePhaseAdvance x0 x1 s
  | .movePhaseTimeout x0 x1 => Sys2Proof.Machine.execMovePhaseTimeout x0 x1 s
  | .captureTick x0 x1 x2 => Sys2Proof.Machine.execCaptureTick x0 x1 x2 s
  | .sequencerTimerExpiry x0 x1 x2 => Sys2Proof.Machine.execSequencerTimerExpiry x0 x1 x2 s
  | .sequencerCounterLimit x0 x1 x2 => Sys2Proof.Machine.execSequencerCounterLimit x0 x1 x2 s
  | .podClose x0 x1 => Sys2Proof.Machine.execPodClose x0 x1 s
  | .sequencerArm x0 x1 x2 => Sys2Proof.Machine.execSequencerArm x0 x1 x2 s
  | .sequencerDisarm x0 x1 x2 => Sys2Proof.Machine.execSequencerDisarm x0 x1 x2 s
  | .softwareTrigger x0 x1 => Sys2Proof.Machine.execSoftwareTrigger x0 x1 s
  | .podReadReport x0 x1 => Sys2Proof.Machine.execPodReadReport x0 x1 s
  | .triggerPinEdge x0 x1 x2 x3 x4 => Sys2Proof.Machine.execTriggerPinEdge x0 x1 x2 x3 x4 s
  | .simpleTriggerArm x0 x1 => Sys2Proof.Machine.execSimpleTriggerArm x0 x1 s
  | .meteringSample x0 x1 => Sys2Proof.Machine.execMeteringSample x0 x1 s
  | .fallbackTick x0 => Sys2Proof.Machine.execFallbackTick x0 s
  | .latch x0 => Sys2Proof.Machine.execLatch x0 s
  | .reverseEventStart x0 x1 => Sys2Proof.Machine.execReverseEventStart x0 x1 s
  | .reverseEventEnd x0 x1 => Sys2Proof.Machine.execReverseEventEnd x0 x1 s
  | .pulseStart x0 x1 => Sys2Proof.Machine.execPulseStart x0 x1 s
  | .pulseEnd x0 x1 => Sys2Proof.Machine.execPulseEnd x0 x1 s
  | .pairLatchCompare x0 x1 x2 x3 => Sys2Proof.Machine.execPairLatchCompare x0 x1 x2 x3 s
  | .totalsAdopt x0 x1 => Sys2Proof.Machine.execTotalsAdopt x0 x1 s
  | .billingGet x0 => Sys2Proof.Machine.execBillingGet x0 s
  | .billingSet x0 x1 => Sys2Proof.Machine.execBillingSet x0 x1 s
  | .billingChallenge x0 => Sys2Proof.Machine.execBillingChallenge x0 s
  | .challengeExpiry x0 => Sys2Proof.Machine.execChallengeExpiry x0 s
  | .settariff x0 x1 x2 => Sys2Proof.Machine.execSettariff x0 x1 x2 s
  | .closebp x0 => Sys2Proof.Machine.execClosebp x0 s
  | .snap x0 x1 x2 => Sys2Proof.Machine.execSnap x0 x1 x2 s
  | .snapPairTimeout x0 => Sys2Proof.Machine.execSnapPairTimeout x0 s
  | .snapHoldExpiry x0 x1 => Sys2Proof.Machine.execSnapHoldExpiry x0 x1 s
  | .sessionStart x0 x1 x2 x3 => Sys2Proof.Machine.execSessionStart x0 x1 x2 x3 s
  | .sessionStop x0 x1 x2 => Sys2Proof.Machine.execSessionStop x0 x1 x2 s
  | .sessionAck x0 x1 x2 => Sys2Proof.Machine.execSessionAck x0 x1 x2 s
  | .sessionSigned x0 x1 => Sys2Proof.Machine.execSessionSigned x0 x1 s
  | .cosignTimeout x0 x1 => Sys2Proof.Machine.execCosignTimeout x0 x1 s
  | .sealLock x0 => Sys2Proof.Machine.execSealLock x0 s
  | .sealReseal x0 => Sys2Proof.Machine.execSealReseal x0 s
  | .sealJumperOpen x0 => Sys2Proof.Machine.execSealJumperOpen x0 s
  | .sealJumperClose x0 => Sys2Proof.Machine.execSealJumperClose x0 s
  | .safetyCycle x0 x1 => Sys2Proof.Machine.execSafetyCycle x0 x1 s
  | .testPulse x0 x1 x2 => Sys2Proof.Machine.execTestPulse x0 x1 x2 s
  | .rampOpen x0 x1 x2 => Sys2Proof.Machine.execRampOpen x0 x1 x2 s
  | .pinOvertempTrip x0 x1 x2 => Sys2Proof.Machine.execPinOvertempTrip x0 x1 x2 s
  | .reliefWindowExpiry x0 x1 => Sys2Proof.Machine.execReliefWindowExpiry x0 x1 s
  | .readbackFault x0 x1 x2 x3 x4 x5 => Sys2Proof.Machine.execReadbackFault x0 x1 x2 x3 x4 x5 s
  | .darkTest x0 x1 x2 x3 x4 => Sys2Proof.Machine.execDarkTest x0 x1 x2 x3 x4 s
  | .darkTestTimeout x0 x1 => Sys2Proof.Machine.execDarkTestTimeout x0 x1 s
  | .darkTestOverdue x0 x1 => Sys2Proof.Machine.execDarkTestOverdue x0 x1 s
  | .keepaliveLoss x0 => Sys2Proof.Machine.execKeepaliveLoss x0 s
  | .safetyFailure x0 x1 => Sys2Proof.Machine.execSafetyFailure x0 x1 s
  | .xtripInput x0 x1 x2 => Sys2Proof.Machine.execXtripInput x0 x1 x2 s
  | .xtripTestPulse x0 => Sys2Proof.Machine.execXtripTestPulse x0 s
  | .xlineTimeout x0 => Sys2Proof.Machine.execXlineTimeout x0 s
  | .tripResetRequest x0 x1 => Sys2Proof.Machine.execTripResetRequest x0 x1 s
  | .pairResetRequest x0 x1 => Sys2Proof.Machine.execPairResetRequest x0 x1 s
  | .outputFaultClear x0 x1 x2 => Sys2Proof.Machine.execOutputFaultClear x0 x1 x2 s
  | .safetyConfigLoad x0 => Sys2Proof.Machine.execSafetyConfigLoad x0 s
  | .safetyConfigConfirm x0 => Sys2Proof.Machine.execSafetyConfigConfirm x0 s
  | .safetyResetService x0 => Sys2Proof.Machine.execSafetyResetService x0 s
  | .safetyOutputsService x0 => Sys2Proof.Machine.execSafetyOutputsService x0 s
  | .telegramSend x0 x1 => Sys2Proof.Machine.execTelegramSend x0 x1 s
  | .telegramReceive x0 x1 x2 x3 => Sys2Proof.Machine.execTelegramReceive x0 x1 x2 x3 s
  | .singleCopyAccept x0 x1 => Sys2Proof.Machine.execSingleCopyAccept x0 x1 s
  | .telegramWatchdogExpiry x0 x1 => Sys2Proof.Machine.execTelegramWatchdogExpiry x0 x1 s
  | .connectionOpenTimeout x0 x1 => Sys2Proof.Machine.execConnectionOpenTimeout x0 x1 s
  | .connectionReopen x0 x1 => Sys2Proof.Machine.execConnectionReopen x0 x1 s
  | .graceExpiry x0 x1 => Sys2Proof.Machine.execGraceExpiry x0 x1 s
  | .thermalFrame x0 x1 x2 x3 => Sys2Proof.Machine.execThermalFrame x0 x1 x2 x3 s
  | .bandFall x0 x1 => Sys2Proof.Machine.execBandFall x0 x1 s
  | .throttleStep x0 x1 => Sys2Proof.Machine.execThrottleStep x0 x1 s
  | .shutdownAck x0 x1 x2 x3 => Sys2Proof.Machine.execShutdownAck x0 x1 x2 x3 s
  | .coolingFaultClear x0 x1 => Sys2Proof.Machine.execCoolingFaultClear x0 x1 s
  | .loadSwitchCommand x0 x1 => Sys2Proof.Machine.execLoadSwitchCommand x0 x1 s
  | .turnOnComplete x0 x1 x2 => Sys2Proof.Machine.execTurnOnComplete x0 x1 x2 s
  | .inrushTimeout x0 x1 => Sys2Proof.Machine.execInrushTimeout x0 x1 s
  | .overcurrent x0 x1 x2 => Sys2Proof.Machine.execOvercurrent x0 x1 x2 s
  | .shortCircuit x0 x1 x2 => Sys2Proof.Machine.execShortCircuit x0 x1 x2 s
  | .fetModelUpdate x0 x1 x2 x3 => Sys2Proof.Machine.execFetModelUpdate x0 x1 x2 x3 s
  | .loadFaultClear x0 x1 => Sys2Proof.Machine.execLoadFaultClear x0 x1 s
  | .thermalLatchClear x0 x1 => Sys2Proof.Machine.execThermalLatchClear x0 x1 s
  | .retryClear x0 x1 => Sys2Proof.Machine.execRetryClear x0 x1 s
  | .retryResetTimeout x0 x1 => Sys2Proof.Machine.execRetryResetTimeout x0 x1 s
  | .vauxUndervoltage x0 x1 => Sys2Proof.Machine.execVauxUndervoltage x0 x1 s
  | .vauxUndervoltageEnd x0 x1 => Sys2Proof.Machine.execVauxUndervoltageEnd x0 x1 s
  | .restartDelayExpiry x0 x1 => Sys2Proof.Machine.execRestartDelayExpiry x0 x1 s
  | .openLoadOn x0 x1 x2 x3 => Sys2Proof.Machine.execOpenLoadOn x0 x1 x2 x3 s
  | .offStateTest x0 x1 x2 x3 => Sys2Proof.Machine.execOffStateTest x0 x1 x2 x3 s
  | .commandLinkLoss x0 x1 => Sys2Proof.Machine.execCommandLinkLoss x0 x1 s
  | .attenuationStart x0 x1 => Sys2Proof.Machine.execAttenuationStart x0 x1 s
  | .attenuationDone x0 x1 x2 => Sys2Proof.Machine.execAttenuationDone x0 x1 x2 s
  | .vlkTxPoll x0 x1 => Sys2Proof.Machine.execVlkTxPoll x0 x1 s
  | .vlkFrameReceive x0 x1 x2 x3 x4 => Sys2Proof.Machine.execVlkFrameReceive x0 x1 x2 x3 x4 s
  | .vlkFrameSent x0 x1 x2 x3 => Sys2Proof.Machine.execVlkFrameSent x0 x1 x2 x3 s
  | .pilotWindow x0 x1 x2 x3 x4 x5 x6 x7 => Sys2Proof.Machine.execPilotWindow x0 x1 x2 x3 x4 x5 x6 x7 s
  | .pilotStateAccept x0 x1 => Sys2Proof.Machine.execPilotStateAccept x0 x1 s
  | .pilotGeneratorWrite x0 x1 => Sys2Proof.Machine.execPilotGeneratorWrite x0 x1 s
  | .canFrameReceive x0 x1 x2 x3 => Sys2Proof.Machine.execCanFrameReceive x0 x1 x2 x3 s
  | .canPushNormal x0 x1 => Sys2Proof.Machine.execCanPushNormal x0 x1 s
  | .canPushUrgent x0 x1 => Sys2Proof.Machine.execCanPushUrgent x0 x1 s
  | .canTxAttemptEnd x0 x1 x2 x3 => Sys2Proof.Machine.execCanTxAttemptEnd x0 x1 x2 x3 s
  | .canRecover x0 => Sys2Proof.Machine.execCanRecover x0 s
  | .canRecoveryDone x0 x1 => Sys2Proof.Machine.execCanRecoveryDone x0 x1 s
  | .abortn x0 x1 => Sys2Proof.Machine.execAbortn x0 x1 s
  | .abortu x0 x1 => Sys2Proof.Machine.execAbortu x0 x1 s
  | .flushn x0 x1 => Sys2Proof.Machine.execFlushn x0 x1 s
  | .flushu x0 x1 => Sys2Proof.Machine.execFlushu x0 x1 s
  | .headTimeout x0 x1 x2 => Sys2Proof.Machine.execHeadTimeout x0 x1 x2 s
  | .uartTxWrite x0 x1 => Sys2Proof.Machine.execUartTxWrite x0 x1 s
  | .uartRxChar x0 x1 x2 x3 x4 x5 => Sys2Proof.Machine.execUartRxChar x0 x1 x2 x3 x4 x5 s
  | .uartRxRead x0 => Sys2Proof.Machine.execUartRxRead x0 s
  | .uartIdle x0 x1 => Sys2Proof.Machine.execUartIdle x0 x1 s
  | .uartTxDone x0 x1 => Sys2Proof.Machine.execUartTxDone x0 x1 s
  | .pollRoundStart x0 x1 => Sys2Proof.Machine.execPollRoundStart x0 x1 s
  | .pollAttempt x0 x1 => Sys2Proof.Machine.execPollAttempt x0 x1 s
  | .respReceive x0 x1 x2 x3 => Sys2Proof.Machine.execRespReceive x0 x1 x2 x3 s
  | .responseTimeout x0 x1 => Sys2Proof.Machine.execResponseTimeout x0 x1 s
  | .slaveLost x0 x1 => Sys2Proof.Machine.execSlaveLost x0 x1 s
  | .dlpush x0 x1 => Sys2Proof.Machine.execDlpush x0 x1 s
  | .modeset x0 x1 => Sys2Proof.Machine.execModeset x0 x1 s
  | .zeroCrossEdge x0 x1 => Sys2Proof.Machine.execZeroCrossEdge x0 x1 s
  | .interruptClaim x0 x1 => Sys2Proof.Machine.execInterruptClaim x0 x1 s
  | .interruptComplete x0 x1 x2 => Sys2Proof.Machine.execInterruptComplete x0 x1 x2 s
  | .cryptoSha x0 x1 => Sys2Proof.Machine.execCryptoSha x0 x1 s
  | .cryptoAesGcmEncrypt x0 x1 x2 => Sys2Proof.Machine.execCryptoAesGcmEncrypt x0 x1 x2 s
  | .cryptoAesGcmDecrypt x0 x1 x2 => Sys2Proof.Machine.execCryptoAesGcmDecrypt x0 x1 x2 s
  | .cryptoEcdsaSign x0 x1 => Sys2Proof.Machine.execCryptoEcdsaSign x0 x1 s
  | .cryptoEcdsaVerify x0 x1 => Sys2Proof.Machine.execCryptoEcdsaVerify x0 x1 s
  | .cryptoEd448Sign x0 x1 => Sys2Proof.Machine.execCryptoEd448Sign x0 x1 s
  | .cryptoEd448Verify x0 x1 => Sys2Proof.Machine.execCryptoEd448Verify x0 x1 s
  | .cryptoEcdh x0 x1 => Sys2Proof.Machine.execCryptoEcdh x0 x1 s
  | .cryptoKeyPairGeneration x0 x1 x2 => Sys2Proof.Machine.execCryptoKeyPairGeneration x0 x1 x2 s
  | .cryptoRandomBytes x0 x1 x2 => Sys2Proof.Machine.execCryptoRandomBytes x0 x1 x2 s
  | .cryptoJobDone x0 => Sys2Proof.Machine.execCryptoJobDone x0 s
  | .exiDecode x0 x1 => Sys2Proof.Machine.execExiDecode x0 x1 s
  | .exiEncode x0 x1 => Sys2Proof.Machine.execExiEncode x0 x1 s
  | .exiJobDone x0 => Sys2Proof.Machine.execExiJobDone x0 s
  | .xspiCommand x0 x1 x2 => Sys2Proof.Machine.execXspiCommand x0 x1 x2 s
  | .xspiCommandDone x0 x1 x2 x3 => Sys2Proof.Machine.execXspiCommandDone x0 x1 x2 x3 s
  | .xspiReadTimeout x0 x1 => Sys2Proof.Machine.execXspiReadTimeout x0 x1 s
  | .ethFrameReceive x0 x1 x2 x3 x4 => Sys2Proof.Machine.execEthFrameReceive x0 x1 x2 x3 x4 s
  | .ethTxPoll x0 x1 => Sys2Proof.Machine.execEthTxPoll x0 x1 s
  | .timebaseRateWrite x0 x1 => Sys2Proof.Machine.execTimebaseRateWrite x0 x1 s
  | .offsetWrite x0 x1 => Sys2Proof.Machine.execOffsetWrite x0 x1 s
  | .holdoverEntry x0 => Sys2Proof.Machine.execHoldoverEntry x0 s
  | .alarmArm x0 x1 x2 => Sys2Proof.Machine.execAlarmArm x0 x1 x2 s
  | .alarmFire x0 x1 => Sys2Proof.Machine.execAlarmFire x0 x1 s
  | .mailboxRequest x0 x1 x2 => Sys2Proof.Machine.execMailboxRequest x0 x1 x2 s
  | .mailboxResponse x0 x1 => Sys2Proof.Machine.execMailboxResponse x0 x1 s
  | .mailboxAck x0 x1 x2 => Sys2Proof.Machine.execMailboxAck x0 x1 x2 s
  | .mailboxTimeout x0 x1 x2 => Sys2Proof.Machine.execMailboxTimeout x0 x1 x2 s
  | .slotEnable x0 x1 => Sys2Proof.Machine.execSlotEnable x0 x1 s
  | .slotDerived x0 x1 => Sys2Proof.Machine.execSlotDerived x0 x1 s
  | .geninc x0 x1 => Sys2Proof.Machine.execGeninc x0 x1 s
  | .hssVerify x0 x1 => Sys2Proof.Machine.execHssVerify x0 x1 s
  | .slotPublicKey x0 x1 => Sys2Proof.Machine.execSlotPublicKey x0 x1 s
  | .chromosStatement x0 x1 => Sys2Proof.Machine.execChromosStatement x0 x1 s
  | .signerPublicKey x0 x1 => Sys2Proof.Machine.execSignerPublicKey x0 x1 s
  | .keyJobDone x0 => Sys2Proof.Machine.execKeyJobDone x0 s
  | .signRequest x0 x1 x2 => Sys2Proof.Machine.execSignRequest x0 x1 x2 s
  | .signatureDone x0 => Sys2Proof.Machine.execSignatureDone x0 s
  | .treeBuilt x0 x1 => Sys2Proof.Machine.execTreeBuilt x0 x1 s
  | .lcRequestState x0 x1 => Sys2Proof.Machine.execLcRequestState x0 x1 s
  | .lcRequestBlowRoot x0 => Sys2Proof.Machine.execLcRequestBlowRoot x0 s
  | .lcRequestDebugUnlock x0 => Sys2Proof.Machine.execLcRequestDebugUnlock x0 s
  | .lcConfirm x0 x1 x2 x3 x4 => Sys2Proof.Machine.execLcConfirm x0 x1 x2 x3 x4 s
  | .debugRelock x0 x1 => Sys2Proof.Machine.execDebugRelock x0 x1 s
  | .ownerSet x0 x1 x2 => Sys2Proof.Machine.execOwnerSet x0 x1 x2 s
  | .measurementExtend x0 x1 => Sys2Proof.Machine.execMeasurementExtend x0 x1 s
  | .svnCommit x0 x1 => Sys2Proof.Machine.execSvnCommit x0 x1 s
  | .powerOnReset x0 x1 => Sys2Proof.Machine.execPowerOnReset x0 x1 s
  | .brownOutReset x0 x1 => Sys2Proof.Machine.execBrownOutReset x0 x1 s
  | .pinReset x0 x1 => Sys2Proof.Machine.execPinReset x0 x1 s
  | .softwareReset x0 x1 x2 => Sys2Proof.Machine.execSoftwareReset x0 x1 x2 s
  | .deviceWatchdogExpiry x0 x1 => Sys2Proof.Machine.execDeviceWatchdogExpiry x0 x1 s
  | .deviceWatchdogKick x0 x1 => Sys2Proof.Machine.execDeviceWatchdogKick x0 x1 s
  | .computeWatchdogExpiry x0 => Sys2Proof.Machine.execComputeWatchdogExpiry x0 s
  | .computeWatchdogKick x0 x1 => Sys2Proof.Machine.execComputeWatchdogKick x0 x1 s
  | .islandRestartRequest x0 x1 => Sys2Proof.Machine.execIslandRestartRequest x0 x1 s
  | .islandRestartDone x0 x1 x2 x3 => Sys2Proof.Machine.execIslandRestartDone x0 x1 x2 x3 s
  | .powerFailWarning x0 x1 x2 => Sys2Proof.Machine.execPowerFailWarning x0 x1 x2 s
  | .powerFailWarningEnd x0 x1 x2 x3 => Sys2Proof.Machine.execPowerFailWarningEnd x0 x1 x2 x3 s
  | .shedIslandRestart x0 => Sys2Proof.Machine.execShedIslandRestart x0 s
  | .stuckResetRecord x0 => Sys2Proof.Machine.execStuckResetRecord x0 s
  | .interfaceDieReset x0 x1 => Sys2Proof.Machine.execInterfaceDieReset x0 x1 s
  | .interfaceDieResetEnd x0 x1 x2 => Sys2Proof.Machine.execInterfaceDieResetEnd x0 x1 x2 s
  | .temperatureRead x0 x1 x2 => Sys2Proof.Machine.execTemperatureRead x0 x1 x2 s
  | .supplyDeviation x0 x1 x2 x3 => Sys2Proof.Machine.execSupplyDeviation x0 x1 x2 x3 s
  | .processSpeedCheck x0 x1 x2 => Sys2Proof.Machine.execProcessSpeedCheck x0 x1 x2 s
  | .bistRetry x0 x1 => Sys2Proof.Machine.execBistRetry x0 x1 s
  | .hardRepair x0 x1 x2 => Sys2Proof.Machine.execHardRepair x0 x1 x2 s
  | .heartbeatSend x0 => Sys2Proof.Machine.execHeartbeatSend x0 s
  | .heartbeatReceive x0 x1 x2 x3 => Sys2Proof.Machine.execHeartbeatReceive x0 x1 x2 x3 s
  | .frameMirrorReceive x0 x1 x2 => Sys2Proof.Machine.execFrameMirrorReceive x0 x1 x2 s
  | .ausalReplay x0 x1 x2 x3 => Sys2Proof.Machine.execAusalReplay x0 x1 x2 x3 s
  | .laneDown x0 x1 x2 => Sys2Proof.Machine.execLaneDown x0 x1 x2 s
  | .laneUp x0 x1 x2 => Sys2Proof.Machine.execLaneUp x0 x1 x2 s
  | .mirroredWrite x0 x1 x2 x3 x4 => Sys2Proof.Machine.execMirroredWrite x0 x1 x2 x3 x4 s
  | .mirrorCommitAck x0 x1 x2 => Sys2Proof.Machine.execMirrorCommitAck x0 x1 x2 s
  | .syncCopy x0 x1 => Sys2Proof.Machine.execSyncCopy x0 x1 s
  | .waitTimeout x0 => Sys2Proof.Machine.execWaitTimeout x0 s
  | .takeover x0 x1 => Sys2Proof.Machine.execTakeover x0 x1 s
  | .demotion x0 => Sys2Proof.Machine.execDemotion x0 s
  | .handover x0 x1 => Sys2Proof.Machine.execHandover x0 x1 s
  | .firmwareEventPut x0 x1 => Sys2Proof.Machine.execFirmwareEventPut x0 x1 s
  | .logEntryWrite x0 x1 => Sys2Proof.Machine.execLogEntryWrite x0 x1 s
  | .partnerLogEntry x0 x1 x2 x3 x4 x5 => Sys2Proof.Machine.execPartnerLogEntry x0 x1 x2 x3 x4 x5 s
  | .ethLinkChange x0 x1 x2 x3 => Sys2Proof.Machine.execEthLinkChange x0 x1 x2 x3 s
  | .ethFrameSent x0 x1 x2 x3 => Sys2Proof.Machine.execEthFrameSent x0 x1 x2 x3 s
  | .machineTimerInterrupt x0 => Sys2Proof.Machine.execMachineTimerInterrupt x0 s
  | .sramReadEcc x0 x1 x2 => Sys2Proof.Machine.execSramReadEcc x0 x1 x2 s
  | .safetyInputSample x0 x1 => Sys2Proof.Machine.execSafetyInputSample x0 x1 s
  | .canReceiveError x0 x1 x2 x3 => Sys2Proof.Machine.execCanReceiveError x0 x1 x2 x3 s
  | .resetNRise x0 x1 => Sys2Proof.Machine.execResetNRise x0 x1 s

end Sys2Proof.Machine
end

