-- ==== Sys2Proof/Laws/Kv.lean ====
section
/-! SUPPORT. Laws of the sparse tables: a read after a write, the order of the keys, the listed values. -/
namespace Sys2Proof.Machine

variable {α : Type}

@[simp] theorem kvGet_nil (k : Nat) (d : α) : kvGet [] k d = d := rfl

theorem kvGet_cons (p : Nat × α) (m : KV α) (k : Nat) (d : α) : kvGet (p :: m) k d = if p.1 = k then p.2 else kvGet m k d := rfl

@[simp] theorem kvGet_kvPut_same (m : KV α) (k : Nat) (v d : α) : kvGet (kvPut m k v) k d = v := by
  induction m with
  | nil => simp [kvPut, kvGet]
  | cons p r ih =>
    obtain ⟨k', v'⟩ := p
    simp only [kvPut]
    split
    · simp [kvGet]
    · split
      · simp [kvGet]
      · rename_i h1 h2
        simp [kvGet, ih]; intro h; exact absurd h.symm h2

theorem kvGet_kvPut_other (m : KV α) {k k' : Nat} (h : k' ≠ k) (v d : α) : kvGet (kvPut m k v) k' d = kvGet m k' d := by
  induction m with
  | nil => simp [kvPut, kvGet, h.symm]
  | cons p r ih =>
    obtain ⟨a, x⟩ := p
    simp only [kvPut]
    split
    · simp [kvGet, h.symm]
    · split
      · rename_i h2; subst h2; simp [kvGet, h.symm]
      · simp [kvGet, ih]

@[simp] theorem kvGet_kvDel_same (m : KV α) (k : Nat) (d : α) : kvGet (kvDel m k) k d = d := by
  induction m with
  | nil => rfl
  | cons p r ih =>
    obtain ⟨a, x⟩ := p
    simp only [kvDel]
    split
    · exact ih
    · rename_i h; simp [kvGet, h, ih]

theorem kvGet_kvDel_other (m : KV α) {k k' : Nat} (h : k' ≠ k) (d : α) : kvGet (kvDel m k) k' d = kvGet m k' d := by
  induction m with
  | nil => rfl
  | cons p r ih =>
    obtain ⟨a, x⟩ := p
    simp only [kvDel]
    split
    · rename_i h2; subst h2; simp [kvGet, h.symm, ih]
    · simp [kvGet, ih]

@[simp] theorem kvGet_kvSet_same [DecidableEq α] (m : KV α) (k : Nat) (v d : α) : kvGet (kvSet m k v d) k d = v := by
  unfold kvSet; split
  · rename_i h; simp [h]
  · simp

theorem kvGet_kvSet_other [DecidableEq α] (m : KV α) {k k' : Nat} (h : k' ≠ k) (v d e : α) :
    kvGet (kvSet m k v d) k' e = kvGet m k' e := by
  unfold kvSet; split
  · exact kvGet_kvDel_other m h e
  · exact kvGet_kvPut_other m h v e

theorem kvGet_kvMod_other [DecidableEq α] (m : KV α) {k k' : Nat} (h : k' ≠ k) (d e : α) (f : α → α) :
    kvGet (kvMod m k d f) k' e = kvGet m k' e := kvGet_kvSet_other m h _ d e

/-! ### Order of the keys -/

/-- Every key of a table is above a bound. -/
def kvAbove (n : Nat) (m : KV α) : Prop := ∀ p ∈ m, n < p.1

theorem kvSorted_cons (p : Nat × α) (m : KV α) : kvSorted (p :: m) = true ↔ kvAbove p.1 m ∧ kvSorted m = true := by
  induction m generalizing p with
  | nil => simp [kvSorted, kvAbove]
  | cons q r ih =>
    obtain ⟨a, x⟩ := p; obtain ⟨b, y⟩ := q
    simp only [kvSorted, Bool.and_eq_true, decide_eq_true_eq]
    constructor
    · rintro ⟨h1, h2⟩
      refine ⟨?_, h2⟩
      intro z hz
      rcases List.mem_cons.1 hz with rfl | hz
      · exact h1
      · exact lt_trans h1 (((ih (b, y)).1 h2).1 z hz)
    · rintro ⟨h1, h2⟩
      exact ⟨h1 (b, y) (List.mem_cons.2 (Or.inl rfl)), h2⟩

theorem kvPut_mem {m : KV α} {k : Nat} {v : α} {p : Nat × α} (h : p ∈ kvPut m k v) : p = (k, v) ∨ p ∈ m := by
  induction m with
  | nil => simpa [kvPut] using h
  | cons q r ih =>
    obtain ⟨a, x⟩ := q
    simp only [kvPut] at h
    split at h
    · rcases List.mem_cons.1 h with h | h
      · exact Or.inl h
      · exact Or.inr h
    · split at h
      · rcases List.mem_cons.1 h with h | h
        · exact Or.inl h
        · exact Or.inr (List.mem_cons.2 (Or.inr h))
      · rcases List.mem_cons.1 h with h | h
        · exact Or.inr (List.mem_cons.2 (Or.inl h))
        · rcases ih h with h | h
          · exact Or.inl h
          · exact Or.inr (List.mem_cons.2 (Or.inr h))

theorem kvDel_mem {m : KV α} {k : Nat} {p : Nat × α} (h : p ∈ kvDel m k) : p ∈ m := by
  induction m with
  | nil => simp [kvDel] at h
  | cons q r ih =>
    obtain ⟨a, x⟩ := q
    simp only [kvDel] at h
    split at h
    · exact List.mem_cons.2 (Or.inr (ih h))
    · rcases List.mem_cons.1 h with h | h
      · exact List.mem_cons.2 (Or.inl h)
      · exact List.mem_cons.2 (Or.inr (ih h))

theorem kvPut_sorted {m : KV α} (k : Nat) (v : α) (h : kvSorted m = true) : kvSorted (kvPut m k v) = true := by
  induction m with
  | nil => rfl
  | cons q r ih =>
    obtain ⟨a, x⟩ := q
    have hs := (kvSorted_cons _ _).1 h
    simp only [kvPut]
    split
    · rename_i hk
      refine (kvSorted_cons _ _).2 ⟨?_, h⟩
      intro z hz
      rcases List.mem_cons.1 hz with rfl | hz
      · exact hk
      · exact lt_trans hk (hs.1 z hz)
    · split
      · rename_i hk; subst hk
        exact (kvSorted_cons _ _).2 hs
      · rename_i h1 h2
        refine (kvSorted_cons _ _).2 ⟨?_, ih hs.2⟩
        intro z hz
        rcases kvPut_mem hz with rfl | hz
        · show a < k; omega
        · exact hs.1 z hz

theorem kvDel_sorted {m : KV α} (k : Nat) (h : kvSorted m = true) : kvSorted (kvDel m k) = true := by
  induction m with
  | nil => rfl
  | cons q r ih =>
    obtain ⟨a, x⟩ := q
    have hs := (kvSorted_cons _ _).1 h
    simp only [kvDel]
    split
    · exact ih hs.2
    · exact (kvSorted_cons _ _).2 ⟨fun z hz => hs.1 z (kvDel_mem hz), ih hs.2⟩

theorem kvSet_sorted [DecidableEq α] {m : KV α} (k : Nat) (v d : α) (h : kvSorted m = true) : kvSorted (kvSet m k v d) = true := by
  unfold kvSet; split
  · exact kvDel_sorted k h
  · exact kvPut_sorted k v h

theorem kvFilter_sorted {m : KV α} (f : Nat × α → Bool) (h : kvSorted m = true) : kvSorted (m.filter f) = true := by
  induction m with
  | nil => rfl
  | cons q r ih =>
    have hs := (kvSorted_cons _ _).1 h
    simp only [List.filter]
    split
    · exact (kvSorted_cons _ _).2 ⟨fun z hz => hs.1 z (List.mem_of_mem_filter hz), ih hs.2⟩
    · exact ih hs.2

end Sys2Proof.Machine
end

