-- ==== Sys2Proof/Laws/State.lean ====
section
/-! SUPPORT. One lemma for each field of the state and each update of it: a write of a register changes the register file
and nothing else, an answer the answers, the time the time. -/
namespace Sys2Proof.Machine

@[simp] theorem Dev.wrB_variant (d : Dev) (r : Reg) (i b : Nat) (v : Word) : (d.wrB r i b v).variant = d.variant := rfl
@[simp] theorem Dev.wrB_time (d : Dev) (r : Reg) (i b : Nat) (v : Word) : (d.wrB r i b v).time = d.time := rfl
@[simp] theorem Dev.wrB_fresh (d : Dev) (r : Reg) (i b : Nat) (v : Word) : (d.wrB r i b v).fresh = d.fresh := rfl
@[simp] theorem Dev.wrB_resp (d : Dev) (r : Reg) (i b : Nat) (v : Word) : (d.wrB r i b v).resp = d.resp := rfl
@[simp] theorem Dev.wrB_hi (d : Dev) (r : Reg) (i b : Nat) (v : Word) : (d.wrB r i b v).hi = d.hi := rfl
@[simp] theorem Dev.wrB_log (d : Dev) (r : Reg) (i b : Nat) (v : Word) : (d.wrB r i b v).log = d.log := rfl
@[simp] theorem Dev.wrB_pwr (d : Dev) (r : Reg) (i b : Nat) (v : Word) : (d.wrB r i b v).pwr = d.pwr := rfl
@[simp] theorem Dev.wrB_txn (d : Dev) (r : Reg) (i b : Nat) (v : Word) : (d.wrB r i b v).txn = d.txn := rfl
@[simp] theorem Dev.wrB_sys (d : Dev) (r : Reg) (i b : Nat) (v : Word) : (d.wrB r i b v).sys = d.sys := rfl
@[simp] theorem Dev.wrB_sdm (d : Dev) (r : Reg) (i b : Nat) (v : Word) : (d.wrB r i b v).sdm = d.sdm := rfl
@[simp] theorem Dev.wrB_links (d : Dev) (r : Reg) (i b : Nat) (v : Word) : (d.wrB r i b v).links = d.links := rfl
@[simp] theorem Dev.wrB_loop (d : Dev) (r : Reg) (i b : Nat) (v : Word) : (d.wrB r i b v).loop = d.loop := rfl
@[simp] theorem Dev.wrB_arb (d : Dev) (r : Reg) (i b : Nat) (v : Word) : (d.wrB r i b v).arb = d.arb := rfl
@[simp] theorem Dev.wrB_share (d : Dev) (r : Reg) (i b : Nat) (v : Word) : (d.wrB r i b v).share = d.share := rfl
@[simp] theorem Dev.wrB_grouped (d : Dev) (r : Reg) (i b : Nat) (v : Word) : (d.wrB r i b v).grouped = d.grouped := rfl
@[simp] theorem Dev.wrB_headDead (d : Dev) (r : Reg) (i b : Nat) (v : Word) : (d.wrB r i b v).headDead = d.headDead := rfl
@[simp] theorem Dev.wrB_acq (d : Dev) (r : Reg) (i b : Nat) (v : Word) : (d.wrB r i b v).acq = d.acq := rfl
@[simp] theorem Dev.wrB_saf (d : Dev) (r : Reg) (i b : Nat) (v : Word) : (d.wrB r i b v).saf = d.saf := rfl
@[simp] theorem Dev.wrB_thm (d : Dev) (r : Reg) (i b : Nat) (v : Word) : (d.wrB r i b v).thm = d.thm := rfl
@[simp] theorem Dev.wrB_lsw (d : Dev) (r : Reg) (i b : Nat) (v : Word) : (d.wrB r i b v).lsw = d.lsw := rfl
@[simp] theorem Dev.wrB_mtr (d : Dev) (r : Reg) (i b : Nat) (v : Word) : (d.wrB r i b v).mtr = d.mtr := rfl
@[simp] theorem Dev.wrB_bil (d : Dev) (r : Reg) (i b : Nat) (v : Word) : (d.wrB r i b v).bil = d.bil := rfl
@[simp] theorem Dev.wrB_tmb (d : Dev) (r : Reg) (i b : Nat) (v : Word) : (d.wrB r i b v).tmb = d.tmb := rfl
@[simp] theorem Dev.wrB_mbx (d : Dev) (r : Reg) (i b : Nat) (v : Word) : (d.wrB r i b v).mbx = d.mbx := rfl
@[simp] theorem Dev.wrB_ports (d : Dev) (r : Reg) (i b : Nat) (v : Word) : (d.wrB r i b v).ports = d.ports := rfl
@[simp] theorem Dev.wrB_plc (d : Dev) (r : Reg) (i b : Nat) (v : Word) : (d.wrB r i b v).plc = d.plc := rfl
@[simp] theorem Dev.wrB_cmp (d : Dev) (r : Reg) (i b : Nat) (v : Word) : (d.wrB r i b v).cmp = d.cmp := rfl
@[simp] theorem Dev.wrB_key (d : Dev) (r : Reg) (i b : Nat) (v : Word) : (d.wrB r i b v).key = d.key := rfl
@[simp] theorem Dev.wrB_pair (d : Dev) (r : Reg) (i b : Nat) (v : Word) : (d.wrB r i b v).pair = d.pair := rfl

@[simp] theorem Dev.wr_variant (d : Dev) (r : Reg) (i : Nat) (v : Word) : (d.wr r i v).variant = d.variant := rfl
@[simp] theorem Dev.wr_time (d : Dev) (r : Reg) (i : Nat) (v : Word) : (d.wr r i v).time = d.time := rfl
@[simp] theorem Dev.wr_fresh (d : Dev) (r : Reg) (i : Nat) (v : Word) : (d.wr r i v).fresh = d.fresh := rfl
@[simp] theorem Dev.wr_resp (d : Dev) (r : Reg) (i : Nat) (v : Word) : (d.wr r i v).resp = d.resp := rfl
@[simp] theorem Dev.wr_hi (d : Dev) (r : Reg) (i : Nat) (v : Word) : (d.wr r i v).hi = d.hi := rfl
@[simp] theorem Dev.wr_log (d : Dev) (r : Reg) (i : Nat) (v : Word) : (d.wr r i v).log = d.log := rfl
@[simp] theorem Dev.wr_pwr (d : Dev) (r : Reg) (i : Nat) (v : Word) : (d.wr r i v).pwr = d.pwr := rfl
@[simp] theorem Dev.wr_txn (d : Dev) (r : Reg) (i : Nat) (v : Word) : (d.wr r i v).txn = d.txn := rfl
@[simp] theorem Dev.wr_sys (d : Dev) (r : Reg) (i : Nat) (v : Word) : (d.wr r i v).sys = d.sys := rfl
@[simp] theorem Dev.wr_sdm (d : Dev) (r : Reg) (i : Nat) (v : Word) : (d.wr r i v).sdm = d.sdm := rfl
@[simp] theorem Dev.wr_links (d : Dev) (r : Reg) (i : Nat) (v : Word) : (d.wr r i v).links = d.links := rfl
@[simp] theorem Dev.wr_loop (d : Dev) (r : Reg) (i : Nat) (v : Word) : (d.wr r i v).loop = d.loop := rfl
@[simp] theorem Dev.wr_arb (d : Dev) (r : Reg) (i : Nat) (v : Word) : (d.wr r i v).arb = d.arb := rfl
@[simp] theorem Dev.wr_share (d : Dev) (r : Reg) (i : Nat) (v : Word) : (d.wr r i v).share = d.share := rfl
@[simp] theorem Dev.wr_grouped (d : Dev) (r : Reg) (i : Nat) (v : Word) : (d.wr r i v).grouped = d.grouped := rfl
@[simp] theorem Dev.wr_headDead (d : Dev) (r : Reg) (i : Nat) (v : Word) : (d.wr r i v).headDead = d.headDead := rfl
@[simp] theorem Dev.wr_acq (d : Dev) (r : Reg) (i : Nat) (v : Word) : (d.wr r i v).acq = d.acq := rfl
@[simp] theorem Dev.wr_saf (d : Dev) (r : Reg) (i : Nat) (v : Word) : (d.wr r i v).saf = d.saf := rfl
@[simp] theorem Dev.wr_thm (d : Dev) (r : Reg) (i : Nat) (v : Word) : (d.wr r i v).thm = d.thm := rfl
@[simp] theorem Dev.wr_lsw (d : Dev) (r : Reg) (i : Nat) (v : Word) : (d.wr r i v).lsw = d.lsw := rfl
@[simp] theorem Dev.wr_mtr (d : Dev) (r : Reg) (i : Nat) (v : Word) : (d.wr r i v).mtr = d.mtr := rfl
@[simp] theorem Dev.wr_bil (d : Dev) (r : Reg) (i : Nat) (v : Word) : (d.wr r i v).bil = d.bil := rfl
@[simp] theorem Dev.wr_tmb (d : Dev) (r : Reg) (i : Nat) (v : Word) : (d.wr r i v).tmb = d.tmb := rfl
@[simp] theorem Dev.wr_mbx (d : Dev) (r : Reg) (i : Nat) (v : Word) : (d.wr r i v).mbx = d.mbx := rfl
@[simp] theorem Dev.wr_ports (d : Dev) (r : Reg) (i : Nat) (v : Word) : (d.wr r i v).ports = d.ports := rfl
@[simp] theorem Dev.wr_plc (d : Dev) (r : Reg) (i : Nat) (v : Word) : (d.wr r i v).plc = d.plc := rfl
@[simp] theorem Dev.wr_cmp (d : Dev) (r : Reg) (i : Nat) (v : Word) : (d.wr r i v).cmp = d.cmp := rfl
@[simp] theorem Dev.wr_key (d : Dev) (r : Reg) (i : Nat) (v : Word) : (d.wr r i v).key = d.key := rfl
@[simp] theorem Dev.wr_pair (d : Dev) (r : Reg) (i : Nat) (v : Word) : (d.wr r i v).pair = d.pair := rfl

@[simp] theorem Dev.wrI_variant (d : Dev) (r : Reg) (i : Initiator) (v : Word) : (d.wrI r i v).variant = d.variant := rfl
@[simp] theorem Dev.wrI_time (d : Dev) (r : Reg) (i : Initiator) (v : Word) : (d.wrI r i v).time = d.time := rfl
@[simp] theorem Dev.wrI_fresh (d : Dev) (r : Reg) (i : Initiator) (v : Word) : (d.wrI r i v).fresh = d.fresh := rfl
@[simp] theorem Dev.wrI_resp (d : Dev) (r : Reg) (i : Initiator) (v : Word) : (d.wrI r i v).resp = d.resp := rfl
@[simp] theorem Dev.wrI_hi (d : Dev) (r : Reg) (i : Initiator) (v : Word) : (d.wrI r i v).hi = d.hi := rfl
@[simp] theorem Dev.wrI_log (d : Dev) (r : Reg) (i : Initiator) (v : Word) : (d.wrI r i v).log = d.log := rfl
@[simp] theorem Dev.wrI_pwr (d : Dev) (r : Reg) (i : Initiator) (v : Word) : (d.wrI r i v).pwr = d.pwr := rfl
@[simp] theorem Dev.wrI_txn (d : Dev) (r : Reg) (i : Initiator) (v : Word) : (d.wrI r i v).txn = d.txn := rfl
@[simp] theorem Dev.wrI_sys (d : Dev) (r : Reg) (i : Initiator) (v : Word) : (d.wrI r i v).sys = d.sys := rfl
@[simp] theorem Dev.wrI_sdm (d : Dev) (r : Reg) (i : Initiator) (v : Word) : (d.wrI r i v).sdm = d.sdm := rfl
@[simp] theorem Dev.wrI_links (d : Dev) (r : Reg) (i : Initiator) (v : Word) : (d.wrI r i v).links = d.links := rfl
@[simp] theorem Dev.wrI_loop (d : Dev) (r : Reg) (i : Initiator) (v : Word) : (d.wrI r i v).loop = d.loop := rfl
@[simp] theorem Dev.wrI_arb (d : Dev) (r : Reg) (i : Initiator) (v : Word) : (d.wrI r i v).arb = d.arb := rfl
@[simp] theorem Dev.wrI_share (d : Dev) (r : Reg) (i : Initiator) (v : Word) : (d.wrI r i v).share = d.share := rfl
@[simp] theorem Dev.wrI_grouped (d : Dev) (r : Reg) (i : Initiator) (v : Word) : (d.wrI r i v).grouped = d.grouped := rfl
@[simp] theorem Dev.wrI_headDead (d : Dev) (r : Reg) (i : Initiator) (v : Word) : (d.wrI r i v).headDead = d.headDead := rfl
@[simp] theorem Dev.wrI_acq (d : Dev) (r : Reg) (i : Initiator) (v : Word) : (d.wrI r i v).acq = d.acq := rfl
@[simp] theorem Dev.wrI_saf (d : Dev) (r : Reg) (i : Initiator) (v : Word) : (d.wrI r i v).saf = d.saf := rfl
@[simp] theorem Dev.wrI_thm (d : Dev) (r : Reg) (i : Initiator) (v : Word) : (d.wrI r i v).thm = d.thm := rfl
@[simp] theorem Dev.wrI_lsw (d : Dev) (r : Reg) (i : Initiator) (v : Word) : (d.wrI r i v).lsw = d.lsw := rfl
@[simp] theorem Dev.wrI_mtr (d : Dev) (r : Reg) (i : Initiator) (v : Word) : (d.wrI r i v).mtr = d.mtr := rfl
@[simp] theorem Dev.wrI_bil (d : Dev) (r : Reg) (i : Initiator) (v : Word) : (d.wrI r i v).bil = d.bil := rfl
@[simp] theorem Dev.wrI_tmb (d : Dev) (r : Reg) (i : Initiator) (v : Word) : (d.wrI r i v).tmb = d.tmb := rfl
@[simp] theorem Dev.wrI_mbx (d : Dev) (r : Reg) (i : Initiator) (v : Word) : (d.wrI r i v).mbx = d.mbx := rfl
@[simp] theorem Dev.wrI_ports (d : Dev) (r : Reg) (i : Initiator) (v : Word) : (d.wrI r i v).ports = d.ports := rfl
@[simp] theorem Dev.wrI_plc (d : Dev) (r : Reg) (i : Initiator) (v : Word) : (d.wrI r i v).plc = d.plc := rfl
@[simp] theorem Dev.wrI_cmp (d : Dev) (r : Reg) (i : Initiator) (v : Word) : (d.wrI r i v).cmp = d.cmp := rfl
@[simp] theorem Dev.wrI_key (d : Dev) (r : Reg) (i : Initiator) (v : Word) : (d.wrI r i v).key = d.key := rfl
@[simp] theorem Dev.wrI_pair (d : Dev) (r : Reg) (i : Initiator) (v : Word) : (d.wrI r i v).pair = d.pair := rfl

@[simp] theorem Dev.setFld_variant (d : Dev) (r : Reg) (i hi lo v : Nat) : (d.setFld r i hi lo v).variant = d.variant := rfl
@[simp] theorem Dev.setFld_time (d : Dev) (r : Reg) (i hi lo v : Nat) : (d.setFld r i hi lo v).time = d.time := rfl
@[simp] theorem Dev.setFld_fresh (d : Dev) (r : Reg) (i hi lo v : Nat) : (d.setFld r i hi lo v).fresh = d.fresh := rfl
@[simp] theorem Dev.setFld_resp (d : Dev) (r : Reg) (i hi lo v : Nat) : (d.setFld r i hi lo v).resp = d.resp := rfl
@[simp] theorem Dev.setFld_hi (d : Dev) (r : Reg) (i hi lo v : Nat) : (d.setFld r i hi lo v).hi = d.hi := rfl
@[simp] theorem Dev.setFld_log (d : Dev) (r : Reg) (i hi lo v : Nat) : (d.setFld r i hi lo v).log = d.log := rfl
@[simp] theorem Dev.setFld_pwr (d : Dev) (r : Reg) (i hi lo v : Nat) : (d.setFld r i hi lo v).pwr = d.pwr := rfl
@[simp] theorem Dev.setFld_txn (d : Dev) (r : Reg) (i hi lo v : Nat) : (d.setFld r i hi lo v).txn = d.txn := rfl
@[simp] theorem Dev.setFld_sys (d : Dev) (r : Reg) (i hi lo v : Nat) : (d.setFld r i hi lo v).sys = d.sys := rfl
@[simp] theorem Dev.setFld_sdm (d : Dev) (r : Reg) (i hi lo v : Nat) : (d.setFld r i hi lo v).sdm = d.sdm := rfl
@[simp] theorem Dev.setFld_links (d : Dev) (r : Reg) (i hi lo v : Nat) : (d.setFld r i hi lo v).links = d.links := rfl
@[simp] theorem Dev.setFld_loop (d : Dev) (r : Reg) (i hi lo v : Nat) : (d.setFld r i hi lo v).loop = d.loop := rfl
@[simp] theorem Dev.setFld_arb (d : Dev) (r : Reg) (i hi lo v : Nat) : (d.setFld r i hi lo v).arb = d.arb := rfl
@[simp] theorem Dev.setFld_share (d : Dev) (r : Reg) (i hi lo v : Nat) : (d.setFld r i hi lo v).share = d.share := rfl
@[simp] theorem Dev.setFld_grouped (d : Dev) (r : Reg) (i hi lo v : Nat) : (d.setFld r i hi lo v).grouped = d.grouped := rfl
@[simp] theorem Dev.setFld_headDead (d : Dev) (r : Reg) (i hi lo v : Nat) : (d.setFld r i hi lo v).headDead = d.headDead := rfl
@[simp] theorem Dev.setFld_acq (d : Dev) (r : Reg) (i hi lo v : Nat) : (d.setFld r i hi lo v).acq = d.acq := rfl
@[simp] theorem Dev.setFld_saf (d : Dev) (r : Reg) (i hi lo v : Nat) : (d.setFld r i hi lo v).saf = d.saf := rfl
@[simp] theorem Dev.setFld_thm (d : Dev) (r : Reg) (i hi lo v : Nat) : (d.setFld r i hi lo v).thm = d.thm := rfl
@[simp] theorem Dev.setFld_lsw (d : Dev) (r : Reg) (i hi lo v : Nat) : (d.setFld r i hi lo v).lsw = d.lsw := rfl
@[simp] theorem Dev.setFld_mtr (d : Dev) (r : Reg) (i hi lo v : Nat) : (d.setFld r i hi lo v).mtr = d.mtr := rfl
@[simp] theorem Dev.setFld_bil (d : Dev) (r : Reg) (i hi lo v : Nat) : (d.setFld r i hi lo v).bil = d.bil := rfl
@[simp] theorem Dev.setFld_tmb (d : Dev) (r : Reg) (i hi lo v : Nat) : (d.setFld r i hi lo v).tmb = d.tmb := rfl
@[simp] theorem Dev.setFld_mbx (d : Dev) (r : Reg) (i hi lo v : Nat) : (d.setFld r i hi lo v).mbx = d.mbx := rfl
@[simp] theorem Dev.setFld_ports (d : Dev) (r : Reg) (i hi lo v : Nat) : (d.setFld r i hi lo v).ports = d.ports := rfl
@[simp] theorem Dev.setFld_plc (d : Dev) (r : Reg) (i hi lo v : Nat) : (d.setFld r i hi lo v).plc = d.plc := rfl
@[simp] theorem Dev.setFld_cmp (d : Dev) (r : Reg) (i hi lo v : Nat) : (d.setFld r i hi lo v).cmp = d.cmp := rfl
@[simp] theorem Dev.setFld_key (d : Dev) (r : Reg) (i hi lo v : Nat) : (d.setFld r i hi lo v).key = d.key := rfl
@[simp] theorem Dev.setFld_pair (d : Dev) (r : Reg) (i hi lo v : Nat) : (d.setFld r i hi lo v).pair = d.pair := rfl

@[simp] theorem Dev.setBit_variant (d : Dev) (r : Reg) (i n : Nat) (b : Bool) : (d.setBit r i n b).variant = d.variant := rfl
@[simp] theorem Dev.setBit_time (d : Dev) (r : Reg) (i n : Nat) (b : Bool) : (d.setBit r i n b).time = d.time := rfl
@[simp] theorem Dev.setBit_fresh (d : Dev) (r : Reg) (i n : Nat) (b : Bool) : (d.setBit r i n b).fresh = d.fresh := rfl
@[simp] theorem Dev.setBit_resp (d : Dev) (r : Reg) (i n : Nat) (b : Bool) : (d.setBit r i n b).resp = d.resp := rfl
@[simp] theorem Dev.setBit_hi (d : Dev) (r : Reg) (i n : Nat) (b : Bool) : (d.setBit r i n b).hi = d.hi := rfl
@[simp] theorem Dev.setBit_log (d : Dev) (r : Reg) (i n : Nat) (b : Bool) : (d.setBit r i n b).log = d.log := rfl
@[simp] theorem Dev.setBit_pwr (d : Dev) (r : Reg) (i n : Nat) (b : Bool) : (d.setBit r i n b).pwr = d.pwr := rfl
@[simp] theorem Dev.setBit_txn (d : Dev) (r : Reg) (i n : Nat) (b : Bool) : (d.setBit r i n b).txn = d.txn := rfl
@[simp] theorem Dev.setBit_sys (d : Dev) (r : Reg) (i n : Nat) (b : Bool) : (d.setBit r i n b).sys = d.sys := rfl
@[simp] theorem Dev.setBit_sdm (d : Dev) (r : Reg) (i n : Nat) (b : Bool) : (d.setBit r i n b).sdm = d.sdm := rfl
@[simp] theorem Dev.setBit_links (d : Dev) (r : Reg) (i n : Nat) (b : Bool) : (d.setBit r i n b).links = d.links := rfl
@[simp] theorem Dev.setBit_loop (d : Dev) (r : Reg) (i n : Nat) (b : Bool) : (d.setBit r i n b).loop = d.loop := rfl
@[simp] theorem Dev.setBit_arb (d : Dev) (r : Reg) (i n : Nat) (b : Bool) : (d.setBit r i n b).arb = d.arb := rfl
@[simp] theorem Dev.setBit_share (d : Dev) (r : Reg) (i n : Nat) (b : Bool) : (d.setBit r i n b).share = d.share := rfl
@[simp] theorem Dev.setBit_grouped (d : Dev) (r : Reg) (i n : Nat) (b : Bool) : (d.setBit r i n b).grouped = d.grouped := rfl
@[simp] theorem Dev.setBit_headDead (d : Dev) (r : Reg) (i n : Nat) (b : Bool) : (d.setBit r i n b).headDead = d.headDead := rfl
@[simp] theorem Dev.setBit_acq (d : Dev) (r : Reg) (i n : Nat) (b : Bool) : (d.setBit r i n b).acq = d.acq := rfl
@[simp] theorem Dev.setBit_saf (d : Dev) (r : Reg) (i n : Nat) (b : Bool) : (d.setBit r i n b).saf = d.saf := rfl
@[simp] theorem Dev.setBit_thm (d : Dev) (r : Reg) (i n : Nat) (b : Bool) : (d.setBit r i n b).thm = d.thm := rfl
@[simp] theorem Dev.setBit_lsw (d : Dev) (r : Reg) (i n : Nat) (b : Bool) : (d.setBit r i n b).lsw = d.lsw := rfl
@[simp] theorem Dev.setBit_mtr (d : Dev) (r : Reg) (i n : Nat) (b : Bool) : (d.setBit r i n b).mtr = d.mtr := rfl
@[simp] theorem Dev.setBit_bil (d : Dev) (r : Reg) (i n : Nat) (b : Bool) : (d.setBit r i n b).bil = d.bil := rfl
@[simp] theorem Dev.setBit_tmb (d : Dev) (r : Reg) (i n : Nat) (b : Bool) : (d.setBit r i n b).tmb = d.tmb := rfl
@[simp] theorem Dev.setBit_mbx (d : Dev) (r : Reg) (i n : Nat) (b : Bool) : (d.setBit r i n b).mbx = d.mbx := rfl
@[simp] theorem Dev.setBit_ports (d : Dev) (r : Reg) (i n : Nat) (b : Bool) : (d.setBit r i n b).ports = d.ports := rfl
@[simp] theorem Dev.setBit_plc (d : Dev) (r : Reg) (i n : Nat) (b : Bool) : (d.setBit r i n b).plc = d.plc := rfl
@[simp] theorem Dev.setBit_cmp (d : Dev) (r : Reg) (i n : Nat) (b : Bool) : (d.setBit r i n b).cmp = d.cmp := rfl
@[simp] theorem Dev.setBit_key (d : Dev) (r : Reg) (i n : Nat) (b : Bool) : (d.setBit r i n b).key = d.key := rfl
@[simp] theorem Dev.setBit_pair (d : Dev) (r : Reg) (i n : Nat) (b : Bool) : (d.setBit r i n b).pair = d.pair := rfl

@[simp] theorem Dev.incFld_variant (d : Dev) (r : Reg) (i hi lo : Nat) : (d.incFld r i hi lo).variant = d.variant := rfl
@[simp] theorem Dev.incFld_time (d : Dev) (r : Reg) (i hi lo : Nat) : (d.incFld r i hi lo).time = d.time := rfl
@[simp] theorem Dev.incFld_fresh (d : Dev) (r : Reg) (i hi lo : Nat) : (d.incFld r i hi lo).fresh = d.fresh := rfl
@[simp] theorem Dev.incFld_resp (d : Dev) (r : Reg) (i hi lo : Nat) : (d.incFld r i hi lo).resp = d.resp := rfl
@[simp] theorem Dev.incFld_hi (d : Dev) (r : Reg) (i hi lo : Nat) : (d.incFld r i hi lo).hi = d.hi := rfl
@[simp] theorem Dev.incFld_log (d : Dev) (r : Reg) (i hi lo : Nat) : (d.incFld r i hi lo).log = d.log := rfl
@[simp] theorem Dev.incFld_pwr (d : Dev) (r : Reg) (i hi lo : Nat) : (d.incFld r i hi lo).pwr = d.pwr := rfl
@[simp] theorem Dev.incFld_txn (d : Dev) (r : Reg) (i hi lo : Nat) : (d.incFld r i hi lo).txn = d.txn := rfl
@[simp] theorem Dev.incFld_sys (d : Dev) (r : Reg) (i hi lo : Nat) : (d.incFld r i hi lo).sys = d.sys := rfl
@[simp] theorem Dev.incFld_sdm (d : Dev) (r : Reg) (i hi lo : Nat) : (d.incFld r i hi lo).sdm = d.sdm := rfl
@[simp] theorem Dev.incFld_links (d : Dev) (r : Reg) (i hi lo : Nat) : (d.incFld r i hi lo).links = d.links := rfl
@[simp] theorem Dev.incFld_loop (d : Dev) (r : Reg) (i hi lo : Nat) : (d.incFld r i hi lo).loop = d.loop := rfl
@[simp] theorem Dev.incFld_arb (d : Dev) (r : Reg) (i hi lo : Nat) : (d.incFld r i hi lo).arb = d.arb := rfl
@[simp] theorem Dev.incFld_share (d : Dev) (r : Reg) (i hi lo : Nat) : (d.incFld r i hi lo).share = d.share := rfl
@[simp] theorem Dev.incFld_grouped (d : Dev) (r : Reg) (i hi lo : Nat) : (d.incFld r i hi lo).grouped = d.grouped := rfl
@[simp] theorem Dev.incFld_headDead (d : Dev) (r : Reg) (i hi lo : Nat) : (d.incFld r i hi lo).headDead = d.headDead := rfl
@[simp] theorem Dev.incFld_acq (d : Dev) (r : Reg) (i hi lo : Nat) : (d.incFld r i hi lo).acq = d.acq := rfl
@[simp] theorem Dev.incFld_saf (d : Dev) (r : Reg) (i hi lo : Nat) : (d.incFld r i hi lo).saf = d.saf := rfl
@[simp] theorem Dev.incFld_thm (d : Dev) (r : Reg) (i hi lo : Nat) : (d.incFld r i hi lo).thm = d.thm := rfl
@[simp] theorem Dev.incFld_lsw (d : Dev) (r : Reg) (i hi lo : Nat) : (d.incFld r i hi lo).lsw = d.lsw := rfl
@[simp] theorem Dev.incFld_mtr (d : Dev) (r : Reg) (i hi lo : Nat) : (d.incFld r i hi lo).mtr = d.mtr := rfl
@[simp] theorem Dev.incFld_bil (d : Dev) (r : Reg) (i hi lo : Nat) : (d.incFld r i hi lo).bil = d.bil := rfl
@[simp] theorem Dev.incFld_tmb (d : Dev) (r : Reg) (i hi lo : Nat) : (d.incFld r i hi lo).tmb = d.tmb := rfl
@[simp] theorem Dev.incFld_mbx (d : Dev) (r : Reg) (i hi lo : Nat) : (d.incFld r i hi lo).mbx = d.mbx := rfl
@[simp] theorem Dev.incFld_ports (d : Dev) (r : Reg) (i hi lo : Nat) : (d.incFld r i hi lo).ports = d.ports := rfl
@[simp] theorem Dev.incFld_plc (d : Dev) (r : Reg) (i hi lo : Nat) : (d.incFld r i hi lo).plc = d.plc := rfl
@[simp] theorem Dev.incFld_cmp (d : Dev) (r : Reg) (i hi lo : Nat) : (d.incFld r i hi lo).cmp = d.cmp := rfl
@[simp] theorem Dev.incFld_key (d : Dev) (r : Reg) (i hi lo : Nat) : (d.incFld r i hi lo).key = d.key := rfl
@[simp] theorem Dev.incFld_pair (d : Dev) (r : Reg) (i hi lo : Nat) : (d.incFld r i hi lo).pair = d.pair := rfl

@[simp] theorem Dev.at_variant (d : Dev) (t : Nat) : (d.at t).variant = d.variant := rfl
@[simp] theorem Dev.at_fresh (d : Dev) (t : Nat) : (d.at t).fresh = d.fresh := rfl
@[simp] theorem Dev.at_regs (d : Dev) (t : Nat) : (d.at t).regs = d.regs := rfl
@[simp] theorem Dev.at_resp (d : Dev) (t : Nat) : (d.at t).resp = d.resp := rfl
@[simp] theorem Dev.at_hi (d : Dev) (t : Nat) : (d.at t).hi = d.hi := rfl
@[simp] theorem Dev.at_log (d : Dev) (t : Nat) : (d.at t).log = d.log := rfl
@[simp] theorem Dev.at_pwr (d : Dev) (t : Nat) : (d.at t).pwr = d.pwr := rfl
@[simp] theorem Dev.at_txn (d : Dev) (t : Nat) : (d.at t).txn = d.txn := rfl
@[simp] theorem Dev.at_sys (d : Dev) (t : Nat) : (d.at t).sys = d.sys := rfl
@[simp] theorem Dev.at_sdm (d : Dev) (t : Nat) : (d.at t).sdm = d.sdm := rfl
@[simp] theorem Dev.at_links (d : Dev) (t : Nat) : (d.at t).links = d.links := rfl
@[simp] theorem Dev.at_loop (d : Dev) (t : Nat) : (d.at t).loop = d.loop := rfl
@[simp] theorem Dev.at_arb (d : Dev) (t : Nat) : (d.at t).arb = d.arb := rfl
@[simp] theorem Dev.at_share (d : Dev) (t : Nat) : (d.at t).share = d.share := rfl
@[simp] theorem Dev.at_grouped (d : Dev) (t : Nat) : (d.at t).grouped = d.grouped := rfl
@[simp] theorem Dev.at_headDead (d : Dev) (t : Nat) : (d.at t).headDead = d.headDead := rfl
@[simp] theorem Dev.at_acq (d : Dev) (t : Nat) : (d.at t).acq = d.acq := rfl
@[simp] theorem Dev.at_saf (d : Dev) (t : Nat) : (d.at t).saf = d.saf := rfl
@[simp] theorem Dev.at_thm (d : Dev) (t : Nat) : (d.at t).thm = d.thm := rfl
@[simp] theorem Dev.at_lsw (d : Dev) (t : Nat) : (d.at t).lsw = d.lsw := rfl
@[simp] theorem Dev.at_mtr (d : Dev) (t : Nat) : (d.at t).mtr = d.mtr := rfl
@[simp] theorem Dev.at_bil (d : Dev) (t : Nat) : (d.at t).bil = d.bil := rfl
@[simp] theorem Dev.at_tmb (d : Dev) (t : Nat) : (d.at t).tmb = d.tmb := rfl
@[simp] theorem Dev.at_mbx (d : Dev) (t : Nat) : (d.at t).mbx = d.mbx := rfl
@[simp] theorem Dev.at_ports (d : Dev) (t : Nat) : (d.at t).ports = d.ports := rfl
@[simp] theorem Dev.at_plc (d : Dev) (t : Nat) : (d.at t).plc = d.plc := rfl
@[simp] theorem Dev.at_cmp (d : Dev) (t : Nat) : (d.at t).cmp = d.cmp := rfl
@[simp] theorem Dev.at_key (d : Dev) (t : Nat) : (d.at t).key = d.key := rfl
@[simp] theorem Dev.at_pair (d : Dev) (t : Nat) : (d.at t).pair = d.pair := rfl

@[simp] theorem Dev.answer_variant (d : Dev) (i : Initiator) (e : Bool) (w : Word) : (d.answer i e w).variant = d.variant := rfl
@[simp] theorem Dev.answer_time (d : Dev) (i : Initiator) (e : Bool) (w : Word) : (d.answer i e w).time = d.time := rfl
@[simp] theorem Dev.answer_fresh (d : Dev) (i : Initiator) (e : Bool) (w : Word) : (d.answer i e w).fresh = d.fresh := rfl
@[simp] theorem Dev.answer_regs (d : Dev) (i : Initiator) (e : Bool) (w : Word) : (d.answer i e w).regs = d.regs := rfl
@[simp] theorem Dev.answer_hi (d : Dev) (i : Initiator) (e : Bool) (w : Word) : (d.answer i e w).hi = d.hi := rfl
@[simp] theorem Dev.answer_log (d : Dev) (i : Initiator) (e : Bool) (w : Word) : (d.answer i e w).log = d.log := rfl
@[simp] theorem Dev.answer_pwr (d : Dev) (i : Initiator) (e : Bool) (w : Word) : (d.answer i e w).pwr = d.pwr := rfl
@[simp] theorem Dev.answer_txn (d : Dev) (i : Initiator) (e : Bool) (w : Word) : (d.answer i e w).txn = d.txn := rfl
@[simp] theorem Dev.answer_sys (d : Dev) (i : Initiator) (e : Bool) (w : Word) : (d.answer i e w).sys = d.sys := rfl
@[simp] theorem Dev.answer_sdm (d : Dev) (i : Initiator) (e : Bool) (w : Word) : (d.answer i e w).sdm = d.sdm := rfl
@[simp] theorem Dev.answer_links (d : Dev) (i : Initiator) (e : Bool) (w : Word) : (d.answer i e w).links = d.links := rfl
@[simp] theorem Dev.answer_loop (d : Dev) (i : Initiator) (e : Bool) (w : Word) : (d.answer i e w).loop = d.loop := rfl
@[simp] theorem Dev.answer_arb (d : Dev) (i : Initiator) (e : Bool) (w : Word) : (d.answer i e w).arb = d.arb := rfl
@[simp] theorem Dev.answer_share (d : Dev) (i : Initiator) (e : Bool) (w : Word) : (d.answer i e w).share = d.share := rfl
@[simp] theorem Dev.answer_grouped (d : Dev) (i : Initiator) (e : Bool) (w : Word) : (d.answer i e w).grouped = d.grouped := rfl
@[simp] theorem Dev.answer_headDead (d : Dev) (i : Initiator) (e : Bool) (w : Word) : (d.answer i e w).headDead = d.headDead := rfl
@[simp] theorem Dev.answer_acq (d : Dev) (i : Initiator) (e : Bool) (w : Word) : (d.answer i e w).acq = d.acq := rfl
@[simp] theorem Dev.answer_saf (d : Dev) (i : Initiator) (e : Bool) (w : Word) : (d.answer i e w).saf = d.saf := rfl
@[simp] theorem Dev.answer_thm (d : Dev) (i : Initiator) (e : Bool) (w : Word) : (d.answer i e w).thm = d.thm := rfl
@[simp] theorem Dev.answer_lsw (d : Dev) (i : Initiator) (e : Bool) (w : Word) : (d.answer i e w).lsw = d.lsw := rfl
@[simp] theorem Dev.answer_mtr (d : Dev) (i : Initiator) (e : Bool) (w : Word) : (d.answer i e w).mtr = d.mtr := rfl
@[simp] theorem Dev.answer_bil (d : Dev) (i : Initiator) (e : Bool) (w : Word) : (d.answer i e w).bil = d.bil := rfl
@[simp] theorem Dev.answer_tmb (d : Dev) (i : Initiator) (e : Bool) (w : Word) : (d.answer i e w).tmb = d.tmb := rfl
@[simp] theorem Dev.answer_mbx (d : Dev) (i : Initiator) (e : Bool) (w : Word) : (d.answer i e w).mbx = d.mbx := rfl
@[simp] theorem Dev.answer_ports (d : Dev) (i : Initiator) (e : Bool) (w : Word) : (d.answer i e w).ports = d.ports := rfl
@[simp] theorem Dev.answer_plc (d : Dev) (i : Initiator) (e : Bool) (w : Word) : (d.answer i e w).plc = d.plc := rfl
@[simp] theorem Dev.answer_cmp (d : Dev) (i : Initiator) (e : Bool) (w : Word) : (d.answer i e w).cmp = d.cmp := rfl
@[simp] theorem Dev.answer_key (d : Dev) (i : Initiator) (e : Bool) (w : Word) : (d.answer i e w).key = d.key := rfl
@[simp] theorem Dev.answer_pair (d : Dev) (i : Initiator) (e : Bool) (w : Word) : (d.answer i e w).pair = d.pair := rfl

@[simp] theorem Dev.at_time (d : Dev) (t : Nat) : (d.at t).time = max d.time t := rfl

@[simp] theorem Sys.onDev_mem (s : Sys) (f : Dev → Dev) : (s.onDev f).mem = s.mem := rfl
@[simp] theorem Sys.onDev_bad (s : Sys) (f : Dev → Dev) : (s.onDev f).bad = s.bad := rfl
@[simp] theorem Sys.onDev_fuses (s : Sys) (f : Dev → Dev) : (s.onDev f).fuses = s.fuses := rfl
@[simp] theorem Sys.store_fuses (s : Sys) (a : Nat) (l : List Byte) : (s.store a l).fuses = s.fuses := rfl
@[simp] theorem Sys.store_dev (s : Sys) (a : Nat) (l : List Byte) : (s.store a l).dev = s.dev := rfl
@[simp] theorem Sys.wipe_bad (s : Sys) (lo hi : Nat) : (s.wipe lo hi).bad = s.bad := rfl
@[simp] theorem Sys.wipe_fuses (s : Sys) (lo hi : Nat) : (s.wipe lo hi).fuses = s.fuses := rfl
@[simp] theorem Sys.wipe_dev (s : Sys) (lo hi : Nat) : (s.wipe lo hi).dev = s.dev := rfl
@[simp] theorem Sys.blow_mem (s : Sys) (m : Nat) : (s.blow m).mem = s.mem := rfl
@[simp] theorem Sys.blow_bad (s : Sys) (m : Nat) : (s.blow m).bad = s.bad := rfl
@[simp] theorem Sys.blow_dev (s : Sys) (m : Nat) : (s.blow m).dev = s.dev := rfl
@[simp] theorem Sys.onDev_dev (s : Sys) (f : Dev → Dev) : (s.onDev f).dev = f s.dev := rfl
@[simp] theorem Sys.store_mem (s : Sys) (a : Nat) (l : List Byte) : (s.store a l).mem = memWrite s.mem a l := rfl
@[simp] theorem Sys.store_bad (s : Sys) (a : Nat) (l : List Byte) :
    (s.store a l).bad = s.bad.filter (fun w => !(decide (a ≤ w) && decide (w + 4 ≤ a + l.length))) := rfl
@[simp] theorem Sys.wipe_mem (s : Sys) (lo hi : Nat) : (s.wipe lo hi).mem = memWipe s.mem lo hi := rfl
@[simp] theorem Sys.blow_fuses (s : Sys) (m : Nat) : (s.blow m).fuses = s.fuses ||| m := rfl

end Sys2Proof.Machine
end

