-- ==== Sys2Proof/Laws/Regs.lean ====
section
/-! SUPPORT. Laws of the register file: a read after a write of the same register, of another one, and of the fields of a
word. -/
namespace Sys2Proof.Machine

/-- The registers of two devices read alike at a key. -/
theorem Dev.wrB_regs_other (d : Dev) (r : Reg) (i b : Nat) (v : Word) {k : Nat} (h : k ≠ r.key i b) (e : Word) :
    kvGet (d.wrB r i b v).regs k e = kvGet d.regs k e := kvGet_kvSet_other _ h _ _ _

@[simp] theorem Dev.rdB_wrB_same (d : Dev) (r : Reg) (i b : Nat) (v : Word) : (d.wrB r i b v).rdB r i b = v := by
  simp [Dev.rdB, Dev.wrB]

theorem Dev.rdB_wrB_other (d : Dev) (r q : Reg) (i j b c : Nat) (v : Word) (h : q.key j c ≠ r.key i b) :
    (d.wrB r i b v).rdB q j c = d.rdB q j c := kvGet_kvSet_other _ h _ _ _

@[simp] theorem Dev.rd_wr_same (d : Dev) (r : Reg) (i : Nat) (v : Word) : (d.wr r i v).rd r i = v := Dev.rdB_wrB_same d r i 0 v

theorem Dev.rd_wr_other (d : Dev) (r q : Reg) (i j : Nat) (v : Word) (h : q.key j 0 ≠ r.key i 0) :
    (d.wr r i v).rd q j = d.rd q j := Dev.rdB_wrB_other d r q i j 0 0 v h

@[simp] theorem Dev.rd_setFld_same (d : Dev) (r : Reg) (i hi lo v : Nat) :
    (d.setFld r i hi lo v).rd r i = putBits (d.rd r i) hi lo v := Dev.rd_wr_same d r i _

@[simp] theorem Dev.rd_setBit_same (d : Dev) (r : Reg) (i n : Nat) (b : Bool) :
    (d.setBit r i n b).rd r i = putBit (d.rd r i) n b := Dev.rd_wr_same d r i _

@[simp] theorem Dev.rdI_wrI_same (d : Dev) (r : Reg) (i : Initiator) (v : Word) : (d.wrI r i v).rdI r i = v := Dev.rdB_wrB_same d r 0 i.id v

/-- The time, an answer and a free value leave the registers alone. -/
@[simp] theorem Dev.at_rdB (d : Dev) (t : Nat) (r : Reg) (i b : Nat) : (d.at t).rdB r i b = d.rdB r i b := rfl
@[simp] theorem Dev.at_rd (d : Dev) (t : Nat) (r : Reg) (i : Nat) : (d.at t).rd r i = d.rd r i := rfl
@[simp] theorem Dev.answer_rd (d : Dev) (i : Initiator) (e : Bool) (w : Word) (r : Reg) (k : Nat) : (d.answer i e w).rd r k = d.rd r k := rfl
@[simp] theorem Dev.free_rd (d : Dev) (n : Nat) (r : Reg) (k : Nat) : (d.free n).2.rd r k = d.rd r k := rfl

/-! ### Bits of a word -/

@[simp] theorem bitOf_putBit_same (w : Word) {n : Nat} (h : n < 32) (b : Bool) : bitOf (putBit w n b) n = b := by
  unfold bitOf putBit
  have hl : (w32 (1 <<< n)).toNat.testBit n = true := by
    have : (1 <<< n) < 2 ^ 32 := by
      rw [Nat.shiftLeft_eq, one_mul]; exact Nat.pow_lt_pow_right (by norm_num) h
    rw [BitVec.toNat_ofNat, Nat.mod_eq_of_lt this, Nat.shiftLeft_eq, one_mul, Nat.testBit_two_pow_self]
  cases b
  · simp only [Bool.false_eq_true, if_false, BitVec.testBit_toNat, BitVec.getLsbD_and, BitVec.getLsbD_not]
    rw [BitVec.testBit_toNat] at hl
    simp [hl]
  · simp only [if_true, BitVec.testBit_toNat, BitVec.getLsbD_or]
    rw [BitVec.testBit_toNat] at hl
    simp [hl]

theorem bitOf_putBit_other (w : Word) {n m : Nat} (h : m ≠ n) (hn : n < 32) (b : Bool) : bitOf (putBit w n b) m = bitOf w m := by
  unfold bitOf putBit
  have hl : (w32 (1 <<< n)).getLsbD m = false := by
    have hlt : (1 <<< n) < 2 ^ 32 := by
      rw [Nat.shiftLeft_eq, one_mul]; exact Nat.pow_lt_pow_right (by norm_num) hn
    rw [← BitVec.testBit_toNat, BitVec.toNat_ofNat, Nat.mod_eq_of_lt hlt, Nat.shiftLeft_eq, one_mul, Nat.testBit_two_pow]
    simp [h.symm]
  cases b
  · simp only [Bool.false_eq_true, if_false, BitVec.testBit_toNat, BitVec.getLsbD_and, BitVec.getLsbD_not, hl]
    by_cases hm : m < 32
    · simp [hm]
    · simp [BitVec.getLsbD_of_ge _ _ (by omega : 32 ≤ m)]
  · simp only [if_true, BitVec.testBit_toNat, BitVec.getLsbD_or, hl, Bool.or_false]

theorem maskOf_bit {hi lo n : Nat} (h : hi < 32) (hl : lo ≤ hi) : (maskOf hi lo).getLsbD n = (decide (lo ≤ n) && decide (n ≤ hi)) := by
  have hlt : (2 ^ (hi + 1 - lo) - 1) <<< lo < 2 ^ 32 := by
    rw [Nat.shiftLeft_eq]
    calc (2 ^ (hi + 1 - lo) - 1) * 2 ^ lo < 2 ^ (hi + 1 - lo) * 2 ^ lo :=
          Nat.mul_lt_mul_of_pos_right (Nat.sub_lt (Nat.two_pow_pos _) Nat.one_pos) (Nat.two_pow_pos _)
      _ = 2 ^ (hi + 1) := by rw [← pow_add]; congr 1; omega
      _ ≤ 2 ^ 32 := Nat.pow_le_pow_right (by norm_num) (by omega)
  unfold maskOf
  rw [← BitVec.testBit_toNat, BitVec.toNat_ofNat, Nat.mod_eq_of_lt hlt, Nat.testBit_shiftLeft, Nat.testBit_two_pow_sub_one]
  by_cases h1 : lo ≤ n
  · by_cases h2 : n ≤ hi
    · simp [h1, h2]; omega
    · simp [h1, h2]; omega
  · simp [h1]

theorem field_bit {hi lo v n : Nat} (h : hi < 32) (hl : lo ≤ hi) :
    (w32 ((v % 2 ^ (hi + 1 - lo)) <<< lo)).getLsbD n = (decide (lo ≤ n) && (decide (n ≤ hi) && v.testBit (n - lo))) := by
  have hlt : (v % 2 ^ (hi + 1 - lo)) <<< lo < 2 ^ 32 := by
    rw [Nat.shiftLeft_eq]
    calc (v % 2 ^ (hi + 1 - lo)) * 2 ^ lo < 2 ^ (hi + 1 - lo) * 2 ^ lo :=
          Nat.mul_lt_mul_of_pos_right (Nat.mod_lt _ (Nat.two_pow_pos _)) (Nat.two_pow_pos _)
      _ = 2 ^ (hi + 1) := by rw [← pow_add]; congr 1; omega
      _ ≤ 2 ^ 32 := Nat.pow_le_pow_right (by norm_num) (by omega)
  rw [← BitVec.testBit_toNat, BitVec.toNat_ofNat, Nat.mod_eq_of_lt hlt, Nat.testBit_shiftLeft, Nat.testBit_mod_two_pow]
  by_cases h1 : lo ≤ n
  · have : (n - lo < hi + 1 - lo) = (n ≤ hi) := by simp; omega
    simp [h1, this]
  · simp [h1]

/-- A word with a field replaced: the field's bits are the value's, the others stay. -/
theorem bitOf_putBits (w : Word) {hi lo : Nat} (v n : Nat) (h : hi < 32) (hl : lo ≤ hi) :
    bitOf (putBits w hi lo v) n = if lo ≤ n ∧ n ≤ hi then v.testBit (n - lo) else bitOf w n := by
  unfold bitOf putBits
  rw [BitVec.testBit_toNat, BitVec.testBit_toNat, BitVec.getLsbD_or, BitVec.getLsbD_and, BitVec.getLsbD_not, maskOf_bit h hl, field_bit h hl]
  by_cases h1 : lo ≤ n
  · by_cases h2 : n ≤ hi
    · have : n < 32 := by omega
      simp [h1, h2]
    · by_cases h3 : n < 32
      · simp [h1, h2, h3]
      · simp [h1, h2, BitVec.getLsbD_of_ge w n (by omega)]
  · have : n < 32 := by omega
    simp [h1, this]

/-- The replaced field reads as written. -/
theorem bits_putBits_same (w : Word) {hi lo : Nat} (v : Nat) (h : hi < 32) (hl : lo ≤ hi) :
    bits (putBits w hi lo v) hi lo = v % 2 ^ (hi + 1 - lo) := by
  apply Nat.eq_of_testBit_eq
  intro n
  unfold bits
  rw [Nat.testBit_mod_two_pow, Nat.testBit_shiftRight, Nat.testBit_mod_two_pow]
  have := bitOf_putBits w v (lo + n) h hl
  unfold bitOf at this
  rw [this]
  by_cases h1 : n < hi + 1 - lo
  · have h2 : lo + n ≤ hi := by omega
    simp [h1, h2]
  · simp [h1]

/-- A field outside the replaced one stays. -/
theorem bits_putBits_other (w : Word) {hi lo a b : Nat} (v : Nat) (h : hi < 32) (hl : lo ≤ hi) (hd : a < lo ∨ hi < b) :
    bits (putBits w hi lo v) a b = bits w a b := by
  apply Nat.eq_of_testBit_eq
  intro n
  unfold bits
  rw [Nat.testBit_mod_two_pow, Nat.testBit_shiftRight, Nat.testBit_mod_two_pow, Nat.testBit_shiftRight]
  have := bitOf_putBits w v (b + n) h hl
  unfold bitOf at this
  rw [this]
  by_cases h1 : n < a + 1 - b
  · have h2 : ¬ (lo ≤ b + n ∧ b + n ≤ hi) := by omega
    simp [h2]
  · simp [h1]

@[simp] theorem Dev.fld_setFld_same (d : Dev) (r : Reg) (i : Nat) {hi lo : Nat} (v : Nat) (h : hi < 32) (hl : lo ≤ hi) :
    (d.setFld r i hi lo v).fld r i hi lo = v % 2 ^ (hi + 1 - lo) := by
  unfold Dev.fld; rw [Dev.rd_setFld_same]; exact bits_putBits_same _ _ h hl

@[simp] theorem Dev.bit_setBit_same (d : Dev) (r : Reg) (i : Nat) {n : Nat} (h : n < 32) (b : Bool) :
    (d.setBit r i n b).bit r i n = b := by
  unfold Dev.bit; rw [Dev.rd_setBit_same]; exact bitOf_putBit_same _ h b

end Sys2Proof.Machine
end

