-- ==== Sys2Proof/Laws/Gate.lean ====
section
/-! SUPPORT. What a gated write does: where the gate passes it, the register's own effect after the answer; else nothing
but an answer, a record of an error, a staged or a held write. -/
namespace Sys2Proof.Machine

/-- A passed write is its own effect, with the write noted for the partner where it is mirrored (R706). -/
theorem Dev.gated_pass {d : Dev} {i : Initiator} {r : Reg} {v : Word} {n : Nat} (act : Nat → Dev → Dev) (h : d.gateOf i r = .pass n) :
    ∃ p, d.gated i r v act = { act n (d.answer i false 0) with pair := p } := by
  unfold Dev.gateOf at h
  unfold Dev.gated Dev.gatedAt
  rw [h]
  simp only []
  split
  · exact ⟨_, rfl⟩
  · exact ⟨(act n (d.answer i false 0)).pair, rfl⟩

/-- The same for a write whose effect may reach the memories. -/
theorem Sys.gated_pass {s : Sys} {i : Initiator} {r : Reg} {v : Word} {n : Nat} (act : Nat → Sys → Sys) (h : s.dev.gateOf i r = .pass n) :
    ∃ p : Dev → PairState, s.gated i r v act = (act n (s.onDev (fun d => d.answer i false 0))).onDev (fun d => { d with pair := p d }) := by
  unfold Dev.gateOf at h
  unfold Sys.gated Sys.gatedAt
  rw [h]
  simp only []
  split
  · exact ⟨_, rfl⟩
  · exact ⟨fun d => d.pair, rfl⟩

end Sys2Proof.Machine
end

