-- ==== Sys2Proof/Machine/Pins.lean ====
section
/-! DEFINITION. What the balls of the package show (spec/19_package_electrical.md, R736-R738, spec/17_power_reset_bist.md, R668,
R669, and R105, R125, R322, R415, R416, R446, R489, R527, R539, R548, R551, R555, R582, R603, R609, R716): each output of a pin
group as the state has it. -/
namespace Sys2Proof.Machine

/-- What a ball does. -/
inductive Drive where
  | low
  | high
  /-- High impedance; a released open-drain output; an input. -/
  | highZ
  /-- Driven with its unit's own signal: symbols, frames, clocks, PWM. -/
  | active
  deriving DecidableEq, Repr

/-- The outputs of Table 19.6, each differential pair and each bus of equal balls as one. -/
inductive Pin where
  | pgood
  | faultN
  | sealA
  | xtripOutN
  | sdmclk (g : Nat)
  | cabTx (l : Nat)
  | ausTx (l : Nat)
  | ethTx (m : Nat)
  /-- VLKn_P and VLKn_N. -/
  | vlk (n : Nat)
  | xspCsN (p : Nat)
  | xspResetN (p : Nat)
  /-- The other balls of xSPI port p. -/
  | xspData (p : Nat)
  | pbsTx (n : Nat)
  | serTx (n : Nat)
  | serDe (n : Nat)
  | pilDrv (n : Nat)
  | pulse (n : Nat)
  | gpio (k : Nat)
  /-- DBG_TDO and DBG_SWO. -/
  | dbgOut
  | sintp (j : Nat)
  /-- SOUTn_HS and SOUTn_LS: low holds the gate off. -/
  | sout (p : Nat)
  /-- LSWn_G: low holds the gate to LSWn_OUT. -/
  | lswG (n : Nat)
  /-- THMn and THMREF: the excitation. -/
  | thm
  /-- PLMn_TXP and PLMn_TXN. -/
  | plmTx (m : Nat)
  | plmTxen (m : Nat)
  deriving DecidableEq, Repr

/-- The supply domain of a ball (Table 19.5). -/
inductive Domain where
  | aon
  | vio (b : Nat)
  | iface
  deriving DecidableEq, Repr

/-- The domain of each output. -/
def Pin.domain : Pin → Domain
  | .pgood | .faultN => .aon
  | .xspCsN _ | .xspResetN _ | .xspData _ => .vio 0
  | .dbgOut | .gpio _ | .pulse _ => .vio 1
  | .pbsTx _ | .serTx _ | .serDe _ => .vio 2
  | .pilDrv _ => .vio 3
  | .sdmclk _ => .vio 4
  | .cabTx _ | .ausTx _ | .ethTx _ => .vio 5
  | .vlk _ => .vio 6
  | .sealA | .xtripOutN => .vio 7
  | .sintp _ | .sout _ | .lswG _ | .thm | .plmTx _ | .plmTxen _ => .iface

/-- A ball's supply is absent: its bank below 80 % of its nominal level (R668), the interface die without VAUX (R685). The AON
bank is supplied wherever the model has a state. -/
def Dev.unpowered (d : Dev) : Domain → Bool
  | .aon => false
  | .vio b => d.bankOff b
  | .iface => d.pwr.vauxLow

/-- The controller is in reset: POR, a system reset, the holds of R680 and R699 (R737). -/
def Dev.inReset (d : Dev) : Bool := decide (d.pwr.phase ≠ .running)

/-- What an unpowered ball shows (Table 19.6): the interface die's drivers hold their gates off. -/
def Pin.whenUnpowered : Pin → Drive
  | .sintp _ | .sout _ | .lswG _ | .thm => .low
  | _ => .highZ

/-- What a powered ball shows in reset (Table 19.6). GPIO15 is low where ACTPIN is stored as 1 (R716). -/
def Dev.pinInReset (d : Dev) : Pin → Drive
  | .pgood => if d.pwr.buck then .highZ else .low
  | .faultN | .sealA | .serDe _ | .sintp _ | .sout _ | .lswG _ | .thm | .plmTxen _ => .low
  | .sdmclk g => if d.bit SDM_CLKCFG 0 (8 + g) then .highZ else .low
  | .xspCsN _ | .xspResetN _ | .pbsTx _ | .serTx _ => .high
  | .gpio k => if k = 15 ∧ d.variant = .px4840 ∧ d.bit AUS_CFG 0 20 then .low else .highZ
  | .xtripOutN | .cabTx _ | .ausTx _ | .ethTx _ | .vlk _ | .xspData _ | .pilDrv _ | .pulse _ | .dbgOut | .plmTx _ => .highZ

/-- A level as a drive. -/
def driveOf (b : Bool) : Drive := if b then .high else .low

/-- XTRIP_OUT_N is pulled low: by a trip (R445), or for the 5 us of a test pulse (R447). -/
def Dev.xtripLow (d : Dev) : Bool :=
  d.bit SAF_XSTAT 0 1 || (d.up .safety && decide (0 < d.saf.xPulseAt) && decide (d.time < d.saf.xPulseAt + 5000))

/-- What a powered ball shows while the controller runs: PGOOD with VCORE in regulation (R669), FAULT_N (R678), the units' own
signals, and the balls of a unit that is off. -/
def Dev.pinRunning (d : Dev) : Pin → Drive
  | .pgood => if d.pwr.buck then .highZ else .low
  | .faultN => driveOf (!d.saf.faultLow)
  | .xtripOutN => if d.xtripLow then .low else .highZ
  | .sdmclk g => if d.bit SDM_CLKCFG 0 (8 + g) then .highZ else if d.bit SDM_CLKCFG 0 g then .active else .low
  | .ethTx m => if d.variant.macs ≤ m ∨ d.bit ETH_MCFG m 31 = false then .highZ else .active
  | .vlk n => if d.vlkOn n then .active else .highZ
  | .pbsTx n => if d.canOn n then .active else .high
  | .serTx n => if d.serOn n then .active else .high
  | .serDe n => driveOf (d.serOn n && (d.ser n).de)
  | .pilDrv n => match (d.pilotOut n).1 with | 0 => .highZ | 1 => .high | 2 => .low | _ => .active
  | .pulse n => driveOf (d.pulsePin n)
  | .gpio k => if k = 15 then (match d.actPin with | some b => driveOf b | none => .highZ) else .highZ
  | .sout p => driveOf (d.pairOn p && !d.pwr.ifaceReset)
  | .lswG n => if d.pwr.ifaceReset ∨ ¬ (d.lswSt n = 1 ∨ d.lswSt n = 2) then .low else .active
  | .sintp _ => if d.pwr.ifaceReset then .low else .active
  | .thm => if d.pwr.ifaceReset then .low else .active
  | .plmTx m => if d.plmOn m then .active else .highZ
  | .plmTxen m => if d.plmOn m then .active else .low
  | .sealA | .cabTx _ | .ausTx _ | .xspCsN _ | .xspResetN _ | .xspData _ | .dbgOut => .active

/-- What an output shows (R668, R737). -/
def Dev.pin (d : Dev) (p : Pin) : Drive :=
  if d.unpowered p.domain then p.whenUnpowered else if d.inReset then d.pinInReset p else d.pinRunning p

end Sys2Proof.Machine
end

