-- ==== Sys2Proof/Safety.lean ====
section
/-! DEFINITION. The terms that statements use: what holds of a good state, how a command ends, and what it leaves alone. -/
namespace Sys2Proof

open Sys2Proof.Machine

/-- The device of a state. -/
abbrev Machine.State.dev (s : State) : Dev := s.sys.dev

/-- The memories are in canonical form: addresses strictly rising, no zero byte listed, the boot ROM not listed. -/
def MemOk (s : State) : Prop := memWf s.sys.mem = true

/-- Every fuse bit blown in `a` is blown in `b`: a fuse never heals (R625). -/
def FusesKept (a b : State) : Prop := ∀ n, a.sys.fuses.testBit n = true → b.sys.fuses.testBit n = true

/-- The command answers a next state, of which P holds. -/
def Ends (i : Instr) (s : State) (P : State → Prop) : Prop := ∃ t, exec i s = .next t ∧ P t

/-- Every byte of memory outside the n bytes from an address on reads as before. -/
def BytesKept (s t : State) (a n : Nat) : Prop := ∀ b, b < a ∨ a + n ≤ b → memByte t.sys.mem b = memByte s.sys.mem b

/-- Every register outside the listed keys reads as before. -/
def RegsKept (s t : State) (ks : List Nat) : Prop := ∀ k, k ∉ ks → ∀ v, kvGet t.dev.regs k v = kvGet s.dev.regs k v

/-- Every register outside the listed pages reads as before. -/
def PagesKept (s t : State) (ps : List Nat) : Prop := ∀ k, keyPage k ∉ ps → ∀ v, kvGet t.dev.regs k v = kvGet s.dev.regs k v

/-- The queue, the fuses and every byte of memory stay. -/
def Quiet (s t : State) : Prop := t.pending = s.pending ∧ t.sys.fuses = s.sys.fuses ∧ BytesKept s t 0 0

/-- Every register of the pages from lo to hi reads as before. -/
def PagesHeld (s t : State) (lo hi : Nat) : Prop :=
  ∀ k, lo ≤ keyPage k → keyPage k ≤ hi → ∀ v, kvGet t.dev.regs k v = kvGet s.dev.regs k v

/-- The queue, the fuses and every byte of memory stay, and every register but the listed ones. -/
def OnlyRegs (s t : State) (ks : List Nat) : Prop :=
  t.pending = s.pending ∧ t.sys.fuses = s.sys.fuses ∧ BytesKept s t 0 0 ∧ RegsKept s t ks

/-- The queue, the fuses and every byte of memory stay, and every register but those of the listed pages. -/
def OnlyPages (s t : State) (ps : List Nat) : Prop :=
  t.pending = s.pending ∧ t.sys.fuses = s.sys.fuses ∧ BytesKept s t 0 0 ∧ PagesKept s t ps

/-- The gate passes an initiator's write to instance n of a register: it reaches the page (R50, R70), has no open
transaction that would stage it (R82), page and instance are present (R6, R7), the island runs and no fence of the
initiator waits (R96, R97), no lock (R63), no limit (R750) and no mirror (R707) forbids it. -/
abbrev Passes (s : State) (i : Initiator) (r : Reg) (n : Nat) : Prop := s.dev.gateOf i r = .pass n

/-- A register without an effect of its own on instance n: a write that its gate passes is taken by its fields' access codes,
and nothing precedes or follows it (R749). -/
def PlainAt (i : Initiator) (page off n : Nat) (v : Word) : Prop :=
  (0x040 ≤ off ∨ 0x100 ≤ page) ∧ (page < 0x48 ∨ 0x57 < page) ∧ (∀ q : Sys, q.command i page off n false v = none) ∧
    (∀ d : Dev, d.beforeWrite page off n = d) ∧ ∀ (d : Dev) (w : Word), d.afterWrite page off n w = d

/-- No write is held back by an island or a fence, and no read waits behind one (R95-R97). -/
abbrev NothingWaits (s : State) : Prop := s.dev.txn.held = [] ∧ s.dev.txn.stores = [] ∧ s.dev.txn.reads = []

/-- The initiator's billing request is answered with a RESULT (R377). -/
def BilAnswered (t : State) (i : Initiator) (result : Nat) : Prop :=
  ((t.dev.mbxReq 1 i).bind (fun r => r.ready)).map (fun b => b.getD 4 0) = some (w8 result)

/-- The initiator's request in mailbox m is answered with a RESULT (R621). -/
def MbxAnswered (t : State) (m : Nat) (i : Initiator) (result : Nat) : Prop :=
  ((t.dev.mbxReq m i).bind (fun r => r.ready)).map (fun b => b.getD 2 0) = some (w8 result)

/-- The initiator's ACTION request on an object stands and its role holds (R377, R378): the device is not a standby. -/
def BilAction (s : State) (i : Initiator) (q : BilReq) (o : BilObj) : Prop :=
  s.dev.bilReq i = some q ∧ q.op = 3 ∧ q.obj = some o ∧ s.dev.fld MTR_ROLE 0 1 0 ≠ 2 ∧ (s.dev.bilAuth i q).1 = none

/-- The present job of a page's engine is j, has not run, and its descriptor and buffers lie in compute SRAM (R594). -/
abbrev JobReady (s : State) (page : Nat) (j : Job) : Prop :=
  s.dev.up (pageIsland page) = true ∧ s.dev.engHas page = true ∧ (s.dev.eng page).result = none ∧
    inSram (s.dev.jobAddr page) 32 = true ∧ s.sys.job (s.dev.jobAddr page) = j ∧ j.bufsOk = true

/-- The operation of job j has run with STATUS 0x01: its output stands in the output buffer, and nothing else has changed. -/
def JobGives (s t : State) (page : Nat) (j : Job) (out : List Byte) : Prop :=
  (t.dev.eng page).result = some (1, out.length) ∧ t.sys.read j.out out.length = out ∧ BytesKept s t j.out out.length ∧
    t.pending = s.pending ∧ t.sys.fuses = s.sys.fuses ∧ RegsKept s t []

/-- The operation of the present job has run with another STATUS: nothing is written. -/
def JobFails (s t : State) (page status : Nat) : Prop := (t.dev.eng page).result = some (status, 0) ∧ OnlyRegs s t []

/-- The commands that run a job of the crypto engine, each with the operations of Table 15.4 that it runs. -/
def cryptoCmds (t0 : Nat) (eccOk short entropyOk : Bool) : List (Instr × List Nat) :=
  [(.cryptoSha t0 eccOk, [1, 2, 3]), (.cryptoAesGcmEncrypt t0 eccOk short, [0x10]), (.cryptoAesGcmDecrypt t0 eccOk short, [0x11]),
    (.cryptoEcdsaSign t0 eccOk, [0x20, 0x22]), (.cryptoEcdsaVerify t0 eccOk, [0x21, 0x23]), (.cryptoEd448Sign t0 eccOk, [0x30]),
    (.cryptoEd448Verify t0 eccOk, [0x31]), (.cryptoEcdh t0 eccOk, [0x40, 0x41]),
    (.cryptoKeyPairGeneration t0 eccOk entropyOk, [0x42, 0x43]), (.cryptoRandomBytes t0 eccOk entropyOk, [0x50])]

/-- The commands that run a job of the EXI accelerator, each with its operation (Table 15.5). -/
def exiCmds (t0 : Nat) (eccOk : Bool) : List (Instr × List Nat) := [(.exiDecode t0 eccOk, [1]), (.exiEncode t0 eccOk, [2])]

/-- The commands that run a job of the key island's ring which waits for no signature or tree, each with its operation (R645). -/
def keyCmds (t0 : Nat) (eccOk : Bool) : List (Instr × List Nat) := [(.hssVerify t0 eccOk, [0x60]), (.slotPublicKey t0 eccOk, [0x61])]

/-- The recovery window of an earlier fault of an island is open at the instant t0 (R38): one that a request opened is not. -/
def WindowOpen (s : State) (t0 : Nat) (x : Island) : Bool :=
  (kvGet s.dev.pwr.isl x.idx {}).faultAt.any (fun f => !(kvGet s.dev.pwr.isl x.idx {}).asked && decide (max s.dev.time t0 < f + 10000000))

/-- Every register of the pages from lo to hi but the channel selects reads as before. -/
def ConfigHeld (s t : State) (lo hi : Nat) : Prop :=
  ∀ k, lo ≤ keyPage k → keyPage k ≤ hi → keyOff k ≠ 0x020 → ∀ v, kvGet t.dev.regs k v = kvGet s.dev.regs k v

/-- Every register of the pages from lo to hi reads its reset value. -/
def PagesReset (t : State) (lo hi : Nat) : Prop :=
  ∀ k, lo ≤ keyPage k → keyPage k ≤ hi → ∀ v, kvGet t.dev.regs k v = v

end Sys2Proof
end

