-- ==== Sys2Proof/Certificates/Slice0/Obligations.lean ====
section
/-! DEFINITION. The statements about the PX48. -/
open Sys2Proof
open Sys2Proof.Machine

/-- A step runs the command at the front of the queue with the queue's rest. (spec/95_what_each_step_holds.md) -/
def Obligations.StepRunsFrontCommand : Prop :=
  (∀ (s : State) (c : Instr) (rest : List Instr), s.pending = c :: rest → step s = exec c { s with pending := rest }) ∧
  (∀ s : State, s.pending = [] → step s = .next s) ∧
  (∀ (s : State) (nbits w : Nat), decodeTableWord nbits w = none ∧ s.withFetchWord nbits w = s)

/-- Every command answers a next state and leaves the commands that wait behind it as they are. (spec/95_what_each_step_holds.md) -/
def Obligations.EveryCommandLeavesTheQueue : Prop :=
  (∀ (c : Instr) (s : State), ∃ t, exec c s = .next t ∧ t.pending = s.pending) ∧
  (∀ s t : State, step s = .next t → t.pending = s.pending.tail)

/-- Every step keeps the memories in canonical form. (spec/01_architecture.md, spec/02_register_model.md) -/
def Obligations.EveryStepKeepsMemoryCanonical : Prop :=
  (∀ s t : State, MemOk s → step s = .next t → MemOk t)

/-- No step returns a blown fuse bit to 0. (R625) -/
def Obligations.ABlownFuseStaysBlown : Prop :=
  (∀ s t : State, step s = .next t → FusesKept s t)

/-- The state after reset is canonical, with an empty queue, at level Normal with every island running. (spec/00_scope.md, spec/17_power_reset_bist.md, R47, R701) -/
def Obligations.ResetStateHoldsItsInvariant : Prop :=
  (MemOk State.reset ∧ State.reset.pending = [] ∧ State.reset.sys.mem = [] ∧ State.reset.sys.fuses = 0 ∧ State.reset.dev.time = 0 ∧
  State.reset.dev.level = .normal ∧ State.reset.dev.rd PWR_CAUSE 0 = 0 ∧ (∀ k < 10, State.reset.dev.islStat (Island.ofIdx k) = 0) ∧
  (∀ p < 128, State.reset.dev.bit (BLK_LOCK p) 0 0 = false) ∧ State.reset.dev.txn = {})

/-- A write acts on every bit of a register under the bit's own access code; that KIND 4 is recorded where both a closed SEAL
and a TXN field would change is the model's choice (log entry 193). (R749, R77, R78, R18, R19, R20) -/
def Obligations.AFieldTakesAWriteByItsCode : Prop :=
  (∀ (r : RegRow) (old v : Word) (so tx : Bool) (b : Nat),
  (r.rw.getLsbD b = true → r.w1c.getLsbD b = false → r.w1s.getLsbD b = false →
  (fieldWrite r old v so tx).1.getLsbD b = v.getLsbD b) ∧
  (r.w1c.getLsbD b = true → r.rw.getLsbD b = false → r.w1s.getLsbD b = false → r.txn.getLsbD b = false → r.sealed.getLsbD b = false →
  (fieldWrite r old v so tx).1.getLsbD b = (old.getLsbD b && !v.getLsbD b)) ∧
  (r.w1s.getLsbD b = true → r.rw.getLsbD b = false → r.w1c.getLsbD b = false → r.txn.getLsbD b = false → r.sealed.getLsbD b = false →
  (fieldWrite r old v so tx).1.getLsbD b = (old.getLsbD b || v.getLsbD b)) ∧
  (r.txn.getLsbD b = true → r.rw.getLsbD b = false → r.w1c.getLsbD b = false → r.w1s.getLsbD b = false →
  (fieldWrite r old v so tx).1.getLsbD b = if tx && (!r.sealed.getLsbD b || so) then v.getLsbD b else old.getLsbD b) ∧
  (r.sealed.getLsbD b = true → r.txn.getLsbD b = false → r.rw.getLsbD b = false → r.w1c.getLsbD b = false → r.w1s.getLsbD b = false →
  (fieldWrite r old v so tx).1.getLsbD b = if so then v.getLsbD b else old.getLsbD b) ∧
  (r.rw.getLsbD b = false → r.w1c.getLsbD b = false → r.w1s.getLsbD b = false → r.txn.getLsbD b = false → r.sealed.getLsbD b = false →
  (fieldWrite r old v so tx).1.getLsbD b = old.getLsbD b)) ∧
  (∀ (r : RegRow) (old v : Word) (so tx : Bool),
  ((fieldWrite r old v so tx).2 = 4 ↔ so = false ∧ ∃ b, r.sealed.getLsbD b = true ∧ old.getLsbD b ≠ v.getLsbD b) ∧
  ((fieldWrite r old v so tx).2 = 5 ↔ tx = false ∧ (∃ b, r.txn.getLsbD b = true ∧ old.getLsbD b ≠ v.getLsbD b) ∧
  ¬ (so = false ∧ ∃ b, r.sealed.getLsbD b = true ∧ old.getLsbD b ≠ v.getLsbD b)))

/-- A register write takes effect field by field, or is staged, held back, refused or answered with a bus error. (R749, R6, R7, R8, R50, R55, R63, R82, R83, R97, R750) -/
def Obligations.RegisterWritesThroughTheGate : Prop :=
  (∀ (s : State) (i : Initiator) (page off n : Nat) (v : Word) (r : RegRow),
    page ∈ [0x28, 0x38, 0x39, 0x3A, 0x3C, 0x58, 0x59] ∧ (page, off) ∉ [(0x38, 0x454), (0x58, 0x04C)] →
    0x040 ≤ off ∧ onMap page off = true →
    s.dev.gateAt i page off (s.dev.instOf i page off) true = .pass n →
    rowOf s.dev.variant page off = some r ∧ r.banked = false →
    Ends (.registerWrite i page off v) s (fun t =>
      t.dev.rd (regAt s.dev.variant page off) n = (fieldWrite r (s.dev.rd (regAt s.dev.variant page off) n) v (s.dev.sealOpen i) false).1 ∧
      ((fieldWrite r (s.dev.rd (regAt s.dev.variant page off) n) v (s.dev.sealOpen i) false).2 ≠ 0 → t.dev.bit (BLK_ERR page) 0 31 = true) ∧
      OnlyRegs s t [(regAt s.dev.variant page off).key n 0, (BLK_ERR page).key 0 0])) ∧
  (∀ (s : State) (i : Initiator) (page off n : Nat) (v : Word) (r : RegRow),
    onMap page off = true ∧ PlainAt i page off n v →
    s.dev.gateAt i page off (s.dev.instOf i page off) true = .pass n →
    rowOf s.dev.variant page off = some r ∧ r.banked = false →
    s.dev.blockRefuses page off n v = false ∧ s.dev.ownerFrozen page off = false ∧ s.dev.noOloffen page off v = false ∧ s.dev.taken page off n v = v →
    Ends (.registerWrite i page off v) s (fun t =>
      t.dev.rd (regAt s.dev.variant page off) n = (fieldWrite r (s.dev.rd (regAt s.dev.variant page off) n) v (s.dev.sealOpen i) false).1 ∧
      ((fieldWrite r (s.dev.rd (regAt s.dev.variant page off) n) v (s.dev.sealOpen i) false).2 ≠ 0 → t.dev.bit (BLK_ERR (errPage page)) 0 31 = true) ∧
      OnlyRegs s t [(regAt s.dev.variant page off).key n 0, (BLK_ERR (errPage page)).key 0 0])) ∧
  (∀ (s : State) (i : Initiator) (page n : Nat) (v : Word),
    page < 0x80 ∧ Passes s i (BLK_EVF page) n →
    Ends (.registerWrite i page 0x010 v) s (fun t =>
      (∀ m : Nat, m < 32 → t.dev.bit (BLK_EVF page) 0 m = (s.dev.bit (BLK_EVF page) 0 m && !(bitOf v m && decide (m < evBits page)))) ∧
      OnlyRegs s t [(BLK_EVF page).key 0 0])) ∧
  (∀ (s : State) (i : Initiator) (page n : Nat) (v : Word),
    page < 0x80 ∧ Passes s i (BLK_EVE page) n →
    Ends (.registerWrite i page 0x018 v) s (fun t =>
      (∀ m : Nat, m < 32 → t.dev.bit (BLK_EVE page) 0 m = (bitOf v m && decide (m < evBits page))) ∧
      OnlyRegs s t [(BLK_EVE page).key 0 0])) ∧
  (∀ (s : State) (i : Initiator) (page n : Nat) (v : Word),
    page < 0x80 ∧ Passes s i (BLK_ERR page) n →
    Ends (.registerWrite i page 0x01C v) s (fun t =>
      (∀ m : Nat, m < 32 → t.dev.bit (BLK_ERR page) 0 m = (s.dev.bit (BLK_ERR page) 0 m && !(decide (m = 31) && bitOf v 31))) ∧
      OnlyRegs s t [(BLK_ERR page).key 0 0])) ∧
  (∀ (s : State) (i : Initiator) (v : Word),
    (∀ page, page < 0x80 → exec (.registerWrite i page 0x014 v) s = exec (.eventSet i page v) s ∧
      exec (.registerWrite i page 0x024 v) s = exec (.pageLock i page v) s ∧ exec (.registerWrite i page 0x020 v) s = exec (.channelSelect i page v) s) ∧
    exec (.registerWrite i 0x00 0x060 v) s = exec (.fence i v) s ∧ exec (.registerWrite i 0x06 0x040 v) s = exec (.txnBegin i v) s ∧
    exec (.registerWrite i 0x06 0x044 v) s = exec (.txnCommit i v) s ∧ exec (.registerWrite i 0x06 0x048 v) s = exec (.txnAbort i v) s ∧
    exec (.registerWrite i 0x02 0x040 v) s = exec (.profileChangeRequest i v) s ∧ exec (.registerWrite i 0x09 0x048 v) s = exec (.timebaseRateWrite i v) s ∧
    exec (.registerWrite i 0x13 0x060 v) s = exec (.measurementExtend i v) s ∧ exec (.registerWrite i 0x41 0x418 v) s = exec (.podReadReport i v) s) ∧
  (∀ (s : State) (i : Initiator) (page off : Nat) (v : Word),
    onMap page off = true →
    s.dev.gateAt i page off (s.dev.instOf i page off) true = .absent (s.dev.instOf i page off) →
    Ends (.registerWrite i page off v) s (fun t =>
      t.dev.bit SYS_STAT 0 0 = true ∧
      (s.dev.bit SYS_STAT 0 0 = false → t.dev.rd SYS_ABSADDR 0 = w32 (addrOf page off) ∧ t.dev.fld SYS_ABSINFO 0 3 0 = i.id) ∧
      (s.dev.bit SYS_STAT 0 0 = true → t.dev.rd SYS_ABSADDR 0 = s.dev.rd SYS_ABSADDR 0) ∧
      t.dev.bit (BLK_EVF 0x00) 0 0 = true ∧
      OnlyRegs s t [SYS_STAT.key 0 0, SYS_ABSADDR.key 0 0, SYS_ABSINFO.key 0 0, (BLK_EVF 0x00).key 0 0])) ∧
  (∀ (s : State) (i : Initiator) (page off k : Nat) (v : Word),
    onMap page off = true →
    s.dev.gateAt i page off (s.dev.instOf i page off) true = .refuse k →
    s.dev.bit (BLK_ERR (errPage page)) 0 31 = false →
    Ends (.registerWrite i page off v) s (fun t =>
      t.dev.rd (BLK_ERR (errPage page)) 0 = errWord k i off ∧
      OnlyRegs s t [(BLK_ERR (errPage page)).key 0 0])) ∧
  (∀ (s : State) (i : Initiator) (page off n : Nat) (v : Word),
    onMap page off = true →
    s.dev.gateAt i page off (s.dev.instOf i page off) true = .hold n →
    Ends (.registerWrite i page off v) s (fun t =>
      t.dev.txn.held = s.dev.txn.held ++ [{ init := i, page, off, inst := s.dev.instOf i page off, val := v, behind := s.dev.fenced i }] ∧
      OnlyRegs s t [])) ∧
  (∀ (s : State) (i : Initiator) (page off : Nat) (v : Word),
    onMap page off = true →
    s.dev.gateAt i page off (s.dev.instOf i page off) true = .busError →
    Ends (.registerWrite i page off v) s (fun t =>
      kvGet t.dev.resp i.id {} = ⟨true, 0⟩ ∧
      OnlyRegs s t [])) ∧
  (∀ (s : State) (i : Initiator) (page off : Nat) (v : Word),
    off < 4096 ∧ off % 4 ≠ 0 →
    s.dev.reaches i page = true ∧ pagePresent s.dev.variant page = true ∧ page < 0x100 →
    s.dev.bit (BLK_ERR page) 0 31 = false →
    Ends (.registerWrite i page off v) s (fun t =>
      kvGet t.dev.resp i.id {} = ⟨true, 0⟩ ∧
      t.dev.rd (BLK_ERR page) 0 = errWord 6 i off ∧
      OnlyRegs s t [(BLK_ERR page).key 0 0])) ∧
  (∀ (s : State) (i : Initiator) (page off : Nat) (v : Word) (o : OpenTxn),
    onMap page off = true →
    s.dev.reaches i page = true ∧ stageable page off = true ∧ s.dev.isAbsent page off (s.dev.instOf i page off) = false →
    s.dev.openTxn i = some o →
    o.staged.length < 1024 →
    Ends (.stagedWrite i page off v) s (fun t =>
      (t.dev.openTxn i).map OpenTxn.staged = some (o.staged ++ [{ init := i, page, off, inst := s.dev.instOf i page off, val := v }]) ∧
      bits (t.dev.rdI TXN_STAT i) 26 16 = o.staged.length + 1 ∧
      OnlyRegs s t [TXN_STAT.key 0 i.id])) ∧
  (∀ (s : State) (i : Initiator) (page off : Nat) (v : Word) (o : OpenTxn),
    onMap page off = true →
    s.dev.reaches i page = true ∧ stageable page off = true ∧ s.dev.isAbsent page off (s.dev.instOf i page off) = false →
    s.dev.openTxn i = some o →
    1024 ≤ o.staged.length →
    Ends (.stagedWrite i page off v) s (fun t =>
      t.dev.openTxn i = some { o with overAt := some (o.overAt.getD (addrOf page off)), since := s.dev.time } ∧
      bitOf (t.dev.rdI TXN_STAT i) 15 = true ∧
      OnlyRegs s t [TXN_STAT.key 0 i.id])) ∧
  (∀ (s : State) (i : Initiator) (page off : Nat) (v : Word) (o : OpenTxn),
    onMap page off = true →
    s.dev.reaches i page = true ∧ stageable page off = true ∧ s.dev.isAbsent page off (s.dev.instOf i page off) = true →
    s.dev.openTxn i = some o →
    Ends (.stagedWrite i page off v) s (fun t =>
      t.dev.bit SYS_STAT 0 0 = true ∧ t.dev.bit (BLK_EVF 0x00) 0 0 = true ∧
      (s.dev.bit SYS_STAT 0 0 = false → t.dev.rd SYS_ABSADDR 0 = w32 (addrOf page off) ∧ t.dev.fld SYS_ABSINFO 0 3 0 = i.id ∧ t.dev.bit SYS_ABSINFO 0 16 = true) ∧
      (o.staged.length < 1024 → (t.dev.openTxn i).map OpenTxn.staged = some (o.staged ++ [{ init := i, page, off, inst := s.dev.instOf i page off, val := v }])) ∧
      (1024 ≤ o.staged.length → (t.dev.openTxn i).map OpenTxn.staged = some o.staged ∧ bitOf (t.dev.rdI TXN_STAT i) 15 = true) ∧
      OnlyRegs s t [TXN_STAT.key 0 i.id, SYS_STAT.key 0 0, SYS_ABSADDR.key 0 0, SYS_ABSINFO.key 0 0, (BLK_EVF 0x00).key 0 0])) ∧
  (∀ (s : State) (i : Initiator) (page off : Nat) (v : Word),
    exec (.stagedWrite i page off v) s = exec (.registerWrite i page off v) s)

/-- An access that nothing answers changes nothing and gets a bus error; a store to SRAM stores its bytes and no others. (R50, R51, R52, spec/02_register_model.md, spec/15_compute_island.md) -/
def Obligations.AccessesToMemoryAndOffTheMap : Prop :=
  (∀ (s : State) (i : Initiator) (write atomic : Bool) (a n v : Nat),
    0x50080000 ≤ a →
    Ends (.busAccessError i write atomic a n v) s (fun t =>
      kvGet t.dev.resp i.id {} = ⟨true, 0⟩ ∧
      OnlyRegs s t [])) ∧
  (∀ (s : State) (i : Initiator) (write atomic : Bool) (a n v : Nat),
    a < 0x10000 →
    write = true ∨ atomic = true →
    Ends (.busAccessError i write atomic a n v) s (fun t =>
      kvGet t.dev.resp i.id {} = ⟨true, 0⟩ ∧
      OnlyRegs s t [])) ∧
  (∀ (s : State) (write atomic : Bool) (a n v : Nat),
    s.dev.bit DBG_STAT 0 0 = false →
    a < 0x40000000 ∨ 0x50080000 ≤ a →
    a + n ≤ 0x40000000 ∨ 0x50080000 ≤ a →
    Ends (.busAccessError .debug write atomic a n v) s (fun t =>
      kvGet t.dev.resp 7 {} = ⟨true, 0⟩ ∧
      OnlyRegs s t [])) ∧
  (∀ (s : State) (i : Initiator) (a n v : Nat),
    0x08000000 ≤ a ∧ a + n ≤ 0x09000000 ∧ n ≠ 0 →
    s.dev.reaches i 0 = true ∧ i ≠ .mirror ∧ s.dev.fenced i = true →
    Ends (.busAccessError i true false a n v) s (fun t =>
      t.dev.txn.stores = s.dev.txn.stores ++ [{ init := i, addr := a, size := n, val := v }] ∧
      OnlyRegs s t [])) ∧
  (∀ (s : State) (i : Initiator) (a n v : Nat),
    0x08000000 ≤ a ∧ a + n ≤ 0x09000000 ∧ n ≠ 0 →
    s.dev.reaches i 0 = true ∧ i ≠ .mirror ∧ s.dev.fenced i = false →
    Ends (.busAccessError i true false a n v) s (fun t =>
      (∀ k : Nat, k < n → memByte t.sys.mem (a + k) = w8 (v / 256 ^ k)) ∧
      BytesKept s t a n ∧
      t.pending = s.pending ∧ t.sys.fuses = s.sys.fuses ∧ RegsKept s t [])) ∧
  (∀ (s : State) (i : Initiator) (a : Nat),
    0x08000000 ≤ a ∧ a + 4 ≤ 0x09000000 →
    s.dev.reaches i 0 = true ∧ i ≠ .mirror →
    Ends (.busAccessError i false false a 4 0) s (fun t =>
      (kvGet t.dev.resp i.id {}).err = false ∧ (kvGet t.dev.resp i.id {}).data = w32 (memNat s.sys.mem a 4) ∧
      OnlyRegs s t []))

/-- BLK_EVS raises flags as the event would, BLK_LOCK only sets, BLK_CHSEL is each initiator's own, a LO read latches HI. (R58, R63, R64, R72, R73, R751, R609) -/
def Obligations.CommonRegistersOfAPage : Prop :=
  (∀ (s : State) (i : Initiator) (page n : Nat) (v : Word),
    page < 0x80 →
    Passes s i (BLK_EVS page) n →
    Ends (.eventSet i page v) s (fun t =>
      (∀ m : Nat, m < 32 → t.dev.bit (BLK_EVF page) 0 m = (s.dev.bit (BLK_EVF page) 0 m || (bitOf v m && decide (m < evBits page)))) ∧
      OnlyRegs s t [(BLK_EVF page).key 0 0])) ∧
  (∀ (s : State) (i : Initiator) (page n : Nat) (v : Word),
    page < 0x80 →
    Passes s i (BLK_LOCK page) n →
    Ends (.pageLock i page v) s (fun t =>
      t.dev.bit (BLK_LOCK page) 0 0 = (s.dev.bit (BLK_LOCK page) 0 0 || bitOf v 0) ∧
      (bitOf v 0 = true → ∀ off, 0x040 ≤ off → writableAt s.dev.variant page off = true → (page, off) ≠ (0, 0x060) → t.dev.locked page off = true) ∧
      OnlyRegs s t [(BLK_LOCK page).key 0 0])) ∧
  (∀ (s : State) (i : Initiator) (page n : Nat) (v : Word),
    page < 0x80 →
    Passes s i (BLK_CHSEL page) n →
    Ends (.channelSelect i page v) s (fun t =>
      t.dev.chsel i page = bits v 7 0 ∧
      OnlyRegs s t [(BLK_CHSEL page).key 0 i.id])) ∧
  (∀ (s : State) (i : Initiator) (page k : Nat) (v : Word),
    page < 0x80 →
    s.dev.gateOf i (BLK_EVS page) = .refuse k ∧ s.dev.bit (BLK_ERR page) 0 31 = false →
    Ends (.eventSet i page v) s (fun t =>
      t.dev.rd (BLK_ERR page) 0 = errWord k i 0x014 ∧ OnlyRegs s t [(BLK_ERR page).key 0 0])) ∧
  (∀ (s : State) (i : Initiator) (page k : Nat) (v : Word),
    page < 0x80 →
    s.dev.gateOf i (BLK_LOCK page) = .refuse k ∧ s.dev.bit (BLK_ERR page) 0 31 = false →
    Ends (.pageLock i page v) s (fun t =>
      t.dev.rd (BLK_ERR page) 0 = errWord k i 0x024 ∧ OnlyRegs s t [(BLK_ERR page).key 0 0])) ∧
  (∀ (s : State) (i : Initiator) (page k : Nat) (v : Word),
    page < 0x80 →
    s.dev.gateOf i (BLK_CHSEL page) = .refuse k ∧ s.dev.bit (BLK_ERR page) 0 31 = false →
    Ends (.channelSelect i page v) s (fun t =>
      t.dev.rd (BLK_ERR page) 0 = errWord k i 0x020 ∧ OnlyRegs s t [(BLK_ERR page).key 0 0])) ∧
  (∀ (s : State) (i : Initiator) (page off h : Nat),
    onMap page off = true ∧ hiOf page off = some h ∧ hiOf page (off - 4) ≠ some off →
    s.dev.reaches i page = true ∧ s.dev.isAbsent page off (s.dev.instOf i page off) = false ∧ s.dev.up (pageIsland page) = true →
    s.dev.holdsWrite i page = false →
    Ends (.loReadLatch i page off) s (fun t =>
      kvGet t.dev.resp i.id {} = ⟨false, (s.sys.value i page off (s.dev.instOf i page off)).1⟩ ∧
      kvGet t.dev.hi ((regAt s.dev.variant page off).key (s.dev.instOf i page off) i.id) 0 =
        ((s.sys.value i page off (s.dev.instOf i page off)).2.value i page h (s.dev.instOf i page off)).1 ∧
      OnlyRegs s t [])) ∧
  (∀ (s : State) (i : Initiator) (page off h : Nat) (w : Word),
    onMap page h = true ∧ onMap page off = true ∧ hiOf page off = some h ∧ hiOf page h = none →
    s.dev.reaches i page = true ∧ s.dev.isAbsent page h (s.dev.instOf i page h) = false ∧ s.dev.up (pageIsland page) = true →
    s.dev.holdsWrite i page = false →
    (s.dev.hi.find? (fun p => decide (p.1 = (regAt s.dev.variant page off).key (s.dev.instOf i page h) i.id))).map Prod.snd = some w →
    Ends (.loReadLatch i page h) s (fun t =>
      kvGet t.dev.resp i.id {} = ⟨false, w⟩ ∧
      OnlyRegs s t [])) ∧
  (∀ (s : State) (i : Initiator),
    s.dev.reaches i 0x09 = true ∧ s.dev.up .compute = true →
    s.dev.holdsWrite i 0x09 = false →
    Ends (.loReadLatch i 0x09 0x040) s (fun t =>
      kvGet t.dev.resp i.id {} = ⟨false, w32 s.dev.time⟩ ∧
      kvGet t.dev.hi (TMB_TLO.key 0 i.id) 0 = w32 (s.dev.time / 2 ^ 32) ∧
      OnlyRegs s t [])) ∧
  (∀ (s : State) (i : Initiator) (page off : Nat),
    onMap page off = true ∧ s.dev.reaches i page = true ∧ s.dev.isAbsent page off (s.dev.instOf i page off) = true →
    Ends (.loReadLatch i page off) s (fun t =>
      kvGet t.dev.resp i.id {} = ⟨false, 0⟩ ∧ OnlyRegs s t [])) ∧
  (∀ (s : State) (i : Initiator) (page off : Nat),
    onMap page off = true ∧ s.dev.reaches i page = true ∧ s.dev.isAbsent page off (s.dev.instOf i page off) = false ∧ s.dev.holdsWrite i page = true →
    Ends (.loReadLatch i page off) s (fun t =>
      t.dev.txn.reads = s.dev.txn.reads ++ [{ init := i, page, off, inst := s.dev.instOf i page off }] ∧ t.dev.resp = s.dev.resp ∧ OnlyRegs s t []))

/-- A transaction takes a free slot, is queued by its commit, discarded by its abort or idle timeout, and abandoned without a boundary. (R80, R81, R84, R85, R86, R90, R92, spec/02_register_model.md) -/
def Obligations.TransactionsAndTheirEnds : Prop :=
  (∀ (s : State) (i : Initiator) (v : Word) (n k : Nat),
    Passes s i TXN_BEGIN n →
    bitOf v 0 = true ∧ i ≠ .mirror ∧ s.dev.openTxn i = none →
    (List.range 4).find? (fun x => !s.dev.usedSlots.contains x) = some k →
    Ends (.txnBegin i v) s (fun t =>
      t.dev.openTxn i = some ({ init := i, slot := k, since := s.dev.time } : OpenTxn) ∧
      t.dev.rdI TXN_STAT i = w32 (1 + 2 * k) ∧ t.dev.rdI TXN_SYNDROME i = 0 ∧
      t.dev.bit TXN_SLOTS 0 (16 + k) = true ∧ t.dev.fld TXN_SLOTS 0 (4 * k + 3) (4 * k) = i.id ∧
      OnlyRegs s t [TXN_STAT.key 0 i.id, TXN_SYNDROME.key 0 i.id, TXN_SLOTS.key 0 0])) ∧
  (∀ (s : State) (i : Initiator) (v : Word) (n : Nat) (o : OpenTxn),
    Passes s i TXN_COMMIT n →
    bitOf v 0 = true ∧ s.dev.openTxn i = some o →
    Ends (.txnCommit i v) s (fun t =>
      t.dev.openTxn i = none ∧
      t.dev.txn.commits = s.dev.txn.commits ++ [{ init := i, slot := o.slot, staged := o.staged, overAt := o.overAt, seq := s.dev.txn.nextSeq }] ∧
      bitOf (t.dev.rdI TXN_STAT i) 0 = false ∧ bits (t.dev.rdI TXN_STAT i) 11 8 = 1 ∧
      OnlyRegs s t [TXN_STAT.key 0 i.id])) ∧
  (∀ (s : State) (i : Initiator) (v : Word) (n : Nat) (o : OpenTxn),
    Passes s i TXN_ABORT n →
    bitOf v 0 = true ∧ s.dev.openTxn i = some o ∧ o.slot < 4 →
    Ends (.txnAbort i v) s (fun t =>
      t.dev.openTxn i = none ∧
      bitOf (t.dev.rdI TXN_STAT i) 0 = false ∧ bits (t.dev.rdI TXN_STAT i) 11 8 = 4 ∧
      t.dev.bit TXN_SLOTS 0 (16 + o.slot) = false ∧
      OnlyRegs s t [TXN_STAT.key 0 i.id, TXN_SLOTS.key 0 0])) ∧
  (∀ (s : State) (t0 : Nat) (c : Commit),
    s.dev.txn.commits = [c] →
    c.validAt = none ∧ c.staged = [] ∧ c.overAt = none →
    Ends (.validationDone t0) s (fun t =>
      t.dev.txn.commits = [{ c with validAt := some (max s.dev.time t0), onTop := [], needsAck := false }] ∧
      OnlyRegs s t [])) ∧
  (∀ (s : State) (t0 a : Nat) (c : Commit),
    s.dev.txn.commits = [c] →
    c.validAt = none ∧ c.staged = [] ∧ c.overAt = some a ∧ c.slot < 4 ∧ s.dev.openTxn c.init = none →
    Ends (.validationDone t0) s (fun t =>
      t.dev.txn.commits = [] ∧
      bits (t.dev.rdI TXN_STAT c.init) 11 8 = 3 ∧ bits (t.dev.rdI TXN_STAT c.init) 7 4 = 7 ∧ t.dev.rdI TXN_SYNDROME c.init = w32 a ∧
      t.dev.bit TXN_SLOTS 0 (16 + c.slot) = false ∧
      OnlyRegs s t [TXN_STAT.key 0 c.init.id, TXN_SYNDROME.key 0 c.init.id, TXN_SLOTS.key 0 0])) ∧
  (∀ (s : State) (i : Initiator) (t0 a : Nat) (c : Commit),
    s.dev.txn.commits = [c] →
    c.init = i ∧ c.validAt = some a ∧ c.needsAck = false ∧ c.ackAt = none ∧ c.slot < 4 ∧ s.dev.openTxn i = none →
    a + 1000000 ≤ t0 ∨ s.dev.targetDown c = true →
    Ends (.commitAbandon i t0) s (fun t =>
      t.dev.txn.commits = [] ∧
      bits (t.dev.rdI TXN_STAT i) 11 8 = 5 ∧ t.dev.bit TXN_SLOTS 0 (16 + c.slot) = false ∧
      OnlyRegs s t [TXN_STAT.key 0 i.id, TXN_SYNDROME.key 0 i.id, TXN_SLOTS.key 0 0])) ∧
  (∀ (s : State) (i : Initiator) (t0 : Nat) (o : OpenTxn),
    s.dev.openTxn i = some o ∧ o.slot < 4 →
    s.dev.fld TXN_CFG 0 15 0 ≠ 0 ∧ o.since + s.dev.fld TXN_CFG 0 15 0 * 1000000 ≤ t0 →
    Ends (.txnIdleTimeout i t0) s (fun t =>
      t.dev.openTxn i = none ∧
      bitOf (t.dev.rdI TXN_STAT i) 0 = false ∧ bits (t.dev.rdI TXN_STAT i) 11 8 = 8 ∧
      t.dev.bit TXN_SLOTS 0 (16 + o.slot) = false ∧
      OnlyRegs s t [TXN_STAT.key 0 i.id, TXN_SLOTS.key 0 0])) ∧
  (∀ (s : State) (i : Initiator) (v : Word) (n : Nat),
    Passes s i TXN_BEGIN n ∧ bitOf v 0 = true ∧ i ≠ .mirror →
    (s.dev.openTxn i).isSome = true ∨ (List.range 4).find? (fun x => !s.dev.usedSlots.contains x) = none →
    Ends (.txnBegin i v) s (fun t =>
      t.dev.txn = s.dev.txn ∧ bits (t.dev.rdI TXN_STAT i) 11 8 = (if (s.dev.openTxn i).isSome then 7 else 6) ∧ OnlyRegs s t [TXN_STAT.key 0 i.id])) ∧
  (∀ (s : State) (i : Initiator) (v : Word) (n : Nat),
    Passes s i TXN_COMMIT n →
    s.dev.openTxn i = none ∨ bitOf v 0 = false →
    Ends (.txnCommit i v) s (fun t => t.dev.txn = s.dev.txn ∧ OnlyRegs s t [])) ∧
  (∀ (s : State) (i : Initiator) (v : Word) (n : Nat),
    Passes s i TXN_ABORT n →
    s.dev.openTxn i = none ∨ bitOf v 0 = false →
    Ends (.txnAbort i v) s (fun t => t.dev.txn = s.dev.txn ∧ OnlyRegs s t [])) ∧
  (∀ (s : State) (t0 : Nat) (c : Commit),
    s.dev.txn.commits.find? (fun x => x.validAt.isNone) = some c →
    (validate ((s.dev.at t0).overlay ((s.dev.validated c.seq).flatMap Commit.staged)) c).reason = 0 →
    Ends (.validationDone t0) s (fun t =>
      t.dev.txn.commits = s.dev.txn.commits.map (fun (x : Commit) => if x.seq = c.seq then
        { c with validAt := some (max s.dev.time t0), onTop := (s.dev.validated c.seq).map Commit.seq, needsAck := s.dev.commitMirrors c } else x) ∧
      OnlyRegs s t [])) ∧
  (∀ (s : State) (t0 : Nat) (c : Commit),
    s.dev.txn.commits.find? (fun x => x.validAt.isNone) = some c ∧ c.slot < 4 ∧ s.dev.openTxn c.init = none ∧
    (∀ x ∈ s.dev.txn.commits, x.init = c.init → x.seq ≤ c.seq) →
    (validate ((s.dev.at t0).overlay ((s.dev.validated c.seq).flatMap Commit.staged)) c).reason ≠ 0 →
    Ends (.validationDone t0) s (fun t =>
      let r := validate ((s.dev.at t0).overlay ((s.dev.validated c.seq).flatMap Commit.staged)) c
      t.dev.txn.commits = s.dev.txn.commits.filter (fun x => decide (x.seq ≠ c.seq)) ∧
      bits (t.dev.rdI TXN_STAT c.init) 11 8 = 3 ∧ bits (t.dev.rdI TXN_STAT c.init) 7 4 = r.reason % 16 ∧
      t.dev.rdI TXN_SYNDROME c.init = w32 r.addr ∧ t.dev.bit TXN_SLOTS 0 (16 + c.slot) = false ∧
      OnlyRegs s t [TXN_STAT.key 0 c.init.id, TXN_SYNDROME.key 0 c.init.id, TXN_SLOTS.key 0 0, ARB_GRAPHERR.key 0 0])) ∧
  (∀ (s : State) (t0 : Nat),
    (∀ c ∈ s.dev.txn.commits, c.validAt.isSome = true) →
    Ends (.validationDone t0) s (fun t => t.dev.txn = s.dev.txn ∧ OnlyRegs s t [])) ∧
  (∀ (s : State) (i : Initiator) (t0 : Nat) (c : Commit),
    s.dev.txn.commits.find? (fun x => decide (x.init = i) && x.validAt.isSome) = some c →
    c.slot < 4 ∧ s.dev.openTxn i = none ∧ (∀ x ∈ s.dev.txn.commits, x.init = i → x.seq ≤ c.seq) →
    (s.dev.at t0).overdue c = true ∨ s.dev.targetDown c = true →
    Ends (.commitAbandon i t0) s (fun t =>
      t.dev.txn.commits = (s.dev.txn.commits.filter (fun x => decide (x.seq ≠ c.seq))).map (fun (x : Commit) =>
        if x.onTop.contains c.seq then { x with doomed := true } else x) ∧
      bits (t.dev.rdI TXN_STAT i) 11 8 = 5 ∧ t.dev.bit TXN_SLOTS 0 (16 + c.slot) = false ∧
      OnlyRegs s t [TXN_STAT.key 0 i.id, TXN_SYNDROME.key 0 i.id, TXN_SLOTS.key 0 0])) ∧
  (∀ (s : State) (i : Initiator) (t0 : Nat),
    (∀ c ∈ s.dev.txn.commits, c.init = i → c.validAt.isSome = true → (s.dev.at t0).overdue c = false ∧ s.dev.targetDown c = false) →
    Ends (.commitAbandon i t0) s (fun t => t.dev.txn = s.dev.txn ∧ OnlyRegs s t [])) ∧
  (∀ (s : State) (i : Initiator) (t0 : Nat),
    (∀ o ∈ s.dev.openTxn i, s.dev.fld TXN_CFG 0 15 0 = 0 ∨ max s.dev.time t0 < o.since + s.dev.fld TXN_CFG 0 15 0 * 1000000) →
    Ends (.txnIdleTimeout i t0) s (fun t => t.dev.txn = s.dev.txn ∧ OnlyRegs s t [])) ∧
  (∀ (s : State) (i : Initiator) (v : Word) (n : Nat),
    Passes s i TXN_BEGIN n ∧ bitOf v 0 = false →
    Ends (.txnBegin i v) s (fun t => t.dev.txn = s.dev.txn ∧ OnlyRegs s t []))

/-- A fence holds its initiator's later writes back, completes when the earlier ones have taken effect, and fails after 100 us. (R96, R97) -/
def Obligations.FencesOrderAnInitiatorsWrites : Prop :=
  (∀ (s : State) (i : Initiator) (v : Word) (n : Nat),
    Passes s i SYS_FENCE n →
    Ends (.fence i v) s (fun t =>
      t.dev.fenced i = true ∧ t.dev.fenceAt i = some s.dev.time ∧
      (∀ page off inst m k, t.dev.gateAt i page off inst m ≠ .pass k) ∧
      OnlyRegs s t [])) ∧
  (∀ (s : State) (i : Initiator),
    s.dev.fenced i = true ∧ s.dev.outstanding i = false ∧ s.dev.mirrorWaits i = false →
    NothingWaits s →
    Ends (.fenceComplete i false) s (fun t =>
      t.dev.fenced i = false ∧ t.dev.rdI SYS_FENCE i = 0 ∧
      OnlyRegs s t [SYS_FENCE.key 0 i.id])) ∧
  (∀ (s : State) (i : Initiator) (t0 f : Nat) (w : PendWrite),
    s.dev.fenceAt i = some f ∧ f + 100000 ≤ t0 →
    s.dev.txn.held = [w] ∧ w.init = i ∧ w.behind = false ∧ s.dev.txn.stores = [] ∧ s.dev.txn.reads = [] →
    s.dev.up (pageIsland w.page) = false →
    Ends (.fenceTimeout i t0) s (fun t =>
      t.dev.fenced i = false ∧ t.dev.rdI SYS_FENCE i = 1 ∧
      t.dev.txn.held = [w] ∧
      OnlyRegs s t [SYS_FENCE.key 0 i.id])) ∧
  (∀ (s : State) (i : Initiator) (t0 f : Nat),
    s.dev.fenceAt i = some f ∧ f + 100000 ≤ t0 ∧ s.dev.txn.dropped.contains i = true ∧ NothingWaits s →
    Ends (.fenceTimeout i t0) s (fun t =>
      t.dev.fenced i = false ∧ t.dev.rdI SYS_FENCE i = 1 ∧ t.dev.txn.dropped.contains i = false ∧
      OnlyRegs s t [SYS_FENCE.key 0 i.id])) ∧
  (∀ (s : State) (i : Initiator) (t0 : Nat),
    (∀ f, s.dev.fenceAt i = some f → t0 < f + 100000) ∨ (s.dev.outstanding i = false ∧ s.dev.mirrorWaits i = false) →
    Ends (.fenceTimeout i t0) s (fun t => t.dev.txn = s.dev.txn ∧ OnlyRegs s t [])) ∧
  (∀ (s : State) (i : Initiator) (p : PendStore),
    s.dev.txn.fences.map Prod.fst = [i] ∧ s.dev.outstanding i = false ∧ s.dev.mirrorWaits i = false →
    s.dev.txn.held = [] ∧ s.dev.txn.stores = [p] ∧ s.dev.txn.reads = [] ∧ p.init = i →
    Ends (.fenceComplete i false) s (fun t =>
      t.dev.fenced i = false ∧ t.dev.txn.stores = [] ∧ t.sys.mem = (s.sys.store p.addr (leBytes p.size p.val)).mem ∧
      t.pending = s.pending ∧ t.sys.fuses = s.sys.fuses ∧ BytesKept s t p.addr p.size ∧ RegsKept s t [SYS_FENCE.key 0 i.id])) ∧
  (∀ (s : State) (i : Initiator),
    s.dev.fenced i = false ∨ s.dev.outstanding i = true →
    Ends (.fenceComplete i false) s (fun t => t.dev.txn = s.dev.txn ∧ OnlyRegs s t []))

/-- A level request enters its level where Table 1.14 allows it and is refused where a cause forbids it. (R37, R40, R752, R44, spec/01_architecture.md) -/
def Obligations.LevelRequestsFollowTable114 : Prop :=
  (∀ (s : State) (i : Initiator) (n : Nat) (h : Bool),
    Passes s i PWR_LEVEL n →
    s.dev.level = .limp ∧ s.dev.limpCause = false ∧ s.dev.holdCause = false →
    NothingWaits s →
    Ends (.levelRequestNormal i h) s (fun t =>
      t.dev.level = .normal ∧
      OnlyRegs s t [PWR_LEVEL.key 0 0, PWR_STAT.key 0 0, EVT_LOST.key 0 0, EVT_LOSTSRC.key 0 0, (BLK_EVF 0x07).key 0 0])) ∧
  (∀ (s : State) (i : Initiator) (n : Nat) (h : Bool),
    Passes s i PWR_LEVEL n →
    s.dev.level = .hold ∧ (h = false ∨ s.dev.limpCause = true ∨ s.dev.holdCause = true) →
    NothingWaits s →
    Ends (.levelRequestNormal i h) s (fun t =>
      t.dev.level = .hold ∧ t.dev.bit PWR_STAT 0 1 = true ∧
      OnlyRegs s t [PWR_STAT.key 0 0])) ∧
  (∀ (s : State) (i : Initiator) (n : Nat),
    Passes s i PWR_LEVEL n →
    s.dev.level = .hold ∧ s.dev.limpCause = false ∧ s.dev.holdCause = false →
    NothingWaits s →
    Ends (.levelRequestNormal i true) s (fun t =>
      t.dev.level = .normal ∧ (∀ o : Nat, o < s.dev.variant.outlets → (t.dev.arbR o).vreqDead = true) ∧
      Quiet s t ∧ PagesHeld s t 0x48 0x57)) ∧
  (∀ (s : State) (i : Initiator) (n : Nat) (h : Bool),
    Passes s i PWR_LEVEL n →
    s.dev.level = .standby →
    NothingWaits s →
    Ends (.levelRequestNormal i h) s (fun t => t.dev.level = .normal ∧ Quiet s t ∧ PagesHeld s t 0x48 0x57)) ∧
  (∀ (s : State) (i : Initiator) (n : Nat) (h : Bool),
    Passes s i PWR_LEVEL n →
    s.dev.level = .normal →
    NothingWaits s →
    Ends (.levelRequestNormal i h) s (fun t => t.dev.level = .normal ∧ OnlyRegs s t [])) ∧
  (∀ (s : State) (i : Initiator) (n : Nat) (h : Bool),
    Passes s i PWR_LEVEL n →
    s.dev.level = .limp →
    Ends (.levelRequestLimp i h) s (fun t => t.dev.level = .limp ∧ OnlyRegs s t [])) ∧
  (∀ (s : State) (i : Initiator) (n : Nat),
    Passes s i PWR_LEVEL n →
    s.dev.level = .hold →
    NothingWaits s →
    Ends (.levelRequestHold i) s (fun t => t.dev.level = .hold ∧ OnlyRegs s t [])) ∧
  (∀ (s : State) (i : Initiator) (n : Nat) (h : Bool),
    Passes s i PWR_LEVEL n →
    s.dev.level = .normal →
    Ends (.levelRequestLimp i h) s (fun t =>
      t.dev.level = .limp ∧
      OnlyPages s t [0x02, 0x07, 0x29])) ∧
  (∀ (s : State) (i : Initiator) (n : Nat),
    Passes s i PWR_LEVEL n →
    s.dev.level = .hold ∧ s.dev.holdCause = false →
    Ends (.levelRequestLimp i true) s (fun t =>
      t.dev.level = .limp ∧ (∀ o : Nat, o < s.dev.variant.outlets → (t.dev.arbR o).vreqDead = true) ∧
      Quiet s t ∧ PagesHeld s t 0x48 0x57)) ∧
  (∀ (s : State) (i : Initiator) (n : Nat) (h : Bool),
    Passes s i PWR_LEVEL n →
    s.dev.level = .standby ∨ (s.dev.level = .hold ∧ (h = false ∨ s.dev.holdCause = true)) →
    Ends (.levelRequestLimp i h) s (fun t =>
      t.dev.level = s.dev.level ∧ t.dev.bit PWR_STAT 0 1 = true ∧
      OnlyRegs s t [PWR_STAT.key 0 0])) ∧
  (∀ (s : State) (i : Initiator) (n : Nat),
    Passes s i PWR_LEVEL n →
    s.dev.level ≠ .hold ∧ s.dev.up .safety = true →
    NothingWaits s →
    Ends (.levelRequestHold i) s (fun t =>
      t.dev.level = .hold ∧
      (∀ o : Nat, o < s.dev.variant.outlets → t.dev.latched o 1 = true) ∧
      Quiet s t ∧ PagesHeld s t 0x48 0x57)) ∧
  (∀ (s : State) (i : Initiator) (n : Nat),
    Passes s i PWR_LEVEL n →
    s.dev.standbyOk = true →
    Ends (.levelRequestStandby i) s (fun t =>
      t.dev.pwr.standbyEntry = true ∧ t.dev.bit PWR_STAT 0 0 = true ∧ t.dev.level = .normal ∧
      OnlyRegs s t [PWR_STAT.key 0 0])) ∧
  (∀ (s : State) (i : Initiator) (n : Nat),
    Passes s i PWR_LEVEL n →
    s.dev.standbyOk = false ∧ s.dev.level ≠ .standby →
    Ends (.levelRequestStandby i) s (fun t =>
      t.dev.bit PWR_STAT 0 1 = true ∧ t.dev.level = s.dev.level ∧ t.dev.pwr.standbyEntry = s.dev.pwr.standbyEntry ∧
      OnlyRegs s t [PWR_STAT.key 0 0]))

/-- Standby switches three islands off, a wake source returns to Normal, HOLD_N and the causes act as their tables say. (R41, R42, R48, R752, spec/01_architecture.md, spec/17_power_reset_bist.md) -/
def Obligations.StandbyWakeHoldPinAndCauses : Prop :=
  (∀ (s : State) (t0 : Nat),
    s.dev.pwr.standbyEntry = true →
    Ends (.standbyEntryDone t0) s (fun t =>
      t.dev.level = .standby ∧
      t.dev.islStat .compute = 3 ∧ t.dev.islStat .acquisition = 3 ∧ t.dev.islStat .link = 3 ∧
      (∀ a, 0x10000000 ≤ a → a < 0x10400000 → memByte t.sys.mem a = 0) ∧
      BytesKept s t 0x10000000 0x400000 ∧ t.pending = s.pending ∧ t.sys.fuses = s.sys.fuses)) ∧
  (∀ (s : State) (t0 src : Nat),
    src < 4 ∧ s.dev.bit PWR_WAKECFG 0 src = true ∧ s.dev.level = .standby →
    NothingWaits s →
    Ends (.wakeEvent t0 src) s (fun t =>
      t.dev.level = .normal ∧ t.dev.rd PWR_WAKESRC 0 = w32 (2 ^ src) ∧
      Quiet s t ∧ PagesHeld s t 0x48 0x57)) ∧
  (∀ (s : State) (t0 n : Nat),
    1000000 ≤ n →
    NothingWaits s →
    Ends (.holdPinLow t0 n) s (fun t =>
      t.dev.cause 8 = true ∧ t.dev.level = .hold ∧ t.dev.pwr.holdN = false ∧
      Quiet s t ∧ PagesHeld s t 0x48 0x57)) ∧
  (∀ (s : State) (i : Initiator) (v : Word) (h : Bool) (n : Nat),
    Passes s i PWR_CAUSE n →
    Ends (.causeClear i v h) s (fun t =>
      (∀ k : Nat, k < 9 → t.dev.cause k = (s.dev.cause k && !(bitOf v k && !({ s.dev with pwr := { s.dev.pwr with holdN := h } } : Dev).causePresent k))) ∧
      OnlyRegs s t [PWR_CAUSE.key 0 0])) ∧
  (∀ (s : State) (t0 : Nat),
    s.dev.pwr.standbyEntry = false →
    Ends (.standbyEntryDone t0) s (fun t => t.dev.level = s.dev.level ∧ OnlyRegs s t [])) ∧
  (∀ (s : State) (t0 src : Nat),
    src < 4 ∧ s.dev.bit PWR_WAKECFG 0 src = true ∧ s.dev.level = .normal ∧ s.dev.pwr.standbyEntry = true →
    NothingWaits s →
    Ends (.wakeEvent t0 src) s (fun t =>
      t.dev.level = .normal ∧ t.dev.rd PWR_WAKESRC 0 = w32 (2 ^ src) ∧ t.dev.pwr.standbyEntry = false ∧
      t.dev.bit PWR_STAT 0 0 = s.dev.pwr.profPending.isSome ∧ OnlyRegs s t [PWR_WAKESRC.key 0 0, PWR_STAT.key 0 0])) ∧
  (∀ (s : State) (t0 src : Nat),
    4 ≤ src ∨ s.dev.bit PWR_WAKECFG 0 src = false ∨ (s.dev.level ≠ .standby ∧ s.dev.pwr.standbyEntry = false) →
    NothingWaits s →
    Ends (.wakeEvent t0 src) s (fun t => t.dev.level = s.dev.level ∧ OnlyRegs s t [])) ∧
  (∀ (s : State) (t0 n : Nat),
    n < 1000000 →
    NothingWaits s →
    Ends (.holdPinLow t0 n) s (fun t => t.dev.pwr.holdN = false ∧ t.dev.level = s.dev.level ∧ OnlyRegs s t []))

/-- An island's fault restarts that island alone and opens its 10 ms window; the holds of its consumers run out. (R38, R30, R682, spec/01_architecture.md, spec/17_power_reset_bist.md) -/
def Obligations.IslandsFailAndRecover : Prop :=
  (∀ (s : State) (t0 : Nat) (x : Island) (c : Nat) (a : Bool),
    x ∈ [Island.compute, .control, .acquisition, .link, .pstage] →
    s.dev.pwr.phase = .running ∧ s.dev.islStat x < 2 →
    WindowOpen s t0 x = false ∧ c < 16 →
    Ends (.islandFailure t0 x c a) s (fun t =>
      t.dev.islStat x = 1 ∧ (t.dev.islRec x).faultAt = some (max s.dev.time t0) ∧
      t.dev.fld RST_LASTISL 0 11 0 = c * 256 + x.idx ∧ t.dev.bit (BLK_EVF 0x03) 0 0 = true ∧
      (∀ k : Nat, k < 10 → k ≠ x.idx → t.dev.islStat (Island.ofIdx k) = s.dev.islStat (Island.ofIdx k)) ∧
      t.dev.level = s.dev.level ∧ t.dev.rd PWR_CAUSE 0 = s.dev.rd PWR_CAUSE 0 ∧
      (x = .compute → ∀ b, 0x08000000 ≤ b → b < 0x09000000 → memByte t.sys.mem b = 0) ∧
      t.pending = s.pending ∧ t.sys.fuses = s.sys.fuses)) ∧
  (∀ (s : State) (t0 f : Nat),
    (s.dev.islRec .control).faultAt = some f ∧ f + 10000000 ≤ t0 →
    s.dev.islStat .control = 1 →
    NothingWaits s →
    Ends (.recoveryWindowExpiry t0 .control) s (fun t =>
      t.dev.cause 2 = true ∧ t.dev.level = .hold ∧
      Quiet s t ∧ PagesHeld s t 0x48 0x57)) ∧
  (∀ (s : State) (t0 f : Nat),
    s.dev.pwr.vreqFrozenAt = some f →
    f + min 2000 (s.dev.fld PWR_LIMPCFG 0 10 0) * 1000000 ≤ t0 →
    Ends (.vreqHoldExpiry t0) s (fun t =>
      (∀ o : Nat, o < s.dev.variant.outlets → (t.dev.arbR o).vreqDead = true) ∧
      OnlyRegs s t [])) ∧
  (∀ (s : State) (t0 f : Nat),
    s.dev.pwr.gridLostAt = some f ∧ f + 100000000 ≤ t0 →
    Ends (.headroomHoldExpiry t0) s (fun t =>
      t.dev.headDead = true ∧
      OnlyRegs s t [])) ∧
  (∀ (s : State) (t0 : Nat) (x : Island) (c : Nat) (a : Bool),
    x = .metrology ∨ x = .key →
    s.dev.pwr.phase = .running ∧ s.dev.islStat x < 2 ∧ WindowOpen s t0 x = false ∧ c < 16 →
    Ends (.islandFailure t0 x c a) s (fun t =>
      t.dev.islStat x = 1 ∧ (t.dev.islRec x).faultAt = some (max s.dev.time t0) ∧
      t.dev.fld RST_LASTISL 0 11 0 = c * 256 + x.idx ∧ t.dev.bit (BLK_EVF 0x03) 0 0 = true ∧
      (∀ k : Nat, k < 10 → k ≠ x.idx → t.dev.islStat (Island.ofIdx k) = s.dev.islStat (Island.ofIdx k)) ∧
      t.dev.level = s.dev.level ∧ t.pending = s.pending ∧ t.sys.fuses = s.sys.fuses)) ∧
  (∀ (s : State) (t0 c : Nat) (a : Bool),
    s.dev.up .safety = true →
    Ends (.islandFailure t0 .safety c a) s (fun t =>
      t.dev.islStat .safety = 2 ∧ t.dev.bit SAF_XSTAT 0 1 = false ∧ t.dev.saf.faultLow = true ∧ t.dev.rd SOUT_KASTAT 0 = 0 ∧
      t.dev.level = s.dev.level ∧
      (∀ k : Nat, k < 10 → k ≠ 1 → t.dev.islStat (Island.ofIdx k) = s.dev.islStat (Island.ofIdx k)) ∧ Quiet s t ∧ PagesHeld s t 0x48 0x57)) ∧
  (∀ (s : State) (t0 f n : Nat) (x : Island) (c : Nat) (a : Bool),
    s.dev.pwr.phase = .running ∧ s.dev.islStat x < 2 ∧ islandCause x = some n →
    (s.dev.islRec x).faultAt = some f ∧ (s.dev.islRec x).asked = false ∧ max s.dev.time t0 < f + 10000000 →
    Ends (.islandFailure t0 x c a) s (fun t =>
      t.dev.islStat x = 2 ∧ (t.dev.islRec x).faultAt = none ∧ t.dev.cause n = true ∧
      (n = 0 → t.dev.level = if s.dev.level = .normal then .limp else s.dev.level) ∧ (n ≠ 0 → t.dev.level = .hold) ∧
      (∀ k : Nat, k < 10 → k ≠ x.idx → t.dev.islStat (Island.ofIdx k) = s.dev.islStat (Island.ofIdx k)) ∧
      t.pending = s.pending ∧ t.sys.fuses = s.sys.fuses)) ∧
  (∀ (s : State) (t0 : Nat) (x : Island) (c : Nat) (a : Bool),
    s.dev.pwr.phase ≠ .running ∨ x = .aon ∨ x = .iface ∨ 2 ≤ s.dev.islStat x ∨ (x = .safety ∧ s.dev.up .safety = false) →
    Ends (.islandFailure t0 x c a) s (fun t => t.dev.pwr = s.dev.pwr ∧ OnlyRegs s t [])) ∧
  (∀ (s : State) (t0 f n : Nat) (x : Island),
    (s.dev.islRec x).faultAt = some f ∧ f + 10000000 ≤ t0 ∧ s.dev.islStat x = 1 ∧ islandCause x = some n →
    NothingWaits s →
    Ends (.recoveryWindowExpiry t0 x) s (fun t =>
      t.dev.cause n = true ∧ (t.dev.islRec x).faultAt = none ∧
      (n = 0 → t.dev.level = if s.dev.level = .normal then .limp else s.dev.level) ∧ (n ≠ 0 → t.dev.level = .hold) ∧
      Quiet s t ∧ PagesHeld s t 0x48 0x57)) ∧
  (∀ (s : State) (t0 f : Nat) (x : Island),
    (s.dev.islRec x).faultAt = some f ∧ f + 10000000 ≤ t0 ∧ (s.dev.islStat x ≠ 1 ∨ islandCause x = none) →
    NothingWaits s →
    Ends (.recoveryWindowExpiry t0 x) s (fun t => (t.dev.islRec x).faultAt = none ∧ t.dev.level = s.dev.level ∧ OnlyRegs s t [])) ∧
  (∀ (s : State) (t0 : Nat) (x : Island),
    (∀ f ∈ (s.dev.islRec x).faultAt, t0 < f + 10000000) →
    NothingWaits s →
    Ends (.recoveryWindowExpiry t0 x) s (fun t => t.dev.pwr = s.dev.pwr ∧ OnlyRegs s t [])) ∧
  (∀ (s : State) (t0 : Nat),
    Ends (.vreqHoldExpiry t0) s (fun t =>
      let h := min 2000 (s.dev.fld PWR_LIMPCFG 0 10 0) * 1000000
      (∀ o : Nat, o < s.dev.variant.outlets → (t.dev.arbR o).vreqDead =
        ((s.dev.arbR o).vreqDead || (s.dev.pwr.vreqFrozenAt.any (fun a => decide (a + h ≤ t0)) ||
          (s.dev.arbR o).vreqFrom.any (fun a => decide (a + h ≤ t0))))) ∧
      OnlyRegs s t [])) ∧
  (∀ (s : State) (t0 : Nat),
    (∀ f ∈ s.dev.pwr.gridLostAt, t0 < f + 100000000) →
    Ends (.headroomHoldExpiry t0) s (fun t => t.dev.headDead = s.dev.headDead ∧ OnlyRegs s t []))

/-- Clock losses, NVM errors and refresh, the trace port and profile requests leave what their registers say. (R67, R68, R32, R33, R34, R70, R71, spec/02_register_model.md) -/
def Obligations.ClocksNvmAndDebugPort : Prop :=
  (∀ (s : State) (t0 q : Nat),
    10000 ≤ q →
    Ends (.crystalLoss t0 1 q) s (fun t =>
      t.dev.bit CLK_STAT 0 1 = false ∧ t.dev.bit CLK_LOSS 0 1 = true ∧ t.dev.bit (BLK_EVF 0x01) 0 1 = true ∧
      OnlyRegs s t [CLK_STAT.key 0 0, CLK_LOSS.key 0 0, (BLK_EVF 0x01).key 0 0])) ∧
  (∀ (s : State) (t0 n : Nat),
    1000 ≤ n ∧ s.dev.pwr.phase = .running ∧ s.dev.islStat .pstage < 2 →
    WindowOpen s t0 .pstage = false →
    Ends (.pllLoss t0 8 n) s (fun t =>
      t.dev.bit CLK_STAT 0 24 = false ∧ t.dev.bit CLK_LOSS 0 24 = true ∧ t.dev.islStat .pstage = 1 ∧
      t.sys.fuses = s.sys.fuses ∧ BytesKept s t 0 0 ∧ PagesHeld s t 0x48 0x57)) ∧
  (∀ (s : State) (t0 n : Nat),
    1000 ≤ n ∧ s.dev.pwr.phase = .running →
    Ends (.pllLoss t0 0 n) s (fun t =>
      t.dev.bit CLK_STAT 0 16 = false ∧ t.dev.bit CLK_STAT 0 2 = false ∧ t.dev.bit CLK_LOSS 0 16 = true ∧ t.dev.bit (BLK_EVF 0x01) 0 2 = true ∧
      OnlyRegs s t [CLK_STAT.key 0 0, CLK_LOSS.key 0 0, (BLK_EVF 0x01).key 0 0])) ∧
  (∀ (s : State) (t0 a : Nat),
    0x14000000 ≤ a ∧ a < 0x14400000 →
    Ends (.nvmReadEcc t0 none a true) s (fun t =>
      t.dev.fld NVM_ECCCNT 0 31 0 = min (s.dev.fld NVM_ECCCNT 0 31 0 + 1) (2 ^ 32 - 1) ∧
      OnlyRegs s t [NVM_ECCCNT.key 0 0])) ∧
  (∀ (s : State) (t0 a : Nat) (i : Initiator),
    0x14000000 ≤ a ∧ a < 0x14400000 →
    s.dev.reaches i 0 = true ∧ i ≠ .mirror ∧ (s.dev.at t0).nvmOk i false (a / 4 * 4) = true →
    Ends (.nvmReadEcc t0 (some i) a true) s (fun t =>
      kvGet t.dev.resp i.id {} = ⟨false, w32 (memNat s.sys.mem (a / 4 * 4) 4)⟩ ∧
      t.dev.fld NVM_ECCCNT 0 31 0 = min (s.dev.fld NVM_ECCCNT 0 31 0 + 1) (2 ^ 32 - 1) ∧
      OnlyRegs s t [NVM_ECCCNT.key 0 0])) ∧
  (∀ (s : State) (t0 a : Nat) (i : Initiator),
    0x14000000 ≤ a ∧ a < 0x14400000 →
    s.dev.reaches i 0 = true ∧ i ≠ .mirror ∧ (s.dev.at t0).nvmOk i false (a / 4 * 4) = true →
    Ends (.nvmReadEcc t0 (some i) a false) s (fun t =>
      kvGet t.dev.resp i.id {} = ⟨true, 0⟩ ∧ t.dev.rd NVM_ECCADDR 0 = w32 (a / 4 * 4) ∧ t.dev.bit (BLK_EVF 0x0A) 0 0 = true ∧
      BytesKept s t (a / 4 * 4) 4 ∧ t.pending = s.pending ∧ t.sys.fuses = s.sys.fuses ∧
      RegsKept s t [NVM_ECCADDR.key 0 0, (BLK_EVF 0x0A).key 0 0])) ∧
  (∀ (s : State) (t0 a : Nat) (i : Initiator) (b : Bool),
    0x14000000 ≤ a ∧ a < 0x14400000 →
    s.dev.reaches i 0 = false ∨ i = .mirror ∨ (s.dev.at t0).nvmOk i false (a / 4 * 4) = false →
    Ends (.nvmReadEcc t0 (some i) a b) s (fun t =>
      kvGet t.dev.resp i.id {} = ⟨true, 0⟩ ∧ OnlyRegs s t [])) ∧
  (∀ (s : State) (t0 : Nat),
    s.dev.sys.refreshFrom + 365 * 86400 * 1000000000 ≤ t0 →
    Ends (.nvmRefreshPassEnd t0) s (fun t =>
      t.dev.sys.refreshFrom = s.dev.sys.refreshFrom + 365 * 86400 * 1000000000 ∧ t.dev.bit (BLK_EVF 0x0A) 0 1 = true ∧
      OnlyRegs s t [(BLK_EVF 0x0A).key 0 0])) ∧
  (∀ (s : State) (i : Initiator) (v : Word) (n : Nat),
    Passes s i DBG_SWOTX n →
    s.dev.bit DBG_SWOCFG 0 31 = false ∧ s.dev.sys.swo.length < 64 →
    Ends (.swoTransmit i v) s (fun t =>
      t.dev.sys.swo = s.dev.sys.swo ++ [w8 (bits v 7 0)] ∧
      OnlyRegs s t [])) ∧
  (∀ (s : State) (i : Initiator) (v : Word) (n : Nat),
    Passes s i DBG_SWOTX n →
    s.dev.bit DBG_SWOCFG 0 31 = false ∧ 64 ≤ s.dev.sys.swo.length →
    Ends (.swoTransmit i v) s (fun t =>
      t.dev.sys.swo = s.dev.sys.swo ∧ t.dev.bit DBG_SWOSTAT 0 8 = true ∧ t.dev.bit (BLK_EVF 0x0B) 0 1 = true ∧
      OnlyRegs s t [DBG_SWOSTAT.key 0 0, (BLK_EVF 0x0B).key 0 0])) ∧
  (∀ (s : State) (t0 : Nat) (a : DbgAsk),
    s.dev.bankOff 1 = true ∨ s.dev.bit DBG_STAT 0 0 = false →
    Ends (.debuggerAttach ⟨t0, a⟩) s (fun t => OnlyRegs s t [])) ∧
  (∀ (s : State) (t0 h : Nat),
    s.dev.bankOff 1 = false ∧ s.dev.bit DBG_STAT 0 0 = true ∧ s.dev.bit DBG_STAT 0 1 = true ∧ h < 4 ∧ s.dev.up .compute = true →
    Ends (.debuggerAttach ⟨t0, .halt h⟩) s (fun t =>
      t.dev.bit DBG_STAT 0 (8 + h) = true ∧ t.dev.fld DBG_ATTCNT 0 31 0 = min (s.dev.fld DBG_ATTCNT 0 31 0 + 1) (2 ^ 32 - 1) ∧
      (∀ k : Nat, k < 4 → k ≠ h → t.dev.bit DBG_STAT 0 (8 + k) = s.dev.bit DBG_STAT 0 (8 + k)) ∧
      OnlyRegs s t [DBG_STAT.key 0 0, DBG_ATTCNT.key 0 0])) ∧
  (∀ (s : State) (t0 h : Nat),
    s.dev.bankOff 1 = false ∧ s.dev.bit DBG_STAT 0 0 = true ∧ s.dev.bit DBG_STAT 0 1 = true ∧ h < 4 →
    Ends (.debuggerAttach ⟨t0, .resume h⟩) s (fun t =>
      t.dev.bit DBG_STAT 0 (8 + h) = false ∧ (∀ k : Nat, k < 4 → k ≠ h → t.dev.bit DBG_STAT 0 (8 + k) = s.dev.bit DBG_STAT 0 (8 + k)) ∧
      OnlyRegs s t [DBG_STAT.key 0 0, DBG_ATTCNT.key 0 0])) ∧
  (∀ (s : State) (t0 : Nat),
    s.dev.bankOff 1 = false ∧ s.dev.bit DBG_STAT 0 0 = true ∧ s.dev.bit DBG_STAT 0 1 = false →
    Ends (.debuggerAttach ⟨t0, .access⟩) s (fun t =>
      t.dev.bit DBG_STAT 0 1 = true ∧ t.dev.bit (BLK_EVF 0x0B) 0 0 = true ∧
      t.dev.fld DBG_ATTCNT 0 31 0 = min (s.dev.fld DBG_ATTCNT 0 31 0 + 1) (2 ^ 32 - 1) ∧
      OnlyRegs s t [DBG_STAT.key 0 0, DBG_ATTCNT.key 0 0, (BLK_EVF 0x0B).key 0 0])) ∧
  (∀ (s : State) (i : Initiator) (v : Word) (n : Nat),
    Passes s i PWR_PROFILE n →
    s.dev.bit PWR_STAT 0 0 = false ∧ bits v 1 0 ≠ 3 ∧ bits v 1 0 ≠ s.dev.profile →
    s.dev.profileBreach (bits v 1 0) = false →
    Ends (.profileChangeRequest i v) s (fun t =>
      t.dev.pwr.profPending = some (bits v 1 0) ∧ t.dev.bit PWR_STAT 0 0 = true ∧ t.dev.profile = s.dev.profile ∧
      OnlyRegs s t [PWR_STAT.key 0 0])) ∧
  (∀ (s : State) (i : Initiator) (v : Word) (n : Nat),
    Passes s i PWR_PROFILE n →
    s.dev.bit PWR_STAT 0 0 = true ∨ bits v 1 0 = 3 →
    Ends (.profileChangeRequest i v) s (fun t =>
      t.dev.bit PWR_STAT 0 2 = true ∧ t.dev.pwr.profPending = s.dev.pwr.profPending ∧
      OnlyRegs s t [PWR_STAT.key 0 0])) ∧
  (∀ (s : State) (t0 q : Nat),
    10000 ≤ q ∧ s.dev.up .safety = true →
    Ends (.crystalLoss t0 0 q) s (fun t =>
      t.dev.bit CLK_STAT 0 0 = false ∧ t.dev.bit CLK_LOSS 0 0 = true ∧ t.dev.bit (BLK_EVF 0x01) 0 0 = true ∧
      t.dev.islStat .safety = 2 ∧ t.dev.saf.faultLow = true ∧ t.dev.rd SOUT_KASTAT 0 = 0 ∧ Quiet s t ∧ PagesHeld s t 0x48 0x57)) ∧
  (∀ (s : State) (t0 k q : Nat),
    2 ≤ k ∨ q < 10000 →
    Ends (.crystalLoss t0 k q) s (fun t => t.dev.pwr = s.dev.pwr ∧ OnlyRegs s t [])) ∧
  (∀ (s : State) (t0 k n : Nat),
    1 ≤ k ∧ k < 10 ∧ 1000 ≤ n →
    Ends (.pllLoss t0 k n) s (fun t =>
      t.dev.bit CLK_STAT 0 (16 + k) = false ∧ t.dev.bit CLK_LOSS 0 (16 + k) = true ∧ t.dev.bit (BLK_EVF 0x01) 0 2 = true ∧
      (k ∈ [2, 3, 4, 5, 6, 7, 8] ∧ s.dev.up (Island.ofIdx k) = true ∧ WindowOpen s t0 (Island.ofIdx k) = false →
        t.dev.islStat (Island.ofIdx k) = 1 ∧ t.dev.fld RST_LASTISL 0 11 0 = 3 * 256 + k) ∧
      (k = 1 ∧ s.dev.up .safety = true → t.dev.islStat .safety = 2 ∧ t.dev.saf.faultLow = true) ∧
      (k = 9 → OnlyRegs s t [CLK_STAT.key 0 0, CLK_LOSS.key 0 0, (BLK_EVF 0x01).key 0 0]) ∧
      t.pending = s.pending ∧ t.sys.fuses = s.sys.fuses)) ∧
  (∀ (s : State) (t0 k n : Nat),
    10 ≤ k ∨ n < 1000 →
    Ends (.pllLoss t0 k n) s (fun t => t.dev.pwr = s.dev.pwr ∧ OnlyRegs s t [])) ∧
  (∀ (s : State) (t0 a : Nat),
    0x14000000 ≤ a ∧ a < 0x14400000 →
    Ends (.nvmReadEcc t0 none a false) s (fun t =>
      t.dev.rd NVM_ECCADDR 0 = w32 (a / 4 * 4) ∧ t.dev.bit (BLK_EVF 0x0A) 0 0 = true ∧
      BytesKept s t (a / 4 * 4) 4 ∧ t.pending = s.pending ∧ t.sys.fuses = s.sys.fuses ∧
      RegsKept s t [NVM_ECCADDR.key 0 0, (BLK_EVF 0x0A).key 0 0])) ∧
  (∀ (s : State) (t0 a : Nat) (i : Option Initiator) (b : Bool),
    a < 0x14000000 ∨ 0x14400000 ≤ a →
    Ends (.nvmReadEcc t0 i a b) s (fun t => t.dev.resp = s.dev.resp ∧ OnlyRegs s t [])) ∧
  (∀ (s : State) (t0 : Nat),
    t0 < s.dev.sys.refreshFrom + 365 * 86400 * 1000000000 →
    Ends (.nvmRefreshPassEnd t0) s (fun t => t.dev.sys = s.dev.sys ∧ OnlyRegs s t [])) ∧
  (∀ (s : State) (i : Initiator) (v : Word) (n : Nat),
    Passes s i DBG_SWOTX n →
    Ends (.swoTransmit i v) s (fun t =>
      let q := s.dev.swoDrain.sys.swo
      (q.length < 64 → t.dev.sys.swo = q ++ [w8 (bits v 7 0)] ∧ OnlyRegs s t []) ∧
      (64 ≤ q.length → t.dev.sys.swo = q ∧ t.dev.bit DBG_SWOSTAT 0 8 = true ∧ t.dev.bit (BLK_EVF 0x0B) 0 1 = true ∧
        OnlyRegs s t [DBG_SWOSTAT.key 0 0, (BLK_EVF 0x0B).key 0 0]))) ∧
  (∀ (s : State) (t0 : Nat) (a : DbgAsk),
    s.dev.bankOff 1 = false ∧ s.dev.bit DBG_STAT 0 0 = true →
    Ends (.debuggerAttach ⟨t0, a⟩) s (fun t =>
      t.dev.bit DBG_STAT 0 1 = true ∧ t.dev.fld DBG_ATTCNT 0 31 0 = min (s.dev.fld DBG_ATTCNT 0 31 0 + 1) (2 ^ 32 - 1) ∧
      (s.dev.bit DBG_STAT 0 1 = false → t.dev.bit (BLK_EVF 0x0B) 0 0 = true) ∧
      OnlyRegs s t [DBG_STAT.key 0 0, DBG_ATTCNT.key 0 0, (BLK_EVF 0x0B).key 0 0])) ∧
  (∀ (s : State) (i : Initiator) (v : Word) (n : Nat),
    Passes s i PWR_PROFILE n →
    s.dev.bit PWR_STAT 0 0 = false ∧ bits v 1 0 ≠ 3 →
    bits v 1 0 = s.dev.profile ∨ s.dev.profileBreach (bits v 1 0) = true →
    Ends (.profileChangeRequest i v) s (fun t =>
      t.dev.bit PWR_STAT 0 1 = (s.dev.bit PWR_STAT 0 1 || decide (bits v 1 0 ≠ s.dev.profile)) ∧
      t.dev.pwr.profPending = s.dev.pwr.profPending ∧ t.dev.profile = s.dev.profile ∧ OnlyRegs s t [PWR_STAT.key 0 0]))

/-- A boundary counts the frame; due contexts that cannot run miss and hold their output; misses and saturation escalate once. (R165, R172, R173, R174, R170, R176, R180, spec/04_loop_engine.md) -/
def Obligations.TheFrameCountsAndSchedules : Prop :=
  (∀ (s : State) (t0 : Nat) (xs : List (Option Nat)),
    (s.dev.at t0).up .control = true →
    s.dev.txn.commits = [] ∧ s.dev.pair.commitsIn = [] ∧ s.dev.pair.copyIn = none →
    Ends (.loopFrameBoundary t0 xs) s (fun t =>
      t.dev.frame = (if s.dev.loop.started then s.dev.frame + 1 else 0) % 2 ^ 64 ∧
      t.dev.loop.started = true ∧ t.dev.loop.boundaryAt = max s.dev.time t0 ∧
      Quiet s t ∧ PagesHeld s t 0x48 0x57)) ∧
  (∀ (s : State) (t0 n : Nat),
    s.dev.engineRuns = true ∧ s.dev.loop.distributed = false ∧ s.dev.level = .normal →
    s.dev.loop.due = [n] ∧ n < 128 ∧ (s.dev.ctxR n).badGroups ≠ 0 →
    Ends (.controlSamplesValid t0 []) s (fun t =>
      t.dev.loop.vAt = max s.dev.time t0 ∧ t.dev.loop.due = [] ∧
      t.dev.rd LPE_OUT n = s.dev.rd LPE_OUT n ∧
      Quiet s t ∧ PagesHeld s t 0x48 0x57 ∧ PagesHeld s t 0x100 0x17F)) ∧
  (∀ (s : State) (t0 n : Nat),
    s.dev.engineRuns = true ∧ s.dev.loop.vAt + 6000 ≤ t0 →
    s.dev.loop.inLane = [n] ∧ s.dev.loop.notIn = [] ∧ n < 128 →
    Ends (.evaluationDeadline t0) s (fun t =>
      t.dev.fld LPE_CSTAT n 18 16 = 2 ∧ t.dev.bit LPE_CSTAT n 8 = true ∧ t.dev.bit LPE_CSTAT n 3 = true ∧
      t.dev.loop.inLane = [] ∧ t.dev.rd LPE_OUT n = s.dev.rd LPE_OUT n ∧
      Quiet s t ∧ PagesHeld s t 0x48 0x57 ∧ PagesHeld s t 0x100 0x17F)) ∧
  (∀ (s : State) (t0 : Nat),
    s.dev.up .control = true ∧ s.dev.loop.distributed = false →
    s.dev.loop.inLane = [] ∧ s.dev.loop.notIn = [] ∧ s.dev.loop.due = [] →
    Ends (.outputDistribution t0) s (fun t =>
      t.dev.loop.distributed = true ∧
      Quiet s t ∧ PagesHeld s t 0x48 0x57 ∧ PagesHeld s t 0x100 0x17F)) ∧
  (∀ (s : State) (n : Nat),
    s.dev.escalates n = true ∧ s.dev.fld LPE_MISSCFG n 9 8 = 1 →
    NothingWaits s ∧ s.dev.level = .normal →
    Ends (.missEscalation n) s (fun t =>
      t.dev.bit LPE_CSTAT n 12 = true ∧ t.dev.bit (LPE_ESCSUM (n / 32)) 0 (n % 32) = true ∧ (t.dev.ctxR n).escDone = true ∧
      t.dev.cause 1 = true ∧ t.dev.level = .limp ∧
      Quiet s t ∧ PagesHeld s t 0x48 0x57 ∧ PagesHeld s t 0x100 0x17F)) ∧
  (∀ (s : State) (n t0 : Nat),
    (s.dev.at t0).saturates n = true ∧ s.dev.bit LPE_SATCFG n 20 = true →
    NothingWaits s ∧ s.dev.level = .normal →
    Ends (.saturationLimit n t0) s (fun t =>
      t.dev.bit LPE_CSTAT n 9 = true ∧ t.dev.bit (LPE_SATSUM (n / 32)) 0 (n % 32) = true ∧ (t.dev.ctxR n).satFired = true ∧
      t.dev.cause 1 = true ∧ t.dev.level = .limp ∧
      Quiet s t ∧ PagesHeld s t 0x48 0x57 ∧ PagesHeld s t 0x100 0x17F)) ∧
  (∀ (s : State) (t0 : Nat) (xs : List (Option Nat)),
    s.dev.up .control = false →
    Ends (.loopFrameBoundary t0 xs) s (fun t => t.dev.loop = s.dev.loop ∧ OnlyRegs s t [])) ∧
  (∀ (s : State) (t0 : Nat) (xs : List (Option Nat)),
    s.dev.up .control = true ∧ s.dev.pair.copyIn = none →
    Ends (.loopFrameBoundary t0 xs) s (fun t =>
      t.dev.frame = (if s.dev.loop.started then s.dev.frame + 1 else 0) % 2 ^ 64 ∧
      t.dev.loop.started = true ∧ t.dev.loop.boundaryAt = max s.dev.time t0 ∧ t.dev.loop.distributed = false ∧
      t.dev.loop.due = t.dev.dueList ∧ t.pending = s.pending ∧ t.sys.fuses = s.sys.fuses)) ∧
  (∀ (s : State) (t0 : Nat) (xs : List (Option Nat)),
    s.dev.up .control = true ∧ s.dev.level ≠ .hold ∧ s.dev.level ≠ .standby →
    s.dev.txn.commits = [] ∧ s.dev.pair.commitsIn = [] ∧ s.dev.pair.copyIn = none →
    Ends (.loopFrameBoundary t0 xs) s (fun t =>
      ∀ c < s.dev.variant.sdInputs, t.dev.rd SDM_CTS c = ctsWord (s.dev.controlValue xs c) (s.dev.sdmLive c))) ∧
  (∀ (s : State) (t0 a : Nat) (xs : List (Option Nat)) (c : Commit),
    s.dev.up .control = true ∧ s.dev.pair.commitsIn = [] ∧ s.dev.pair.copyIn = none ∧ s.dev.pwr.profPending = none →
    s.dev.txn.commits = [c] ∧ c.validAt = some a ∧ c.needsAck = false ∧ c.ackAt = none ∧ c.slot < 4 ∧ s.dev.openTxn c.init = none →
    a + 2000 ≤ max s.dev.time t0 ∧ max s.dev.time t0 ≤ a + 1000000 ∧ s.dev.targetDown c = false →
    c.doomed = true →
    Ends (.loopFrameBoundary t0 xs) s (fun t =>
      t.dev.txn.commits = [] ∧ bits (t.dev.rdI TXN_STAT c.init) 11 8 = 3 ∧ bits (t.dev.rdI TXN_STAT c.init) 7 4 = 6 ∧
      t.dev.bit TXN_SLOTS 0 (16 + c.slot) = false ∧ (∀ w ∈ c.staged, 0x100 ≤ w.page → w.off < 0x100 → t.dev.regOf w = s.dev.regOf w) ∧
      Quiet s t ∧ PagesHeld s t 0x48 0x57)) ∧
  (∀ (s : State) (t0 a n : Nat) (xs : List (Option Nat)) (c : Commit) (w : PendWrite),
    s.dev.up .control = true ∧ s.dev.pair.commitsIn = [] ∧ s.dev.pair.copyIn = none ∧ s.dev.pwr.profPending = none ∧ s.dev.checkPeriod = none →
    s.dev.txn.commits = [c] ∧ c.validAt = some a ∧ c.needsAck = false ∧ c.ackAt = none ∧ c.slot < 4 ∧ s.dev.openTxn c.init = none →
    a + 2000 ≤ max s.dev.time t0 ∧ max s.dev.time t0 ≤ a + 1000000 ∧ c.doomed = false →
    c.staged = [w] ∧ w.page = 0x100 + n ∧ n < s.dev.variant.contexts ∧ w.inst = 0 ∧ w.off ∈ groupOffs 3 →
    s.dev.recheck w = 0 →
    Ends (.loopFrameBoundary t0 xs) s (fun t =>
      t.dev.rd (coefReg n w.off) 0 = w.val &&& 0xFFFFFF3F ∧
      t.dev.txn.commits = [] ∧ bits (t.dev.rdI TXN_STAT c.init) 11 8 = 2 ∧ t.dev.rdI TXN_FRAME c.init = t.dev.rd LPE_FRAMELO 0 ∧
      t.dev.bit TXN_SLOTS 0 (16 + c.slot) = false ∧ Quiet s t ∧ PagesHeld s t 0x48 0x57)) ∧
  (∀ (s : State) (t0 n : Nat) (hits : List (Nat × Nat)) (xs : List Acc),
    s.dev.engineRuns = true ∧ s.dev.loop.distributed = false ∧ s.dev.level ≠ .hold ∧ s.dev.level ≠ .standby →
    s.dev.loop.due = [n] ∧ n < 128 ∧ rankIn s.dev.ranks n < 4 ∧ (s.dev.ctxR n).badGroups = 0 ∧ (∀ h ∈ hits, h.1 ≠ n) →
    ((s.dev.at t0).decideUpTo s.dev.ranks (rankIn s.dev.ranks n)).feedback n = some xs →
    Ends (.controlSamplesValid t0 hits) s (fun t =>
      let d := (s.dev.at t0).decideUpTo s.dev.ranks (rankIn s.dev.ranks n)
      let e := (d.evaluate n { xs, sp := d.setpoint n, narrow := d.narrowing n, inj := s.dev.injection n, stale := false }).1
      t.dev.rd LPE_OUT n = e.rd LPE_OUT n ∧ t.dev.fld LPE_CSTAT n 7 0 = e.fld LPE_CSTAT n 7 0 ∧ t.dev.fld LPE_MISSCNT n 7 0 = 0 ∧
      t.dev.rd LPE_LASTFRM n = s.dev.rd LPE_FRAMELO 0 ∧ (∀ o ∈ stateOffs, t.dev.rd (coefReg n o) 0 = e.rd (coefReg n o) 0) ∧
      (∀ m, m ≠ n → t.dev.rd LPE_OUT m = s.dev.rd LPE_OUT m) ∧ t.dev.loop.vAt = max s.dev.time t0 ∧ t.dev.loop.due = [] ∧
      t.dev.loop.inLane = [] ∧ Quiet s t ∧ PagesHeld s t 0x48 0x57)) ∧
  (∀ (s : State) (t0 n : Nat),
    s.dev.engineRuns = true ∧ s.dev.loop.distributed = false ∧ s.dev.level ≠ .hold ∧ s.dev.level ≠ .standby →
    s.dev.loop.due = [n] ∧ n < 128 ∧ rankIn s.dev.ranks n < 4 ∧ (s.dev.ctxR n).badGroups = 0 →
    ((s.dev.at t0).decideUpTo s.dev.ranks (rankIn s.dev.ranks n)).feedback n = none →
    Ends (.controlSamplesValid t0 []) s (fun t =>
      t.dev.fld LPE_CSTAT n 18 16 = 1 ∧ t.dev.bit LPE_CSTAT n 8 = true ∧ t.dev.bit LPE_CSTAT n 3 = true ∧
      t.dev.fld LPE_MISSCNT n 7 0 = min (s.dev.fld LPE_MISSCNT n 7 0 + 1) 255 ∧
      t.dev.rd LPE_OUT n = s.dev.rd LPE_OUT n ∧ t.dev.loop.due = [] ∧
      Quiet s t ∧ PagesHeld s t 0x48 0x57 ∧ PagesHeld s t 0x100 0x17F)) ∧
  (∀ (s : State) (t0 : Nat) (hits : List (Nat × Nat)),
    s.dev.engineRuns = false ∨ s.dev.loop.distributed = true ∨ s.dev.level = .hold ∨ s.dev.level = .standby →
    Ends (.controlSamplesValid t0 hits) s (fun t => t.dev.loop = s.dev.loop ∧ OnlyRegs s t [])) ∧
  (∀ (s : State) (t0 : Nat),
    s.dev.engineRuns = true ∧ s.dev.loop.vAt + 6000 ≤ max s.dev.time t0 →
    (s.dev.loop.inLane ++ s.dev.loop.notIn).Nodup ∧ (∀ n ∈ s.dev.loop.inLane ++ s.dev.loop.notIn, n < 128) →
    Ends (.evaluationDeadline t0) s (fun t =>
      (∀ n ∈ s.dev.loop.inLane, t.dev.fld LPE_CSTAT n 18 16 = 2) ∧ (∀ n ∈ s.dev.loop.notIn, t.dev.fld LPE_CSTAT n 18 16 = 4) ∧
      (∀ n ∈ s.dev.loop.inLane ++ s.dev.loop.notIn, t.dev.bit LPE_CSTAT n 8 = true ∧ t.dev.bit LPE_CSTAT n 3 = true ∧
        t.dev.fld LPE_MISSCNT n 7 0 = min (s.dev.fld LPE_MISSCNT n 7 0 + 1) 255) ∧
      (∀ n, t.dev.rd LPE_OUT n = s.dev.rd LPE_OUT n) ∧ t.dev.loop.inLane = [] ∧ t.dev.loop.notIn = [] ∧
      Quiet s t ∧ PagesHeld s t 0x48 0x57 ∧ PagesHeld s t 0x100 0x17F)) ∧
  (∀ (s : State) (t0 : Nat),
    s.dev.engineRuns = false ∨ max s.dev.time t0 < s.dev.loop.vAt + 6000 →
    Ends (.evaluationDeadline t0) s (fun t => t.dev.loop = s.dev.loop ∧ OnlyRegs s t [])) ∧
  (∀ (s : State) (t0 : Nat),
    s.dev.up .control = true ∧ s.dev.loop.distributed = false →
    s.dev.loop.inLane = [] ∧ s.dev.loop.notIn = [] ∧ s.dev.loop.due = [] →
    Ends (.outputDistribution t0) s (fun t =>
      let fv := Config.freeWord 208 s.dev.fresh
      (∀ l < s.dev.variant.cabinets, s.dev.linkState l ≠ 0 →
        let bs := (s.dev.at t0).decideRest.cFrameBytes l fv
        (t.dev.link l).stg = [] ∧ (t.dev.link l).line = (encFrame (bitOf fv (24 + l)) .startFrame bs).1 ∧
        ∀ k < 37, t.dev.rd (CAB_CFRAME k) l = w32 (leAt bs (4 * k) 4)) ∧
      (∀ l, s.dev.linkState l = 0 → t.dev.link l = s.dev.link l))) ∧
  (∀ (s : State) (t0 : Nat),
    s.dev.up .control = false ∨ s.dev.loop.distributed = true ∨ s.dev.loop.inLane ≠ [] ∨ s.dev.loop.notIn ≠ [] ∨ s.dev.loop.due ≠ [] →
    Ends (.outputDistribution t0) s (fun t => t.dev.loop = s.dev.loop ∧ t.dev.links = s.dev.links ∧ OnlyRegs s t [])) ∧
  (∀ (s : State) (n : Nat),
    s.dev.escalates n = true ∧ s.dev.fld LPE_MISSCFG n 9 8 ≠ 1 ∧ NothingWaits s →
    Ends (.missEscalation n) s (fun t =>
      t.dev.bit LPE_CSTAT n 12 = true ∧ t.dev.bit (LPE_ESCSUM (n / 32)) 0 (n % 32) = true ∧ (t.dev.ctxR n).escDone = true ∧
      (s.dev.fld LPE_MISSCFG n 9 8 = 2 → t.dev.bit LPE_CSTAT n 5 = true ∧ t.dev.rd LPE_OUT n = 0 ∧
        ∀ o ∈ [0x108, 0x10C, 0x110, 0x114, 0x118, 0x11C, 0x120, 0x124, 0x128, 0x12C, 0x130, 0x134], t.dev.rd (coefReg n o) 0 = 0) ∧
      (s.dev.fld LPE_MISSCFG n 9 8 ≠ 2 → t.dev.rd LPE_OUT n = s.dev.rd LPE_OUT n ∧ PagesHeld s t 0x100 0x17F) ∧
      t.dev.level = s.dev.level ∧ Quiet s t ∧ PagesHeld s t 0x48 0x57)) ∧
  (∀ (s : State) (n : Nat),
    s.dev.escalates n = false ∧ NothingWaits s →
    Ends (.missEscalation n) s (fun t => t.dev.loop = s.dev.loop ∧ OnlyRegs s t [])) ∧
  (∀ (s : State) (n t0 : Nat),
    (s.dev.at t0).saturates n = true ∧ s.dev.bit LPE_SATCFG n 20 = false ∧ NothingWaits s →
    Ends (.saturationLimit n t0) s (fun t =>
      t.dev.bit LPE_CSTAT n 9 = true ∧ t.dev.bit (LPE_SATSUM (n / 32)) 0 (n % 32) = true ∧ (t.dev.ctxR n).satFired = true ∧
      t.dev.level = s.dev.level ∧ OnlyRegs s t [LPE_CSTAT.key n 0, (LPE_SATSUM (n / 32)).key 0 0, (BLK_EVF 0x28).key 0 0])) ∧
  (∀ (s : State) (n t0 : Nat),
    (s.dev.at t0).saturates n = false ∧ NothingWaits s →
    Ends (.saturationLimit n t0) s (fun t => t.dev.loop = s.dev.loop ∧ OnlyRegs s t []))

/-- Sigma-delta channels: samples, STUCK, settling, skew calibration, snapshots and the clock fallback. (R104, R107, R113, R116, R117, R118, R119, R121, spec/03_sensing_and_cabinet_links.md) -/
def Obligations.BitstreamsAreSupervised : Prop :=
  (∀ (s : State) (t0 : Nat) (xs : List (Option Nat)),
    NothingWaits s →
    Ends (.fastTripSample t0 xs) s (fun t =>
      (∀ c : Nat, c < s.dev.variant.sdInputs → s.dev.sdmLive c = true →
        t.dev.fld SDM_FTS c 15 0 = twos (fastOf (s.dev.bit SDM_CHCFG c 1) (s.dev.fld SDM_DLY c 5 0) (xs.getD c none)) 16) ∧
      (∀ c : Nat, c < s.dev.variant.sdInputs → s.dev.sdmLive c = false → t.dev.rd SDM_FTS c = s.dev.rd SDM_FTS c) ∧
      Quiet s t ∧ PagesHeld s t 0x48 0x57)) ∧
  (∀ (s : State) (t0 c q k : Nat),
    c < s.dev.variant.sdInputs ∧ s.dev.up .control = true →
    max 1 (s.dev.fld SDM_CHCFG c 15 12) * 32 ≤ q →
    Ends (.stuckDetect t0 c q k) s (fun t =>
      t.dev.bit SDM_CHSTAT c 0 = true ∧ t.dev.bit SDM_CHSTAT c 8 = true ∧
      t.dev.bit SDM_CTS c 31 = false ∧ t.dev.bit SDM_MTS c 31 = false ∧
      t.dev.bit (if c < 32 then SDM_FLT0 else SDM_FLT1) 0 (c % 32) = true ∧ t.dev.bit (BLK_EVF 0x20) 0 0 = true ∧
      OnlyRegs s t [SDM_CHSTAT.key c 0, SDM_CTS.key c 0, SDM_MTS.key c 0, SDM_FLT0.key 0 0, SDM_FLT1.key 0 0, SDM_CLKSTAT.key 0 0, (BLK_EVF 0x20).key 0 0])) ∧
  (∀ (s : State) (t0 c g : Nat),
    1024 ≤ g ∧ c < s.dev.variant.sdInputs →
    Ends (.stuckClear t0 c g) s (fun t =>
      t.dev.bit SDM_CHSTAT c 0 = false ∧
      OnlyRegs s t [SDM_CHSTAT.key c 0, SDM_CLKSTAT.key 0 0])) ∧
  (∀ (s : State) (t0 c f m : Nat),
    (s.dev.sdmC c).settleFast = some f ∧ (s.dev.sdmC c).settleMtr = some m →
    f + 60000 ≤ t0 ∧ m + 1000000 ≤ t0 →
    Ends (.settleEnd t0 c) s (fun t =>
      (t.dev.sdmC c).settleFast = none ∧ (t.dev.sdmC c).settleMtr = none ∧ t.dev.bit SDM_CHSTAT c 2 = false ∧
      OnlyRegs s t [SDM_CHSTAT.key c 0])) ∧
  (∀ (s : State) (i : Initiator) (v : Word) (n : Nat),
    Passes s i SDM_CALCTL n →
    bitOf v 16 = true →
    Ends (.skewCalStart i v) s (fun t =>
      t.dev.sdm.calFrom = some s.dev.time ∧ t.dev.sdm.calRef = bits v 5 0 ∧ t.dev.sdm.calMeas = bits v 13 8 ∧
      t.dev.rd SDM_CALRES 0 = 0 ∧
      OnlyRegs s t [SDM_CALCTL.key 0 0, SDM_CALRES.key 0 0])) ∧
  (∀ (s : State) (t0 f r m : Nat) (x : Int),
    s.dev.sdm.calFrom = some f ∧ f + 52428800 ≤ t0 →
    -32768 ≤ x ∧ x ≤ 32767 →
    Ends (.skewCalDone t0 x r m) s (fun t =>
      t.dev.sdm.calFrom = none ∧ t.dev.bit SDM_CALRES 0 31 = true ∧ t.dev.bit (BLK_EVF 0x21) 0 0 = true ∧
      t.dev.bit SDM_CALRES 0 30 = (s.dev.sdm.calStuck || decide (r < 10) || decide (m < 10)) ∧
      (s.dev.sdm.calStuck = false → 10 ≤ r → 10 ≤ m → t.dev.fld SDM_CALRES 0 15 0 = twos x 16) ∧
      OnlyRegs s t [SDM_CALCTL.key 0 0, SDM_CALRES.key 0 0, (BLK_EVF 0x21).key 0 0])) ∧
  (∀ (s : State) (i : Initiator) (v : Word) (n : Nat),
    Passes s i SDM_SNAPCTL n →
    bitOf v 0 = true →
    Ends (.snapshotRequest i v) s (fun t =>
      t.dev.sdm.snapPending = true ∧
      OnlyRegs s t [])) ∧
  (∀ (s : State) (t0 q : Nat),
    s.dev.bit SDM_CLKCFG 0 8 = true ∧ 50 ≤ q →
    Ends (.frameClockFallback t0 q) s (fun t =>
      t.dev.bit SDM_CLKSTAT 0 0 = false ∧ t.dev.bit SDM_CLKSTAT 0 16 = true ∧ t.dev.bit (BLK_EVF 0x20) 0 2 = true ∧
      OnlyRegs s t [SDM_CLKSTAT.key 0 0, (BLK_EVF 0x20).key 0 0])) ∧
  (∀ (s : State) (t0 c q k : Nat),
    c < s.dev.variant.sdInputs ∧ s.dev.up .control = true ∧ s.dev.bit SDM_CLKCFG 0 (8 + sdmGroup c) = true ∧ 200 ≤ k →
    Ends (.stuckDetect t0 c q k) s (fun t =>
      t.dev.bit SDM_CHSTAT c 0 = true ∧ t.dev.bit SDM_CHSTAT c 8 = true ∧ t.dev.bit SDM_CLKSTAT 0 (sdmGroup c) = false ∧
      t.dev.bit SDM_CTS c 31 = false ∧ t.dev.bit SDM_MTS c 31 = false ∧
      t.dev.bit (if c < 32 then SDM_FLT0 else SDM_FLT1) 0 (c % 32) = true ∧ t.dev.bit (BLK_EVF 0x20) 0 0 = true ∧
      OnlyRegs s t [SDM_CHSTAT.key c 0, SDM_CTS.key c 0, SDM_MTS.key c 0, SDM_FLT0.key 0 0, SDM_FLT1.key 0 0, SDM_CLKSTAT.key 0 0, (BLK_EVF 0x20).key 0 0])) ∧
  (∀ (s : State) (t0 c q k : Nat),
    s.dev.variant.sdInputs ≤ c ∨ s.dev.up .control = false ∨
      (q < max 1 (s.dev.fld SDM_CHCFG c 15 12) * 32 ∧ (s.dev.bit SDM_CLKCFG 0 (8 + sdmGroup c) = false ∨ k < 200)) →
    Ends (.stuckDetect t0 c q k) s (fun t => t.dev.sdm = s.dev.sdm ∧ OnlyRegs s t [])) ∧
  (∀ (s : State) (t0 c g : Nat),
    g < 1024 →
    Ends (.stuckClear t0 c g) s (fun t => OnlyRegs s t [])) ∧
  (∀ (s : State) (t0 c : Nat),
    c < s.dev.variant.sdInputs →
    Ends (.settleEnd t0 c) s (fun t =>
      (t.dev.sdmC c).settleFast = (if ∀ a ∈ (s.dev.sdmC c).settleFast, a + 60000 ≤ max s.dev.time t0 then none else (s.dev.sdmC c).settleFast) ∧
      (t.dev.sdmC c).settleMtr = (if ∀ a ∈ (s.dev.sdmC c).settleMtr, a + 1000000 ≤ max s.dev.time t0 then none else (s.dev.sdmC c).settleMtr) ∧
      t.dev.bit SDM_CHSTAT c 2 = ((t.dev.sdmC c).settleFast.isSome || (t.dev.sdmC c).settleMtr.isSome) ∧
      OnlyRegs s t [SDM_CHSTAT.key c 0])) ∧
  (∀ (s : State) (i : Initiator) (v : Word) (n : Nat),
    Passes s i SDM_CALCTL n →
    bitOf v 16 = false →
    Ends (.skewCalStart i v) s (fun t =>
      t.dev.fld SDM_CALCTL 0 5 0 = bits v 5 0 ∧ t.dev.fld SDM_CALCTL 0 13 8 = bits v 13 8 ∧ t.dev.sdm = s.dev.sdm ∧
      OnlyRegs s t [SDM_CALCTL.key 0 0])) ∧
  (∀ (s : State) (t0 r m : Nat) (x : Int),
    (∀ f ∈ s.dev.sdm.calFrom, max s.dev.time t0 < f + 52428800) →
    Ends (.skewCalDone t0 x r m) s (fun t => t.dev.sdm = s.dev.sdm ∧ OnlyRegs s t [])) ∧
  (∀ (s : State) (i : Initiator) (v : Word) (n : Nat),
    Passes s i SDM_SNAPCTL n →
    bitOf v 0 = false →
    Ends (.snapshotRequest i v) s (fun t => t.dev.sdm = s.dev.sdm ∧ OnlyRegs s t [])) ∧
  (∀ (s : State) (t0 q : Nat),
    s.dev.bit SDM_CLKCFG 0 8 = false ∨ q < 50 →
    Ends (.frameClockFallback t0 q) s (fun t => OnlyRegs s t []))

/-- Good T-frames show telemetry, bad and missing ones count, S-frames carry the telegram, REARM and ARB_VREQ act at once. (R127, R130, R131, R137, R140, R142, R212, spec/03_sensing_and_cabinet_links.md) -/
def Obligations.CabinetLinksAndVehicleRequests : Prop :=
  (∀ (s : State) (t0 l : Nat) (rd : Bool) (syms : List Nat) (bs : List Byte),
    l < s.dev.variant.cabinets ∧ s.dev.up .control = true ∧ s.dev.bankOff 5 = false →
    frameOf rd syms = some bs ∧ frameGood l 168 bs = true →
    Ends (.tFrameReceive t0 l rd syms) s (fun t =>
      (∀ k : Nat, k < 42 → t.dev.rd (CAB_TFRAME k) l = w32 (leAt bs (4 * k) 4)) ∧
      (∀ m : Nat, m < 8 → t.dev.rd CAB_MTEL0 (8 * l + m) = w32 (leAt bs (14 + 12 * m) 2 + 65536 * leAt bs (16 + 12 * m) 2) ∧ t.dev.fld CAB_MTEL2 (8 * l + m) 31 24 = 0) ∧
      Quiet s t ∧ PagesHeld s t 0x48 0x57)) ∧
  (∀ (s : State) (t0 l : Nat) (rd : Bool) (syms : List Nat),
    l < s.dev.variant.cabinets ∧ s.dev.up .control = true ∧ s.dev.bankOff 5 = false →
    ((frameOf rd syms).map (frameGood l 168)).getD false = false →
    Ends (.tFrameReceive t0 l rd syms) s (fun t =>
      t.dev.fld CAB_ERRCNT l 15 0 = min (s.dev.fld CAB_ERRCNT l 15 0 + 1) 65535 ∧ t.dev.bit (BLK_EVF 0x24) 0 3 = true ∧
      OnlyRegs s t [CAB_ERRCNT.key l 0, (BLK_EVF 0x24).key 0 0])) ∧
  (∀ (s : State) (t0 l : Nat) (rd : Bool) (syms : List Nat),
    s.dev.variant.cabinets ≤ l ∨ s.dev.up .control = false ∨ s.dev.bankOff 5 = true →
    Ends (.tFrameReceive t0 l rd syms) s (fun t => OnlyRegs s t [])) ∧
  (∀ (s : State) (t0 l : Nat),
    l < s.dev.variant.cabinets ∧ s.dev.up .control = true ∧ s.dev.loop.boundaryAt + s.dev.periodNs ≤ max s.dev.time t0 + 1000 →
    s.dev.linkState l = 2 ∧ (s.dev.link l).got = false ∧ (s.dev.link l).cut = false →
    Ends (.tFrameCutoff t0 l) s (fun t =>
      t.dev.fld CAB_ERRCNT l 31 16 = min (s.dev.fld CAB_ERRCNT l 31 16 + 1) 65535 ∧
      t.dev.fld CAB_LSTAT l 6 4 = min (s.dev.fld CAB_LSTAT l 6 4 + 1) 7 ∧
      (∀ m : Nat, m < 8 → t.dev.fld CAB_MTEL2 (8 * l + m) 31 24 = min (s.dev.fld CAB_MTEL2 (8 * l + m) 31 24 + 1) 255) ∧
      (3 ≤ s.dev.fld CAB_LSTAT l 6 4 → (t.dev.link l).dying = true) ∧ (t.dev.link l).cut = true ∧
      OnlyRegs s t (CAB_ERRCNT.key l 0 :: CAB_LSTAT.key l 0 :: (linkModules l).map (fun m => CAB_MTEL2.key m 0)))) ∧
  (∀ (s : State) (t0 l : Nat),
    (s.dev.link l).cut = true ∨ max s.dev.time t0 + 1000 < s.dev.loop.boundaryAt + s.dev.periodNs ∨ (s.dev.link l).got = true →
    Ends (.tFrameCutoff t0 l) s (fun t => OnlyRegs s t [])) ∧
  (∀ (s : State) (t0 l : Nat) (tel : List Byte),
    l < s.dev.variant.cabinets ∧ s.dev.pwr.phase = .running →
    Ends (.sFrameSend t0 l tel) s (fun t =>
      let f := sFrameBytes l tel
      (t.dev.link l).sframes.getLast?.map Prod.snd = some f ∧
      (∀ p ∈ (t.dev.link l).sframes, p ∈ (s.dev.link l).sframes ∨ p.2 = f) ∧
      f.length = 62 ∧ f.take 2 = [w8 (l + 16), w8 (min tel.length 56)] ∧ (f.drop 2).take 56 = slice tel 0 56 ∧ leAt f 58 4 = crc32 (f.take 58) ∧
      OnlyRegs s t [])) ∧
  (∀ (s : State) (i : Initiator) (v : Word) (n : Nat),
    Passes s i CAB_LCFG n →
    Ends (.cabinetRearm i v) s (fun t =>
      t.dev.linkState n = (if s.dev.linkState n = 3 then 1 else s.dev.linkState n) ∧
      OnlyRegs s t [CAB_LCFG.key n 0, CAB_LSTAT.key n 0, (BLK_ERR 0x24).key 0 0])) ∧
  (∀ (s : State) (i : Initiator) (v : Word) (n : Nat),
    Passes s i ARB_VREQ n →
    Ends (.vehicleRequestWrite i v) s (fun t =>
      (∀ k : Nat, k < 32 → k ≠ 6 → k ≠ 7 → t.dev.bit ARB_VREQ n k = bitOf v k) ∧ (t.dev.arbR n).vreqDead = false ∧
      OnlyRegs s t [ARB_VREQ.key n 0])) ∧
  (∀ (s : State) (t0 l : Nat),
    l < s.dev.variant.cabinets ∧ s.dev.up .control = true ∧ s.dev.loop.boundaryAt + s.dev.periodNs ≤ max s.dev.time t0 + 1000 →
    (s.dev.link l).got = false ∧ (s.dev.link l).cut = false →
    Ends (.tFrameCutoff t0 l) s (fun t =>
      (∀ m : Nat, m < 8 → t.dev.fld CAB_MTEL2 (8 * l + m) 31 24 = min (s.dev.fld CAB_MTEL2 (8 * l + m) 31 24 + 1) 255) ∧
      (s.dev.linkState l ≠ 0 → t.dev.fld CAB_ERRCNT l 31 16 = min (s.dev.fld CAB_ERRCNT l 31 16 + 1) 65535) ∧
      (s.dev.linkState l = 0 → t.dev.rd CAB_ERRCNT l = s.dev.rd CAB_ERRCNT l) ∧
      (s.dev.linkState l = 1 → (t.dev.link l).good = 0) ∧ (s.dev.linkState l ≠ 2 → t.dev.rd CAB_LSTAT l = s.dev.rd CAB_LSTAT l) ∧
      (t.dev.link l).cut = true ∧
      OnlyRegs s t (CAB_ERRCNT.key l 0 :: CAB_LSTAT.key l 0 :: (linkModules l).map (fun m => CAB_MTEL2.key m 0)))) ∧
  (∀ (s : State) (t0 l : Nat),
    s.dev.variant.cabinets ≤ l ∨ s.dev.up .control = false →
    Ends (.tFrameCutoff t0 l) s (fun t => t.dev.links = s.dev.links ∧ OnlyRegs s t [])) ∧
  (∀ (s : State) (t0 l : Nat) (tel : List Byte),
    s.dev.variant.cabinets ≤ l ∨ s.dev.pwr.phase ≠ .running →
    Ends (.sFrameSend t0 l tel) s (fun t => t.dev.links = s.dev.links ∧ OnlyRegs s t []))

/-- A tuning session starts or is refused with its cause, stops on request, and ends with its last point. (R216, R217, R218, R219, R221, spec/05_constraint_arbitration.md) -/
def Obligations.TuningSessionsStartStopAndStep : Prop :=
  (∀ (s : State) (i : Initiator) (v : Word) (n : Nat),
    Passes s i LPE_TUNCTL n →
    bitOf v 1 = false ∧ s.dev.tunState ≠ 1 →
    Ends (.tuningStart i v) s (fun t =>
      (t.dev.tunRefusal = 0 → t.dev.arb.tun.pending = true) ∧
      (t.dev.tunRefusal ≠ 0 → t.dev.tunState = 3 ∧ t.dev.fld LPE_TUNSTAT 0 23 20 = t.dev.tunRefusal) ∧
      OnlyPages s t [0x29, 0x2A, 0x2B])) ∧
  (∀ (s : State) (i : Initiator) (v : Word) (n : Nat),
    Passes s i LPE_TUNCTL n →
    s.dev.tunState = 1 →
    Ends (.tuningStop i v) s (fun t =>
      t.dev.tunState = 3 ∧ t.dev.fld LPE_TUNSTAT 0 23 20 = 1 ∧ t.dev.bit (BLK_EVF 0x29) 0 1 = true ∧
      OnlyRegs s t [LPE_TUNSTAT.key 0 0, (BLK_EVF 0x29).key 0 0])) ∧
  (∀ (s : State) (t0 : Nat),
    s.dev.tunState = 1 ∧ s.dev.arb.tun.ready = true ∧ s.dev.tunPrbs = false →
    s.dev.fld LPE_TUNCTL 0 28 24 ≤ s.dev.tunPoint →
    Ends (.tuningPointDone t0) s (fun t =>
      t.dev.tunState = 2 ∧ t.dev.bit (BLK_EVF 0x29) 0 0 = true ∧
      t.dev.bit LPE_TRSTAT s.dev.tunPoint 3 = !t.dev.bit LPE_TRSTAT s.dev.tunPoint 0 ∧
      OnlyPages s t [0x29, 0x2B])) ∧
  (∀ (s : State) (i : Initiator) (v : Word) (n : Nat),
    Passes s i LPE_TUNCTL n →
    bitOf v 1 = false ∧ s.dev.tunState ≠ 1 ∧ (s.dev.fieldsWrite i 0x29 0x040 0 false (v ||| 1)).tunRefusal = 0 →
    Ends (.tuningStart i v) s (fun t =>
      t.dev.arb.tun = { pending := true } ∧ t.dev.tunState = s.dev.tunState ∧ (∀ k < 32, t.dev.rd LPE_TRSTAT k = 0 ∧ t.dev.rd LPE_TRGAIN k = 0) ∧
      OnlyPages s t [0x29, 0x2A, 0x2B])) ∧
  (∀ (s : State) (i : Initiator) (v : Word) (n : Nat),
    Passes s i LPE_TUNCTL n →
    bitOf v 1 = false ∧ s.dev.tunState ≠ 1 ∧ (s.dev.fieldsWrite i 0x29 0x040 0 false (v ||| 1)).tunRefusal ≠ 0 →
    Ends (.tuningStart i v) s (fun t =>
      t.dev.arb.tun = {} ∧ t.dev.tunState = 3 ∧ t.dev.fld LPE_TUNSTAT 0 23 20 = (s.dev.fieldsWrite i 0x29 0x040 0 false (v ||| 1)).tunRefusal ∧
      (∀ k < 32, t.dev.rd LPE_TRSTAT k = 0 ∧ t.dev.rd LPE_TRGAIN k = 0) ∧ OnlyPages s t [0x29, 0x2A, 0x2B])) ∧
  (∀ (s : State) (i : Initiator) (v : Word) (n : Nat),
    Passes s i LPE_TUNCTL n →
    bitOf v 1 = false ∧ s.dev.tunState = 1 →
    Ends (.tuningStart i v) s (fun t =>
      t.dev.arb.tun = s.dev.arb.tun ∧ (s.dev.bit (BLK_ERR 0x29) 0 31 = false → t.dev.rd (BLK_ERR 0x29) 0 = errWord 7 i 0x040) ∧
      OnlyRegs s t [(BLK_ERR 0x29).key 0 0])) ∧
  (∀ (s : State) (i : Initiator) (v : Word) (n : Nat),
    Passes s i LPE_TUNCTL n →
    bitOf v 1 = true ∧ (s.dev.tunState = 1 ∨ s.dev.arb.tun.pending = true) →
    Ends (.tuningStart i v) s (fun t =>
      t.dev.tunState = 3 ∧ t.dev.fld LPE_TUNSTAT 0 23 20 = 1 ∧ t.dev.arb.tun = {} ∧ t.dev.bit (BLK_EVF 0x29) 0 1 = true ∧
      OnlyRegs s t [LPE_TUNSTAT.key 0 0, (BLK_EVF 0x29).key 0 0])) ∧
  (∀ (s : State) (i : Initiator) (v : Word) (n : Nat),
    Passes s i LPE_TUNCTL n →
    bitOf v 1 = true ∧ s.dev.tunState ≠ 1 ∧ s.dev.arb.tun.pending = false →
    Ends (.tuningStart i v) s (fun t =>
      t.dev.arb.tun = s.dev.arb.tun ∧ t.dev.tunState = s.dev.tunState ∧ t.dev.tunCtx = bits v 14 8 ∧
      OnlyRegs s t [LPE_TUNCTL.key 0 0, (BLK_ERR 0x29).key 0 0])) ∧
  (∀ (s : State) (i : Initiator) (v : Word) (n : Nat),
    Passes s i LPE_TUNCTL n →
    s.dev.tunState ≠ 1 ∧ s.dev.arb.tun.pending = true →
    Ends (.tuningStop i v) s (fun t =>
      t.dev.tunState = 3 ∧ t.dev.fld LPE_TUNSTAT 0 23 20 = 1 ∧ t.dev.arb.tun = {} ∧ t.dev.bit (BLK_EVF 0x29) 0 1 = true ∧
      OnlyRegs s t [LPE_TUNSTAT.key 0 0, (BLK_EVF 0x29).key 0 0])) ∧
  (∀ (s : State) (i : Initiator) (v : Word) (n : Nat),
    Passes s i LPE_TUNCTL n →
    s.dev.tunState ≠ 1 ∧ s.dev.arb.tun.pending = false →
    Ends (.tuningStop i v) s (fun t =>
      t.dev.arb.tun = s.dev.arb.tun ∧ t.dev.tunState = s.dev.tunState ∧ t.dev.tunCtx = bits v 14 8 ∧
      OnlyRegs s t [LPE_TUNCTL.key 0 0, (BLK_ERR 0x29).key 0 0])) ∧
  (∀ (s : State) (t0 : Nat),
    s.dev.tunState = 1 ∧ s.dev.arb.tun.ready = true ∧ s.dev.tunPrbs = false →
    s.dev.tunPoint < s.dev.fld LPE_TUNCTL 0 28 24 →
    Ends (.tuningPointDone t0) s (fun t =>
      t.dev.tunState = 1 ∧ t.dev.tunPoint = s.dev.tunPoint + 1 ∧ t.dev.arb.tun.j = 0 ∧ t.dev.arb.tun.ready = false ∧ t.dev.arb.tun.sums = [] ∧
      (∀ i ∈ s.dev.tunPoints,
        let b := fun (k : Nat) => binOf (kvGet s.dev.arb.tun.sums (4 * i + k) (0, -32)) s.dev.tunWindow
        t.dev.rd LPE_TRINRE i = (b 0).word ∧ t.dev.rd LPE_TRINIM i = (b 1).word ∧ t.dev.rd LPE_TRRETRE i = (b 2).word ∧ t.dev.rd LPE_TRRETIM i = (b 3).word ∧
        t.dev.bit LPE_TRSTAT i 0 = !t.dev.bit LPE_TRSTAT i 3 ∧ t.dev.bit LPE_TRSTAT i 3 = decide ((b 0).m = 0 ∧ (b 1).m = 0) ∧
        (¬ ((b 0).m = 0 ∧ (b 1).m = 0) → t.dev.rd LPE_TRGAIN i = (gainOf (b 0) (b 1) (b 2) (b 3)).word ∧
          t.dev.rd LPE_TRPHASE i = w32 (gainPhase (b 0) (b 1) (b 2) (b 3)))) ∧ OnlyPages s t [0x29, 0x2B])) ∧
  (∀ (s : State) (t0 : Nat),
    s.dev.tunState = 1 ∧ s.dev.arb.tun.ready = true →
    s.dev.tunPrbs = true ∨ s.dev.fld LPE_TUNCTL 0 28 24 ≤ s.dev.tunPoint →
    Ends (.tuningPointDone t0) s (fun t =>
      t.dev.tunState = 2 ∧ t.dev.tunPoint = (if s.dev.tunPrbs then s.dev.fld LPE_TUNCTL 0 28 24 else s.dev.tunPoint) ∧ t.dev.bit (BLK_EVF 0x29) 0 0 = true ∧
      (∀ i ∈ s.dev.tunPoints,
        let b := fun (k : Nat) => binOf (kvGet s.dev.arb.tun.sums (4 * i + k) (0, -32)) s.dev.tunWindow
        t.dev.rd LPE_TRINRE i = (b 0).word ∧ t.dev.rd LPE_TRINIM i = (b 1).word ∧ t.dev.rd LPE_TRRETRE i = (b 2).word ∧ t.dev.rd LPE_TRRETIM i = (b 3).word ∧
        t.dev.bit LPE_TRSTAT i 0 = !t.dev.bit LPE_TRSTAT i 3 ∧ t.dev.bit LPE_TRSTAT i 3 = decide ((b 0).m = 0 ∧ (b 1).m = 0) ∧
        (¬ ((b 0).m = 0 ∧ (b 1).m = 0) → t.dev.rd LPE_TRGAIN i = (gainOf (b 0) (b 1) (b 2) (b 3)).word ∧
          t.dev.rd LPE_TRPHASE i = w32 (gainPhase (b 0) (b 1) (b 2) (b 3)))) ∧ OnlyPages s t [0x29, 0x2B])) ∧
  (∀ (s : State) (t0 : Nat),
    s.dev.tunState ≠ 1 ∨ s.dev.arb.tun.ready = false →
    Ends (.tuningPointDone t0) s (fun t => t.dev.arb = s.dev.arb ∧ OnlyRegs s t []))

/-- A cycle shares the headroom and nothing out of an invalid one; a rebuild takes a module's state; MOVE, PARK, RELEASE act or are refused. (R232, R233, R234, R236, R224, R225, R226, R239, R240, R241, spec/06_site_power_sharing.md) -/
def Obligations.HeadroomIsSharedAndModulesMoveOnRequest : Prop :=
  (∀ (s : State) (t0 : Nat) (p : Option Word),
    s.dev.engineRuns = true ∧ s.dev.bit SHR_CTL 0 0 = true ∧ s.dev.level = .normal →
    s.dev.frame % s.dev.shareK = 0 ∧ s.dev.share.prevSite = p →
    Ends (.allocationCycle t0) s (fun t =>
      t.dev.rd SHR_CYCFRM 0 = w32 s.dev.frame ∧ t.dev.rd SHR_HEAD 0 = w32 (p.elim 0 (fun w => (bfOf w).floorMul 10)) ∧
      t.dev.bit SHR_STAT 0 9 = p.isNone ∧ t.dev.share.pendClaims.map Prod.snd = some s.dev.frame ∧
      (p = none → t.dev.bit (BLK_EVF 0x3C) 0 1 = true ∧ t.dev.rd SHR_UNALLOC 0 = 0 ∧ ∀ o : Nat, o < s.dev.variant.outlets → t.dev.rd SHR_BUDGET o = 0) ∧
      OnlyPages s t [0x3C])) ∧
  (∀ (s : State) (t0 m : Nat),
    (s.dev.at t0).atBoundary = true ∧ s.dev.modEn m = true ∧ (kvGet s.dev.share.modu m {}).rebuild = 2 →
    Ends (.moduleRebuild t0 m) s (fun t =>
      let c := (kvGet s.dev.share.modu m {}).contst % 16
      (c = 0 → t.dev.modState m = 1) ∧
      (∀ i o : Nat, i < 4 → c = 2 ^ i → s.dev.reachAt m i = some o → t.dev.modState m = 2 ∧ t.dev.modOutlet m = o ∧ t.dev.modIndex m = i) ∧
      (c ≠ 0 → (∀ i : Nat, i < 4 → c = 2 ^ i → s.dev.reachAt m i = none) → t.dev.modState m = 4 ∧ t.dev.bit RGP_MODSTAT m 17 = true) ∧
      t.dev.bit (BLK_EVF 0x3E) 0 3 = true ∧ (kvGet t.dev.share.modu m {}).rebuild = 0 ∧ OnlyPages s t [0x28, 0x3E])) ∧
  (∀ (s : State) (t0 m : Nat),
    (s.dev.at t0).atBoundary = false ∨ s.dev.modEn m = false ∨ (kvGet s.dev.share.modu m {}).rebuild ≠ 2 →
    Ends (.moduleRebuild t0 m) s (fun t => OnlyRegs s t [])) ∧
  (∀ (s : State) (i : Initiator) (v : Word) (m o : Nat),
    Passes s i RGP_MODCTL m →
    bitOf v 0 = false ∧ bitOf v 12 = false ∧ s.dev.bit RGP_CTL 0 1 = false →
    s.dev.reachAt m (bits v 9 8) = some o ∧ s.dev.candidate m o = true ∧ s.dev.inFlight < s.dev.maxMov →
    s.dev.rebuilt = true ∧ s.dev.bit RGP_CTL 0 0 = true ∧ s.dev.level = .normal →
    Ends (.moduleMoveRequest i v) s (fun t =>
      t.dev.share.pendMoves = s.dev.share.pendMoves ++ [(m, some (bits v 9 8, o), false)] ∧
      OnlyRegs s t [])) ∧
  (∀ (s : State) (i : Initiator) (v : Word) (m : Nat),
    Passes s i RGP_MODCTL m →
    bitOf v 0 = false ∧ bitOf v 12 = false ∧ s.dev.bit RGP_CTL 0 1 = false →
    (∀ o : Nat, o < 32 → s.dev.reachAt m (bits v 9 8) = some o → s.dev.candidate m o = false) ∨ s.dev.maxMov ≤ s.dev.inFlight ∨
      s.dev.rebuilt = false ∨ s.dev.bit RGP_CTL 0 0 = false ∨ s.dev.level ≠ .normal →
    Ends (.moduleMoveRequest i v) s (fun t =>
      t.dev.bit RGP_STAT 0 24 = true ∧ t.dev.share.pendMoves = s.dev.share.pendMoves ∧
      OnlyRegs s t [RGP_STAT.key 0 0])) ∧
  (∀ (s : State) (i : Initiator) (v : Word) (m : Nat),
    Passes s i RGP_MODCTL m →
    bitOf v 0 = false ∧ bitOf v 12 = false ∧ s.dev.bit RGP_CTL 0 1 = true →
    s.dev.bit (BLK_ERR 0x3E) 0 31 = false →
    Ends (.moduleMoveRequest i v) s (fun t =>
      t.dev.rd (BLK_ERR 0x3E) 0 = errWord 7 i 0x410 ∧ t.dev.share.pendMoves = s.dev.share.pendMoves ∧
      OnlyRegs s t [(BLK_ERR 0x3E).key 0 0])) ∧
  (∀ (s : State) (i : Initiator) (v : Word) (m : Nat),
    Passes s i RGP_MODCTL m →
    bitOf v 0 = false ∧ bitOf v 4 = false ∧ s.dev.bit RGP_CTL 0 1 = false →
    s.dev.modEn m = true ∧ s.dev.modState m = 2 ∧ s.dev.linkState (m / 8) = 2 ∧ s.dev.mayLeave m = true →
    s.dev.moving m = false ∧ s.dev.inFlight < s.dev.maxMov →
    s.dev.rebuilt = true ∧ s.dev.bit RGP_CTL 0 0 = true ∧ s.dev.level = .normal →
    Ends (.moduleParkRequest i v) s (fun t =>
      t.dev.share.pendMoves = s.dev.share.pendMoves ++ [(m, none, false)] ∧
      OnlyRegs s t [])) ∧
  (∀ (s : State) (i : Initiator) (v : Word) (m : Nat),
    Passes s i RGP_MODCTL m →
    bitOf v 0 = false ∧ bitOf v 4 = false ∧ s.dev.bit RGP_CTL 0 1 = false →
    s.dev.modEn m = false ∨ s.dev.modState m ≠ 2 ∨ s.dev.linkState (m / 8) ≠ 2 ∨ s.dev.mayLeave m = false ∨ s.dev.moving m = true ∨ s.dev.maxMov ≤ s.dev.inFlight ∨
      s.dev.rebuilt = false ∨ s.dev.bit RGP_CTL 0 0 = false ∨ s.dev.level ≠ .normal →
    Ends (.moduleParkRequest i v) s (fun t =>
      t.dev.bit RGP_STAT 0 24 = true ∧ t.dev.share.pendMoves = s.dev.share.pendMoves ∧
      OnlyRegs s t [RGP_STAT.key 0 0])) ∧
  (∀ (s : State) (i : Initiator) (v : Word) (m : Nat),
    Passes s i RGP_MODCTL m →
    bitOf v 0 = false ∧ bitOf v 4 = false ∧ s.dev.bit RGP_CTL 0 1 = true →
    s.dev.bit (BLK_ERR 0x3E) 0 31 = false →
    Ends (.moduleParkRequest i v) s (fun t =>
      t.dev.rd (BLK_ERR 0x3E) 0 = errWord 7 i 0x410 ∧ t.dev.share.pendMoves = s.dev.share.pendMoves ∧
      OnlyRegs s t [(BLK_ERR 0x3E).key 0 0])) ∧
  (∀ (s : State) (i : Initiator) (v : Word) (m : Nat),
    Passes s i RGP_MODCTL m →
    bitOf v 4 = false ∧ bitOf v 12 = false →
    Ends (.moduleRelease i v) s (fun t =>
      (kvGet t.dev.share.modu m {}).rebuild = (if s.dev.modState m = 4 then 1 else (kvGet s.dev.share.modu m {}).rebuild) ∧
      OnlyRegs s t [])) ∧
  (∀ (s : State) (i : Initiator) (v : Word) (m : Nat) (c : Instr),
    Passes s i RGP_MODCTL m →
    c = .moduleMoveRequest i v ∨ c = .moduleParkRequest i v ∨ c = .moduleRelease i v →
    Ends c s (fun t => OnlyRegs s t [RGP_STAT.key 0 0, (BLK_ERR 0x3E).key 0 0]))

/-- A move enters its next phase when the phase's condition is met, and each phase's limit has its outcome. (R230, R242, R245, R246, R247, R248, spec/06_site_power_sharing.md) -/
def Obligations.MovePhasesAdvanceAndTimeOut : Prop :=
  (∀ (s : State) (t0 k : Nat) (x : MoveRec),
    (s.dev.at t0).atBoundary = true ∧ s.dev.slot k = some x ∧ x.phase = 1 ∧ 2 ≤ x.okRun →
    Ends (.movePhaseAdvance t0 k) s (fun t =>
      (t.dev.slot k).map (fun y => y.phase) = some 2 ∧ t.dev.fld RGP_MVSTAT k 2 0 = 2 ∧
      OnlyRegs s t [RGP_MVSTAT.key k 0])) ∧
  (∀ (s : State) (t0 k : Nat) (x : MoveRec),
    (s.dev.at t0).atBoundary = true ∧ s.dev.slot k = some x ∧ x.phase = 2 ∧ s.dev.verifyN ≤ x.okRun ∧ x.toPark = false ∧ x.dst = none →
    k < 8 ∧ x.modu < 64 →
    Ends (.movePhaseAdvance t0 k) s (fun t =>
      t.dev.slot k = none ∧ t.dev.modState x.modu = 1 ∧ t.dev.fld RGP_MVLAST k 3 0 = 1 ∧ t.dev.bit (BLK_EVF 0x3E) 0 0 = true ∧
      OnlyPages s t [0x3E, 0x3F])) ∧
  (∀ (s : State) (t0 k : Nat) (x : MoveRec),
    (s.dev.at t0).atBoundary = true ∧ s.dev.slot k = some x ∧ x.phase = 2 ∧ s.dev.verifyN ≤ x.okRun ∧ (x.toPark = true ∨ x.dst.isSome = true) →
    Ends (.movePhaseAdvance t0 k) s (fun t =>
      (t.dev.slot k).map (fun y => y.phase) = some (if x.toPark then 7 else 3) ∧ t.dev.fld RGP_MVSTAT k 2 0 = (if x.toPark then 7 else 3) ∧
      OnlyRegs s t [RGP_MVSTAT.key k 0])) ∧
  (∀ (s : State) (t0 k i o : Nat) (x : MoveRec),
    (s.dev.at t0).atBoundary = true ∧ s.dev.slot k = some x ∧ x.phase = 3 ∧ 2 ≤ x.okRun ∧ x.dst = some (i, o) →
    s.dev.tripped o = false ∧ s.dev.contst x.modu = 0 ∧ s.dev.reachAt x.modu i = some o →
    Ends (.movePhaseAdvance t0 k) s (fun t =>
      (t.dev.slot k).map (fun y => (y.phase, y.dst)) = some (4, some (i, o)) ∧ t.dev.fld RGP_MVSTAT k 2 0 = 4 ∧
      OnlyRegs s t [RGP_MVSTAT.key k 0])) ∧
  (∀ (s : State) (t0 k i o : Nat) (x : MoveRec),
    (s.dev.at t0).atBoundary = true ∧ s.dev.slot k = some x ∧ x.phase = 4 ∧ s.dev.verifyN ≤ x.okRun ∧ x.dst = some (i, o) →
    k < 8 ∧ x.modu < 64 ∧ i < 4 ∧ o < 32 →
    Ends (.movePhaseAdvance t0 k) s (fun t =>
      (t.dev.slot k).map (fun y => y.phase) = some 5 ∧ t.dev.modState x.modu = 2 ∧ t.dev.modOutlet x.modu = o ∧ t.dev.modIndex x.modu = i ∧
      Quiet s t ∧ PagesHeld s t 0x48 0x57)) ∧
  (∀ (s : State) (t0 k : Nat) (x : MoveRec),
    (s.dev.at t0).atBoundary = true ∧ s.dev.slot k = some x ∧ (x.phase = 5 ∨ x.phase = 6) ∧ x.reached = true →
    Ends (.movePhaseAdvance t0 k) s (fun t =>
      t.dev.slot k = none ∧ t.dev.fld RGP_MVLAST k 3 0 = (if x.phase = 5 then 1 else 2) ∧ t.dev.bit (BLK_EVF 0x3E) 0 0 = true ∧
      OnlyPages s t [0x3E, keyPage (RGP_MVLAST.key k 0), keyPage (RGP_MVSTAT.key k 0)])) ∧
  (∀ (s : State) (t0 k : Nat) (x : MoveRec),
    (s.dev.at t0).atBoundary = true ∧ s.dev.slot k = some x ∧ x.phase = 7 ∧ s.dev.verifyN ≤ x.okRun →
    k < 8 ∧ x.modu < 64 ∧ x.parkRes < 16 →
    Ends (.movePhaseAdvance t0 k) s (fun t =>
      t.dev.slot k = none ∧ t.dev.modState x.modu = 1 ∧ t.dev.fld RGP_MVLAST k 3 0 = x.parkRes ∧
      OnlyPages s t [0x3E, 0x3F])) ∧
  (∀ (s : State) (t0 k : Nat),
    (s.dev.at t0).atBoundary = false ∨ s.dev.slot k = none ∨
      (s.dev.slot k).any (fun x => if x.phase = 5 ∨ x.phase = 6 then !x.reached else decide (x.okRun < min 2 s.dev.verifyN)) = true →
    Ends (.movePhaseAdvance t0 k) s (fun t => t.dev.share = s.dev.share ∧ OnlyRegs s t [])) ∧
  (∀ (s : State) (t0 k i o : Nat) (x : MoveRec),
    (s.dev.at t0).atBoundary = true ∧ s.dev.slot k = some x ∧ x.phase = 1 ∧ x.src = some (i, o) ∧ s.dev.tripped o = false ∧ x.phaseAt + s.dev.fld RGP_TMO 0 7 0 * 1000000 ≤ max s.dev.time t0 →
    k < 8 ∧ x.modu < 64 ∧ i < 4 ∧ o < 32 →
    Ends (.movePhaseTimeout t0 k) s (fun t =>
      (t.dev.slot k).map (fun y => y.phase) = some 6 ∧ t.dev.modState x.modu = 2 ∧ t.dev.modOutlet x.modu = o ∧ t.dev.modIndex x.modu = i ∧
      Quiet s t ∧ PagesHeld s t 0x48 0x57)) ∧
  (∀ (s : State) (t0 k : Nat) (x : MoveRec),
    (s.dev.at t0).atBoundary = true ∧ s.dev.slot k = some x ∧ (x.phase = 2 ∨ x.phase = 7) ∧ x.phaseAt + s.dev.fld RGP_TMO 0 15 8 * 1000000 ≤ max s.dev.time t0 →
    k < 8 ∧ x.modu < 64 →
    Ends (.movePhaseTimeout t0 k) s (fun t =>
      t.dev.slot k = none ∧ t.dev.modState x.modu = 4 ∧ t.dev.bit RGP_MODSTAT x.modu 16 = true ∧
      t.dev.fld RGP_MVLAST k 3 0 = 5 ∧ t.dev.bit (BLK_EVF 0x3E) 0 1 = true ∧ t.dev.bit (BLK_EVF 0x3E) 0 2 = true ∧
      OnlyPages s t [0x3E, 0x3F])) ∧
  (∀ (s : State) (t0 k : Nat) (x : MoveRec),
    (s.dev.at t0).atBoundary = true ∧ s.dev.slot k = some x ∧ (x.phase = 3 ∨ x.phase = 4) ∧ x.matchAt + s.dev.fld RGP_TMO 0 23 16 * 1000000 ≤ max s.dev.time t0 →
    Ends (.movePhaseTimeout t0 k) s (fun t =>
      (t.dev.slot k).map (fun y => (y.phase, y.parkRes)) = some (7, 4) ∧ t.dev.fld RGP_MVSTAT k 2 0 = 7 ∧
      OnlyRegs s t [RGP_MVSTAT.key k 0])) ∧
  (∀ (s : State) (t0 k : Nat) (x : MoveRec),
    (s.dev.at t0).atBoundary = true ∧ s.dev.slot k = some x ∧ (x.phase = 5 ∨ x.phase = 6) ∧ x.phaseAt + s.dev.fld RGP_TMO 0 31 24 * 1000000 ≤ max s.dev.time t0 →
    Ends (.movePhaseTimeout t0 k) s (fun t =>
      t.dev.slot k = none ∧ t.dev.fld RGP_MVLAST k 4 0 = (if x.phase = 5 then 17 else 18) ∧ t.dev.bit (BLK_EVF 0x3E) 0 0 = true ∧
      OnlyPages s t [0x3E, keyPage (RGP_MVLAST.key k 0), keyPage (RGP_MVSTAT.key k 0)])) ∧
  (∀ (s : State) (t0 k : Nat),
    (s.dev.at t0).atBoundary = false ∨ s.dev.slot k = none ∨
      (s.dev.slot k).any (fun x => decide (max s.dev.time t0 < x.phaseAt ∧ max s.dev.time t0 < x.matchAt)) = true →
    Ends (.movePhaseTimeout t0 k) s (fun t => t.dev.share = s.dev.share ∧ OnlyRegs s t []))

/-- Arming runs its checks or leaves its error; timers, counters, pins and software make their conditions true. (R262, R263, R264, R265, R268, R269, R274, R289, spec/07_acquisition.md) -/
def Obligations.SequencersArmAndTakeTriggers : Prop :=
  (∀ (s : State) (i : Initiator) (u : Nat) (v : Word),
    u < 4 ∧ Passes s i (ACQ_SQCTL u) 0 →
    s.dev.simple = false ∧ s.dev.faultHolds u = false ∧ s.dev.unitActive u = false →
    (s.dev.setFld (ACQ_SQCTL u) 0 10 8 (bits v 10 8)).armError u = 0 →
    Ends (.sequencerArm i u v) s (fun t =>
      t.dev.bit (ACQ_SQCTL u) 0 0 = true ∧ t.dev.fld (ACQ_SQSTAT u) 0 15 12 = 0 ∧ (t.dev.unit u).arming = true ∧
      t.dev.fld (ACQ_SQCTL u) 0 10 8 = bits v 10 8 ∧
      OnlyPages s t [0x40, 0x41, 0x42, 0x43, 0x44, 0x45])) ∧
  (∀ (s : State) (i : Initiator) (u e : Nat) (v : Word),
    u < 4 ∧ Passes s i (ACQ_SQCTL u) 0 →
    s.dev.simple = false ∧ s.dev.faultHolds u = false ∧ s.dev.unitActive u = false →
    (s.dev.setFld (ACQ_SQCTL u) 0 10 8 (bits v 10 8)).armError u = e ∧ e ≠ 0 →
    Ends (.sequencerArm i u v) s (fun t =>
      t.dev.bit (ACQ_SQCTL u) 0 0 = false ∧ t.dev.fld (ACQ_SQSTAT u) 0 15 12 = e ∧ (t.dev.unit u).arming = (s.dev.unit u).arming ∧
      t.dev.bit (BLK_EVF 0x40) 0 2 = true ∧
      OnlyRegs s t [(ACQ_SQCTL u).key 0 0, (ACQ_SQSTAT u).key 0 0, (BLK_EVF 0x40).key 0 0])) ∧
  (∀ (s : State) (i : Initiator) (u : Nat) (v : Word),
    u < 4 ∧ Passes s i (ACQ_SQCTL u) 0 →
    s.dev.simple = false ∧ s.dev.faultHolds u = false ∧ (s.dev.unit u).armed = true ∧ (s.dev.unit u).arming = false →
    Ends (.sequencerDisarm i u v) s (fun t =>
      t.dev.bit (ACQ_SQCTL u) 0 0 = false ∧ (t.dev.unit u).disarming = true ∧
      OnlyRegs s t [(ACQ_SQCTL u).key 0 0])) ∧
  (∀ (s : State) (t0 u n : Nat),
    (s.dev.unit u).armed = true ∧ s.dev.simple = false →
    kvGet (s.dev.unit u).tmr n 0 + (s.dev.rd (ACQ_TMRLIM u n) 0).toNat * 1000 ≤ t0 →
    Ends (.sequencerTimerExpiry t0 u n) s (fun t =>
      (t.dev.unit u).tmrTrue.testBit n = true ∧ OnlyRegs s t [])) ∧
  (∀ (s : State) (t0 u n : Nat),
    (s.dev.unit u).armed = true ∧ s.dev.simple = false →
    (s.dev.rd (ACQ_CNTLIM u n) 0).toNat ≤ (s.dev.rd (ACQ_CNT u n) 0).toNat →
    Ends (.sequencerCounterLimit t0 u n) s (fun t =>
      (t.dev.unit u).cntTrue.testBit n = true ∧ OnlyRegs s t [])) ∧
  (∀ (s : State) (i : Initiator) (v : Word) (n : Nat),
    Passes s i ACQ_SWTRG n →
    Ends (.softwareTrigger i v) s (fun t =>
      t.dev.acq.sw = s.dev.acq.sw ||| bits v 3 0 ∧
      OnlyRegs s t [])) ∧
  (∀ (s : State) (t0 p st w : Nat) (r : Bool),
    s.dev.up .acquisition = true ∧ s.dev.bankOff 1 = false ∧ p < 4 ∧ 10000 ≤ w →
    (s.dev.fld ACQ_PINCFG 0 (2 * p + 1) (2 * p)).testBit (if r then 0 else 1) = true →
    Ends (.triggerPinEdge t0 p r st w) s (fun t =>
      t.dev.acq.events = s.dev.acq.events ++ [(0x0A + p, st / 40 * 40)] ∧
      OnlyRegs s t [])) ∧
  (∀ (s : State) (t0 p st w : Nat) (r : Bool),
    w < 10000 ∨ (s.dev.fld ACQ_PINCFG 0 (2 * p + 1) (2 * p)).testBit (if r then 0 else 1) = false →
    Ends (.triggerPinEdge t0 p r st w) s (fun t =>
      t.dev.acq.events = s.dev.acq.events ∧
      OnlyRegs s t [])) ∧
  (∀ (s : State) (i : Initiator) (v : Word) (n : Nat),
    Passes s i ACQ_STCFG n →
    s.dev.simple = true ∧ s.dev.faultHolds 0 = false ∧ s.dev.unitActive 0 = false ∧ bitOf v 0 = true →
    (s.dev.wr ACQ_STCFG 0 (putBit (v &&& 0x77F03) 0 false)).armError 0 = 0 →
    Ends (.simpleTriggerArm i v) s (fun t =>
      t.dev.bit ACQ_STCFG 0 0 = true ∧ t.dev.fld ACQ_STSTAT 0 15 12 = 0 ∧ (t.dev.unit 0).arming = true ∧
      OnlyPages s t [0x40, 0x41, 0x47])) ∧
  (∀ (s : State) (i : Initiator) (v : Word) (n e : Nat),
    Passes s i ACQ_STCFG n →
    s.dev.simple = true ∧ s.dev.faultHolds 0 = false ∧ s.dev.unitActive 0 = false ∧ bitOf v 0 = true →
    (s.dev.wr ACQ_STCFG 0 (putBit (v &&& 0x77F03) 0 false)).armError 0 = e ∧ e ≠ 0 →
    Ends (.simpleTriggerArm i v) s (fun t =>
      t.dev.bit ACQ_STCFG 0 0 = false ∧ t.dev.fld ACQ_STSTAT 0 15 12 = e ∧ t.dev.bit (BLK_EVF 0x40) 0 2 = true ∧
      OnlyRegs s t [ACQ_STCFG.key 0 0, ACQ_STSTAT.key 0 0, (BLK_EVF 0x40).key 0 0]))

/-- A capture tick moves the grid on and arms what waits; a due pod is stored at its slot; a read report counts. (R260, R261, R266, R267, R269, R271, R279, spec/07_acquisition.md) -/
def Obligations.CaptureTicksAndPodsInCaptureRam : Prop :=
  (∀ (s : State) (t0 : Nat) (sd : List (Option Nat)) (pi : List (Nat × Nat × Option Int)),
    s.dev.up .acquisition = true ∧ (s.dev.acq.ticks = 0 ∨ s.dev.acq.lastTick + 3200 ≤ t0) →
    Ends (.captureTick t0 sd pi) s (fun t =>
      t.dev.acq.ticks = s.dev.acq.ticks + 1 ∧ t.dev.acq.lastTick = t0 ∧ t.dev.acq.sw = 0 ∧
      (∀ e ∈ t.dev.acq.events, t0 * 1000 < e.2) ∧
      ((∀ u : Nat, u < 4 → (s.dev.unit u).pods = []) → BytesKept s t 0 0) ∧
      t.pending = s.pending ∧ t.sys.fuses = s.sys.fuses ∧ PagesKept s t [0x40, 0x41, 0x42, 0x43, 0x44, 0x45, 0x46, 0x47])) ∧
  (∀ (s : State) (t0 : Nat) (sd : List (Option Nat)) (pi : List (Nat × Nat × Option Int)),
    s.dev.up .acquisition = false ∨ (s.dev.acq.ticks ≠ 0 ∧ t0 < s.dev.acq.lastTick + 3200) →
    (∀ u : Nat, u < 4 → (s.dev.unit u).pods = []) →
    Ends (.captureTick t0 sd pi) s (fun t => t.dev.acq = s.dev.acq ∧ OnlyRegs s t [])) ∧
  (∀ (s : State) (t0 u : Nat) (sd : List (Option Nat)) (pi : List (Nat × Nat × Option Int)),
    s.dev.up .acquisition = true ∧ (s.dev.acq.ticks = 0 ∨ s.dev.acq.lastTick + 3200 ≤ t0) ∧ u < 4 ∧ s.dev.simple = false →
    (s.dev.unit u).arming = true ∧ s.dev.faultHolds u = false ∧ (s.dev.unit u).disarming = false ∧ s.dev.acq.left = false ∧ s.dev.level = .normal →
    Ends (.captureTick t0 sd pi) s (fun t =>
      (t.dev.unit u).armed = true ∧ (t.dev.unit u).arming = false ∧ t.dev.bit (ACQ_SQSTAT u) 0 8 = true ∧
      t.dev.fld (ACQ_SQSTAT u) 0 3 0 = 0 ∧ (∀ n : Nat, n < 4 → t.dev.rd (ACQ_CNT u n) 0 = 0) ∧
      t.pending = s.pending ∧ t.sys.fuses = s.sys.fuses ∧ PagesKept s t [0x40, 0x41, 0x42, 0x43, 0x44, 0x45, 0x46, 0x47])) ∧
  (∀ (s : State) (t0 u : Nat) (sd : List (Option Nat)) (pi : List (Nat × Nat × Option Int)),
    s.dev.up .acquisition = true ∧ (s.dev.acq.ticks = 0 ∨ s.dev.acq.lastTick + 3200 ≤ t0) ∧ u < 4 ∧ s.dev.simple = false →
    (s.dev.unit u).armed = true ∧ s.dev.faultHolds u = false →
    (s.dev.unit u).disarming = true ∨ s.dev.acq.left = true ∨ s.dev.level ≠ .normal →
    Ends (.captureTick t0 sd pi) s (fun t =>
      (t.dev.unit u).armed = false ∧ t.dev.bit (ACQ_SQCTL u) 0 0 = false ∧ t.dev.bit (ACQ_SQSTAT u) 0 8 = false ∧ (t.dev.unit u).pods = [] ∧
      t.pending = s.pending ∧ t.sys.fuses = s.sys.fuses ∧ PagesKept s t [0x40, 0x41, 0x42, 0x43, 0x44, 0x45, 0x46, 0x47])) ∧
  (∀ (s : State) (t0 u : Nat) (p : PodRec),
    (s.dev.at t0).podDue u = some p ∧ u < 4 ∧ s.dev.regionFull u = false →
    Ends (.podClose t0 u) s (fun t =>
      let fw := fun k => Config.freeWord 279 (s.dev.fresh + k)
      let d1 := ({ s.dev.at t0 with fresh := s.dev.fresh + 192 } : Dev)
      (t.dev.unit u).pods = (s.dev.unit u).pods.drop 1 ∧ t.dev.rd ACQ_WRCNT u = s.dev.rd ACQ_WRCNT u + 1 ∧ t.dev.bit (BLK_EVF 0x40) 0 0 = true ∧
      t.sys.mem = (s.sys.store (d1.podAddr u) (d1.podBytes u p fw)).mem ∧
      t.pending = s.pending ∧ t.sys.fuses = s.sys.fuses ∧ BytesKept s t (d1.podAddr u) (d1.podBytes u p fw).length ∧
      PagesKept s t [0x40, 0x41, 0x42, 0x43, 0x44, 0x45, 0x46, 0x47])) ∧
  (∀ (s : State) (t0 u : Nat) (p : PodRec),
    (s.dev.at t0).podDue u = some p ∧ u < 4 ∧ s.dev.regionFull u = true →
    Ends (.podClose t0 u) s (fun t =>
      (t.dev.unit u).pods = (s.dev.unit u).pods.drop 1 ∧ t.dev.rd ACQ_WRCNT u = s.dev.rd ACQ_WRCNT u ∧ t.dev.bit (BLK_EVF 0x40) 0 1 = true ∧
      t.dev.fld ACQ_LOST u 31 0 = min (s.dev.fld ACQ_LOST u 31 0 + 1) (2 ^ 32 - 1) ∧
      OnlyPages s t [0x40, 0x41, 0x42, 0x43, 0x44, 0x45, 0x46, 0x47])) ∧
  (∀ (s : State) (i : Initiator) (v : Word) (n : Nat),
    Passes s i ACQ_RDCNT n →
    Ends (.podReadReport i v) s (fun t =>
      t.dev.rd ACQ_RDCNT n = v ∧
      OnlyRegs s t [ACQ_RDCNT.key n 0]))

/-- A metering sample with the gate open adds its energy to one accumulator; an unusable one is a gap. (R291, R294, R296, R297, spec/08_metrology.md) -/
def Obligations.ASampleRegistersItsEnergyOrAGap : Prop :=
  (∀ (s : State) (t0 c : Nat) (xs : List Int) (v i : Int),
    (s.dev.at t0).up .metrology = true ∧ s.dev.mtr.lastStamp = none ∧ t0 % 100000 = 0 →
    s.dev.mtr.live = [] ∧ 1 ≤ c ∧ c < s.dev.variant.mtrChannels ∧ s.dev.rd MTR_IRATED c = 0 →
    (s.dev.meterSamples xs).phases c t0 = some [(v, i)] →
    Ends (.meteringSample t0 xs) s (fun t =>
      let u := (rneDiv (((v * i).natAbs : Int) * (2 ^ 32 : Nat)) (calDen * calDen * 36000)).toNat
      (0 < v * i → (t.dev.mtrC c).imp = ((s.dev.mtrC c).imp + u) % 2 ^ 96 ∧ (t.dev.mtrC c).exp = (s.dev.mtrC c).exp) ∧
      (v * i < 0 → (t.dev.mtrC c).exp = ((s.dev.mtrC c).exp + u) % 2 ^ 96 ∧ (t.dev.mtrC c).imp = (s.dev.mtrC c).imp) ∧
      t.dev.mtr.lastStamp = some t0 ∧ Quiet s t ∧ PagesHeld s t 0x50 0x57)) ∧
  (∀ (s : State) (t0 c : Nat) (xs : List Int),
    (s.dev.at t0).up .metrology = true ∧ s.dev.mtr.lastStamp = none ∧ t0 % 100000 = 0 →
    s.dev.mtr.live = [] ∧ c < s.dev.variant.mtrChannels ∧ s.dev.mtrEn c = false →
    Ends (.meteringSample t0 xs) s (fun t =>
      (t.dev.mtrC c).imp = (s.dev.mtrC c).imp ∧ (t.dev.mtrC c).exp = (s.dev.mtrC c).exp ∧ t.dev.bit MTR_CHSTAT c 8 = true ∧
      t.dev.mtr.lastStamp = some t0 ∧ Quiet s t ∧ PagesHeld s t 0x50 0x57)) ∧
  (∀ (s : State) (t0 c : Nat) (xs : List Int) (l : List (Int × Int)),
    (s.dev.at t0).up .metrology = true ∧ t0 % 100000 = 0 ∧ c < s.dev.variant.mtrChannels →
    (∀ k ∈ s.dev.mtr.lastStamp, k < t0) →
    (s.dev.sampleReady t0 xs).phases c t0 = some l →
    (s.dev.sampleReady t0 xs).gateOpen c (pushWins c ((s.dev.sampleReady t0 xs).mtrC c).win (some l)) = true →
    Ends (.meteringSample t0 xs) s (fun t =>
      let p := l.foldl (fun (a : Int) (v : Int × Int) => a + v.1 * v.2) 0
      let u := (rneDiv ((p.natAbs : Int) * (2 ^ 32 : Nat)) (calDen * calDen * 36000)).toNat
      (t.dev.mtrC c).imp = (if 0 < p then ((s.dev.mtrC c).imp + u) % 2 ^ 96 else (s.dev.mtrC c).imp) ∧
      (t.dev.mtrC c).exp = (if p < 0 then ((s.dev.mtrC c).exp + u) % 2 ^ 96 else (s.dev.mtrC c).exp) ∧
      t.dev.bit MTR_CHSTAT c 0 = true ∧ (p ≠ 0 → t.dev.bit MTR_CHSTAT c 1 = decide (p < 0)) ∧
      t.dev.mtr.lastStamp = some t0 ∧ Quiet s t ∧ PagesHeld s t 0x50 0x57)) ∧
  (∀ (s : State) (t0 c : Nat) (xs : List Int),
    (s.dev.at t0).up .metrology = true ∧ t0 % 100000 = 0 ∧ c < s.dev.variant.mtrChannels →
    (∀ k ∈ s.dev.mtr.lastStamp, k < t0) →
    (s.dev.sampleReady t0 xs).phases c t0 = none →
    Ends (.meteringSample t0 xs) s (fun t =>
      (t.dev.mtrC c).imp = (s.dev.mtrC c).imp ∧ (t.dev.mtrC c).exp = (s.dev.mtrC c).exp ∧ t.dev.bit MTR_CHSTAT c 8 = true ∧
      (t.dev.mtrC c).gaps = ((s.dev.sampleReady t0 xs).mtrC c).gaps + 1 ∧ (((s.dev.sampleReady t0 xs).mtrC c).gaps = 0 → t.dev.bit (BLK_EVF 0x48) 0 1 = true) ∧
      t.dev.mtr.lastStamp = some t0 ∧ Quiet s t ∧ PagesHeld s t 0x50 0x57)) ∧
  (∀ (s : State) (t0 : Nat) (xs : List Int),
    s.dev.up .metrology = false ∨ t0 % 100000 ≠ 0 ∨ (s.dev.mtr.lastStamp.map (fun k => decide (t0 ≤ k))).getD false = true →
    Ends (.meteringSample t0 xs) s (fun t =>
      t.dev.mtr = s.dev.mtr ∧ OnlyRegs s t []))

/-- A valid sample taken while the gate is closed adds nothing, and counts in MTR_CREEPCNT where its power is not 0. (R302) -/
def Obligations.AClosedGateRegistersNothing : Prop :=
  (∀ (s : State) (t0 c : Nat) (xs : List Int) (l : List (Int × Int)),
    (s.dev.at t0).up .metrology = true ∧ s.dev.mtr.lastStamp.getD (t0 - 100000) + 100000 = t0 ∧ t0 % 100000 = 0 →
    s.dev.mtr.live = [] ∧ c < s.dev.variant.mtrChannels →
    (s.dev.meterSamples xs).phases c t0 = some l →
    s.dev.gateOpen c (pushWins c (s.dev.mtrC c).win (some l)) = false →
    Ends (.meteringSample t0 xs) s (fun t =>
      let p := l.foldl (fun (a : Int) (v : Int × Int) => a + v.1 * v.2) 0
      (t.dev.mtrC c).imp = (s.dev.mtrC c).imp ∧ (t.dev.mtrC c).exp = (s.dev.mtrC c).exp ∧
      (t.dev.mtrC c).runN = (s.dev.mtrC c).runN ∧ (t.dev.mtrC c).runE = (s.dev.mtrC c).runE ∧ (t.dev.mtrC c).evE = (s.dev.mtrC c).evE ∧
      (∀ n : Nat, n < 4 → bits (s.dev.pulseCfg n) 20 16 = c → (kvGet t.dev.mtr.pulse n {}).acc = (kvGet s.dev.mtr.pulse n {}).acc ∧ t.dev.rd MTR_PLSSTAT n = s.dev.rd MTR_PLSSTAT n) ∧
      t.dev.rd MTR_CREEPCNT c = (if p = 0 then s.dev.rd MTR_CREEPCNT c else w32 (min ((s.dev.rd MTR_CREEPCNT c).toNat + 1) 0xFFFFFFFF)) ∧
      Quiet s t ∧ PagesHeld s t 0x50 0x57))

/-- A fallback tick counts; a latch writes its record and shows the closed period on every channel. (R305, R306, R308, R313, R314, R323, R324, spec/08_metrology.md) -/
def Obligations.LatchesShowAClosedPeriod : Prop :=
  (∀ (s : State) (t0 k l : Nat),
    (s.dev.at t0).up .metrology = true ∧ s.dev.inFallback = false →
    s.dev.mtr.lastTick = some k ∧ s.dev.mtr.lastStamp = some l ∧ k + 25000000 ≤ min t0 (l + 100000) →
    s.dev.fld MTR_LATCHSTAT 0 26 16 + 1 < s.dev.latchN →
    Ends (.fallbackTick t0) s (fun t =>
      t.dev.bit MTR_LATCHSTAT 0 0 = true ∧ t.dev.rd MTR_FREQ 0 = 0 ∧ t.dev.bit (BLK_EVF 0x48) 0 3 = true ∧
      t.dev.fld MTR_LATCHSTAT 0 26 16 = s.dev.fld MTR_LATCHSTAT 0 26 16 + 1 ∧ t.dev.mtr.lastTick = some (k + 25000000) ∧
      OnlyRegs s t [MTR_LATCHSTAT.key 0 0, MTR_FREQ.key 0 0, (BLK_EVF 0x48).key 0 0])) ∧
  (∀ (s : State) (t0 : Nat) (cl : Closing) (r : List Closing),
    (s.dev.at t0).up .metrology = true ∧ s.dev.pwr.pfw = none →
    s.dev.mtr.closing = cl :: r ∧ cl.tick ≤ t0 →
    (∀ k : Nat, k < 32 → ((kvGet s.dev.bil.sess k none).map (fun x => decide (x.outlet < 16))).getD true = true) →
    Ends (.latch t0) s (fun t =>
      let seq := nextTotalSeq s.sys.mem
      memRead t.sys.mem (totalBank (latchBank s.sys.mem)) 1024 = totalRecord 1 seq cl.tick ((s.dev.at t0).mtime cl.tick) cl.flags cl.ticks cl.chans ∧
      t.dev.rd MTR_LATCHSEQ 0 = w32 seq ∧ t.dev.rd64 MTR_TICKLO MTR_TICKHI 0 = cl.tick % 2 ^ 64 ∧ t.dev.mtr.closing = r ∧
      (∀ c : Nat, c < s.dev.variant.mtrChannels → t.dev.totals c = ((cl.chans.getD c (0, 0, 0, false)).1 / 2 ^ 32 % 2 ^ 64, (cl.chans.getD c (0, 0, 0, false)).2.1 / 2 ^ 32 % 2 ^ 64)) ∧
      (∀ c : Nat, c < s.dev.variant.mtrChannels → (t.dev.rd MTR_IMPC c).toNat = (cl.chans.getD c (0, 0, 0, false)).1 / 2 ^ 32 / 1000 % 2 ^ 32 ∧ (t.dev.rd MTR_EXPC c).toNat = (cl.chans.getD c (0, 0, 0, false)).2.1 / 2 ^ 32 / 1000 % 2 ^ 32) ∧
      t.dev.bit (BLK_EVF 0x48) 0 0 = true ∧ t.pending = s.pending ∧ t.sys.fuses = s.sys.fuses ∧
      BytesKept s t 0x14000000 0xC0000 ∧ PagesKept s t [0x48, 0x49, 0x50, 0x51, 0x52, 0x53, 0x54, 0x55])) ∧
  (∀ (s : State) (t0 u : Nat),
    (s.dev.at t0).up .metrology = true ∧ s.dev.fallbackDue = some u ∧ u ≤ t0 ∧ t0 < u + 20000000 →
    (∀ l ∈ s.dev.mtr.lastStamp, u ≤ l + 100000) →
    s.dev.fld MTR_LATCHSTAT 0 26 16 + 1 < s.dev.latchN →
    Ends (.fallbackTick t0) s (fun t =>
      t.dev.bit MTR_LATCHSTAT 0 0 = true ∧ t.dev.mtr.lastTick = some u ∧ t.dev.fld MTR_LATCHSTAT 0 26 16 = s.dev.fld MTR_LATCHSTAT 0 26 16 + 1 ∧
      t.dev.mtr.closing = s.dev.mtr.closing ∧ OnlyPages s t [0x48])) ∧
  (∀ (s : State) (t0 u c : Nat),
    (s.dev.at t0).up .metrology = true ∧ s.dev.fallbackDue = some u ∧ u ≤ t0 ∧ t0 < u + 20000000 →
    (∀ l ∈ s.dev.mtr.lastStamp, u ≤ l + 100000) →
    s.dev.latchN ≤ s.dev.fld MTR_LATCHSTAT 0 26 16 + 1 ∧ c < s.dev.variant.mtrChannels →
    Ends (.fallbackTick t0) s (fun t =>
      t.dev.bit MTR_LATCHSTAT 0 0 = true ∧ t.dev.mtr.lastTick = some u ∧ t.dev.fld MTR_LATCHSTAT 0 26 16 = 0 ∧ t.dev.mtr.live = [] ∧
      t.dev.mtr.closing.dropLast = s.dev.mtr.closing ∧
      t.dev.mtr.closing.getLast?.map (fun x => (x.tick, x.flags, x.ticks)) = some (u, s.dev.mtr.flags ||| 1, s.dev.fld MTR_LATCHSTAT 0 26 16 + 1) ∧
      t.dev.mtr.closing.getLast?.map (fun x => x.chans.getD c (0, 0, 0, false)) =
        some ((s.dev.mtrC c).imp, (s.dev.mtrC c).exp, (s.dev.mtrC c).gaps, (s.dev.mtrC c).rev) ∧
      (t.dev.mtrC c).imp = (s.dev.mtrC c).imp ∧ (t.dev.mtrC c).exp = (s.dev.mtrC c).exp ∧ (t.dev.mtrC c).gaps = 0 ∧
      OnlyPages s t [0x48, 0x4A])) ∧
  (∀ (s : State) (t0 : Nat),
    (s.dev.at t0).up .metrology = true →
    Ends (.fallbackTick t0) s (fun t =>
      (∀ u ∈ t.dev.fallbackDue, t0 < u) ∧ OnlyPages s t [0x48, 0x49, 0x4A])) ∧
  (∀ (s : State) (t0 : Nat),
    s.dev.up .metrology = false ∨ (s.dev.fallbackDue.map (fun u => decide (t0 < u))).getD true = true →
    Ends (.fallbackTick t0) s (fun t =>
      t.dev.mtr = s.dev.mtr ∧ OnlyRegs s t [])) ∧
  (∀ (s : State) (t0 c w : Nat) (cl : Closing) (r : List Closing),
    (s.dev.at t0).up .metrology = true ∧ s.dev.pwr.pfw = none →
    s.dev.mtr.closing = cl :: r ∧ cl.tick ≤ t0 →
    (∀ k : Nat, k < 32 → ((kvGet s.dev.bil.sess k none).map (fun x => decide (x.outlet < 16))).getD true = true) →
    c < s.dev.variant.mtrChannels ∧ w < 8 →
    Ends (.latch t0) s (fun t =>
      let x := cl.chans.getD c (0, 0, 0, false)
      let b := s.dev.bil.base.getD c (0, 0)
      t.dev.tarReg c w = (if w = s.dev.tcur c then
        (((s.dev.tarReg c w).1 + (x.1 / 2 ^ 32 + 2 ^ 64 - b.1) % 2 ^ 64) % 2 ^ 64, ((s.dev.tarReg c w).2 + (x.2.1 / 2 ^ 32 + 2 ^ 64 - b.2) % 2 ^ 64) % 2 ^ 64)
        else s.dev.tarReg c w))) ∧
  (∀ (s : State) (t0 c : Nat) (cl : Closing) (r : List Closing) (x : Snap),
    (s.dev.at t0).up .metrology = true ∧ s.dev.pwr.pfw = none →
    s.dev.mtr.closing = cl :: r ∧ cl.tick ≤ t0 →
    (∀ k : Nat, k < 32 → ((kvGet s.dev.bil.sess k none).map (fun x => decide (x.outlet < 16))).getD true = true) →
    s.dev.bil.snap = some x ∧ x.target ≤ cl.tick ∧ c < s.dev.variant.mtrChannels →
    Ends (.latch t0) s (fun t =>
      let b := 1 - s.dev.fld BIL_SNAPSTAT 0 0 0
      t.dev.bil.snap = none ∧ t.dev.fld BIL_SNAPSTAT 0 0 0 = b ∧ t.dev.bit BIL_SNAPSTAT 0 1 = false ∧
      t.dev.bit BIL_SNAPSTAT 0 2 = (x.pairAt.isSome || x.confirmed) ∧
      t.dev.rd (BIL_SNAPEP b) 0 = w32 x.epoch ∧ t.dev.rd (BIL_SNAPSEQ b) 0 = t.dev.rd MTR_LATCHSEQ 0 ∧
      t.dev.rd64 (BIL_SNAPTLO b) (BIL_SNAPTHI b) 0 = cl.tick % 2 ^ 64 ∧
      (t.dev.rd64 (BIL_SIMPLO b) (BIL_SIMPHI b) c, t.dev.rd64 (BIL_SEXPLO b) (BIL_SEXPHI b) c) = t.dev.totals c ∧
      t.dev.bit (BLK_EVF 0x50) 0 5 = true)) ∧
  (∀ (s : State) (t0 : Nat),
    s.dev.up .metrology = false ∨ s.dev.pwr.pfw ≠ none ∨ (s.dev.mtr.closing.head?.map (fun x => decide (t0 < x.tick))).getD true = true →
    Ends (.latch t0) s (fun t =>
      t.dev.mtr = s.dev.mtr ∧ t.dev.bil = s.dev.bil ∧ OnlyRegs s t []))

/-- A reverse event starts with REVL and ends with its record; a waiting pulse starts on the grid and ends after WIDTH. (R316, R317, R318, R319, spec/08_metrology.md) -/
def Obligations.ReverseEventsAndPulses : Prop :=
  (∀ (s : State) (t0 c : Nat),
    s.dev.up .metrology = true ∧ c < s.dev.variant.mtrChannels ∧ (s.dev.mtrC c).startDue = true ∧ s.dev.bit MTR_CHSTAT c 2 = false →
    Ends (.reverseEventStart t0 c) s (fun t =>
      t.dev.bit MTR_CHSTAT c 2 = true ∧ t.dev.bit MTR_CHSTAT c 9 = true ∧ t.dev.bit (BLK_EVF 0x48) 0 2 = true ∧
      (t.dev.mtrC c).evAt = (s.dev.mtrC c).runAt ∧ (t.dev.mtrC c).evE = (s.dev.mtrC c).runE ∧
      ((s.dev.mtrC c).runPast = true → s.dev.mtr.closing = [] → t.dev.bit MTR_PERSTAT c 2 = true) ∧
      ((s.dev.mtrC c).runPast = false → t.dev.rd MTR_PERSTAT c = s.dev.rd MTR_PERSTAT c) ∧
      OnlyRegs s t [MTR_CHSTAT.key c 0, MTR_PERSTAT.key c 0, (BLK_EVF 0x48).key 0 0])) ∧
  (∀ (s : State) (t0 c : Nat),
    s.dev.up .metrology = true ∧ c < s.dev.variant.mtrChannels ∧ (s.dev.mtrC c).endDue = true ∧ s.dev.bit MTR_CHSTAT c 2 = true →
    Ends (.reverseEventEnd t0 c) s (fun t =>
      t.dev.bit MTR_CHSTAT c 2 = false ∧ t.dev.rd64 MTR_REVSTLO MTR_REVSTHI c = (s.dev.mtrC c).evAt % 2 ^ 64 ∧ t.dev.rd64 MTR_REVENLO MTR_REVENHI c = (s.dev.mtrC c).endAt % 2 ^ 64 ∧
      t.dev.rd MTR_REVMWH c = w32 (min ((s.dev.mtrC c).evE / 2 ^ 32) 0xFFFFFFFF) ∧ t.dev.rd MTR_REVCNT c = s.dev.rd MTR_REVCNT c + 1 ∧
      ((s.dev.logSrc 2).lost = 0 → (s.dev.logSrc 2).fifo.length < 16 → (t.dev.logSrc 2).fifo.length = (s.dev.logSrc 2).fifo.length + 1) ∧
      OnlyRegs s t [MTR_CHSTAT.key c 0, MTR_REVSTLO.key c 0, MTR_REVSTHI.key c 0, MTR_REVENLO.key c 0, MTR_REVENHI.key c 0, MTR_REVMWH.key c 0, MTR_REVCNT.key c 0, EVT_LOST.key 0 0, EVT_LOSTSRC.key 0 0, (BLK_EVF 0x07).key 0 0])) ∧
  (∀ (s : State) (n t0 : Nat),
    s.dev.up .metrology = true ∧ n < 4 ∧ bitOf (s.dev.pulseCfg n) 31 = true ∧ t0 % 100000 = 0 →
    0 < s.dev.fld MTR_PLSSTAT n 15 0 ∧ s.dev.bit MTR_PLSSTAT n 17 = false →
    ((kvGet s.dev.mtr.pulse n {}).startAt.map (fun x => decide (x + max 4000000 (2 * s.dev.pulseWidth n) ≤ t0))).getD true = true →
    Ends (.pulseStart n t0) s (fun t =>
      t.dev.bit MTR_PLSSTAT n 17 = true ∧ t.dev.fld MTR_PLSSTAT n 15 0 = s.dev.fld MTR_PLSSTAT n 15 0 - 1 ∧
      t.dev.rd MTR_PLSCNT n = s.dev.rd MTR_PLSCNT n + 1 ∧ (kvGet t.dev.mtr.pulse n {}).startAt = some t0 ∧
      OnlyRegs s t [MTR_PLSSTAT.key n 0, MTR_PLSCNT.key n 0])) ∧
  (∀ (s : State) (n t0 k : Nat),
    n < 4 ∧ s.dev.bit MTR_PLSSTAT n 17 = true ∧ (kvGet s.dev.mtr.pulse n {}).startAt = some k ∧ k + s.dev.pulseWidth n ≤ t0 →
    Ends (.pulseEnd n t0) s (fun t =>
      t.dev.bit MTR_PLSSTAT n 17 = false ∧
      OnlyRegs s t [MTR_PLSSTAT.key n 0])) ∧
  (∀ (s : State) (t0 c : Nat),
    s.dev.up .metrology = false ∨ s.dev.variant.mtrChannels ≤ c ∨ (s.dev.mtrC c).startDue = false ∨ s.dev.bit MTR_CHSTAT c 2 = true →
    Ends (.reverseEventStart t0 c) s (fun t =>
      t.dev.mtr = s.dev.mtr ∧ OnlyRegs s t [])) ∧
  (∀ (s : State) (t0 c : Nat),
    s.dev.up .metrology = false ∨ s.dev.variant.mtrChannels ≤ c ∨ (s.dev.mtrC c).endDue = false ∨ s.dev.bit MTR_CHSTAT c 2 = false →
    Ends (.reverseEventEnd t0 c) s (fun t =>
      t.dev.mtr = s.dev.mtr ∧ OnlyRegs s t [])) ∧
  (∀ (s : State) (n t0 : Nat),
    s.dev.up .metrology = false ∨ 4 ≤ n ∨ bitOf (s.dev.pulseCfg n) 31 = false ∨ t0 % 100000 ≠ 0 ∨ s.dev.fld MTR_PLSSTAT n 15 0 = 0 ∨
      s.dev.bit MTR_PLSSTAT n 17 = true ∨
      ((kvGet s.dev.mtr.pulse n {}).startAt.map (fun x => decide (t0 < x + max 4000000 (2 * s.dev.pulseWidth n)))).getD false = true →
    Ends (.pulseStart n t0) s (fun t =>
      t.dev.mtr = s.dev.mtr ∧ OnlyRegs s t [])) ∧
  (∀ (s : State) (n t0 : Nat),
    4 ≤ n ∨ s.dev.bit MTR_PLSSTAT n 17 = false ∨
      ((kvGet s.dev.mtr.pulse n {}).startAt.map (fun x => decide (t0 < x + s.dev.pulseWidth n))).getD true = true →
    Ends (.pulseEnd n t0) s (fun t =>
      t.dev.mtr = s.dev.mtr ∧ OnlyRegs s t []))

/-- The standby's comparison of a latch: suspended, equal or a mismatch; and it adopts the active's totals. (R332, R333, R334, R335, R336, spec/08_metrology.md) -/
def Obligations.TheStandbyComparesAndAdopts : Prop :=
  (∀ (s : State) (t0 q : Nat) (ws : List Word) (incs : List (Nat × Nat)),
    s.dev.up .metrology = true ∧ s.dev.variant = .px4840 ∧ s.dev.fld MTR_ROLE 0 1 0 = 2 ∧ s.dev.pstate ≠ 1 ∧ s.dev.mtr.adopted = true →
    ws ≠ s.dev.pairSettings →
    Ends (.pairLatchCompare t0 q ws incs) s (fun t =>
      t.dev.bit MTR_PAIRSTAT 0 1 = true ∧ t.dev.bit MTR_PAIRSTAT 0 0 = false ∧
      OnlyRegs s t [MTR_PAIRSTAT.key 0 0])) ∧
  (∀ (s : State) (t0 q : Nat) (ws : List Word) (incs : List (Nat × Nat)),
    s.dev.up .metrology = true ∧ s.dev.variant = .px4840 ∧ s.dev.fld MTR_ROLE 0 1 0 = 2 ∧ s.dev.pstate ≠ 1 ∧ s.dev.mtr.adopted = true →
    ws = s.dev.pairSettings →
    incs = s.dev.mtr.inc →
    Ends (.pairLatchCompare t0 q ws incs) s (fun t =>
      t.dev.bit MTR_PAIRSTAT 0 1 = false ∧ t.dev.bit MTR_PAIRSTAT 0 0 = true ∧ t.dev.fld MTR_PAIRSTAT 0 15 8 = 0 ∧ t.dev.rd MTR_CMPSEQ 0 = w32 q ∧
      OnlyRegs s t [MTR_PAIRSTAT.key 0 0, MTR_CMPSEQ.key 0 0])) ∧
  (∀ (s : State) (t0 q c : Nat) (ws : List Word) (incs : List (Nat × Nat)),
    s.dev.up .metrology = true ∧ s.dev.variant = .px4840 ∧ s.dev.fld MTR_ROLE 0 1 0 = 2 ∧ s.dev.pstate ≠ 1 ∧ s.dev.mtr.adopted = true →
    ws = s.dev.pairSettings →
    c < 17 ∧ cmpMismatch (bits (s.dev.inForce MTR_CMPCFG 0) 11 0) (bits (s.dev.inForce MTR_CMPCFG 0) 23 12) (s.dev.mtr.inc.getD c (0, 0)).1 (incs.getD c (0, 0)).1 = true →
    Ends (.pairLatchCompare t0 q ws incs) s (fun t =>
      t.dev.fld MTR_PAIRSTAT 0 15 8 = min (s.dev.fld MTR_PAIRSTAT 0 15 8 + 1) 255 ∧ t.dev.fld MTR_PAIRSTAT 0 31 16 = min (s.dev.fld MTR_PAIRSTAT 0 31 16 + 1) 65535 ∧
      t.dev.bit (BLK_EVF 0x48) 0 5 = true ∧
      (max 1 (bits (s.dev.inForce MTR_CMPCFG 0) 31 24) ≤ t.dev.fld MTR_PAIRSTAT 0 15 8 → t.dev.bit MTR_PAIRSTAT 0 2 = true ∧ t.dev.bit (BLK_EVF 0x48) 0 6 = true ∧ t.dev.mtr.adoptDue = true) ∧
      OnlyRegs s t [MTR_PAIRSTAT.key 0 0, MTR_CMPSEQ.key 0 0, MTR_CMPCH.key 0 0, (BLK_EVF 0x48).key 0 0])) ∧
  (∀ (s : State) (t0 : Nat) (a : Adoption),
    s.dev.up .metrology = true ∧ s.dev.fld MTR_ROLE 0 1 0 = 2 ∧ s.dev.pstate = 3 ∧ s.dev.mtr.adoptDue = true →
    Ends (.totalsAdopt t0 a) s (fun t =>
      (∀ c : Nat, c < s.dev.variant.mtrChannels → (t.dev.mtrC c).imp = (a.accs.getD c (0, 0)).1 % 2 ^ 96 ∧ (t.dev.mtrC c).exp = (a.accs.getD c (0, 0)).2 % 2 ^ 96) ∧
      t.dev.time = a.time ∧ t.dev.rd BIL_BPNUM 0 = w32 a.bpnum ∧ t.dev.rd BIL_LASTBP 0 = w32 a.lastbp ∧ t.dev.mtr.adopted = true ∧ t.dev.mtr.adoptDue = false ∧
      t.dev.bit (BLK_EVF 0x09) 0 7 = true ∧
      OnlyPages s t ([0x07, 0x09, 0x75] ++ (List.range 16).map (fun k => 0x48 + k)))) ∧
  (∀ (s : State) (t0 q c : Nat) (ws : List Word) (incs : List (Nat × Nat)),
    s.dev.up .metrology = true ∧ s.dev.variant = .px4840 ∧ s.dev.fld MTR_ROLE 0 1 0 = 2 ∧ s.dev.pstate ≠ 1 ∧ s.dev.mtr.adopted = true →
    ws = s.dev.pairSettings →
    c < 17 ∧ cmpMismatch (bits (s.dev.inForce MTR_CMPCFG 0) 11 0) (bits (s.dev.inForce MTR_CMPCFG 0) 23 12) (s.dev.mtr.inc.getD c (0, 0)).2 (incs.getD c (0, 0)).2 = true →
    Ends (.pairLatchCompare t0 q ws incs) s (fun t =>
      t.dev.fld MTR_PAIRSTAT 0 15 8 = min (s.dev.fld MTR_PAIRSTAT 0 15 8 + 1) 255 ∧ t.dev.fld MTR_PAIRSTAT 0 31 16 = min (s.dev.fld MTR_PAIRSTAT 0 31 16 + 1) 65535 ∧
      t.dev.bit (BLK_EVF 0x48) 0 5 = true ∧
      (max 1 (bits (s.dev.inForce MTR_CMPCFG 0) 31 24) ≤ t.dev.fld MTR_PAIRSTAT 0 15 8 → t.dev.bit MTR_PAIRSTAT 0 2 = true ∧ t.dev.bit (BLK_EVF 0x48) 0 6 = true ∧ t.dev.mtr.adoptDue = true) ∧
      OnlyRegs s t [MTR_PAIRSTAT.key 0 0, MTR_CMPSEQ.key 0 0, MTR_CMPCH.key 0 0, (BLK_EVF 0x48).key 0 0])) ∧
  (∀ (s : State) (t0 q : Nat) (ws : List Word) (incs : List (Nat × Nat)),
    s.dev.up .metrology = true ∧ s.dev.variant = .px4840 ∧ s.dev.fld MTR_ROLE 0 1 0 = 2 ∧ s.dev.pstate ≠ 1 ∧ s.dev.mtr.adopted = true →
    ws = s.dev.pairSettings →
    (∀ c : Nat, c < 17 → cmpMismatch (bits (s.dev.inForce MTR_CMPCFG 0) 11 0) (bits (s.dev.inForce MTR_CMPCFG 0) 23 12) (s.dev.mtr.inc.getD c (0, 0)).1 (incs.getD c (0, 0)).1 = false ∧ cmpMismatch (bits (s.dev.inForce MTR_CMPCFG 0) 11 0) (bits (s.dev.inForce MTR_CMPCFG 0) 23 12) (s.dev.mtr.inc.getD c (0, 0)).2 (incs.getD c (0, 0)).2 = false) →
    Ends (.pairLatchCompare t0 q ws incs) s (fun t =>
      t.dev.bit MTR_PAIRSTAT 0 1 = false ∧ t.dev.bit MTR_PAIRSTAT 0 0 = true ∧ t.dev.fld MTR_PAIRSTAT 0 15 8 = 0 ∧ t.dev.rd MTR_CMPSEQ 0 = w32 q ∧
      t.dev.mtr = s.dev.mtr ∧ OnlyRegs s t [MTR_PAIRSTAT.key 0 0, MTR_CMPSEQ.key 0 0])) ∧
  (∀ (s : State) (t0 q : Nat) (ws : List Word) (incs : List (Nat × Nat)),
    s.dev.up .metrology = false ∨ s.dev.variant ≠ .px4840 ∨ s.dev.fld MTR_ROLE 0 1 0 ≠ 2 ∨ s.dev.pstate = 1 ∨ s.dev.mtr.adopted = false →
    Ends (.pairLatchCompare t0 q ws incs) s (fun t =>
      t.dev.mtr = s.dev.mtr ∧ OnlyRegs s t [])) ∧
  (∀ (s : State) (t0 : Nat) (a : Adoption),
    s.dev.up .metrology = true ∧ s.dev.fld MTR_ROLE 0 1 0 = 2 ∧ s.dev.pstate = 2 ∧ s.dev.mtr.adoptDue = true →
    Ends (.totalsAdopt t0 a) s (fun t =>
      (∀ c : Nat, c < s.dev.variant.mtrChannels → (t.dev.mtrC c).imp = (a.accs.getD c (0, 0)).1 % 2 ^ 96 ∧ (t.dev.mtrC c).exp = (a.accs.getD c (0, 0)).2 % 2 ^ 96) ∧
      t.dev.time = a.time ∧ t.dev.rd BIL_BPNUM 0 = w32 a.bpnum ∧ t.dev.rd BIL_LASTBP 0 = w32 a.lastbp ∧ t.dev.mtr.adopted = true ∧ t.dev.mtr.adoptDue = false ∧
      t.dev.bit (BLK_EVF 0x09) 0 7 = true ∧
      t.dev.pstate = (if s.dev.pair.copied = true then 3 else 2) ∧ (s.dev.variant = .px4840 ∧ s.dev.pair.copied = true → t.dev.bit (BLK_EVF 0x75) 0 4 = true) ∧ Quiet s t)) ∧
  (∀ (s : State) (t0 : Nat) (a : Adoption),
    s.dev.up .metrology = false ∨ s.dev.fld MTR_ROLE 0 1 0 ≠ 2 ∨ s.dev.mtr.adoptDue = false ∨ s.dev.pstate < 2 ∨ s.dev.pstate = 4 →
    (s.dev.pstate = 2 → s.dev.pair.copied = true → s.dev.mtr.adopted = false) →
    Ends (.totalsAdopt t0 a) s (fun t =>
      t.dev.mtr = s.dev.mtr ∧ t.dev.bil = s.dev.bil ∧ OnlyRegs s t []))

/-- GET answers an object's value, SET writes what Table 9.6 allows, CHALLENGE opens one challenge that expires. (R377, R378, R379, R380, R382, spec/09_billing.md) -/
def Obligations.BillingRequestsAreServed : Prop :=
  (∀ (s : State) (i : Initiator) (q : BilReq) (x : BilObj) (b : List Byte),
    s.dev.bilReq i = some q ∧ q.op = 1 ∧ q.obj = some x ∧ mayRead x q.role = true →
    (s.dev.bilAuth i q).1 = none →
    s.sys.objValue x q.data = some b →
    Ends (.billingGet i) s (fun t =>
      BilAnswered t i 0 ∧ ((t.dev.mbxReq 1 i).bind (fun r => r.ready)).map (fun l => l.drop 8) = some b ∧
      OnlyRegs s t [])) ∧
  (∀ (s : State) (i : Initiator) (q : BilReq),
    s.dev.bilReq i = some q ∧ q.op = 1 ∧ q.obj = none ∧ (s.dev.bilAuth i q).1 = none →
    Ends (.billingGet i) s (fun t =>
      BilAnswered t i 1 ∧ OnlyRegs s t [])) ∧
  (∀ (s : State) (i : Initiator) (q : BilReq) (x : BilSet),
    s.dev.bilReq i = some q ∧ q.op = 2 ∧ s.dev.fld MTR_ROLE 0 1 0 = 2 →
    Ends (.billingSet i x) s (fun t =>
      BilAnswered t i 9 ∧ OnlyRegs s t [])) ∧
  (∀ (s : State) (i : Initiator) (q : BilReq) (r : Nat) (k : List Byte),
    s.dev.bilReq i = some q ∧ q.op = 2 ∧ q.obj = some .roleKeys ∧ s.dev.fld MTR_ROLE 0 1 0 ≠ 2 →
    (s.dev.bilAuth i q).1 = none ∧ s.dev.bil.roleKeys.any (fun k => decide (k.1 = 5)) = false ∧ 3 ≤ r ∧ r ≤ 5 →
    Ends (.billingSet i (.roleKey r k)) s (fun t =>
      kvGet t.dev.bil.roleKeys r [] = k ∧ BilAnswered t i 0 ∧ OnlyRegs s t [])) ∧
  (∀ (s : State) (i : Initiator) (q : BilReq) (v : Word),
    s.dev.bilReq i = some q ∧ q.op = 2 ∧ q.obj = some .schedule ∧ s.dev.fld MTR_ROLE 0 1 0 ≠ 2 ∧ (q.role = 3 ∨ q.role = 5) →
    (s.dev.bilAuth i q).1 = none →
    Ends (.billingSet i (.regs [⟨0x50, 0x048, 0, v⟩])) s (fun t =>
      t.dev.fld BIL_BPCFG 0 1 0 = bits v 1 0 ∧ t.dev.fld BIL_BPCFG 0 12 8 = bits v 12 8 ∧ t.dev.fld BIL_BPCFG 0 20 16 = bits v 20 16 ∧
      t.dev.bilF BIL_BPCFG 0 = s.dev.bilF BIL_BPCFG 0 ∧ BilAnswered t i 0 ∧ OnlyRegs s t [BIL_BPCFG.key 0 0])) ∧
  (∀ (s : State) (i : Initiator) (q : BilReq),
    s.dev.bilReq i = some q ∧ q.op = 4 →
    Ends (.billingChallenge i) s (fun t =>
      t.dev.bil.openCh = some (s.dev.bil.challenge + 1, s.dev.time) ∧ BilAnswered t i 0 ∧
      ((t.dev.mbxReq 1 i).bind (fun r => r.ready)).map (fun l => l.drop 8) = some (leBytes 8 (s.dev.bil.challenge + 1)) ∧
      OnlyRegs s t [])) ∧
  (∀ (s : State) (t0 n a : Nat),
    s.dev.bil.openCh = some (n, a) ∧ a + 60000000000 ≤ t0 →
    Ends (.challengeExpiry t0) s (fun t =>
      t.dev.bil.openCh = none ∧ OnlyRegs s t [])) ∧
  (∀ (s : State) (i : Initiator) (q : BilReq) (x : BilObj),
    s.dev.bilReq i = some q ∧ q.op = 1 ∧ q.obj = some x ∧ (s.dev.bilAuth i q).1 = none →
    mayRead x q.role = false →
    Ends (.billingGet i) s (fun t =>
      BilAnswered t i 2 ∧ OnlyRegs s t [])) ∧
  (∀ (s : State) (i : Initiator) (q : BilReq) (x : BilObj),
    s.dev.bilReq i = some q ∧ q.op = 1 ∧ q.obj = some x ∧ (s.dev.bilAuth i q).1 = none →
    mayRead x q.role = true ∧ s.sys.objValue x q.data = none →
    Ends (.billingGet i) s (fun t =>
      BilAnswered t i 5 ∧ OnlyRegs s t [])) ∧
  (∀ (s : State) (i : Initiator) (q : BilReq) (r : Nat),
    s.dev.bilReq i = some q ∧ q.op = 1 ∧ (s.dev.bilAuth i q).1 = some r →
    Ends (.billingGet i) s (fun t =>
      BilAnswered t i r ∧ (r ≠ 4 → OnlyRegs s t []) ∧
      (r = 4 → t.dev.bil.openCh = none ∧ t.dev.rd BIL_JSEQ 0 = s.dev.rd BIL_JSEQ 0 + 1 ∧ t.dev.bit (BLK_EVF 0x50) 0 0 = true ∧
        BytesKept s t (journalSlot (t.dev.rd BIL_JSEQ 0).toNat) 64 ∧ RegsKept s t [BIL_JSEQ.key 0 0, (BLK_EVF 0x50).key 0 0]))) ∧
  (∀ (s : State) (i : Initiator),
    (∀ q ∈ s.dev.bilReq i, q.op ≠ 1) →
    Ends (.billingGet i) s (fun t => t = s)) ∧
  (∀ (s : State) (i : Initiator) (x : BilSet),
    (∀ q ∈ s.dev.bilReq i, q.op ≠ 2) →
    Ends (.billingSet i x) s (fun t => t = s)) ∧
  (∀ (s : State) (i : Initiator) (q : BilReq) (x : BilSet),
    s.dev.bilReq i = some q ∧ q.op = 2 ∧ s.dev.fld MTR_ROLE 0 1 0 ≠ 2 ∧ q.obj = none ∧ (s.dev.bilAuth i q).1 = none →
    Ends (.billingSet i x) s (fun t =>
      BilAnswered t i 1 ∧ OnlyRegs s t [])) ∧
  (∀ (s : State) (i : Initiator) (q : BilReq) (o : BilObj) (x : BilSet),
    s.dev.bilReq i = some q ∧ q.op = 2 ∧ s.dev.fld MTR_ROLE 0 1 0 ≠ 2 ∧ q.obj = some o ∧ (s.dev.bilAuth i q).1 = none →
    mayWrite o q.role = 0 ∧ (o = .roleKeys → s.dev.bil.roleKeys.any (fun k => decide (k.1 = 5)) = true) →
    Ends (.billingSet i x) s (fun t =>
      BilAnswered t i 2 ∧ OnlyRegs s t [])) ∧
  (∀ (s : State) (i : Initiator) (q : BilReq) (o : BilObj) (x : BilSet),
    s.dev.bilReq i = some q ∧ q.op = 2 ∧ s.dev.fld MTR_ROLE 0 1 0 ≠ 2 ∧ q.obj = some o →
    (s.dev.bilAuth i q).1 = none →
    mayWrite o q.role = 2 ∧ s.dev.sealOpen .metrology = false ∧ (o = .roleKeys → s.dev.bil.roleKeys.any (fun k => decide (k.1 = 5)) = true) →
    Ends (.billingSet i x) s (fun t =>
      BilAnswered t i 3 ∧ OnlyRegs s t [])) ∧
  (∀ (s : State) (i : Initiator) (q : BilReq) (r : Nat) (k : List Byte),
    s.dev.bilReq i = some q ∧ q.op = 2 ∧ q.obj = some .roleKeys ∧ s.dev.fld MTR_ROLE 0 1 0 ≠ 2 →
    (s.dev.bilAuth i q).1 = none →
    s.dev.bil.roleKeys.any (fun k => decide (k.1 = 5)) = false ∨ q.role = 5 ∧ s.dev.sealOpen .metrology = true →
    Ends (.billingSet i (.roleKey r k)) s (fun t =>
      (3 ≤ r → r ≤ 5 → kvGet t.dev.bil.roleKeys r [] = k ∧ BilAnswered t i 0) ∧
      (r < 3 ∨ 5 < r → t.dev.bil.roleKeys = s.dev.bil.roleKeys ∧ BilAnswered t i 5) ∧ OnlyRegs s t [])) ∧
  (∀ (s : State) (i : Initiator) (q : BilReq) (o : BilObj) (w : RegVal),
    s.dev.bilReq i = some q ∧ q.op = 2 ∧ q.obj = some o ∧ s.dev.fld MTR_ROLE 0 1 0 ≠ 2 →
    (s.dev.bilAuth i q).1 = none →
    mayWrite o q.role = 1 ∨ mayWrite o q.role = 2 ∧ s.dev.sealOpen .metrology = true →
    o ≠ .roleKeys ∧ s.dev.setInRange o w = true ∧ w.page ≠ 0x20 →
    Ends (.billingSet i (.regs [w])) s (fun t =>
      BilAnswered t i 0 ∧ t.dev.regs = (s.dev.metroWrite .metrology w.page w.off w.inst w.val).regs ∧ Quiet s t)) ∧
  (∀ (s : State) (i : Initiator) (q : BilReq) (o : BilObj) (ws : List RegVal),
    s.dev.bilReq i = some q ∧ q.op = 2 ∧ q.obj = some o ∧ s.dev.fld MTR_ROLE 0 1 0 ≠ 2 →
    (s.dev.bilAuth i q).1 = none →
    mayWrite o q.role = 1 ∨ mayWrite o q.role = 2 ∧ s.dev.sealOpen .metrology = true →
    o ≠ .roleKeys →
    Ends (.billingSet i (.regs ws)) s (fun t =>
      (ws.all (fun w => s.dev.setInRange o w) = true → BilAnswered t i 0) ∧
      (ws.all (fun w => s.dev.setInRange o w) = false → BilAnswered t i 5 ∧ OnlyRegs s t []) ∧ Quiet s t)) ∧
  (∀ (s : State) (i : Initiator) (q : BilReq) (r : Nat) (x : BilSet),
    s.dev.bilReq i = some q ∧ q.op = 2 ∧ s.dev.fld MTR_ROLE 0 1 0 ≠ 2 ∧ (s.dev.bilAuth i q).1 = some r →
    Ends (.billingSet i x) s (fun t =>
      BilAnswered t i r ∧ (r ≠ 4 → OnlyRegs s t []) ∧ (r = 4 → t.dev.rd BIL_JSEQ 0 = s.dev.rd BIL_JSEQ 0 + 1))) ∧
  (∀ (s : State) (i : Initiator),
    (∀ q ∈ s.dev.bilReq i, q.op ≠ 4) →
    Ends (.billingChallenge i) s (fun t => t = s)) ∧
  (∀ (s : State) (t0 : Nat),
    (s.dev.bil.openCh.map (fun x => decide (t0 < x.2 + 60000000000))).getD true = true →
    Ends (.challengeExpiry t0) s (fun t =>
      t.dev.bil = s.dev.bil ∧ OnlyRegs s t []))

/-- SETTARIFF, CLOSEBP and SNAP act or are refused; a pair's snapshot times out and a HOLD bit expires. (R349, R358, R366, R367, R368, R369, spec/09_billing.md) -/
def Obligations.BillingMethodsAct : Prop :=
  (∀ (s : State) (i : Initiator) (q : BilReq) (c tr : Nat),
    BilAction s i q (.tariffMode c) →
    mayRun .settariff q.role = true ∧ tr < 8 ∧ bitOf (s.dev.bilF BIL_TARCTL c) 0 = true →
    Ends (.settariff i c tr) s (fun t =>
      t.dev.fld BIL_TARCTL c 18 16 = tr ∧ t.dev.bit BIL_TARCTL c 24 = true ∧ BilAnswered t i 0 ∧
      OnlyRegs s t [BIL_TARCTL.key c 0])) ∧
  (∀ (s : State) (i : Initiator) (q : BilReq) (c tr : Nat),
    BilAction s i q (.tariffMode c) →
    mayRun .settariff q.role = true ∧ tr < 8 ∧ bitOf (s.dev.bilF BIL_TARCTL c) 0 = false →
    Ends (.settariff i c tr) s (fun t =>
      BilAnswered t i 6 ∧ OnlyRegs s t [])) ∧
  (∀ (s : State) (i : Initiator) (q : BilReq),
    BilAction s i q .schedule →
    mayRun .closebp q.role = true →
    Ends (.closebp i) s (fun t =>
      t.dev.bil.closeBp = true ∧ BilAnswered t i 0 ∧ OnlyRegs s t [])) ∧
  (∀ (s : State) (i : Initiator) (q : BilReq),
    BilAction s i q .snapBanks →
    mayRun .snap q.role = true ∧ s.dev.bil.snap = none ∧ s.dev.bit BIL_SNAPCTL 0 (1 - s.dev.fld BIL_SNAPSTAT 0 0 0) = false →
    Ends (.snap i false none) s (fun t =>
      t.dev.bil.snap.map (fun x => (x.target, x.epoch)) = some (s.dev.time + 2000000, (s.dev.bil.epoch + 1) % 2 ^ 32) ∧
      t.dev.bit BIL_SNAPSTAT 0 1 = true ∧ BilAnswered t i 0 ∧ OnlyRegs s t [BIL_SNAPSTAT.key 0 0])) ∧
  (∀ (s : State) (i : Initiator) (q : BilReq),
    BilAction s i q .snapBanks →
    mayRun .snap q.role = true ∧ s.dev.bil.snap = none ∧ s.dev.bit BIL_SNAPCTL 0 (1 - s.dev.fld BIL_SNAPSTAT 0 0 0) = true →
    Ends (.snap i false none) s (fun t =>
      t.dev.bil.snap = none ∧ t.dev.bit BIL_SNAPSTAT 0 4 = true ∧ BilAnswered t i 8 ∧ OnlyRegs s t [BIL_SNAPSTAT.key 0 0])) ∧
  (∀ (s : State) (i : Initiator) (p : Bool) (g ep : Nat),
    s.dev.fld MTR_ROLE 0 1 0 = 2 ∧ s.dev.up .metrology = true →
    Ends (.snap i p (some (g, ep))) s (fun t =>
      t.dev.bil.snap.map (fun x => (x.target, x.epoch)) = some (g, ep) ∧ t.dev.bit BIL_SNAPSTAT 0 1 = true ∧ OnlyRegs s t [BIL_SNAPSTAT.key 0 0])) ∧
  (∀ (s : State) (t0 a : Nat) (x : Snap),
    s.dev.bil.snap = some x ∧ x.pairAt = some a ∧ a + 1000000 ≤ t0 →
    Ends (.snapPairTimeout t0) s (fun t =>
      t.dev.bil.snap = some { x with pairAt := none } ∧ t.dev.bit BIL_SNAPSTAT 0 3 = true ∧ OnlyRegs s t [BIL_SNAPSTAT.key 0 0])) ∧
  (∀ (s : State) (t0 b a : Nat),
    s.dev.bil.holdAt.find? (fun p => decide (p.1 = b)) = some (b, a) ∧ b < 2 ∧ a + 60000000000 ≤ t0 →
    Ends (.snapHoldExpiry b t0) s (fun t =>
      t.dev.bit BIL_SNAPCTL 0 b = false ∧ OnlyRegs s t [BIL_SNAPCTL.key 0 0])) ∧
  (∀ (s : State) (i : Initiator) (q : BilReq) (c tr : Nat),
    BilAction s i q (.tariffMode c) →
    mayRun .settariff q.role = false →
    Ends (.settariff i c tr) s (fun t =>
      BilAnswered t i 2 ∧ OnlyRegs s t [])) ∧
  (∀ (s : State) (i : Initiator) (q : BilReq) (c tr : Nat),
    s.dev.bilReq i = some q ∧ q.op = 3 ∧ q.obj = some (.tariffMode c) ∧ s.dev.fld MTR_ROLE 0 1 0 = 2 →
    Ends (.settariff i c tr) s (fun t =>
      BilAnswered t i 9 ∧ OnlyRegs s t [])) ∧
  (∀ (s : State) (i : Initiator) (q : BilReq) (c tr : Nat) (r : Nat),
    s.dev.bilReq i = some q ∧ q.op = 3 ∧ q.obj = some (.tariffMode c) ∧ s.dev.fld MTR_ROLE 0 1 0 ≠ 2 ∧ (s.dev.bilAuth i q).1 = some r →
    Ends (.settariff i c tr) s (fun t =>
      BilAnswered t i r ∧ (r ≠ 4 → OnlyRegs s t []) ∧ (r = 4 → t.dev.rd BIL_JSEQ 0 = s.dev.rd BIL_JSEQ 0 + 1))) ∧
  (∀ (s : State) (i : Initiator) (c tr : Nat),
    (∀ q ∈ s.dev.bilReq i, q.op = 3 → q.obj ≠ some (.tariffMode c)) →
    Ends (.settariff i c tr) s (fun t => t = s)) ∧
  (∀ (s : State) (i : Initiator) (q : BilReq),
    BilAction s i q .schedule →
    mayRun .closebp q.role = false →
    Ends (.closebp i) s (fun t =>
      BilAnswered t i 2 ∧ OnlyRegs s t [])) ∧
  (∀ (s : State) (i : Initiator) (q : BilReq),
    s.dev.bilReq i = some q ∧ q.op = 3 ∧ q.obj = some .schedule ∧ s.dev.fld MTR_ROLE 0 1 0 = 2 →
    Ends (.closebp i) s (fun t =>
      BilAnswered t i 9 ∧ OnlyRegs s t [])) ∧
  (∀ (s : State) (i : Initiator) (q : BilReq) (r : Nat),
    s.dev.bilReq i = some q ∧ q.op = 3 ∧ q.obj = some .schedule ∧ s.dev.fld MTR_ROLE 0 1 0 ≠ 2 ∧ (s.dev.bilAuth i q).1 = some r →
    Ends (.closebp i) s (fun t =>
      BilAnswered t i r ∧ (r ≠ 4 → OnlyRegs s t []) ∧ (r = 4 → t.dev.rd BIL_JSEQ 0 = s.dev.rd BIL_JSEQ 0 + 1))) ∧
  (∀ (s : State) (i : Initiator),
    (∀ q ∈ s.dev.bilReq i, q.op = 3 → q.obj ≠ some .schedule) →
    Ends (.closebp i) s (fun t => t = s)) ∧
  (∀ (s : State) (i : Initiator) (q : BilReq) (p : Bool),
    BilAction s i q .snapBanks →
    mayRun .snap q.role = false →
    Ends (.snap i p none) s (fun t =>
      BilAnswered t i 2 ∧ OnlyRegs s t [])) ∧
  (∀ (s : State) (i : Initiator) (q : BilReq) (p : Bool),
    s.dev.bilReq i = some q ∧ q.op = 3 ∧ q.obj = some .snapBanks ∧ s.dev.fld MTR_ROLE 0 1 0 = 2 →
    Ends (.snap i p none) s (fun t =>
      BilAnswered t i 9 ∧ OnlyRegs s t [])) ∧
  (∀ (s : State) (i : Initiator) (q : BilReq) (p : Bool) (r : Nat),
    s.dev.bilReq i = some q ∧ q.op = 3 ∧ q.obj = some .snapBanks ∧ s.dev.fld MTR_ROLE 0 1 0 ≠ 2 ∧ (s.dev.bilAuth i q).1 = some r →
    Ends (.snap i p none) s (fun t =>
      BilAnswered t i r ∧ (r ≠ 4 → OnlyRegs s t []) ∧ (r = 4 → t.dev.rd BIL_JSEQ 0 = s.dev.rd BIL_JSEQ 0 + 1))) ∧
  (∀ (s : State) (i : Initiator) (p : Bool),
    (∀ q ∈ s.dev.bilReq i, q.op = 3 → q.obj ≠ some .snapBanks) →
    Ends (.snap i p none) s (fun t => t = s)) ∧
  (∀ (s : State) (i : Initiator) (q : BilReq) (c tr : Nat),
    BilAction s i q (.tariffMode c) →
    mayRun .settariff q.role = true ∧ 8 ≤ tr →
    Ends (.settariff i c tr) s (fun t =>
      BilAnswered t i 5 ∧ OnlyRegs s t [])) ∧
  (∀ (s : State) (i : Initiator) (q : BilReq) (p : Bool) (x : Snap),
    BilAction s i q .snapBanks →
    mayRun .snap q.role = true ∧ s.dev.bil.snap = some x →
    Ends (.snap i p none) s (fun t =>
      t.dev.bil.snap = some x ∧ BilAnswered t i 0 ∧
      ((t.dev.mbxReq 1 i).bind (fun r => r.ready)).map (fun l => l.drop 8) = some (leBytes 4 x.epoch) ∧ OnlyRegs s t [])) ∧
  (∀ (s : State) (i : Initiator) (q : BilReq),
    BilAction s i q .snapBanks →
    mayRun .snap q.role = true ∧ s.dev.bil.snap = none ∧ s.dev.fld MTR_ROLE 0 1 0 ≠ 1 →
    Ends (.snap i true none) s (fun t =>
      t.dev.bil.snap = none ∧ BilAnswered t i 6 ∧ OnlyRegs s t [])) ∧
  (∀ (s : State) (i : Initiator) (q : BilReq),
    BilAction s i q .snapBanks →
    mayRun .snap q.role = true ∧ s.dev.bil.snap = none ∧ s.dev.fld MTR_ROLE 0 1 0 = 1 →
    Ends (.snap i true none) s (fun t =>
      (s.dev.bit BIL_SNAPCTL 0 (1 - s.dev.fld BIL_SNAPSTAT 0 0 0) = false →
        t.dev.bil.snap = some { target := s.dev.time + 2000000, epoch := (s.dev.bil.epoch + 1) % 2 ^ 32, pairAt := some s.dev.time, confirmed := false } ∧
        t.dev.bit BIL_SNAPSTAT 0 1 = true ∧ BilAnswered t i 0) ∧
      (s.dev.bit BIL_SNAPCTL 0 (1 - s.dev.fld BIL_SNAPSTAT 0 0 0) = true →
        t.dev.bil.snap = none ∧ t.dev.bit BIL_SNAPSTAT 0 4 = true ∧ BilAnswered t i 8) ∧
      OnlyRegs s t [BIL_SNAPSTAT.key 0 0])) ∧
  (∀ (s : State) (i : Initiator) (p : Bool) (x : Nat × Nat),
    s.dev.fld MTR_ROLE 0 1 0 ≠ 2 ∨ s.dev.up .metrology = false →
    Ends (.snap i p (some x)) s (fun t => t = s)) ∧
  (∀ (s : State) (t0 : Nat),
    ((s.dev.bil.snap.bind (fun x => x.pairAt)).map (fun a => decide (t0 < a + 1000000))).getD true = true →
    Ends (.snapPairTimeout t0) s (fun t =>
      t.dev.bil = s.dev.bil ∧ OnlyRegs s t [])) ∧
  (∀ (s : State) (t0 b : Nat),
    2 ≤ b ∨ ((s.dev.bil.holdAt.find? (fun p => decide (p.1 = b))).map (fun p => decide (t0 < p.2 + 60000000000))).getD true = true →
    Ends (.snapHoldExpiry b t0) s (fun t =>
      t.dev.bil = s.dev.bil ∧ OnlyRegs s t []))

/-- START takes the lowest free slot, STOP ends at a latch, signatures are stored and a late co-signature is not taken. (R370, R371, R372, R373, R375, spec/09_billing.md) -/
def Obligations.SessionsStartStopAndAreSigned : Prop :=
  (∀ (s : State) (i : Initiator) (q : BilReq) (o k : Nat) (tag : List Byte),
    BilAction s i q (.session o) →
    mayRun .start q.role = true ∧ s.dev.startCheck o = (0, k) ∧ o < 16 ∧ k < 32 →
    Ends (.sessionStart i o tag false) s (fun t =>
      kvGet t.dev.bil.sess k none = some { outlet := o, num := (s.dev.rd BIL_SESSCNT 0).toNat, tag := slice tag 0 32 } ∧
      t.dev.bit BIL_SLOTUSE 0 k = true ∧ t.dev.rd BIL_SESSNUM o = s.dev.rd BIL_SESSCNT 0 ∧ t.dev.rd BIL_SESSCNT 0 = s.dev.rd BIL_SESSCNT 0 + 1 ∧
      t.dev.fld BIL_SESSTAT o 1 0 = 1 ∧ t.dev.fld BIL_SESSTAT o 12 8 = k ∧ BilAnswered t i 0 ∧
      OnlyRegs s t [BIL_SLOTUSE.key 0 0, BIL_SESSNUM.key o 0, BIL_SESSCNT.key 0 0, BIL_SESSTAT.key o 0])) ∧
  (∀ (s : State) (o k : Nat) (tag : List Byte),
    s.dev.fld MTR_ROLE 0 1 0 = 2 ∧ s.dev.startCheck o = (0, k) ∧ o < s.dev.variant.outlets ∧ k < 32 →
    Ends (.sessionStart .mirror o tag true) s (fun t =>
      kvGet t.dev.bil.sess k none = some { outlet := o, num := (s.dev.rd BIL_SESSCNT 0).toNat, tag := slice tag 0 32 } ∧
      t.dev.fld BIL_SESSTAT o 1 0 = 1 ∧ t.dev.fld BIL_SESSTAT o 12 8 = k ∧
      OnlyRegs s t [BIL_SLOTUSE.key 0 0, BIL_SESSNUM.key o 0, BIL_SESSCNT.key 0 0, BIL_SESSTAT.key o 0])) ∧
  (∀ (s : State) (i : Initiator) (q : BilReq) (o : Nat),
    BilAction s i q (.session o) →
    mayRun .stop q.role = true ∧ s.dev.fld BIL_SESSTAT o 1 0 = 2 →
    Ends (.sessionStop i o false) s (fun t =>
      t.dev.fld BIL_SESSTAT o 1 0 = 3 ∧ BilAnswered t i 0 ∧ OnlyRegs s t [BIL_SESSTAT.key o 0])) ∧
  (∀ (s : State) (k t0 : Nat) (x : Sess) (sig : List Byte),
    kvGet s.dev.bil.sess k none = some x ∧ x.state = 2 ∧ x.signAsked = true ∧ s.dev.up .metrology = true ∧ k < 32 →
    kvGet s.dev.key.done (k + 1) [] = sig ∧ sig ≠ [] →
    Ends (.sessionSigned k t0) s (fun t =>
      (kvGet t.dev.bil.sess k none).map (fun y => y.state) = some 6 ∧ t.dev.bit BIL_SLOTSIG 0 k = false ∧ t.dev.bit (BLK_EVF 0x50) 0 6 = true ∧
      memRead t.sys.mem (sessSlot k + 328) sig.length = sig ∧ memByte t.sys.mem (sessSlot k + 256) = 6 ∧
      t.pending = s.pending ∧ t.sys.fuses = s.sys.fuses ∧ BytesKept s t (sessSlot k + 256) (72 + sig.length) ∧
      RegsKept s t [BIL_SLOTSIG.key 0 0, (BLK_EVF 0x50).key 0 0])) ∧
  (∀ (s : State) (k t0 co : Nat) (x : Sess),
    kvGet s.dev.bil.sess k none = some x ∧ x.state = 6 ∧ x.cosigFrom.isSome = true ∧ s.dev.up .metrology = true →
    s.dev.up .compute = true ∧ s.dev.up .key = true ∧ s.dev.fld ATT_COSIG 0 7 0 = co ∧ co ≠ 0 ∧ s.dev.slotUse co = 2 ∧ s.dev.derived co = true →
    Ends (.sessionSigned k t0) s (fun t =>
      (kvGet t.dev.bil.sess k none).map (fun y => (y.state, y.cosigFrom)) = some (14, none) ∧ memByte t.sys.mem (sessSlot k + 256) = 14 ∧
      t.pending = s.pending ∧ t.sys.fuses = s.sys.fuses ∧ BytesKept s t (sessSlot k + 256) 72 ∧ RegsKept s t [])) ∧
  (∀ (s : State) (k t0 a : Nat) (x : Sess),
    kvGet s.dev.bil.sess k none = some x ∧ x.cosigFrom = some a ∧ a + 10000000000 ≤ t0 →
    Ends (.cosignTimeout k t0) s (fun t =>
      kvGet t.dev.bil.sess k none = some { x with cosigFrom := none } ∧ OnlyRegs s t [])) ∧
  (∀ (s : State) (i : Initiator) (q : BilReq) (o : Nat) (tag : List Byte),
    BilAction s i q (.session o) →
    mayRun .start q.role = false →
    Ends (.sessionStart i o tag false) s (fun t =>
      BilAnswered t i 2 ∧ OnlyRegs s t [])) ∧
  (∀ (s : State) (i : Initiator) (q : BilReq) (o : Nat) (tag : List Byte),
    s.dev.bilReq i = some q ∧ q.op = 3 ∧ q.obj = some (.session o) ∧ s.dev.fld MTR_ROLE 0 1 0 = 2 →
    Ends (.sessionStart i o tag false) s (fun t =>
      BilAnswered t i 9 ∧ OnlyRegs s t [])) ∧
  (∀ (s : State) (i : Initiator) (q : BilReq) (o : Nat) (tag : List Byte) (r : Nat),
    s.dev.bilReq i = some q ∧ q.op = 3 ∧ q.obj = some (.session o) ∧ s.dev.fld MTR_ROLE 0 1 0 ≠ 2 ∧ (s.dev.bilAuth i q).1 = some r →
    Ends (.sessionStart i o tag false) s (fun t =>
      BilAnswered t i r ∧ (r ≠ 4 → OnlyRegs s t []) ∧ (r = 4 → t.dev.rd BIL_JSEQ 0 = s.dev.rd BIL_JSEQ 0 + 1))) ∧
  (∀ (s : State) (i : Initiator) (o : Nat) (tag : List Byte),
    (∀ q ∈ s.dev.bilReq i, q.op = 3 → q.obj ≠ some (.session o)) →
    Ends (.sessionStart i o tag false) s (fun t => t = s)) ∧
  (∀ (s : State) (i : Initiator) (q : BilReq) (o : Nat),
    BilAction s i q (.session o) →
    mayRun .stop q.role = false →
    Ends (.sessionStop i o false) s (fun t =>
      BilAnswered t i 2 ∧ OnlyRegs s t [])) ∧
  (∀ (s : State) (i : Initiator) (q : BilReq) (o : Nat),
    s.dev.bilReq i = some q ∧ q.op = 3 ∧ q.obj = some (.session o) ∧ s.dev.fld MTR_ROLE 0 1 0 = 2 →
    Ends (.sessionStop i o false) s (fun t =>
      BilAnswered t i 9 ∧ OnlyRegs s t [])) ∧
  (∀ (s : State) (i : Initiator) (q : BilReq) (o : Nat) (r : Nat),
    s.dev.bilReq i = some q ∧ q.op = 3 ∧ q.obj = some (.session o) ∧ s.dev.fld MTR_ROLE 0 1 0 ≠ 2 ∧ (s.dev.bilAuth i q).1 = some r →
    Ends (.sessionStop i o false) s (fun t =>
      BilAnswered t i r ∧ (r ≠ 4 → OnlyRegs s t []) ∧ (r = 4 → t.dev.rd BIL_JSEQ 0 = s.dev.rd BIL_JSEQ 0 + 1))) ∧
  (∀ (s : State) (i : Initiator) (o : Nat),
    (∀ q ∈ s.dev.bilReq i, q.op = 3 → q.obj ≠ some (.session o)) →
    Ends (.sessionStop i o false) s (fun t => t = s)) ∧
  (∀ (s : State) (i : Initiator) (q : BilReq) (o : Nat) (tag : List Byte),
    BilAction s i q (.session o) →
    mayRun .start q.role = true →
    s.dev.mtrEn (o + 1) = false ∨ s.dev.fld BIL_SESSTAT o 1 0 ≠ 0 →
    Ends (.sessionStart i o tag false) s (fun t =>
      BilAnswered t i 6 ∧ OnlyRegs s t [])) ∧
  (∀ (s : State) (i : Initiator) (q : BilReq) (o : Nat),
    BilAction s i q (.session o) →
    mayRun .stop q.role = true ∧ s.dev.fld BIL_SESSTAT o 1 0 ≠ 2 →
    Ends (.sessionStop i o false) s (fun t =>
      BilAnswered t i 6 ∧ OnlyRegs s t [])) ∧
  (∀ (s : State) (o : Nat),
    s.dev.fld MTR_ROLE 0 1 0 = 2 ∧ s.dev.fld BIL_SESSTAT o 1 0 = 2 →
    Ends (.sessionStop .mirror o true) s (fun t =>
      t.dev.fld BIL_SESSTAT o 1 0 = 3 ∧ OnlyRegs s t [BIL_SESSTAT.key o 0])) ∧
  (∀ (s : State) (i : Initiator) (o : Nat) (tag : List Byte),
    s.dev.fld MTR_ROLE 0 1 0 ≠ 2 ∨ i ≠ .mirror ∨ s.dev.variant.outlets ≤ o ∨ (s.dev.startCheck o).1 ≠ 0 →
    Ends (.sessionStart i o tag true) s (fun t => t = s)) ∧
  (∀ (s : State) (i : Initiator) (o : Nat),
    s.dev.fld MTR_ROLE 0 1 0 ≠ 2 ∨ i ≠ .mirror ∨ s.dev.fld BIL_SESSTAT o 1 0 ≠ 2 →
    Ends (.sessionStop i o true) s (fun t => t = s)) ∧
  (∀ (s : State) (k t0 : Nat),
    s.dev.up .metrology = false ∨ ((kvGet s.dev.bil.sess k none).map (fun x => decide (x.state ≠ 2 ∧ x.state ≠ 6) || decide (x.state = 2 ∧ x.signAsked = false) ||
      decide (x.state = 2 ∧ kvGet s.dev.key.done (k + 1) [] = []) || decide (x.state = 6 ∧ x.cosigFrom = none) ||
      decide (x.state = 6 ∧ (s.dev.fld ATT_COSIG 0 7 0 = 0 ∨ s.dev.up .compute = false ∨ s.dev.up .key = false)))).getD true = true →
    Ends (.sessionSigned k t0) s (fun t =>
      t.dev.bil = s.dev.bil ∧ t.dev.key = s.dev.key ∧ OnlyRegs s t [])) ∧
  (∀ (s : State) (k t0 : Nat),
    (((kvGet s.dev.bil.sess k none).bind (fun x => x.cosigFrom)).map (fun a => decide (t0 < a + 10000000000))).getD true = true →
    Ends (.cosignTimeout k t0) s (fun t =>
      t.dev.bil = s.dev.bil ∧ OnlyRegs s t []))

/-- ACK frees a SIGNED slot and sets ACKED, is refused with 0x06 in any other state, and START with 0x07 without a free slot. (R374) -/
def Obligations.AcknowledgementFreesASignedSlot : Prop :=
  (∀ (s : State) (i : Initiator) (q : BilReq) (o k : Nat) (x : Sess),
    s.dev.bilReq i = some q ∧ q.op = 3 ∧ q.obj = some (.session o) →
    (s.dev.bilAuth i q).1 = none ∧ mayRun .ack q.role = true →
    kvGet s.dev.bil.sess k none = some x ∧ x.outlet = o ∧ x.state.testBit 2 = true ∧ k < 32 →
    Ends (.sessionAck i o k) s (fun t =>
      kvGet t.dev.bil.sess k none = none ∧ t.dev.bit BIL_SLOTUSE 0 k = false ∧ memByte t.sys.mem (sessSlot k + 256) = w8 (x.state ||| 16) ∧ BilAnswered t i 0 ∧
      t.pending = s.pending ∧ t.sys.fuses = s.sys.fuses ∧ BytesKept s t (sessSlot k + 256) 1 ∧ RegsKept s t [BIL_SLOTUSE.key 0 0])) ∧
  (∀ (s : State) (i : Initiator) (q : BilReq) (o k : Nat),
    s.dev.bilReq i = some q ∧ q.op = 3 ∧ q.obj = some (.session o) →
    (s.dev.bilAuth i q).1 = none ∧ mayRun .ack q.role = true →
    ((kvGet s.dev.bil.sess k none).map (fun x => decide (x.outlet = o) && x.state.testBit 2)).getD false = false →
    Ends (.sessionAck i o k) s (fun t =>
      BilAnswered t i 6 ∧ OnlyRegs s t [])) ∧
  (∀ (s : State) (i : Initiator) (q : BilReq) (o : Nat) (tag : List Byte),
    BilAction s i q (.session o) →
    mayRun .start q.role = true ∧ s.dev.mtrEn (o + 1) = true ∧ s.dev.fld BIL_SESSTAT o 1 0 = 0 →
    (∀ k : Nat, k < 32 → (kvGet s.dev.bil.sess k none).isSome = true) →
    Ends (.sessionStart i o tag false) s (fun t =>
      BilAnswered t i 7 ∧ OnlyRegs s t [])) ∧
  (∀ (s : State) (i : Initiator) (q : BilReq) (o k : Nat),
    s.dev.bilReq i = some q ∧ q.op = 3 ∧ q.obj = some (.session o) ∧ (s.dev.bilAuth i q).1 = none ∧ mayRun .ack q.role = false →
    Ends (.sessionAck i o k) s (fun t =>
      BilAnswered t i 2 ∧ OnlyRegs s t [])) ∧
  (∀ (s : State) (i : Initiator) (q : BilReq) (o k : Nat) (r : Nat),
    s.dev.bilReq i = some q ∧ q.op = 3 ∧ q.obj = some (.session o) ∧ (s.dev.bilAuth i q).1 = some r →
    Ends (.sessionAck i o k) s (fun t =>
      BilAnswered t i r ∧ (r ≠ 4 → OnlyRegs s t []) ∧ (r = 4 → t.dev.rd BIL_JSEQ 0 = s.dev.rd BIL_JSEQ 0 + 1))) ∧
  (∀ (s : State) (i : Initiator) (o k : Nat),
    (∀ q ∈ s.dev.bilReq i, q.op = 3 → q.obj ≠ some (.session o)) →
    Ends (.sessionAck i o k) s (fun t => t = s))

/-- LOCK seals an unlocked device, RESEAL re-arms a broken one, and the jumper opening or closing moves the seal. (R383, R385, R386, R387, R389, spec/09_billing.md) -/
def Obligations.TheSealFollowsTheJumperAndItsMethods : Prop :=
  (∀ (s : State) (i : Initiator) (q : BilReq),
    BilAction s i q .sealObj →
    mayRun .lock q.role = true ∧ s.dev.sealState = 0 ∧ s.dev.bit BIL_SEALSTAT 0 5 = true →
    Ends (.sealLock i) s (fun t =>
      t.dev.sealState = 1 ∧ t.dev.bit BIL_SEALSTAT 0 4 = true ∧ t.sys.fuses = s.sys.fuses ||| 7 * 2 ^ 736 ∧ BilAnswered t i 0 ∧
      memRead t.sys.mem 0x14001000 4096 = s.dev.imageBytes ∧ t.dev.rd BIL_JSEQ 0 = s.dev.rd BIL_JSEQ 0 + 1 ∧
      t.pending = s.pending ∧ BytesKept s t 0x14000C00 0x4F400 ∧ PagesKept s t [0x50, 0x56, keyPage (LCM_STATE.key 0 0)])) ∧
  (∀ (s : State) (i : Initiator) (q : BilReq),
    BilAction s i q .sealObj →
    mayRun .lock q.role = true →
    s.dev.sealState ≠ 0 ∨ s.dev.bit BIL_SEALSTAT 0 5 = false →
    Ends (.sealLock i) s (fun t =>
      BilAnswered t i 6 ∧ OnlyRegs s t [])) ∧
  (∀ (s : State) (i : Initiator) (q : BilReq),
    BilAction s i q .sealObj →
    mayRun .reseal q.role = true ∧ s.dev.sealState = 2 →
    Ends (.sealReseal i) s (fun t =>
      t.dev.sealState = 2 ∧ t.dev.bit BIL_SEALSTAT 0 6 = true ∧ t.dev.bil.sealArm = true ∧ t.sys.fuses = s.sys.fuses ∧ BilAnswered t i 0 ∧
      memRead t.sys.mem 0x14001000 4096 = s.dev.imageBytes ∧
      t.pending = s.pending ∧ BytesKept s t 0x14000C00 0x4F400 ∧ PagesKept s t [0x50, 0x56])) ∧
  (∀ (s : State) (n : Nat),
    s.dev.up .metrology = true ∧ 3 ≤ n →
    Ends (.sealJumperOpen n) s (fun t =>
      let breaks := s.dev.bit BIL_SEALSTAT 0 5 && (decide (s.dev.sealState = 1) || decide (s.dev.sealState = 3))
      t.dev.bit BIL_SEALSTAT 0 5 = false ∧ t.dev.sealState = (if breaks then 2 else s.dev.sealState) ∧
      t.dev.rd BIL_SEALBRK 0 = (if breaks then w32 (min ((s.dev.rd BIL_SEALBRK 0).toNat + 1) 0xFFFFFFFF) else s.dev.rd BIL_SEALBRK 0) ∧
      t.pending = s.pending ∧ t.sys.fuses = s.sys.fuses ∧ BytesKept s t 0x14000C00 0x4F400 ∧ PagesKept s t [0x50, 0x56])) ∧
  (∀ (s : State) (n : Nat),
    s.dev.up .metrology = true ∧ s.dev.bankOff 7 = false ∧ 1000 ≤ n →
    Ends (.sealJumperClose n) s (fun t =>
      let mends := !s.dev.bit BIL_SEALSTAT 0 5 && decide (s.dev.sealState = 2)
      t.dev.bit BIL_SEALSTAT 0 5 = true ∧ t.dev.sealState = (if mends then (if s.dev.bit BIL_SEALSTAT 0 6 then 1 else 3) else s.dev.sealState) ∧
      t.pending = s.pending ∧ t.sys.fuses = s.sys.fuses ∧ BytesKept s t 0x14000C00 0x4F400 ∧ PagesKept s t [0x50, 0x56])) ∧
  (∀ (s : State) (i : Initiator) (q : BilReq),
    BilAction s i q .sealObj →
    mayRun .lock q.role = false →
    Ends (.sealLock i) s (fun t =>
      BilAnswered t i 2 ∧ OnlyRegs s t [])) ∧
  (∀ (s : State) (i : Initiator) (q : BilReq),
    s.dev.bilReq i = some q ∧ q.op = 3 ∧ q.obj = some .sealObj ∧ s.dev.fld MTR_ROLE 0 1 0 = 2 →
    Ends (.sealLock i) s (fun t =>
      BilAnswered t i 9 ∧ OnlyRegs s t [])) ∧
  (∀ (s : State) (i : Initiator) (q : BilReq) (r : Nat),
    s.dev.bilReq i = some q ∧ q.op = 3 ∧ q.obj = some .sealObj ∧ s.dev.fld MTR_ROLE 0 1 0 ≠ 2 ∧ (s.dev.bilAuth i q).1 = some r →
    Ends (.sealLock i) s (fun t =>
      BilAnswered t i r ∧ (r ≠ 4 → OnlyRegs s t []) ∧ (r = 4 → t.dev.rd BIL_JSEQ 0 = s.dev.rd BIL_JSEQ 0 + 1))) ∧
  (∀ (s : State) (i : Initiator),
    (∀ q ∈ s.dev.bilReq i, q.op = 3 → q.obj ≠ some .sealObj) →
    Ends (.sealLock i) s (fun t => t = s)) ∧
  (∀ (s : State) (i : Initiator) (q : BilReq),
    BilAction s i q .sealObj →
    mayRun .reseal q.role = false →
    Ends (.sealReseal i) s (fun t =>
      BilAnswered t i 2 ∧ OnlyRegs s t [])) ∧
  (∀ (s : State) (i : Initiator) (q : BilReq),
    s.dev.bilReq i = some q ∧ q.op = 3 ∧ q.obj = some .sealObj ∧ s.dev.fld MTR_ROLE 0 1 0 = 2 →
    Ends (.sealReseal i) s (fun t =>
      BilAnswered t i 9 ∧ OnlyRegs s t [])) ∧
  (∀ (s : State) (i : Initiator) (q : BilReq) (r : Nat),
    s.dev.bilReq i = some q ∧ q.op = 3 ∧ q.obj = some .sealObj ∧ s.dev.fld MTR_ROLE 0 1 0 ≠ 2 ∧ (s.dev.bilAuth i q).1 = some r →
    Ends (.sealReseal i) s (fun t =>
      BilAnswered t i r ∧ (r ≠ 4 → OnlyRegs s t []) ∧ (r = 4 → t.dev.rd BIL_JSEQ 0 = s.dev.rd BIL_JSEQ 0 + 1))) ∧
  (∀ (s : State) (i : Initiator),
    (∀ q ∈ s.dev.bilReq i, q.op = 3 → q.obj ≠ some .sealObj) →
    Ends (.sealReseal i) s (fun t => t = s)) ∧
  (∀ (s : State) (i : Initiator) (q : BilReq),
    BilAction s i q .sealObj →
    mayRun .reseal q.role = true ∧ s.dev.sealState ≠ 2 →
    Ends (.sealReseal i) s (fun t =>
      BilAnswered t i 6 ∧ OnlyRegs s t [])) ∧
  (∀ (s : State) (n : Nat),
    s.dev.up .metrology = false ∨ n < 3 →
    Ends (.sealJumperOpen n) s (fun t => t = s)) ∧
  (∀ (s : State) (n : Nat),
    s.dev.up .metrology = false ∨ s.dev.bankOff 7 = true ∨ n < 1000 →
    Ends (.sealJumperClose n) s (fun t => t = s))

/-- A contact that changes to demanding leaves PERMIT at that sample, and voids a reset request in the same sample. (R412) -/
def Obligations.DemandPrevailsWithinASample : Prop :=
  (∀ (s : State) (t0 f m p : Nat),
    s.dev.up .safety = true ∧ t0 % 1000000 = 0 ∧ s.dev.saf.confirmed = none ∧ NothingWaits s →
    p < s.dev.variant.inPairs ∧ s.dev.pairUsed p = true ∧ s.dev.pairState p = 4 ∧ s.dev.fld SIN_PSTAT p 26 16 = 0 →
    (s.dev.contactVals p).1 = false ∨ (s.dev.contactVals p).2 = false →
    Ends (.safetyCycle t0 ⟨f, m⟩) s (fun t =>
      t.dev.pairState p = 1 ∨ t.dev.pairState p = 2)) ∧
  (∀ (s : State) (t0 f m p : Nat),
    s.dev.up .safety = true ∧ t0 % 1000000 = 0 ∧ s.dev.saf.confirmed = none ∧ NothingWaits s →
    p < s.dev.variant.inPairs ∧ s.dev.pairUsed p = true ∧ s.dev.saf.prst = 2 ^ p →
    (s.dev.bit SIN_PSTAT p 4 = true ∧ (s.dev.contactVals p).1 = false) ∨ (s.dev.bit SIN_PSTAT p 5 = true ∧ (s.dev.contactVals p).2 = false) →
    Ends (.safetyCycle t0 ⟨f, m⟩) s (fun t =>
      t.dev.pairState p ≠ 4 ∧
      (Sys2Proof.Machine.exec (.safetyCycle t0 ⟨f, m⟩) { s with sys := { s.sys with dev := { s.sys.dev with saf := { s.sys.dev.saf with prst := 0 } } } } |> fun r => match r with | .next u => some (u.dev.rd SIN_PSTAT p) | _ => none) = some (t.dev.rd SIN_PSTAT p)))

/-- Test pulses start one at a time, filters follow steady contacts, and a reset request acts where Table 10.3 allows. (R405, R406, R407, R408, R409, R413, spec/10_safety.md) -/
def Obligations.InputsArePulsedSampledAndReset : Prop :=
  (∀ (s : State) (t0 j : Nat),
    j < 4 ∧ s.dev.up .safety = true ∧ s.dev.pwr.ifaceReset = false →
    (∀ k : Nat, k < 4 → k ≠ j → (s.dev.at t0).pulseOn k t0 = false) →
    Ends (.testPulse t0 j true) s (fun t =>
      kvGet t.dev.saf.tpAt j 0 = t0 ∧ OnlyRegs s t [])) ∧
  (∀ (s : State) (t0 j : Nat),
    j < 4 ∧ s.dev.up .safety = true ∧ s.dev.pwr.ifaceReset = false →
    (∀ k : Nat, k < 4 → k ≠ j → (s.dev.at t0).pulseOn k t0 = false) →
    Ends (.testPulse t0 j false) s (fun t =>
      kvGet t.dev.saf.tpAt j 0 = t0 ∧ t.dev.bit SIN_TPSTAT 0 j = true ∧
      (∀ p : Nat, p < s.dev.variant.inPairs → s.dev.pairUsed p = true → s.dev.pairState p ≠ 0 → (s.dev.fld SIN_PCFG p 13 12 = j ∨ s.dev.fld SIN_PCFG p 15 14 = j) → t.dev.pairState p = 6) ∧
      OnlyPages s t [0x5A, 0x5B])) ∧
  (∀ (s : State) (t0 c p : Nat),
    s.dev.pwr.ifaceReset = false ∧ s.dev.saf.tpAt = [] ∧ p < s.dev.variant.inPairs →
    (s.dev.pairIn p).a.raw = c.testBit p ∧ (s.dev.pairIn p).b.raw = c.testBit (16 + p) →
    clampN (s.dev.fld SIN_PCFG p 20 16) 1 20 * 20 ≤ min ((s.dev.pairIn p).a.run + 1) 400 ∧ clampN (s.dev.fld SIN_PCFG p 20 16) 1 20 * 20 ≤ min ((s.dev.pairIn p).b.run + 1) 400 →
    Ends (.safetyInputSample t0 c) s (fun t =>
      t.dev.bit SIN_FILT 0 p = c.testBit p ∧ t.dev.bit SIN_FILT 0 (16 + p) = c.testBit (16 + p) ∧
      OnlyRegs s t [SIN_FILT.key 0 0])) ∧
  (∀ (s : State) (t0 c p : Nat),
    s.dev.pwr.ifaceReset = false ∧ s.dev.saf.tpAt = [] ∧ p < s.dev.variant.inPairs →
    (s.dev.pairIn p).a.raw ≠ c.testBit p ∧ (s.dev.pairIn p).b.raw ≠ c.testBit (16 + p) →
    Ends (.safetyInputSample t0 c) s (fun t =>
      t.dev.bit SIN_FILT 0 p = s.dev.bit SIN_FILT 0 p ∧ t.dev.bit SIN_FILT 0 (16 + p) = s.dev.bit SIN_FILT 0 (16 + p) ∧
      OnlyRegs s t [SIN_FILT.key 0 0])) ∧
  (∀ (s : State) (i : Initiator) (v : Word) (p : Nat),
    Passes s i SIN_PRST p →
    Ends (.pairResetRequest i v) s (fun t =>
      t.dev.saf.prst = (if bitOf v 0 then s.dev.saf.prst ||| 2 ^ p else s.dev.saf.prst) ∧ OnlyRegs s t [])) ∧
  (∀ (s : State) (t0 f m p : Nat),
    s.dev.up .safety = true ∧ t0 % 1000000 = 0 ∧ s.dev.saf.confirmed = none ∧ NothingWaits s →
    p < s.dev.variant.inPairs ∧ s.dev.pairUsed p = true ∧ s.dev.pairState p = 3 ∧ s.dev.bit SIN_PCFG p 25 = true ∧ s.dev.contactVals p = (true, true) →
    Ends (.safetyCycle t0 ⟨f, m⟩) s (fun t =>
      t.dev.pairState p = (if s.dev.saf.prst.testBit p then 4 else 3) ∧ t.dev.saf.prst = 0 ∧ Quiet s t ∧ PagesHeld s t 0x48 0x57)) ∧
  (∀ (s : State) (t0 f m p : Nat),
    s.dev.up .safety = true ∧ t0 % 1000000 = 0 ∧ s.dev.saf.confirmed = none ∧ NothingWaits s →
    p < s.dev.variant.inPairs ∧ s.dev.pairUsed p = true ∧ s.dev.pairState p = 5 ∧ s.dev.contactVals p = (false, false) →
    s.dev.bit SIN_PSTAT p 4 = false ∧ s.dev.bit SIN_PSTAT p 5 = false →
    Ends (.safetyCycle t0 ⟨f, m⟩) s (fun t =>
      t.dev.pairState p = (if s.dev.saf.prst.testBit p then 1 else 5) ∧
      (s.dev.saf.prst.testBit p = true → t.dev.fld SIN_PSTAT p 9 8 = 0) ∧ Quiet s t ∧ PagesHeld s t 0x48 0x57)) ∧
  (∀ (s : State) (t0 j : Nat) (b : Bool),
    4 ≤ j ∨ s.dev.up .safety = false ∨ s.dev.pwr.ifaceReset = true ∨ (List.range 4).any (fun k => decide (k ≠ j) && s.dev.pulseOn k t0) = true →
    Ends (.testPulse t0 j b) s (fun t =>
      t.dev.saf = s.dev.saf ∧ OnlyRegs s t [])) ∧
  (∀ (s : State) (t0 c p : Nat),
    s.dev.pwr.ifaceReset = true ∧ s.dev.saf.tpAt = [] ∧ p < s.dev.variant.inPairs →
    (s.dev.pairIn p).a.raw = false ∧ (s.dev.pairIn p).b.raw = false →
    clampN (s.dev.fld SIN_PCFG p 20 16) 1 20 * 20 ≤ min ((s.dev.pairIn p).a.run + 1) 400 ∧ clampN (s.dev.fld SIN_PCFG p 20 16) 1 20 * 20 ≤ min ((s.dev.pairIn p).b.run + 1) 400 →
    Ends (.safetyInputSample t0 c) s (fun t =>
      t.dev.bit SIN_FILT 0 p = false ∧ t.dev.bit SIN_FILT 0 (16 + p) = false ∧
      OnlyRegs s t [SIN_FILT.key 0 0])) ∧
  (∀ (s : State) (t0 c p : Nat),
    s.dev.pwr.ifaceReset = false ∧ s.dev.saf.tpAt = [] ∧ p < s.dev.variant.inPairs →
    (s.dev.pairIn p).a.run = 0 ∧ (s.dev.pairIn p).b.run = 0 →
    Ends (.safetyInputSample t0 c) s (fun t =>
      (t.dev.pairIn p).a.raw = c.testBit p ∧ (t.dev.pairIn p).b.raw = c.testBit (16 + p) ∧ (t.dev.pairIn p).a.run = 1 ∧ (t.dev.pairIn p).b.run = 1 ∧
      OnlyRegs s t [SIN_FILT.key 0 0]))

/-- After a safety cycle no pair is on that may not be, no claim stands in a safe state, and no cause clears unasked. (R394, R414, R424, R428, R430, spec/10_safety.md) -/
def Obligations.AnOutputPairIsOnOnlyWhileItMay : Prop :=
  (∀ (s : State) (t0 f m : Nat),
    s.dev.up .safety = true ∧ t0 % 1000000 = 0 ∧ s.dev.saf.confirmed = none ∧ NothingWaits s →
    Ends (.safetyCycle t0 ⟨f, m⟩) s (fun t =>
      (∀ p : Nat, p < s.dev.variant.outPairs → t.dev.pairOn p = true → t.dev.bit SOUT_PCFG p 31 = true ∧ t.dev.bit SOUT_PCTL p 0 = true ∧ t.dev.outFault p = 0 ∧ t.dev.saf.siteCauses = 0 ∧ t.dev.pwr.ifaceReset = false) ∧
      (∀ o : Nat, o < s.dev.variant.outlets → t.dev.rd SAF_OCAUSES o ≠ 0 → t.dev.rd SAF_ICLAIM o = 0) ∧
      (s.dev.saf.rst = 0 → ∀ o : Nat, o < s.dev.variant.outlets → ∀ c : Nat, c < 16 → c ≠ 1 → s.dev.latched o c = true → t.dev.latched o c = true) ∧
      (s.dev.saf.rst = 0 → ∀ c : Nat, c < 16 → s.dev.latched 16 c = true → t.dev.latched 16 c = true) ∧
      t.dev.bit SAF_STAT 0 0 = true ∧ Quiet s t ∧ PagesHeld s t 0x48 0x57)) ∧
  (∀ (s : State) (t0 f m : Nat) (b : List Byte),
    s.dev.up .safety = true ∧ t0 % 1000000 = 0 ∧ s.dev.saf.confirmed = some b ∧ NothingWaits s →
    Ends (.safetyCycle t0 ⟨f, m⟩) s (fun t =>
      t.dev.saf.active = b ∧ t.dev.saf.confirmed = none ∧ t.dev.bit SAF_STAT 0 0 = true ∧ t.dev.bit SAF_STAT 0 1 = true ∧ t.dev.bit SAF_STAT 0 2 = false ∧
      (∀ p : Nat, p < s.dev.variant.outPairs → t.dev.pairOn p = false) ∧ Quiet s t)) ∧
  (∀ (s : State) (t0 f m : Nat),
    (s.dev.up .safety = false ∨ t0 % 1000000 ≠ 0) ∧ NothingWaits s →
    Ends (.safetyCycle t0 ⟨f, m⟩) s (fun t =>
      t.dev.saf = s.dev.saf ∧ OnlyRegs s t []))

/-- Pairs open at the end of a ramp, with the keep-alive and on a pair fault; dark tests pass, fail or are overdue. (R415, R417, R418, R419, R420, R421, R425, R427, spec/10_safety.md) -/
def Obligations.OutputPairsOpenAndFault : Prop :=
  (∀ (s : State) (t0 o w : Nat),
    (s.dev.at t0).ramping o 1 = true ∧ 1000000 ≤ w →
    Ends (.rampOpen t0 o w) s (fun t =>
      (∀ p : Nat, p < s.dev.variant.outPairs → s.dev.mapsTo p o = true → t.dev.pairOn p = false) ∧ OnlyPages s t [0x5C])) ∧
  (∀ (s : State) (t0 o w : Nat),
    (s.dev.at t0).ramping o 1 = true ∧ w < 1000000 →
    kvGet s.dev.saf.since (o * 16 + 1) 0 + clampN (s.dev.fld SAF_SOTH o 31 16) 1 1000 * 1000000 ≤ t0 →
    Ends (.rampOpen t0 o w) s (fun t =>
      (∀ p : Nat, p < s.dev.variant.outPairs → s.dev.mapsTo p o = true → t.dev.pairOn p = false) ∧ t.dev.bit SAF_OSTAT o 16 = true ∧ OnlyPages s t [0x58, 0x5C])) ∧
  (∀ (s : State) (t0 o : Nat),
    (s.dev.at t0).ramping o 7 = true ∧ s.dev.bit SAF_OSTAT o 17 = false ∧ kvGet s.dev.saf.since (o * 16 + 7) 0 + 995000000 ≤ t0 →
    Ends (.reliefWindowExpiry t0 o) s (fun t =>
      (∀ p : Nat, p < s.dev.variant.outPairs → s.dev.mapsTo p o = true → t.dev.pairOn p = false) ∧ OnlyPages s t [0x5C])) ∧
  (∀ (s : State) (t0 o k x : Nat),
    o < s.dev.variant.outlets ∧ s.dev.up .safety = true ∧ NothingWaits s ∧ s.dev.latched o 7 = false →
    k ∈ s.dev.tpInputs o ∧ 2 ≤ kvGet s.dev.saf.hot (o * 32 + k) 0 ∧ kvGet s.dev.saf.hot (o * 32 + k) 0 ≤ 3 ∧ s.dev.fld SAF_TPLIM o 15 0 * 10 < x →
    Ends (.pinOvertempTrip t0 o [(k, some x, false)]) s (fun t =>
      t.dev.latched o 7 = true ∧ t.dev.bit SAF_TRIPL 0 o = true ∧ OnlyPages s t [0x07, 0x58, 0x59])) ∧
  (∀ (s : State) (t0 o k x : Nat),
    s.dev.tpInputs o = [k] ∧ (s.dev.at t0).ramping o 7 = true ∧ NothingWaits s →
    kvGet s.dev.saf.cool (o * 32 + k) 0 = 2 ∧ x < s.dev.fld SAF_TPLIM o 15 0 * 10 - s.dev.fld SAF_TPLIM o 23 16 * 10 →
    t0 ≤ kvGet s.dev.saf.since (o * 16 + 7) 0 + 995000000 →
    Ends (.pinOvertempTrip t0 o [(k, some x, false)]) s (fun t =>
      t.dev.bit SAF_OSTAT o 17 = true ∧ OnlyRegs s t [SAF_OSTAT.key o 0])) ∧
  (∀ (s : State) (t0 p code : Nat) (hs ls po : Bool) (g : Option Nat),
    p < s.dev.variant.outPairs ∧ s.dev.up .safety = true ∧ s.dev.pwr.ifaceReset = false →
    s.dev.bit SOUT_PCFG p 31 = true ∧ s.dev.outFault p = 0 ∧ (s.dev.pairOut p).dark = none →
    (g.map (fun x => min (x + 200000) ((s.dev.pairOut p).changedAt + 1000000))).getD ((s.dev.pairOut p).changedAt + 1000000) + 100000 ≤ t0 →
    readbackCode (s.dev.pairOn p || (s.dev.bit SOUT_PCFG p 24 && po)) hs ls = code ∧ code ≠ 0 →
    Ends (.readbackFault t0 p hs ls g po) s (fun t =>
      t.dev.outFault p = code ∧ t.dev.pairOn p = false ∧ t.dev.bit SOUT_FLTSUM 0 p = true ∧ t.dev.bit (BLK_EVF 0x5C) 0 0 = true ∧
      (∀ o : Nat, o < s.dev.variant.outlets → s.dev.mapsTo p o = true → t.dev.latched o 0xD = true) ∧
      OnlyPages s t [0x07, 0x58, 0x59, 0x5C])) ∧
  (∀ (s : State) (t0 p : Nat) (hs ls po : Bool) (g : Option Nat),
    p < s.dev.variant.outPairs ∧ s.dev.up .safety = true ∧ s.dev.pwr.ifaceReset = false →
    readbackCode (s.dev.pairOn p || (s.dev.bit SOUT_PCFG p 24 && po)) hs ls = 0 →
    Ends (.readbackFault t0 p hs ls g po) s (fun t =>
      t.dev.bit SOUT_PSTAT p 4 = hs ∧ t.dev.bit SOUT_PSTAT p 5 = ls ∧ OnlyRegs s t [SOUT_PSTAT.key p 0])) ∧
  (∀ (s : State) (t0 p h l : Nat) (ph : Bool),
    p < s.dev.variant.outPairs ∧ s.dev.up .safety = true ∧ s.dev.bit SOUT_PCFG p 25 = true ∧ s.dev.bit SOUT_PCFG p 24 = false →
    s.dev.pairOn p = true ∧ (s.dev.pairOut p).dark = none ∧ (s.dev.pairOut p).darkAt + s.dev.dtper ≤ t0 ∧ h ≤ s.dev.dtw ∧ l ≤ s.dev.dtw →
    Ends (.darkTest t0 p (some h) (some l) ph) s (fun t =>
      t.dev.fld SOUT_PSTAT p 31 16 = min (s.dev.fld SOUT_PSTAT p 31 16 + 2) 65535 ∧ (t.dev.pairOut p).darkDone = t0 ∧
      OnlyRegs s t [SOUT_PSTAT.key p 0])) ∧
  (∀ (s : State) (t0 p : Nat) (h l : Option Nat) (ph : Bool),
    p < s.dev.variant.outPairs ∧ s.dev.up .safety = true ∧ s.dev.bit SOUT_PCFG p 25 = true ∧ s.dev.bit SOUT_PCFG p 24 = true ∧ s.dev.ausalUp = false →
    s.dev.pairOn p = true ∧ (s.dev.pairOut p).dark = none ∧ (s.dev.pairOut p).darkAt + s.dev.dtper ≤ t0 →
    Ends (.darkTest t0 p h l ph) s (fun t =>
      t.dev.bit SOUT_PSTAT p 12 = true ∧ OnlyRegs s t [SOUT_PSTAT.key p 0])) ∧
  (∀ (s : State) (t0 p a : Nat) (ls : Bool),
    p < s.dev.variant.outPairs ∧ (s.dev.pairOut p).dark = some (a, ls) ∧ a + s.dev.dtw * 1000 ≤ t0 →
    Ends (.darkTestTimeout t0 p) s (fun t =>
      t.dev.outFault p = (if ls then 6 else 5) ∧ t.dev.pairOn p = false ∧ t.dev.bit SOUT_FLTSUM 0 p = true ∧ OnlyPages s t [0x07, 0x58, 0x59, 0x5C])) ∧
  (∀ (s : State) (t0 p : Nat),
    p < s.dev.variant.outPairs ∧ s.dev.up .safety = true ∧ s.dev.fld SOUT_PCFG p 25 24 = 3 ∧ s.dev.bit SOUT_PCFG p 31 = true →
    s.dev.outFault p = 0 ∧ (s.dev.pairOut p).darkDone + 86400000000000 ≤ t0 →
    Ends (.darkTestOverdue t0 p) s (fun t =>
      t.dev.outFault p = 8 ∧ t.dev.pairOn p = false ∧ OnlyPages s t [0x07, 0x58, 0x59, 0x5C])) ∧
  (∀ (s : State) (t0 : Nat),
    Ends (.keepaliveLoss t0) s (fun t =>
      t.dev.rd SOUT_KASTAT 0 = 0 ∧ (∀ p : Nat, p < s.dev.variant.outPairs → t.dev.pairOn p = false) ∧ OnlyPages s t [0x5C])) ∧
  (∀ (s : State) (i : Initiator) (v : Word) (p n : Nat),
    Passes s i SOUT_PCTL p →
    bitOf v 8 = true ∧ s.dev.outFault p ≠ 0 ∧ s.dev.pairOn p = false ∧ 10000000 ≤ n →
    Ends (.outputFaultClear i v n) s (fun t =>
      t.dev.outFault p = 0 ∧ t.dev.bit SOUT_PCTL p 0 = bitOf v 0 ∧ OnlyRegs s t [SOUT_PCTL.key p 0, SOUT_PSTAT.key p 0])) ∧
  (∀ (s : State) (t0 o w : Nat),
    s.dev.ramping o 1 = false ∨ w < 1000000 ∧ t0 < kvGet s.dev.saf.since (o * 16 + 1) 0 + clampN (s.dev.fld SAF_SOTH o 31 16) 1 1000 * 1000000 →
    Ends (.rampOpen t0 o w) s (fun t =>
      t.dev.saf = s.dev.saf ∧ OnlyRegs s t [])) ∧
  (∀ (s : State) (t0 o : Nat),
    s.dev.ramping o 7 = false ∨ s.dev.bit SAF_OSTAT o 17 = true ∨ t0 < kvGet s.dev.saf.since (o * 16 + 7) 0 + 995000000 →
    Ends (.reliefWindowExpiry t0 o) s (fun t =>
      t.dev.saf = s.dev.saf ∧ OnlyRegs s t [])) ∧
  (∀ (s : State) (t0 o k : Nat) (x : Option Nat),
    o < s.dev.variant.outlets ∧ s.dev.up .safety = true ∧ NothingWaits s ∧ s.dev.latched o 7 = false →
    k ∈ s.dev.tpInputs o →
    Ends (.pinOvertempTrip t0 o [(k, x, true)]) s (fun t =>
      t.dev.latched o 7 = true ∧ t.dev.bit SAF_TRIPL 0 o = true ∧ OnlyPages s t [0x07, 0x58, 0x59])) ∧
  (∀ (s : State) (t0 o k : Nat),
    o < s.dev.variant.outlets ∧ s.dev.up .safety = true ∧ NothingWaits s ∧ s.dev.latched o 7 = false →
    k ∈ s.dev.tpInputs o ∧ 2 ≤ kvGet s.dev.saf.hot (o * 32 + k) 0 ∧ kvGet s.dev.saf.hot (o * 32 + k) 0 ≤ 3 →
    Ends (.pinOvertempTrip t0 o []) s (fun t =>
      t.dev.latched o 7 = true ∧ t.dev.bit SAF_TRIPL 0 o = true ∧ OnlyPages s t [0x07, 0x58, 0x59])) ∧
  (∀ (s : State) (t0 o k x : Nat),
    o < s.dev.variant.outlets ∧ s.dev.up .safety = true ∧ NothingWaits s ∧ s.dev.ramping o 7 = false →
    s.dev.tpInputs o = [k] ∧ (x ≤ s.dev.fld SAF_TPLIM o 15 0 * 10 ∨ kvGet s.dev.saf.hot (o * 32 + k) 0 < 2) →
    Ends (.pinOvertempTrip t0 o [(k, some x, false)]) s (fun t =>
      kvGet t.dev.saf.hot (o * 32 + k) 0 = (if s.dev.fld SAF_TPLIM o 15 0 * 10 < x then kvGet s.dev.saf.hot (o * 32 + k) 0 + 1 else 0) ∧
      OnlyRegs s t [])) ∧
  (∀ (s : State) (t0 o : Nat) (rs : List (Nat × Option Nat × Bool)),
    (s.dev.variant.outlets ≤ o ∨ s.dev.up .safety = false) ∧ NothingWaits s →
    Ends (.pinOvertempTrip t0 o rs) s (fun t =>
      t.dev.saf = s.dev.saf ∧ OnlyRegs s t [])) ∧
  (∀ (s : State) (t0 p : Nat) (hs ls po : Bool) (g : Option Nat),
    p < s.dev.variant.outPairs ∧ s.dev.up .safety = true ∧ s.dev.pwr.ifaceReset = false →
    s.dev.bit SOUT_PCFG p 31 = false ∨ s.dev.outFault p ≠ 0 ∨ (s.dev.pairOut p).dark ≠ none ∨ t0 < (g.map (fun x => min (x + 200000) ((s.dev.pairOut p).changedAt + 1000000))).getD ((s.dev.pairOut p).changedAt + 1000000) + 100000 →
    Ends (.readbackFault t0 p hs ls g po) s (fun t =>
      t.dev.bit SOUT_PSTAT p 4 = hs ∧ t.dev.bit SOUT_PSTAT p 5 = ls ∧ OnlyRegs s t [SOUT_PSTAT.key p 0])) ∧
  (∀ (s : State) (t0 p : Nat) (hs ls po : Bool) (g : Option Nat),
    s.dev.variant.outPairs ≤ p ∨ s.dev.up .safety = false ∨ s.dev.pwr.ifaceReset = true →
    Ends (.readbackFault t0 p hs ls g po) s (fun t =>
      t.dev.saf = s.dev.saf ∧ OnlyRegs s t [])) ∧
  (∀ (s : State) (t0 p h l : Nat) (ph : Bool),
    p < s.dev.variant.outPairs ∧ s.dev.up .safety = true ∧ s.dev.bit SOUT_PCFG p 25 = true ∧ (s.dev.bit SOUT_PCFG p 24 = true → s.dev.ausalUp = true ∧ ph = true) →
    s.dev.pairOn p = true ∧ (s.dev.pairOut p).dark = none ∧ (s.dev.pairOut p).darkAt + s.dev.dtper ≤ t0 →
    h ≤ s.dev.dtw ∧ l ≤ s.dev.dtw →
    Ends (.darkTest t0 p (some h) (some l) ph) s (fun t =>
      t.dev.fld SOUT_PSTAT p 31 16 = min (s.dev.fld SOUT_PSTAT p 31 16 + 2) 65535 ∧ t.dev.bit SOUT_PSTAT p 12 = false ∧ (t.dev.pairOut p).darkDone = t0 ∧
      OnlyRegs s t [SOUT_PSTAT.key p 0])) ∧
  (∀ (s : State) (t0 p : Nat) (h l : Option Nat) (ph : Bool),
    p < s.dev.variant.outPairs ∧ s.dev.up .safety = true ∧ s.dev.bit SOUT_PCFG p 25 = true ∧ (s.dev.bit SOUT_PCFG p 24 = true → s.dev.ausalUp = true ∧ ph = true) →
    s.dev.pairOn p = true ∧ (s.dev.pairOut p).dark = none ∧ (s.dev.pairOut p).darkAt + s.dev.dtper ≤ t0 →
    (∀ n ∈ h, s.dev.dtw < n) →
    Ends (.darkTest t0 p h l ph) s (fun t =>
      (t.dev.pairOut p).dark = some (t0, false) ∧ t.dev.fld SOUT_PSTAT p 31 16 = s.dev.fld SOUT_PSTAT p 31 16 ∧
      OnlyRegs s t [SOUT_PSTAT.key p 0])) ∧
  (∀ (s : State) (t0 p h : Nat) (l : Option Nat) (ph : Bool),
    p < s.dev.variant.outPairs ∧ s.dev.up .safety = true ∧ s.dev.bit SOUT_PCFG p 25 = true ∧ (s.dev.bit SOUT_PCFG p 24 = true → s.dev.ausalUp = true ∧ ph = true) →
    s.dev.pairOn p = true ∧ (s.dev.pairOut p).dark = none ∧ (s.dev.pairOut p).darkAt + s.dev.dtper ≤ t0 →
    h ≤ s.dev.dtw ∧ (∀ n ∈ l, s.dev.dtw < n) →
    Ends (.darkTest t0 p (some h) l ph) s (fun t =>
      (t.dev.pairOut p).dark = some (t0 + 10000000, true) ∧ t.dev.fld SOUT_PSTAT p 31 16 = min (s.dev.fld SOUT_PSTAT p 31 16 + 1) 65535 ∧
      OnlyRegs s t [SOUT_PSTAT.key p 0])) ∧
  (∀ (s : State) (t0 p : Nat) (h l : Option Nat) (ph : Bool),
    s.dev.variant.outPairs ≤ p ∨ s.dev.up .safety = false ∨ s.dev.bit SOUT_PCFG p 25 = false ∨ s.dev.pairOn p = false ∨
      (s.dev.pairOut p).dark ≠ none ∨ t0 < (s.dev.pairOut p).darkAt + s.dev.dtper ∨ s.dev.bit SOUT_PCFG p 24 = true ∧ s.dev.ausalUp = true ∧ ph = false →
    Ends (.darkTest t0 p h l ph) s (fun t =>
      t.dev.saf = s.dev.saf ∧ OnlyRegs s t [])) ∧
  (∀ (s : State) (t0 p : Nat),
    ((s.dev.pairOut p).dark.map (fun x => decide (t0 < x.1 + s.dev.dtw * 1000))).getD true = true →
    Ends (.darkTestTimeout t0 p) s (fun t =>
      t.dev.saf = s.dev.saf ∧ OnlyRegs s t [])) ∧
  (∀ (s : State) (t0 p : Nat),
    s.dev.variant.outPairs ≤ p ∨ s.dev.up .safety = false ∨ s.dev.fld SOUT_PCFG p 25 24 ≠ 3 ∨ s.dev.bit SOUT_PCFG p 31 = false ∨
      s.dev.outFault p ≠ 0 ∨ t0 < (s.dev.pairOut p).darkDone + 86400000000000 →
    Ends (.darkTestOverdue t0 p) s (fun t =>
      t.dev.saf = s.dev.saf ∧ OnlyRegs s t [])) ∧
  (∀ (s : State) (i : Initiator) (v : Word) (p n : Nat),
    Passes s i SOUT_PCTL p →
    bitOf v 8 = false ∨ s.dev.outFault p = 0 ∨ s.dev.pairOn p = true ∨ n < 10000000 →
    Ends (.outputFaultClear i v n) s (fun t =>
      t.dev.bit SOUT_PCTL p 0 = bitOf v 0 ∧ OnlyRegs s t [SOUT_PCTL.key p 0]))

/-- XTRIP_IN_N low for 50 us trips the site; short pulses confirm the line; a third safety failure in 600 s holds the device. (R396, R429, R430, R445, R446, R447, R680, spec/10_safety.md) -/
def Obligations.TripsOfTheSiteAndItsLine : Prop :=
  (∀ (s : State) (t0 n : Nat) (hi : Bool),
    s.dev.up .safety = true ∧ s.dev.bankOff 7 = false ∧ 50000 ≤ n ∧ s.dev.bit SAF_SITECFG 0 17 = true ∧ s.dev.latched 16 0xB = false ∧ NothingWaits s →
    Ends (.xtripInput t0 n hi) s (fun t =>
      t.dev.latched 16 0xB = true ∧ (∀ o : Nat, o < s.dev.variant.outlets → t.dev.latched o 0xC = true) ∧
      t.dev.cause 7 = true ∧ t.dev.level = .hold ∧ t.dev.bit SAF_XSTAT 0 0 = !hi ∧
      ((∀ o : Nat, o < s.dev.variant.outlets → s.dev.bit SAF_OCFG o 24 = false) → t.dev.bit SAF_XSTAT 0 1 = s.dev.bit SAF_XSTAT 0 1) ∧
      Quiet s t ∧ PagesHeld s t 0x48 0x57)) ∧
  (∀ (s : State) (t0 n : Nat),
    n < 20000 ∧ s.dev.bankOff 7 = false ∧ NothingWaits s →
    Ends (.xtripInput t0 n true) s (fun t =>
      t.dev.saf.xConf = t0 ∧ t.dev.saf.siteCauses = s.dev.saf.siteCauses ∧ OnlyRegs s t [SAF_XSTAT.key 0 0])) ∧
  (∀ (s : State) (t0 : Nat),
    s.dev.up .safety = true ∧ s.dev.bit SAF_XSTAT 0 1 = false ∧ s.dev.saf.xPulseAt + 100000000 ≤ t0 →
    Ends (.xtripTestPulse t0) s (fun t =>
      t.dev.saf.xPulseAt = t0 ∧ OnlyRegs s t [])) ∧
  (∀ (s : State) (t0 : Nat),
    s.dev.up .safety = true ∧ s.dev.bit SAF_SITECFG 0 17 = true ∧ s.dev.saf.xConf + 300000000 ≤ t0 →
    Ends (.xlineTimeout t0) s (fun t =>
      t.dev.bit SAF_XSTAT 0 2 = true ∧ t.dev.bit (BLK_EVF 0x58) 0 1 = true ∧ t.dev.saf.siteCauses = s.dev.saf.siteCauses ∧
      OnlyRegs s t [SAF_XSTAT.key 0 0, (BLK_EVF 0x58).key 0 0])) ∧
  (∀ (s : State) (i : Initiator) (v : Word) (n : Nat),
    Passes s i SAF_RST n →
    Ends (.tripResetRequest i v) s (fun t =>
      t.dev.saf.rst = s.dev.saf.rst ||| bits v 16 0 ∧ OnlyRegs s t [])) ∧
  (∀ (s : State) (t0 a b : Nat) (o : BootObs),
    s.dev.pwr.phase = .running ∧ s.dev.pwr.safetyResets = [a, b] ∧ t0 ≤ a + 600000000000 ∧ t0 ≤ b + 600000000000 →
    Ends (.safetyFailure t0 o) s (fun t =>
      t.dev.pwr.phase = .heldSafety ∧ t.dev.rd RST_SAFHIST 0 = 3 ∧ t.dev.bit RST_CAUSE 0 9 = true ∧ t.dev.pwr.safetyResets = [a, b, t0] ∧
      t.pending = s.pending ∧ t.sys.fuses = s.sys.fuses)) ∧
  (∀ (s : State) (t0 : Nat) (o : BootObs),
    s.dev.pwr.phase = .running ∧ s.dev.pwr.safetyResets = [] →
    Ends (.safetyFailure t0 o) s (fun t =>
      t.dev.pwr.safetyResets = [t0] ∧ t.pending = s.pending ∧ FusesKept s t)) ∧
  (∀ (s : State) (t0 n : Nat) (hi : Bool),
    s.dev.bankOff 7 = false ∧ NothingWaits s →
    (20000 ≤ n ∨ hi = false) ∧ (n < 50000 ∨ s.dev.bit SAF_SITECFG 0 17 = false ∨ s.dev.up .safety = false ∨ s.dev.latched 16 0xB = true) →
    Ends (.xtripInput t0 n hi) s (fun t =>
      t.dev.bit SAF_XSTAT 0 0 = !hi ∧ t.dev.saf = s.dev.saf ∧ OnlyRegs s t [SAF_XSTAT.key 0 0])) ∧
  (∀ (s : State) (t0 n : Nat) (hi : Bool),
    s.dev.bankOff 7 = true →
    Ends (.xtripInput t0 n hi) s (fun t =>
      t.dev.saf = s.dev.saf ∧ OnlyRegs s t [])) ∧
  (∀ (s : State) (t0 : Nat),
    s.dev.up .safety = false ∨ s.dev.bit SAF_XSTAT 0 1 = true ∨ t0 < s.dev.saf.xPulseAt + 100000000 →
    Ends (.xtripTestPulse t0) s (fun t =>
      t.dev.saf = s.dev.saf ∧ OnlyRegs s t [])) ∧
  (∀ (s : State) (t0 : Nat),
    s.dev.up .safety = false ∨ s.dev.bit SAF_SITECFG 0 17 = false ∨ t0 < s.dev.saf.xConf + 300000000 →
    Ends (.xlineTimeout t0) s (fun t =>
      t.dev.saf = s.dev.saf ∧ OnlyRegs s t [])) ∧
  (∀ (s : State) (t0 : Nat) (o : BootObs) (l : List Nat),
    s.dev.pwr.phase = .running ∧ s.dev.pwr.safetyResets.filter (fun x => decide (t0 ≤ x + 600000000000)) = l →
    Ends (.safetyFailure t0 o) s (fun t =>
      t.dev.pwr.safetyResets = l ++ [t0] ∧
      (2 ≤ l.length → t.dev.pwr.phase = .heldSafety ∧ t.dev.rd RST_SAFHIST 0 = 3 ∧ t.dev.bit RST_CAUSE 0 9 = true) ∧
      t.pending = s.pending ∧ FusesKept s t)) ∧
  (∀ (s : State) (t0 : Nat) (o : BootObs),
    s.dev.pwr.phase ≠ .running →
    Ends (.safetyFailure t0 o) s (fun t =>
      t.dev.pwr = s.dev.pwr ∧ OnlyRegs s t []))

/-- The safety services take an image, its confirmation, resets and output requests, or answer their refusals. (R399, R621, R622, spec/10_safety.md, spec/15_compute_island.md) -/
def Obligations.TheSafetyMailboxLoadsAndAsks : Prop :=
  (∀ (s : State) (i : Initiator) (b : List Byte),
    s.dev.mbxService 0 i 1 = some b ∧ imageOk s.dev.variant b = true →
    Ends (.safetyConfigLoad i) s (fun t =>
      t.dev.saf.loaded = b ∧ MbxAnswered t 0 i 0 ∧ OnlyRegs s t [])) ∧
  (∀ (s : State) (i : Initiator) (b : List Byte),
    s.dev.mbxService 0 i 1 = some b ∧ imageOk s.dev.variant b = false →
    Ends (.safetyConfigLoad i) s (fun t =>
      t.dev.saf.loaded = s.dev.saf.loaded ∧ MbxAnswered t 0 i 3 ∧ OnlyRegs s t [])) ∧
  (∀ (s : State) (i : Initiator) (b : List Byte),
    s.dev.mbxService 0 i 2 = some b ∧ s.dev.saf.loaded ≠ [] ∧ leAt b 0 4 = leAt s.dev.saf.loaded (s.dev.saf.loaded.length - 4) 4 →
    s.dev.rd SOUT_ONSUM 0 = 0 ∧ (∀ p : Nat, p < s.dev.variant.outPairs → s.dev.fld SOUT_PSTAT p 1 0 ≠ 2) →
    Ends (.safetyConfigConfirm i) s (fun t =>
      t.dev.saf.confirmed = some s.dev.saf.loaded ∧ MbxAnswered t 0 i 0 ∧ OnlyRegs s t [])) ∧
  (∀ (s : State) (i : Initiator) (b : List Byte),
    s.dev.mbxService 0 i 2 = some b →
    leAt b 0 4 ≠ leAt s.dev.saf.loaded (s.dev.saf.loaded.length - 4) 4 ∨ s.dev.rd SOUT_ONSUM 0 ≠ 0 →
    Ends (.safetyConfigConfirm i) s (fun t =>
      t.dev.saf.confirmed = s.dev.saf.confirmed ∧ MbxAnswered t 0 i 4 ∧ OnlyRegs s t [])) ∧
  (∀ (s : State) (i : Initiator) (b : List Byte),
    s.dev.mbxService 0 i 3 = some b →
    Ends (.safetyResetService i) s (fun t =>
      t.dev.saf.rst = s.dev.saf.rst ||| leAt b 0 4 ∧ t.dev.saf.prst = s.dev.saf.prst ||| leAt b 4 2 ∧ t.dev.saf.fclr = s.dev.saf.fclr ||| leAt b 6 1 ∧
      MbxAnswered t 0 i 0 ∧ OnlyRegs s t [])) ∧
  (∀ (s : State) (i : Initiator) (b : List Byte),
    s.dev.mbxService 0 i 4 = some b →
    Ends (.safetyOutputsService i) s (fun t =>
      t.dev.saf.onReq = some (leAt b 0 1) ∧ MbxAnswered t 0 i 0 ∧ OnlyRegs s t [])) ∧
  (∀ (s : State) (i : Initiator) (b : List Byte),
    s.dev.mbxService 0 i 2 = some b →
    s.dev.saf.loaded = [] ∨ (List.range s.dev.variant.outPairs).any (fun p => decide (s.dev.fld SOUT_PSTAT p 1 0 = 2)) = true →
    Ends (.safetyConfigConfirm i) s (fun t =>
      t.dev.saf.confirmed = s.dev.saf.confirmed ∧ MbxAnswered t 0 i 4 ∧ OnlyRegs s t [])) ∧
  (∀ (s : State) (i : Initiator),
    s.dev.mbxService 0 i 1 = none →
    Ends (.safetyConfigLoad i) s (fun t => t = s)) ∧
  (∀ (s : State) (i : Initiator),
    s.dev.mbxService 0 i 2 = none →
    Ends (.safetyConfigConfirm i) s (fun t => t = s)) ∧
  (∀ (s : State) (i : Initiator),
    s.dev.mbxService 0 i 3 = none →
    Ends (.safetyResetService i) s (fun t => t = s)) ∧
  (∀ (s : State) (i : Initiator),
    s.dev.mbxService 0 i 4 = none →
    Ends (.safetyOutputsService i) s (fun t => t = s))

/-- A connection opens with the next GEN, sends CMDs with the next SEQ, accepts twin copies, and is lost by its timeouts. (R435, R436, R438, R440, R441, R442, R443, spec/10_safety.md) -/
def Obligations.TelegramConnectionsFollowTable109 : Prop :=
  (∀ (s : State) (t0 c : Nat),
    c < s.dev.variant.cabinets ∧ s.dev.up .safety = true ∧ (s.dev.connState c = 1 ∨ s.dev.connLive c = true) →
    (s.dev.conn c).txOpen = false ∨ (s.dev.rd STG_TXSEQ c = 0xFFFFFFFF ∧
      (s.dev.saf.extra.testBit c = true ∨ ∀ a ∈ (s.dev.conn c).sentAt, a + s.dev.telPer c ≤ t0)) →
    Ends (.telegramSend t0 c) s (fun t =>
      let tel := (s.dev.at t0).telegramOf c 1 0 0 (leBytes 4 (((s.dev.rd STG_TXGEN c).toNat + 1) % 2 ^ 32))
      t.dev.rd STG_TXGEN c = s.dev.rd STG_TXGEN c + 1 ∧ t.dev.rd STG_TXSEQ c = 0 ∧ (t.dev.conn c).txOpen = true ∧
      (t.dev.conn c).sentAt = some (max s.dev.time t0) ∧ (t.dev.conn c).pathB = s.dev.pathBFrame tel ∧
      (s.dev.linkState c ≠ 0 ∧ s.dev.up .control = true → (t.dev.link c).stg = tel) ∧
      ((s.dev.linkState c = 0 ∨ s.dev.up .control = false) ∧ s.dev.pwr.phase = .running →
        sFrameBytes c tel ∈ (t.dev.link c).sframes.map Prod.snd) ∧
      OnlyRegs s t [STG_TXGEN.key c 0, STG_TXSEQ.key c 0])) ∧
  (∀ (s : State) (t0 c : Nat),
    c < s.dev.variant.cabinets ∧ s.dev.up .safety = true ∧ (s.dev.connState c = 1 ∨ s.dev.connLive c = true) →
    (s.dev.conn c).txOpen = true ∧ s.dev.rd STG_TXSEQ c ≠ 0xFFFFFFFF →
    s.dev.saf.extra.testBit c = true ∨ (∀ a ∈ (s.dev.conn c).sentAt, a + s.dev.telPer c ≤ t0) →
    Ends (.telegramSend t0 c) s (fun t =>
      let tel := (s.dev.at t0).telegramOf c 2 (s.dev.rd STG_TXGEN c).toNat ((s.dev.rd STG_TXSEQ c).toNat + 1) s.dev.cmdPayload
      t.dev.rd STG_TXSEQ c = s.dev.rd STG_TXSEQ c + 1 ∧ (t.dev.conn c).sentAt = some (max s.dev.time t0) ∧
      (t.dev.conn c).pathB = s.dev.pathBFrame tel ∧
      (s.dev.saf.extra.testBit c = false ∧ s.dev.linkState c ≠ 0 ∧ s.dev.up .control = true → (t.dev.link c).stg = tel) ∧
      ((s.dev.saf.extra.testBit c = true ∨ s.dev.linkState c = 0 ∨ s.dev.up .control = false) ∧ s.dev.pwr.phase = .running →
        sFrameBytes c tel ∈ (t.dev.link c).sframes.map Prod.snd) ∧
      OnlyRegs s t [STG_TXSEQ.key c 0])) ∧
  (∀ (s : State) (t0 c p : Nat) (bs : List Byte),
    c < s.dev.variant.cabinets ∧ s.dev.up .safety = true ∧ (s.dev.connState c = 1 ∨ s.dev.connLive c = true) ∧ (s.dev.conn c).wait = [] →
    (s.dev.at t0).telBad c (bs.take (22 + leAt bs 1 1)) = 0 →
    Ends (.telegramReceive t0 c p bs) s (fun t =>
      let b := bs.take (22 + leAt bs 1 1)
      (t.dev.conn c).wait = [(p, b, t0)] ∧ t.dev.rd STG_RXSEQ c = s.dev.rd STG_RXSEQ c ∧
      (telType b = 3 ∧ bitOf (w32 (leAt b 20 1)) 0 = true → ∀ o ∈ s.dev.lossOutlets c, t.dev.latched o 0xA = true) ∧
      OnlyPages s t [0x07, 0x58, 0x59])) ∧
  (∀ (s : State) (t0 c a p q : Nat) (b : List Byte),
    c < s.dev.variant.cabinets ∧ s.dev.up .safety = true ∧ s.dev.connState c = 2 ∧ (s.dev.conn c).wait = [(q, b, a)] ∧ q ≠ p ∧ t0 ≤ a + 2000000 →
    (s.dev.at t0).telBad c b = 0 ∧ telType b = 3 ∧ b.length = 30 ∧ bitOf (w32 (leAt b 20 1)) 0 = false →
    Ends (.telegramReceive t0 c p b) s (fun t =>
      (t.dev.conn c).wait = [] ∧ t.dev.rd STG_RXSEQ c = w32 (telSeq b) ∧ (t.dev.conn c).fedAt = max s.dev.time t0 ∧
      t.dev.rd STG_LASTSTAT0 c = w32 (leAt b 18 4) ∧ t.dev.rd STG_LASTSTAT1 c = w32 (leAt b 22 4) ∧
      OnlyRegs s t [STG_RXSEQ.key c 0, STG_LASTSTAT0.key c 0, STG_LASTSTAT1.key c 0])) ∧
  (∀ (s : State) (t0 c p : Nat) (b : List Byte),
    c < s.dev.variant.cabinets ∧ s.dev.up .safety = true ∧ (s.dev.connState c = 1 ∨ s.dev.connLive c = true) ∧ (s.dev.conn c).wait = [] →
    (s.dev.at t0).telBad c (b.take (22 + leAt b 1 1)) ≠ 0 →
    Ends (.telegramReceive t0 c p b) s (fun t =>
      let k := (s.dev.at t0).telBad c (b.take (22 + leAt b 1 1))
      t.dev.fld STG_ERRCNT c 7 0 = (if k = 2 then min (s.dev.fld STG_ERRCNT c 7 0 + 1) 255 else s.dev.fld STG_ERRCNT c 7 0) ∧
      t.dev.fld STG_ERRCNT c 15 8 = (if k = 3 then min (s.dev.fld STG_ERRCNT c 15 8 + 1) 255 else s.dev.fld STG_ERRCNT c 15 8) ∧
      t.dev.fld STG_ERRCNT c 31 24 = (if k = 4 then min (s.dev.fld STG_ERRCNT c 31 24 + 1) 255 else s.dev.fld STG_ERRCNT c 31 24) ∧
      (t.dev.conn c).wait = [] ∧ OnlyRegs s t [STG_ERRCNT.key c 0])) ∧
  (∀ (s : State) (t0 c a p : Nat) (b : List Byte),
    c < s.dev.variant.cabinets ∧ s.dev.connState c = 3 ∧ (s.dev.conn c).wait = [(p, b, a)] ∧ a + 2000000 ≤ t0 →
    (s.dev.at t0).telBad c b = 0 ∧ telType b = 3 →
    Ends (.singleCopyAccept t0 c) s (fun t =>
      (t.dev.conn c).wait = [] ∧ t.dev.rd STG_RXSEQ c = w32 (telSeq b) ∧ (t.dev.conn c).fedAt = max s.dev.time t0 ∧ t.dev.bit STG_CSTAT c 4 = decide (p = 1) ∧
      OnlyRegs s t [STG_CSTAT.key c 0, STG_RXSEQ.key c 0, STG_LASTSTAT0.key c 0, STG_LASTSTAT1.key c 0])) ∧
  (∀ (s : State) (t0 c : Nat),
    c < s.dev.variant.cabinets ∧ s.dev.up .safety = true ∧ s.dev.connLive c = true ∧ (s.dev.conn c).fedAt + clampN (s.dev.fld STG_TCFG c 9 0) 5 500 * 1000000 ≤ t0 →
    Ends (.telegramWatchdogExpiry t0 c) s (fun t =>
      t.dev.connState c = 4 ∧ t.dev.bit STG_LOSTSUM 0 c = true ∧ t.dev.bit (BLK_EVF 0x5E) 0 0 = true ∧ (∀ o ∈ s.dev.lossOutlets c, t.dev.latched o 9 = true) ∧
      OnlyPages s t [0x07, 0x58, 0x59, 0x5E, 0x5F])) ∧
  (∀ (s : State) (t0 c : Nat),
    c < s.dev.variant.cabinets ∧ s.dev.up .safety = true ∧ s.dev.connState c = 1 ∧ (s.dev.conn c).since + 1000000000 ≤ t0 →
    Ends (.connectionOpenTimeout t0 c) s (fun t =>
      t.dev.connState c = 4 ∧ t.dev.bit STG_LOSTSUM 0 c = true ∧ (∀ o ∈ s.dev.lossOutlets c, t.dev.latched o 9 = true) ∧
      OnlyPages s t [0x07, 0x58, 0x59, 0x5E, 0x5F])) ∧
  (∀ (s : State) (t0 c : Nat),
    c < s.dev.variant.cabinets ∧ s.dev.up .safety = true ∧ s.dev.connState c = 4 ∧ (s.dev.conn c).since + 100000000 ≤ t0 →
    Ends (.connectionReopen t0 c) s (fun t =>
      t.dev.connState c = 1 ∧ t.dev.rd STG_TXGEN c = s.dev.rd STG_TXGEN c + 1 ∧ t.dev.rd STG_TXSEQ c = 0 ∧ (t.dev.conn c).txOpen = true ∧
      OnlyPages s t [0x07, 0x58, 0x59, 0x5E, 0x5F])) ∧
  (∀ (s : State) (t0 c : Nat),
    c < s.dev.variant.cabinets ∧ s.dev.up .safety = true ∧ s.dev.connState c = 3 ∧ (s.dev.conn c).since + min 600 (s.dev.fld STG_TCFG c 25 16) * 1000000000 ≤ t0 →
    Ends (.graceExpiry t0 c) s (fun t =>
      t.dev.connState c = 4 ∧ t.dev.bit STG_LOSTSUM 0 c = true ∧ (∀ o ∈ s.dev.lossOutlets c, t.dev.latched o 9 = true) ∧
      OnlyPages s t [0x07, 0x58, 0x59, 0x5E, 0x5F])) ∧
  (∀ (s : State) (t0 c : Nat),
    s.dev.variant.cabinets ≤ c ∨ s.dev.up .safety = false ∨ (s.dev.connState c ≠ 1 ∧ s.dev.connLive c = false) ∨
      ((s.dev.conn c).txOpen = true ∧ s.dev.saf.extra.testBit c = false ∧ ∃ a ∈ (s.dev.conn c).sentAt, t0 < a + s.dev.telPer c) →
    Ends (.telegramSend t0 c) s (fun t => t.dev.conn c = s.dev.conn c ∧ t.dev.link c = s.dev.link c ∧ OnlyRegs s t [])) ∧
  (∀ (s : State) (t0 c a p q : Nat) (b : List Byte),
    c < s.dev.variant.cabinets ∧ s.dev.up .safety = true ∧ s.dev.connState c = 1 ∧ (s.dev.conn c).rxOpened = true →
    (s.dev.conn c).wait = [(q, b, a)] ∧ q ≠ p ∧ t0 ≤ a + 2000000 →
    (s.dev.at t0).telBad c b = 0 ∧ telType b = 3 ∧ b.length = 30 ∧ bitOf (w32 (leAt b 20 1)) 0 = false →
    Ends (.telegramReceive t0 c p b) s (fun t =>
      t.dev.connState c = 2 ∧ (t.dev.conn c).wait = [] ∧ t.dev.rd STG_RXSEQ c = w32 (telSeq b) ∧ (t.dev.conn c).fedAt = max s.dev.time t0 ∧
      OnlyPages s t [0x07, 0x5E, 0x5F])) ∧
  (∀ (s : State) (t0 c a p q : Nat) (b : List Byte),
    c < s.dev.variant.cabinets ∧ s.dev.up .safety = true ∧ (s.dev.connState c = 1 ∨ s.dev.connState c = 2) →
    (s.dev.conn c).wait = [(q, b, a)] ∧ q ≠ p ∧ t0 ≤ a + 2000000 →
    (s.dev.at t0).telBad c b = 0 ∧ telType b = 1 ∧ b.length = 26 →
    Ends (.telegramReceive t0 c p b) s (fun t =>
      let newer := (s.dev.conn c).rxHave = false ∨ serialAbove (leAt b 18 4) (s.dev.rd STG_RXGEN c).toNat (2 ^ 31 - 1) = true
      (newer → t.dev.rd STG_RXGEN c = w32 (leAt b 18 4) ∧ t.dev.rd STG_RXSEQ c = 0 ∧ (t.dev.conn c).rxHave = true ∧ (t.dev.conn c).rxOpened = true) ∧
      (¬ newer → t.dev.rd STG_RXGEN c = s.dev.rd STG_RXGEN c ∧ t.dev.rd STG_RXSEQ c = s.dev.rd STG_RXSEQ c) ∧
      (t.dev.conn c).wait = [] ∧ t.dev.connState c = s.dev.connState c ∧ OnlyRegs s t [STG_RXGEN.key c 0, STG_RXSEQ.key c 0])) ∧
  (∀ (s : State) (t0 c a p q : Nat) (b x : List Byte),
    c < s.dev.variant.cabinets ∧ s.dev.up .safety = true ∧ (s.dev.connState c = 1 ∨ s.dev.connLive c = true) →
    (s.dev.conn c).wait = [(q, x, a)] ∧ q ≠ p ∧ t0 ≤ a + 2000000 →
    (s.dev.at t0).telBad c (b.take (22 + leAt b 1 1)) = 0 ∧ telType x = telType (b.take (22 + leAt b 1 1)) ∧
      telSeq x = telSeq (b.take (22 + leAt b 1 1)) ∧ x ≠ b.take (22 + leAt b 1 1) →
    Ends (.telegramReceive t0 c p b) s (fun t =>
      (t.dev.conn c).wait = [] ∧ t.dev.fld STG_ERRCNT c 23 16 = min (s.dev.fld STG_ERRCNT c 23 16 + 1) 255 ∧
      t.dev.rd STG_RXGEN c = s.dev.rd STG_RXGEN c ∧ t.dev.rd STG_RXSEQ c = s.dev.rd STG_RXSEQ c ∧ t.dev.connState c = s.dev.connState c ∧
      OnlyPages s t [0x07, 0x58, 0x59, 0x5E])) ∧
  (∀ (s : State) (t0 c p : Nat) (b : List Byte),
    (s.dev.conn c).wait = [] →
    s.dev.variant.cabinets ≤ c ∨ s.dev.up .safety = false ∨ (s.dev.connState c ≠ 1 ∧ s.dev.connLive c = false) →
    Ends (.telegramReceive t0 c p b) s (fun t => t.dev.conn c = s.dev.conn c ∧ OnlyRegs s t [])) ∧
  (∀ (s : State) (t0 c a p : Nat) (b : List Byte),
    c < s.dev.variant.cabinets ∧ s.dev.connState c = 2 ∧ (s.dev.conn c).wait = [(p, b, a)] ∧ a + 2000000 ≤ t0 →
    Ends (.singleCopyAccept t0 c) s (fun t =>
      (t.dev.conn c).wait = [] ∧ t.dev.rd STG_RXSEQ c = s.dev.rd STG_RXSEQ c ∧
      ((s.dev.conn c).single < 2 → (t.dev.conn c).single = (s.dev.conn c).single + 1 ∧ OnlyRegs s t []) ∧
      (2 ≤ (s.dev.conn c).single → t.dev.connState c = 3 ∧ t.dev.bit STG_CSTAT c 4 = decide (p = 1) ∧ t.dev.bit (BLK_EVF 0x5E) 0 1 = true ∧
        OnlyPages s t [0x07, 0x5E, 0x5F]))) ∧
  (∀ (s : State) (t0 c : Nat),
    (∀ w ∈ (s.dev.conn c).wait, t0 < w.2.2 + 2000000) →
    Ends (.singleCopyAccept t0 c) s (fun t => t.dev.conn c = s.dev.conn c ∧ OnlyRegs s t [])) ∧
  (∀ (s : State) (t0 c : Nat),
    s.dev.up .safety = false ∨ s.dev.connLive c = false ∨ t0 < (s.dev.conn c).fedAt + clampN (s.dev.fld STG_TCFG c 9 0) 5 500 * 1000000 →
    Ends (.telegramWatchdogExpiry t0 c) s (fun t => t.dev.conn c = s.dev.conn c ∧ OnlyRegs s t [])) ∧
  (∀ (s : State) (t0 c : Nat),
    s.dev.up .safety = false ∨ s.dev.connState c ≠ 1 ∨ t0 < (s.dev.conn c).since + 1000000000 →
    Ends (.connectionOpenTimeout t0 c) s (fun t => t.dev.conn c = s.dev.conn c ∧ OnlyRegs s t [])) ∧
  (∀ (s : State) (t0 c : Nat),
    s.dev.up .safety = false ∨ s.dev.connState c ≠ 4 ∨ t0 < (s.dev.conn c).since + 100000000 →
    Ends (.connectionReopen t0 c) s (fun t => t.dev.conn c = s.dev.conn c ∧ OnlyRegs s t [])) ∧
  (∀ (s : State) (t0 c : Nat),
    s.dev.up .safety = false ∨ s.dev.connState c ≠ 3 ∨ t0 < (s.dev.conn c).since + min 600 (s.dev.fld STG_TCFG c 25 16) * 1000000000 →
    Ends (.graceExpiry t0 c) s (fun t => t.dev.conn c = s.dev.conn c ∧ OnlyRegs s t []))

/-- A frame counts, converts, throttles and shuts down; bands, steps, acknowledgements and fault clears follow their rules. (R453, R455, R465, R467, R469, R470, R474, R475, R476, R483, R485, spec/11_thermal.md) -/
def Obligations.ThermalFramesConvertThrottleAndShutDown : Prop :=
  (∀ (s : State) (t0 : Nat) (codes : List (Nat × Nat)) (a b : Bool),
    s.dev.up .pstage = true ∧ t0 % 1000000 = 0 ∧ s.dev.thm.first = false →
    Ends (.thermalFrame t0 codes a b) s (fun t =>
      t.dev.rd THM_FRAME 0 = s.dev.rd THM_FRAME 0 + 1 ∧
      BytesKept s t 0x141C0000 0x10000 ∧ t.pending = s.pending ∧ t.sys.fuses = s.sys.fuses ∧ PagesKept s t [0x60, 0x61, 0x62, 0x63, 0x64, 0x65])) ∧
  (∀ (s : State) (t0 k c : Nat) (a b : Bool),
    s.dev.up .pstage = true ∧ t0 % 1000000 = 0 ∧ s.dev.thm.first = true ∧ s.dev.pwr.ifaceReset = false →
    k < s.dev.variant.thermals ∧ s.dev.bit THM_ICFG k 31 = true ∧ s.dev.fld THM_ICFG k 25 24 = 0 ∧ c < 65536 →
    Ends (.thermalFrame t0 [(k, c)] a b) s (fun t =>
      t.dev.rd THM_IRAW k = w32 c ∧ t.dev.fld THM_IVAL k 31 16 = pt1000 c ∧ t.dev.rd THM_FRAME 0 = 0)) ∧
  (∀ (s : State) (t0 k o x : Nat) (a b : Bool),
    s.dev.up .pstage = true ∧ t0 % 1000000 = 0 ∧ o < s.dev.variant.outlets ∧ s.dev.omask o = [k] ∧ (s.dev.thmI k).en = true ∧ (s.dev.thmI k).own = some x →
    s.dev.limitsOk k = true ∧ s.dev.thmFlag k 4 = false ∧ s.dev.thmFlag k 5 = false ∧ s.dev.thmFlag k 6 = false ∧ s.dev.throt k ≤ x ∧ x < s.dev.shut k →
    s.dev.inShutdown o = false ∧ (s.dev.thmO o).hot = false ∧ s.dev.fld THM_OSTAT o 15 8 < s.dev.kmax o →
    Ends (.thermalFrame t0 [] a b) s (fun t =>
      t.dev.used k = x ∧ t.dev.fld THM_OSTAT o 15 8 = s.dev.fld THM_OSTAT o 15 8 + 1 ∧ t.dev.fld THM_OSTAT o 1 0 = 1 ∧
      t.dev.rd THM_OCLAIM o = s.dev.thmClaim o (s.dev.fld THM_OSTAT o 15 8 + 1) ∧ t.dev.bit (BLK_EVF 0x60) 0 3 = true)) ∧
  (∀ (s : State) (t0 k o x : Nat) (codes : List (Nat × Nat)) (a b : Bool),
    s.dev.up .pstage = true ∧ t0 % 1000000 = 0 ∧ o < s.dev.variant.outlets ∧ k ∈ s.dev.omask o ∧ (s.dev.thmI k).en = true ∧ (s.dev.thmI k).own = some x →
    s.dev.limitsOk k = false ∧ s.dev.inShutdown o = false →
    Ends (.thermalFrame t0 codes a b) s (fun t =>
      t.dev.fld THM_OSTAT o 1 0 = 2 ∧ t.dev.rd THM_OCLAIM o = BF.zero.word ∧ t.dev.bit (BLK_EVF 0x60) 0 4 = true ∧
      (a = true → t.dev.thm.latched.testBit o = true) ∧ (a = false → t.dev.bit THM_RECSTAT 0 8 = true) ∧
      BytesKept s t 0x141C0000 0x10000)) ∧
  (∀ (s : State) (t0 k a : Nat),
    s.dev.up .pstage = true ∧ (s.dev.thmI k).lowSince = some a ∧ a + 1000000000 ≤ t0 ∧ s.dev.fld THM_ISTAT k 1 0 ≠ 0 →
    Ends (.bandFall t0 k) s (fun t =>
      t.dev.fld THM_ISTAT k 1 0 = s.dev.fld THM_ISTAT k 1 0 - 1 ∧ (t.dev.thmI k).lowSince = none ∧ t.dev.bit (BLK_EVF 0x60) 0 2 = true ∧
      OnlyRegs s t [THM_ISTAT.key k 0, (BLK_EVF 0x60).key 0 0])) ∧
  (∀ (s : State) (t0 o : Nat),
    s.dev.up .pstage = true ∧ o < s.dev.variant.outlets ∧ s.dev.inShutdown o = false ∧ (s.dev.thmO o).hot = true →
    (s.dev.thmO o).dwellFrom + max 1 (s.dev.fld THM_ODWELL o 15 0) * 1000000 ≤ t0 ∧ s.dev.fld THM_OSTAT o 15 8 < s.dev.kmax o →
    Ends (.throttleStep t0 o) s (fun t =>
      t.dev.fld THM_OSTAT o 15 8 = s.dev.fld THM_OSTAT o 15 8 + 1 ∧ t.dev.rd THM_OCLAIM o = s.dev.thmClaim o (s.dev.fld THM_OSTAT o 15 8 + 1) ∧
      (t.dev.thmO o).dwellFrom = (s.dev.thmO o).dwellFrom + max 1 (s.dev.fld THM_ODWELL o 15 0) * 1000000 ∧ t.dev.bit (BLK_EVF 0x60) 0 3 = true ∧
      OnlyRegs s t [THM_OSTAT.key o 0, THM_OCLAIM.key o 0, (BLK_EVF 0x60).key 0 0])) ∧
  (∀ (s : State) (t0 o a : Nat),
    s.dev.up .pstage = true ∧ o < s.dev.variant.outlets ∧ s.dev.inShutdown o = false ∧ (s.dev.thmO o).hot = false ∧ (s.dev.thmO o).coolFrom = some a →
    a + max 1 (s.dev.fld THM_ODWELL o 31 16) * 1000000 ≤ t0 →
    Ends (.throttleStep t0 o) s (fun t =>
      t.dev.fld THM_OSTAT o 15 8 = s.dev.fld THM_OSTAT o 15 8 - 1 ∧ t.dev.rd THM_OCLAIM o = s.dev.thmClaim o (s.dev.fld THM_OSTAT o 15 8 - 1) ∧
      OnlyRegs s t [THM_OSTAT.key o 0, THM_OCLAIM.key o 0])) ∧
  (∀ (s : State) (t0 : Nat) (i : Initiator) (ack : Bool) (rest : BitVec 31) (o : Nat),
    Passes s i THM_OCTL o →
    Ends (.shutdownAck t0 i ack rest) s (fun t =>
      t.dev.thm.ack = (if ack then s.dev.thm.ack ||| 2 ^ o else s.dev.thm.ack) ∧ OnlyRegs s t [])) ∧
  (∀ (s : State) (t0 k o x : Nat) (a b : Bool),
    s.dev.up .pstage = true ∧ t0 % 1000000 = 0 ∧ o < s.dev.variant.outlets ∧ s.dev.omask o = [k] ∧ (s.dev.thmI k).en = true ∧ (s.dev.thmI k).own = some x →
    s.dev.limitsOk k = true ∧ s.dev.thmFlag k 4 = false ∧ s.dev.thmFlag k 5 = false ∧ s.dev.thmFlag k 6 = false ∧ x < s.dev.throt k ∧ x ≤ s.dev.rst k →
    s.dev.inShutdown o = true ∧ s.dev.thm.ack = 2 ^ o →
    Ends (.thermalFrame t0 [] a b) s (fun t =>
      t.dev.inShutdown o = false ∧ t.dev.fld THM_OSTAT o 15 8 = s.dev.kmax o ∧ t.dev.rd THM_OCLAIM o = s.dev.thmClaim o (s.dev.kmax o) ∧ t.dev.thm.ack = 0 ∧
      (a = true → t.dev.thm.latched.testBit o = false) ∧ BytesKept s t 0x141C0000 0x10000)) ∧
  (∀ (s : State) (t0 k o x : Nat) (a b : Bool),
    s.dev.up .pstage = true ∧ t0 % 1000000 = 0 ∧ o < s.dev.variant.outlets ∧ s.dev.omask o = [k] ∧ (s.dev.thmI k).en = true ∧ (s.dev.thmI k).own = some x →
    s.dev.limitsOk k = true ∧ s.dev.thmFlag k 4 = false ∧ s.dev.thmFlag k 5 = false ∧ s.dev.thmFlag k 6 = false ∧ s.dev.rst k < x →
    s.dev.inShutdown o = true ∧ s.dev.thm.ack = 2 ^ o →
    Ends (.thermalFrame t0 [] a b) s (fun t =>
      t.dev.inShutdown o = true ∧ t.dev.bit THM_OSTAT o 18 = true ∧ t.dev.rd THM_OCLAIM o = BF.zero.word ∧ t.dev.thm.ack = 0 ∧ BytesKept s t 0x141C0000 0x10000)) ∧
  (∀ (s : State) (i : Initiator) (v : Word) (c : Nat),
    Passes s i THM_CCTL c ∧ bitOf v 0 = true ∧ s.dev.lswLatched (s.dev.fld THM_CCFG c 28 24) = false ∧ s.dev.fld LSW_CSTAT (s.dev.fld THM_CCFG c 28 24) 12 10 = 0 →
    Ends (.coolingFaultClear i v) s (fun t =>
      t.dev.bit THM_CSTAT c 9 = false ∧ OnlyRegs s t [THM_CSTAT.key c 0])) ∧
  (∀ (s : State) (t0 : Nat) (codes : List (Nat × Nat)) (a b : Bool),
    s.dev.up .pstage = false ∨ t0 % 1000000 ≠ 0 →
    Ends (.thermalFrame t0 codes a b) s (fun t => t.dev.thm = s.dev.thm ∧ OnlyRegs s t [])) ∧
  (∀ (s : State) (t0 k : Nat),
    s.dev.up .pstage = false ∨ s.dev.fld THM_ISTAT k 1 0 = 0 ∨ (∀ a ∈ (s.dev.thmI k).lowSince, t0 < a + 1000000000) →
    Ends (.bandFall t0 k) s (fun t => t.dev.thm = s.dev.thm ∧ OnlyRegs s t [])) ∧
  (∀ (s : State) (t0 o : Nat),
    s.dev.up .pstage = true ∧ o < s.dev.variant.outlets ∧ s.dev.inShutdown o = false ∧ (s.dev.thmO o).hot = true →
    (s.dev.thmO o).dwellFrom + max 1 (s.dev.fld THM_ODWELL o 15 0) * 1000000 ≤ t0 ∧ s.dev.kmax o ≤ s.dev.fld THM_OSTAT o 15 8 →
    Ends (.throttleStep t0 o) s (fun t =>
      (t.dev.thmO o).dwellFrom = (s.dev.thmO o).dwellFrom + max 1 (s.dev.fld THM_ODWELL o 15 0) * 1000000 ∧ OnlyRegs s t [])) ∧
  (∀ (s : State) (t0 o : Nat),
    s.dev.up .pstage = false ∨ s.dev.variant.outlets ≤ o ∨ s.dev.inShutdown o = true ∨
      ((s.dev.thmO o).hot = true ∧ t0 < (s.dev.thmO o).dwellFrom + max 1 (s.dev.fld THM_ODWELL o 15 0) * 1000000) ∨
      ((s.dev.thmO o).hot = false ∧ ∀ a ∈ (s.dev.thmO o).coolFrom, t0 < a + max 1 (s.dev.fld THM_ODWELL o 31 16) * 1000000) →
    Ends (.throttleStep t0 o) s (fun t => t.dev.thm = s.dev.thm ∧ OnlyRegs s t [])) ∧
  (∀ (s : State) (i : Initiator) (v : Word) (c : Nat),
    Passes s i THM_CCTL c →
    bitOf v 0 = false ∨ s.dev.lswLatched (s.dev.fld THM_CCFG c 28 24) = true ∨ s.dev.fld LSW_CSTAT (s.dev.fld THM_CCFG c 28 24) 12 10 ≠ 0 →
    Ends (.coolingFaultClear i v) s (fun t => t.dev.bit THM_CSTAT c 9 = s.dev.bit THM_CSTAT c 9 ∧ OnlyRegs s t []))

/-- A channel follows its command, completes or fails its turn-on, latches each fault once, and clears as Table 12.1 says. (R492, R493, R494, R497, R500, R501, R502, R503, R505, R506, R513, spec/12_load_switches.md) -/
def Obligations.LoadSwitchesDriveAndLatch : Prop :=
  (∀ (s : State) (i : Initiator) (v : Word) (n : Nat),
    Passes s i LSW_CCTL n ∧ s.dev.lsw.linkLost = false ∧ s.dev.lswOwners n = [] ∧ s.dev.lswLatched n = false ∧ s.dev.retryBlocks n = false →
    s.dev.bit LSW_CSTAT n 13 = false ∧ s.dev.bit LSW_CCFG n 31 = true ∧ s.dev.pwr.ifaceReset = false ∧ s.dev.lswSt n = 0 →
    bitOf v 0 = true ∧ bits v 14 8 ≠ 0 →
    Ends (.loadSwitchCommand i v) s (fun t =>
      t.dev.rd LSW_CCTL n = v &&& 0x03FF7F01 ∧ t.dev.lswSt n = 1 ∧ (t.dev.lswC n).startAt = s.dev.time ∧
      OnlyRegs s t [LSW_CCTL.key n 0, LSW_CSTAT.key n 0, LSW_ONSUM.key 0 0, LSW_TLSUM.key 0 0])) ∧
  (∀ (s : State) (i : Initiator) (v : Word) (n : Nat),
    Passes s i LSW_CCTL n ∧ s.dev.lsw.linkLost = false ∧ s.dev.lswOwners n = [] ∧ s.dev.lswLatched n = false ∧ s.dev.retryBlocks n = false ∧ s.dev.bit LSW_CSTAT n 13 = false →
    bitOf v 0 = false ∨ bits v 14 8 = 0 →
    Ends (.loadSwitchCommand i v) s (fun t =>
      t.dev.rd LSW_CCTL n = v &&& 0x03FF7F01 ∧ t.dev.lswSt n = 0 ∧ t.dev.bit LSW_ONSUM 0 n = false ∧
      OnlyRegs s t [LSW_CCTL.key n 0, LSW_CSTAT.key n 0, LSW_ONSUM.key 0 0, LSW_TLSUM.key 0 0])) ∧
  (∀ (s : State) (t0 n a b c : Nat) (l : List Nat),
    n < s.dev.variant.loadSwitches ∧ s.dev.pwr.ifaceReset = false ∧ s.dev.lswSt n = 1 ∧ a ≤ 50 ∧ b ≤ 50 ∧ c ≤ 50 →
    s.dev.lswLatched n = false ∧ s.dev.retryBlocks n = false ∧ s.dev.bit LSW_CSTAT n 13 = false ∧ s.dev.bit LSW_CCFG n 31 = true ∧ s.dev.lswCmd n = true ∧ s.dev.lsw.linkLost = false →
    Ends (.turnOnComplete t0 n (a :: b :: c :: l)) s (fun t =>
      t.dev.lswSt n = 2 ∧ t.dev.bit LSW_ONSUM 0 n = true ∧ (t.dev.lswC n).onAt = some t0 ∧
      OnlyRegs s t [LSW_CSTAT.key n 0, LSW_ONSUM.key 0 0, LSW_TLSUM.key 0 0])) ∧
  (∀ (s : State) (t0 n : Nat),
    n < s.dev.variant.loadSwitches ∧ s.dev.pwr.ifaceReset = false ∧ s.dev.lswSt n = 1 ∧ (s.dev.lswC n).startAt + max 1 (s.dev.fld LSW_CCFG n 7 0) * 1000000 ≤ t0 →
    Ends (.inrushTimeout t0 n) s (fun t =>
      t.dev.bit LSW_CSTAT n 7 = true ∧ t.dev.lswSt n = 4 ∧ t.dev.bit LSW_FLTSUM 0 n = true ∧ t.dev.bit (BLK_EVF 0x64) 0 6 = true ∧
      t.dev.fld LSW_CFCNT n 15 0 = min (s.dev.fld LSW_CFCNT n 15 0 + 1) 65535 ∧ (∀ c ∈ s.dev.lswOwners n, t.dev.bit THM_CSTAT c 9 = true) ∧
      OnlyPages s t [0x60, 0x63, 0x64, 0x65])) ∧
  (∀ (s : State) (t0 n : Nat) (l : List Nat),
    n < s.dev.variant.loadSwitches ∧ s.dev.pwr.ifaceReset = false ∧ s.dev.lswSt n = 2 ∧ max 1 (s.dev.fld LSW_COC n 31 24) ≤ l.length →
    (l.take (max 1 (s.dev.fld LSW_COC n 31 24))).all (fun x => decide (s.dev.fld LSW_COC n 15 0 * s.dev.rshunt n < x * 1000)) = true →
    Ends (.overcurrent t0 n l) s (fun t =>
      t.dev.bit LSW_CSTAT n 5 = true ∧ t.dev.lswSt n = 4 ∧ t.dev.bit LSW_FLTSUM 0 n = true ∧ t.dev.bit (BLK_EVF 0x64) 0 0 = true ∧
      t.dev.fld LSW_CFCNT n 15 0 = min (s.dev.fld LSW_CFCNT n 15 0 + 1) 65535 ∧ OnlyPages s t [0x60, 0x63, 0x64, 0x65])) ∧
  (∀ (s : State) (t0 n x : Nat),
    n < s.dev.variant.loadSwitches ∧ s.dev.pwr.ifaceReset = false ∧ (s.dev.lswSt n = 1 ∨ s.dev.lswSt n = 2) →
    clampN (s.dev.fld LSW_COC n 20 16) 1 25 * 1000 < x →
    Ends (.shortCircuit t0 n x) s (fun t =>
      t.dev.bit LSW_CSTAT n 6 = true ∧ t.dev.lswSt n = 4 ∧ t.dev.bit LSW_FLTSUM 0 n = true ∧ t.dev.bit (BLK_EVF 0x64) 0 1 = true ∧
      t.dev.fld LSW_CFCNT n 15 0 = min (s.dev.fld LSW_CFCNT n 15 0 + 1) 65535 ∧ OnlyPages s t [0x60, 0x63, 0x64, 0x65])) ∧
  (∀ (s : State) (t0 n v : Nat) (cur outs : List Nat),
    s.dev.up .pstage = true ∧ n < s.dev.variant.loadSwitches ∧ (s.dev.lswSt n = 1 ∨ s.dev.lswSt n = 2) →
    s.dev.fld LSW_CI2T n 31 16 * 1000000 ≤ (s.dev.lswC n).acc + cur.getD n 0 * cur.getD n 0 - s.dev.fld LSW_CI2T n 15 0 * s.dev.fld LSW_CI2T n 15 0 →
    Ends (.fetModelUpdate t0 cur outs v) s (fun t =>
      t.dev.bit LSW_CSTAT n 8 = true ∧ t.dev.lswSt n = (if s.dev.bit LSW_CSTAT n 8 then s.dev.lswSt n else 4) ∧
      (t.dev.lswC n).acc = (s.dev.lswC n).acc + cur.getD n 0 * cur.getD n 0 - s.dev.fld LSW_CI2T n 15 0 * s.dev.fld LSW_CI2T n 15 0 ∧
      t.dev.fld LSW_VAUX 0 15 0 = v % 65536 ∧ t.dev.fld LSW_CIMEAS n 31 16 = outs.getD n 0 % 65536 ∧ OnlyPages s t [0x60, 0x63, 0x64, 0x65])) ∧
  (∀ (s : State) (i : Initiator) (v : Word) (n : Nat),
    Passes s i LSW_CCTL n ∧ s.dev.lsw.linkLost = false ∧ s.dev.lswOwners n = [] ∧ bits v 31 29 = 1 →
    Ends (.loadFaultClear i v) s (fun t =>
      t.dev.fld LSW_CSTAT n 7 5 = 0 ∧ t.dev.bit LSW_CSTAT n 8 = s.dev.bit LSW_CSTAT n 8 ∧ t.dev.fld LSW_CSTAT n 31 24 = s.dev.fld LSW_CSTAT n 31 24 ∧
      OnlyRegs s t [LSW_CCTL.key n 0, LSW_CSTAT.key n 0, LSW_ONSUM.key 0 0, LSW_TLSUM.key 0 0])) ∧
  (∀ (s : State) (i : Initiator) (v : Word) (n : Nat),
    Passes s i LSW_CCTL n ∧ s.dev.lsw.linkLost = false ∧ s.dev.lswOwners n = [] ∧ bits v 31 29 = 2 →
    (s.dev.lswC n).acc * 2 ≤ s.dev.fld LSW_CI2T n 31 16 * 1000000 ∧ (s.dev.lswC n).tfet + 2000 * 2 ^ 32 ≤ s.dev.fld LSW_CTLIM n 15 0 * 2 ^ 32 →
    Ends (.thermalLatchClear i v) s (fun t =>
      t.dev.bit LSW_CSTAT n 8 = false ∧ t.dev.fld LSW_CSTAT n 31 24 = 0 ∧ t.dev.fld LSW_CSTAT n 7 5 = s.dev.fld LSW_CSTAT n 7 5 ∧
      OnlyRegs s t [LSW_CCTL.key n 0, LSW_CSTAT.key n 0, LSW_ONSUM.key 0 0, LSW_TLSUM.key 0 0])) ∧
  (∀ (s : State) (i : Initiator) (v : Word) (n : Nat),
    Passes s i LSW_CCTL n ∧ s.dev.lsw.linkLost = false ∧ s.dev.lswOwners n = [] ∧ bits v 31 29 = 2 →
    s.dev.fld LSW_CI2T n 31 16 * 1000000 < (s.dev.lswC n).acc * 2 ∨ s.dev.fld LSW_CTLIM n 15 0 * 2 ^ 32 < (s.dev.lswC n).tfet + 2000 * 2 ^ 32 →
    Ends (.thermalLatchClear i v) s (fun t =>
      t.dev.bit LSW_CSTAT n 14 = true ∧ t.dev.bit LSW_CSTAT n 8 = s.dev.bit LSW_CSTAT n 8 ∧ t.dev.fld LSW_CSTAT n 31 24 = s.dev.fld LSW_CSTAT n 31 24 ∧
      OnlyRegs s t [LSW_CCTL.key n 0, LSW_CSTAT.key n 0, LSW_ONSUM.key 0 0, LSW_TLSUM.key 0 0])) ∧
  (∀ (s : State) (i : Initiator) (v : Word) (n : Nat),
    Passes s i LSW_CCTL n ∧ s.dev.lsw.linkLost = false ∧ s.dev.lswOwners n = [] ∧ bits v 31 29 = 4 →
    Ends (.retryClear i v) s (fun t =>
      t.dev.fld LSW_CSTAT n 31 24 = 0 ∧ t.dev.bit LSW_CSTAT n 9 = false ∧ t.dev.fld LSW_CSTAT n 8 5 = s.dev.fld LSW_CSTAT n 8 5 ∧
      OnlyRegs s t [LSW_CCTL.key n 0, LSW_CSTAT.key n 0, LSW_ONSUM.key 0 0, LSW_TLSUM.key 0 0])) ∧
  (∀ (s : State) (i : Initiator) (v : Word) (n : Nat),
    Passes s i LSW_CCTL n ∧ s.dev.lsw.linkLost = false ∧ s.dev.lswOwners n = [] →
    Ends (.loadSwitchCommand i v) s (fun t =>
      let st := s.dev.lswTakes n (bitOf v 0 && decide (bits v 14 8 ≠ 0))
      t.dev.rd LSW_CCTL n = v &&& 0x03FF7F01 ∧ t.dev.lswSt n = st ∧ t.dev.bit LSW_ONSUM 0 n = decide (st = 2) ∧
      (st = 1 → s.dev.lswSt n ≠ 1 → (t.dev.lswC n).startAt = s.dev.time) ∧
      OnlyRegs s t [LSW_CCTL.key n 0, LSW_CSTAT.key n 0, LSW_ONSUM.key 0 0, LSW_TLSUM.key 0 0])) ∧
  (∀ (s : State) (i : Initiator) (v : Word) (n : Nat),
    Passes s i LSW_CCTL n ∧ s.dev.lsw.linkLost = false ∧ s.dev.lswOwners n ≠ [] →
    Ends (.loadSwitchCommand i v) s (fun t =>
      t.dev.rd LSW_CCTL n = s.dev.rd LSW_CCTL n ∧ (s.dev.bit (BLK_ERR 0x64) 0 31 = false → t.dev.rd (BLK_ERR 0x64) 0 = errWord 7 i 0x420) ∧
      OnlyRegs s t [(BLK_ERR 0x64).key 0 0, LSW_CCTL.key n 0, LSW_CSTAT.key n 0, LSW_ONSUM.key 0 0, LSW_TLSUM.key 0 0])) ∧
  (∀ (s : State) (i : Initiator) (v : Word) (n : Nat),
    Passes s i LSW_CCTL n ∧ s.dev.lsw.linkLost = true ∧ s.dev.lswOwners n = [] →
    Ends (.loadSwitchCommand i v) s (fun t =>
      t.dev.rd LSW_CCTL n = v &&& 0x03FF7F01 ∧ t.dev.lsw.linkLost = false ∧
      (∀ m : Nat, m < s.dev.variant.loadSwitches → m ≠ n →
        t.dev.lswSt m = { s.dev with lsw := { s.dev.lsw with linkLost := false } }.lswTakes m (s.dev.lswCmd m)) ∧
      OnlyPages s t [0x64, 0x65])) ∧
  (∀ (s : State) (i : Initiator) (v : Word) (n : Nat),
    Passes s i LSW_CCTL n ∧ s.dev.lsw.linkLost = false →
    Ends (.loadFaultClear i v) s (fun t =>
      t.dev.fld LSW_CSTAT n 7 5 = 0 ∧ (s.dev.lswOwners n = [] → t.dev.rd LSW_CCTL n = v &&& 0x03FF7F01) ∧
      (s.dev.lswOwners n ≠ [] → t.dev.rd LSW_CCTL n = s.dev.rd LSW_CCTL n) ∧
      OnlyRegs s t [(BLK_ERR 0x64).key 0 0, LSW_CCTL.key n 0, LSW_CSTAT.key n 0, LSW_ONSUM.key 0 0, LSW_TLSUM.key 0 0])) ∧
  (∀ (s : State) (i : Initiator) (v : Word) (n : Nat),
    Passes s i LSW_CCTL n ∧ s.dev.lsw.linkLost = false →
    Ends (.thermalLatchClear i v) s (fun t =>
      let ok := (s.dev.lswC n).acc * 2 ≤ s.dev.fld LSW_CI2T n 31 16 * 1000000 ∧ (s.dev.lswC n).tfet + 2000 * 2 ^ 32 ≤ s.dev.fld LSW_CTLIM n 15 0 * 2 ^ 32
      (ok → t.dev.bit LSW_CSTAT n 8 = false ∧ t.dev.fld LSW_CSTAT n 31 24 = 0) ∧ (¬ ok → t.dev.bit LSW_CSTAT n 14 = true ∧ t.dev.bit LSW_CSTAT n 8 = s.dev.bit LSW_CSTAT n 8) ∧
      (s.dev.lswOwners n = [] → t.dev.rd LSW_CCTL n = v &&& 0x03FF7F01) ∧ (s.dev.lswOwners n ≠ [] → t.dev.rd LSW_CCTL n = s.dev.rd LSW_CCTL n) ∧
      OnlyRegs s t [(BLK_ERR 0x64).key 0 0, LSW_CCTL.key n 0, LSW_CSTAT.key n 0, LSW_ONSUM.key 0 0, LSW_TLSUM.key 0 0])) ∧
  (∀ (s : State) (i : Initiator) (v : Word) (n : Nat),
    Passes s i LSW_CCTL n ∧ s.dev.lsw.linkLost = false →
    Ends (.retryClear i v) s (fun t =>
      t.dev.fld LSW_CSTAT n 31 24 = 0 ∧ t.dev.bit LSW_CSTAT n 9 = false ∧
      (s.dev.lswOwners n = [] → t.dev.rd LSW_CCTL n = v &&& 0x03FF7F01) ∧ (s.dev.lswOwners n ≠ [] → t.dev.rd LSW_CCTL n = s.dev.rd LSW_CCTL n) ∧
      OnlyRegs s t [(BLK_ERR 0x64).key 0 0, LSW_CCTL.key n 0, LSW_CSTAT.key n 0, LSW_ONSUM.key 0 0, LSW_TLSUM.key 0 0])) ∧
  (∀ (s : State) (t0 n : Nat) (l : List Nat),
    s.dev.variant.loadSwitches ≤ n ∨ s.dev.pwr.ifaceReset = true ∨ s.dev.lswSt n ≠ 1 ∨ l.length < 3 ∨ (l.take 3).any (fun x => decide (50 < x)) = true →
    Ends (.turnOnComplete t0 n l) s (fun t =>
      t.dev.lsw = s.dev.lsw ∧ OnlyRegs s t [])) ∧
  (∀ (s : State) (t0 n : Nat),
    s.dev.variant.loadSwitches ≤ n ∨ s.dev.pwr.ifaceReset = true ∨ s.dev.lswSt n ≠ 1 ∨ t0 < (s.dev.lswC n).startAt + max 1 (s.dev.fld LSW_CCFG n 7 0) * 1000000 →
    Ends (.inrushTimeout t0 n) s (fun t =>
      t.dev.lsw = s.dev.lsw ∧ OnlyRegs s t [])) ∧
  (∀ (s : State) (t0 n : Nat) (l : List Nat),
    s.dev.variant.loadSwitches ≤ n ∨ s.dev.pwr.ifaceReset = true ∨ s.dev.lswSt n ≠ 2 ∨ l.length < max 1 (s.dev.fld LSW_COC n 31 24) ∨
      (l.take (max 1 (s.dev.fld LSW_COC n 31 24))).all (fun x => decide (s.dev.fld LSW_COC n 15 0 * s.dev.rshunt n < x * 1000)) = false →
    Ends (.overcurrent t0 n l) s (fun t =>
      t.dev.lsw = s.dev.lsw ∧ OnlyRegs s t [])) ∧
  (∀ (s : State) (t0 n x : Nat),
    s.dev.variant.loadSwitches ≤ n ∨ s.dev.pwr.ifaceReset = true ∨ s.dev.lswSt n ≠ 1 ∧ s.dev.lswSt n ≠ 2 ∨ x ≤ clampN (s.dev.fld LSW_COC n 20 16) 1 25 * 1000 →
    Ends (.shortCircuit t0 n x) s (fun t =>
      t.dev.lsw = s.dev.lsw ∧ OnlyRegs s t [])) ∧
  (∀ (s : State) (t0 n v : Nat) (cur outs : List Nat),
    s.dev.up .pstage = true ∧ n < s.dev.variant.loadSwitches →
    Ends (.fetModelUpdate t0 cur outs v) s (fun t =>
      let i := if s.dev.lswSt n = 1 ∨ s.dev.lswSt n = 2 then cur.getD n 0 else 0
      let goal : Int := (s.dev.fld (THM_DIE 9) 0 15 0 * 2 ^ 32 + i * i * s.dev.fld LSW_CFET n 15 0 * s.dev.fld LSW_CFET n 31 24 * 2 ^ 32 / 20000000 : Nat)
      let a := (s.dev.lswC n).acc + i * i - s.dev.fld LSW_CI2T n 15 0 * s.dev.fld LSW_CI2T n 15 0
      let tf := (((s.dev.lswC n).tfet : Int) + (goal - ((s.dev.lswC n).tfet : Int)) / ((max 1 (s.dev.fld LSW_CFET n 23 16) * 10 : Nat) : Int)).toNat
      (t.dev.lswC n).acc = a ∧ (t.dev.lswC n).tfet = tf ∧ t.dev.fld LSW_CIMEAS n 15 0 = min i 65535 ∧ t.dev.fld LSW_CTFET n 15 0 = min (tf / 2 ^ 32) 65535 ∧
      (t.dev.rd LSW_CI2TACC n).toNat = min (a / 100000) (2 ^ 32 - 1) ∧
      (s.dev.fld LSW_CI2T n 31 16 * 1000000 ≤ a ∨ s.dev.fld LSW_CTLIM n 15 0 * 2 ^ 32 ≤ tf → t.dev.bit LSW_CSTAT n 8 = true ∧ t.dev.lswSt n = (if s.dev.bit LSW_CSTAT n 8 then s.dev.lswSt n else 4)) ∧
      (a < s.dev.fld LSW_CI2T n 31 16 * 1000000 ∧ tf < s.dev.fld LSW_CTLIM n 15 0 * 2 ^ 32 → t.dev.rd LSW_CSTAT n = s.dev.rd LSW_CSTAT n) ∧
      OnlyPages s t [0x60, 0x63, 0x64, 0x65])) ∧
  (∀ (s : State) (t0 v : Nat) (cur outs : List Nat),
    s.dev.up .pstage = false →
    Ends (.fetModelUpdate t0 cur outs v) s (fun t =>
      t.dev.lsw = s.dev.lsw ∧ OnlyRegs s t []))

/-- Under-voltage turns every channel off until its restart delay; open loads are detected on and off; a lost link turns all off. (R509, R510, R511, R512, R513, R514, R515, R517, R519, spec/12_load_switches.md) -/
def Obligations.LoadSwitchesAndTheirSupply : Prop :=
  (∀ (s : State) (t0 v : Nat),
    v < 720 ∧ s.dev.bit LSW_VAUX 0 16 = false →
    Ends (.vauxUndervoltage t0 v) s (fun t =>
      t.dev.bit LSW_VAUX 0 16 = true ∧ (t.dev.rd LSW_UVCNT 0).toNat = min ((s.dev.rd LSW_UVCNT 0).toNat + 1) 0xFFFFFFFF ∧ t.dev.bit (BLK_EVF 0x64) 0 3 = true ∧
      (∀ n : Nat, n < s.dev.variant.loadSwitches → t.dev.lswSt n = (if s.dev.lswLatched n || s.dev.retryBlocks n then 4 else 3) ∧ t.dev.bit LSW_ONSUM 0 n = false) ∧
      OnlyPages s t [0x64, 0x65])) ∧
  (∀ (s : State) (t0 v : Nat),
    770 < v ∧ s.dev.bit LSW_VAUX 0 16 = true →
    Ends (.vauxUndervoltageEnd t0 v) s (fun t =>
      t.dev.bit LSW_VAUX 0 16 = false ∧ t.dev.fld LSW_VAUX 0 15 0 = v % 65536 ∧
      (∀ n : Nat, n < s.dev.variant.loadSwitches → (t.dev.lswC n).rdlyFrom = some t0) ∧ OnlyRegs s t [LSW_VAUX.key 0 0])) ∧
  (∀ (s : State) (t0 n a : Nat),
    n < s.dev.variant.loadSwitches ∧ s.dev.pwr.ifaceReset = false ∧ (s.dev.lswC n).rdlyFrom = some a ∧ a + max 1 (s.dev.fld LSW_CRETRY n 7 0) * 1000000 ≤ t0 →
    s.dev.lswCmd n = true ∧ s.dev.fld LSW_CSTAT n 31 24 < 255 ∧ s.dev.lswLatched n = false ∧ s.dev.bit LSW_CCFG n 31 = true ∧ s.dev.lsw.linkLost = false ∧ s.dev.lswSt n = 3 →
    s.dev.fld LSW_CRETRY n 15 8 = 0 ∨ s.dev.fld LSW_CSTAT n 31 24 + 1 < s.dev.fld LSW_CRETRY n 15 8 →
    Ends (.restartDelayExpiry t0 n) s (fun t =>
      t.dev.lswSt n = 1 ∧ t.dev.fld LSW_CSTAT n 31 24 = s.dev.fld LSW_CSTAT n 31 24 + 1 ∧ (t.dev.lswC n).rdlyFrom = none ∧ t.dev.bit LSW_CSTAT n 13 = false ∧
      OnlyRegs s t [LSW_CSTAT.key n 0, LSW_ONSUM.key 0 0, LSW_TLSUM.key 0 0])) ∧
  (∀ (s : State) (t0 n a : Nat),
    n < s.dev.variant.loadSwitches ∧ s.dev.pwr.ifaceReset = false ∧ (s.dev.lswC n).rdlyFrom = some a ∧ a + max 1 (s.dev.fld LSW_CRETRY n 7 0) * 1000000 ≤ t0 →
    s.dev.lswCmd n = true ∧ s.dev.fld LSW_CSTAT n 31 24 + 1 = s.dev.fld LSW_CRETRY n 15 8 ∧ (s.dev.lswC n).limitHit = false →
    Ends (.restartDelayExpiry t0 n) s (fun t =>
      t.dev.lswSt n = 4 ∧ t.dev.bit LSW_CSTAT n 9 = true ∧ t.dev.fld LSW_CSTAT n 31 24 = s.dev.fld LSW_CRETRY n 15 8 ∧ t.dev.bit (BLK_EVF 0x64) 0 5 = true ∧
      OnlyRegs s t [LSW_CSTAT.key n 0, LSW_ONSUM.key 0 0, LSW_TLSUM.key 0 0, (BLK_EVF 0x64).key 0 0])) ∧
  (∀ (s : State) (t0 n a : Nat),
    n < s.dev.variant.loadSwitches ∧ s.dev.pwr.ifaceReset = false ∧ (s.dev.lswC n).onAt = some a ∧ s.dev.lswSt n = 2 ∧ a + 10000000000 ≤ t0 →
    Ends (.retryResetTimeout t0 n) s (fun t =>
      t.dev.fld LSW_CSTAT n 31 24 = 0 ∧ OnlyRegs s t [LSW_CSTAT.key n 0, LSW_ONSUM.key 0 0, LSW_TLSUM.key 0 0])) ∧
  (∀ (s : State) (t0 n ma low : Nat),
    n < s.dev.variant.loadSwitches ∧ s.dev.pwr.ifaceReset = false ∧ s.dev.lswSt n = 2 ∧ ma < s.dev.fld LSW_COL n 31 16 ∧ max 1 (s.dev.fld LSW_COL n 15 8) * 1000000 ≤ low →
    Ends (.openLoadOn t0 n ma low) s (fun t =>
      t.dev.bit LSW_CSTAT n 10 = true ∧ t.dev.lswSt n = 2 ∧ (s.dev.bit LSW_CSTAT n 10 = false → t.dev.bit (BLK_EVF 0x64) 0 4 = true) ∧
      OnlyPages s t [0x60, 0x63, 0x64, 0x65])) ∧
  (∀ (s : State) (t0 n : Nat) (fl pu : List Nat),
    s.dev.variant = .px4840 ∧ n < s.dev.variant.loadSwitches ∧ s.dev.pwr.ifaceReset = false ∧ s.dev.bit LSW_CCFG n 24 = true ∧ s.dev.lswSt n = 0 ∧ 100 ≤ s.dev.fld LSW_CCTL n 14 8 →
    s.dev.bit LSW_VAUX 0 16 = false ∧ s.dev.bit LSW_CSTAT n 13 = false ∧ (s.dev.lswC n).testAt + 100000000 ≤ t0 →
    Ends (.offStateTest t0 n fl pu) s (fun t =>
      let sh := (fl.take 5).any (fun v => decide (200 ≤ v))
      let op := (pu.take 5).any (fun v => decide (s.dev.fld LSW_COL n 7 0 * 10 ≤ v))
      t.dev.bit LSW_CSTAT n 12 = (s.dev.bit LSW_CSTAT n 12 || sh) ∧ t.dev.bit LSW_CSTAT n 11 = (s.dev.bit LSW_CSTAT n 11 || (op && !sh)) ∧
      (sh = true → s.dev.bit LSW_CSTAT n 12 = false → t.dev.bit (BLK_EVF 0x64) 0 4 = true) ∧ OnlyPages s t [0x60, 0x63, 0x64, 0x65])) ∧
  (∀ (s : State) (t0 q : Nat),
    100000 ≤ q →
    Ends (.commandLinkLoss t0 q) s (fun t =>
      (∀ n : Nat, n < s.dev.variant.loadSwitches → t.dev.lswSt n = (if s.dev.lswLatched n || s.dev.retryBlocks n then 4 else if s.dev.bit LSW_CSTAT n 13 then 3 else 0) ∧ t.dev.bit LSW_ONSUM 0 n = false) ∧
      t.dev.lsw.linkLost = true ∧ OnlyPages s t [0x64, 0x65])) ∧
  (∀ (s : State) (t0 v : Nat),
    720 ≤ v ∨ s.dev.bit LSW_VAUX 0 16 = true →
    Ends (.vauxUndervoltage t0 v) s (fun t =>
      t.dev.lsw = s.dev.lsw ∧ OnlyRegs s t [])) ∧
  (∀ (s : State) (t0 v : Nat),
    v ≤ 770 ∨ s.dev.bit LSW_VAUX 0 16 = false →
    Ends (.vauxUndervoltageEnd t0 v) s (fun t =>
      t.dev.lsw = s.dev.lsw ∧ OnlyRegs s t [])) ∧
  (∀ (s : State) (t0 n a : Nat),
    n < s.dev.variant.loadSwitches ∧ s.dev.pwr.ifaceReset = false ∧ (s.dev.lswC n).rdlyFrom = some a ∧ a + max 1 (s.dev.fld LSW_CRETRY n 7 0) * 1000000 ≤ t0 →
    s.dev.lswCmd n = true →
    Ends (.restartDelayExpiry t0 n) s (fun t =>
      t.dev.fld LSW_CSTAT n 31 24 = min (s.dev.fld LSW_CSTAT n 31 24 + 1) 255 ∧ (t.dev.lswC n).rdlyFrom = none ∧ t.dev.bit LSW_CSTAT n 13 = false ∧
      t.dev.bit LSW_CSTAT n 9 = (decide (s.dev.fld LSW_CRETRY n 15 8 ≠ 0) && decide (s.dev.fld LSW_CRETRY n 15 8 ≤ min (s.dev.fld LSW_CSTAT n 31 24 + 1) 255)) ∧
      (t.dev.bit LSW_CSTAT n 9 = true → t.dev.lswSt n = 4) ∧
      OnlyRegs s t [LSW_CSTAT.key n 0, LSW_ONSUM.key 0 0, LSW_TLSUM.key 0 0, (BLK_EVF 0x64).key 0 0])) ∧
  (∀ (s : State) (t0 n a : Nat),
    n < s.dev.variant.loadSwitches ∧ s.dev.pwr.ifaceReset = false ∧ (s.dev.lswC n).rdlyFrom = some a ∧ a + max 1 (s.dev.fld LSW_CRETRY n 7 0) * 1000000 ≤ t0 →
    s.dev.lswCmd n = false ∧ s.dev.lswLatched n = false ∧ s.dev.retryBlocks n = false →
    Ends (.restartDelayExpiry t0 n) s (fun t =>
      t.dev.fld LSW_CSTAT n 31 24 = s.dev.fld LSW_CSTAT n 31 24 ∧ (t.dev.lswC n).rdlyFrom = none ∧ t.dev.bit LSW_CSTAT n 13 = false ∧ t.dev.lswSt n = 0 ∧
      OnlyRegs s t [LSW_CSTAT.key n 0, LSW_ONSUM.key 0 0, LSW_TLSUM.key 0 0])) ∧
  (∀ (s : State) (t0 n : Nat),
    s.dev.variant.loadSwitches ≤ n ∨ s.dev.pwr.ifaceReset = true ∨ ((s.dev.lswC n).rdlyFrom.map (fun a => decide (t0 < a + max 1 (s.dev.fld LSW_CRETRY n 7 0) * 1000000))).getD true = true →
    Ends (.restartDelayExpiry t0 n) s (fun t =>
      t.dev.lsw = s.dev.lsw ∧ OnlyRegs s t [])) ∧
  (∀ (s : State) (t0 n : Nat),
    s.dev.variant.loadSwitches ≤ n ∨ s.dev.pwr.ifaceReset = true ∨ s.dev.lswSt n ≠ 2 ∨ ((s.dev.lswC n).onAt.map (fun a => decide (t0 < a + 10000000000))).getD true = true →
    Ends (.retryResetTimeout t0 n) s (fun t =>
      t.dev.lsw = s.dev.lsw ∧ OnlyRegs s t [])) ∧
  (∀ (s : State) (t0 n ma low : Nat),
    s.dev.variant.loadSwitches ≤ n ∨ s.dev.pwr.ifaceReset = true ∨ s.dev.lswSt n ≠ 2 ∨ s.dev.fld LSW_COL n 31 16 ≤ ma ∨ low < max 1 (s.dev.fld LSW_COL n 15 8) * 1000000 →
    Ends (.openLoadOn t0 n ma low) s (fun t =>
      t.dev.lsw = s.dev.lsw ∧ OnlyRegs s t [])) ∧
  (∀ (s : State) (t0 n : Nat) (fl pu : List Nat),
    s.dev.variant ≠ .px4840 ∨ s.dev.variant.loadSwitches ≤ n ∨ s.dev.pwr.ifaceReset = true ∨ s.dev.bit LSW_CCFG n 24 = false ∨ s.dev.lswSt n ≠ 0 ∨ s.dev.fld LSW_CCTL n 14 8 < 100 ∨
      s.dev.bit LSW_VAUX 0 16 = true ∨ s.dev.bit LSW_CSTAT n 13 = true ∨ t0 < (s.dev.lswC n).testAt + 100000000 →
    Ends (.offStateTest t0 n fl pu) s (fun t =>
      t.dev.lsw = s.dev.lsw ∧ OnlyRegs s t [])) ∧
  (∀ (s : State) (t0 q : Nat),
    q < 100000 →
    Ends (.commandLinkLoss t0 q) s (fun t =>
      t.dev.lsw = s.dev.lsw ∧ OnlyRegs s t []))

/-- Vehicle links measure attenuation and move frames through their rings; pilots generate, classify and accept. (R525, R526, R531, R532, R534, R536, spec/13_vehicle_and_field_links.md) -/
def Obligations.VehicleLinksAndPilots : Prop :=
  (∀ (s : State) (i : Initiator) (v : Word) (n : Nat),
    Passes s i VLK_ATTCTL n ∧ s.dev.greenPhy n = true ∧ bitOf v 0 = true →
    Ends (.attenuationStart i v) s (fun t =>
      (t.dev.vlk n).att = some (s.dev.time, max 1 (bits v 15 8)) ∧ t.dev.fld VLK_LSTAT n 15 4 = 0 ∧ OnlyRegs s t [VLK_LSTAT.key n 0])) ∧
  (∀ (s : State) (t0 n a k g : Nat) (l : List (List (Option Nat))),
    (s.dev.vlk n).att = some (a, k) ∧ s.dev.greenPhy n = true ∧ k ≤ l.length ∧ k < 256 ∧ g < 60 →
    Ends (.attenuationDone t0 n l) s (fun t =>
      bits (t.dev.rd (VLK_ATT (g / 4)) n) (8 * (g % 4) + 7) (8 * (g % 4)) = (if 58 ≤ g then 0xFF else meanDb ((l.take k).filterMap (fun x => (x[g]?).join))) ∧
      (t.dev.vlk n).att = none ∧ t.dev.bit VLK_LSTAT n 4 = true ∧ t.dev.fld VLK_LSTAT n 15 8 = k ∧ t.dev.bit (BLK_EVF 0x68) 0 2 = true ∧ OnlyPages s t [0x68, 0x69])) ∧
  (∀ (s : State) (i : Initiator) (v : Word) (n a : Nat) (x : Desc),
    Passes s i VLK_KICK n ∧ bitOf v 0 = true ∧ s.dev.vlkRings n = true ∧ (s.dev.vlk n).ring.busy = false →
    s.sys.take (s.dev.vlkCfg n).txBase (s.dev.vlkCfg n).txLen (s.dev.vlk n).ring.txPos = .own a x →
    Ends (.vlkTxPoll i v) s (fun t =>
      (t.dev.vlk n).ring.busy = true ∧ (t.dev.vlk n).ring.readyAt = s.dev.time ∧ t.dev.bit VLK_LSTAT n 1 = true ∧ OnlyRegs s t [VLK_LSTAT.key n 0])) ∧
  (∀ (s : State) (i : Initiator) (v : Word) (n : Nat),
    Passes s i VLK_KICK n ∧ bitOf v 0 = true ∧ s.dev.vlkRings n = true ∧ (s.dev.vlk n).ring.busy = false →
    s.sys.take (s.dev.vlkCfg n).txBase (s.dev.vlkCfg n).txLen (s.dev.vlk n).ring.txPos = .bad →
    Ends (.vlkTxPoll i v) s (fun t =>
      (t.dev.vlk n).ring.stopped = true ∧ t.dev.bit (BLK_EVF 0x68) 0 3 = true ∧ OnlyPages s t [0x68])) ∧
  (∀ (s : State) (t0 n stamp a : Nat) (x : Desc),
    s.dev.vlkRings n = true ∧ (s.dev.vlk n).ring.busy = true →
    s.sys.take (s.dev.vlkCfg n).txBase (s.dev.vlkCfg n).txLen (s.dev.vlk n).ring.txPos = .own a x →
    Ends (.vlkFrameSent t0 n stamp true) s (fun t =>
      t.sys.read (a + 4) 12 = leBytes 2 x.len ++ leBytes 2 (b2n (decide (1514 < x.len))) ++ leBytes 8 stamp ∧
      (t.dev.vlk n).ring.txPos = ((s.dev.vlk n).ring.txPos + 1) % (s.dev.vlkCfg n).txLen ∧ t.dev.bit (BLK_EVF 0x68) 0 1 = true ∧
      BytesKept s t (a + 4) 12 ∧ PagesKept s t [0x68] ∧ t.pending = s.pending ∧ t.sys.fuses = s.sys.fuses)) ∧
  (∀ (s : State) (t0 n stamp a : Nat) (x : Desc) (b : List Byte),
    s.dev.bankOff 6 = false ∧ s.dev.vlkRings n = true ∧ (x.addr + x.len ≤ a + 4 ∨ a + 16 ≤ x.addr) →
    s.sys.take (s.dev.vlkCfg n).rxBase (s.dev.vlkCfg n).rxLen (s.dev.vlk n).ring.rxPos = .own a x →
    Ends (.vlkFrameReceive t0 n stamp true b) s (fun t =>
      t.sys.read x.addr (min b.length x.len) = b.take x.len ∧
      t.sys.read (a + 4) 12 = leBytes 2 (min b.length x.len) ++ leBytes 2 (b2n (decide (x.len < b.length))) ++ leBytes 8 stamp ∧
      (t.dev.vlk n).ring.rxPos = ((s.dev.vlk n).ring.rxPos + 1) % (s.dev.vlkCfg n).rxLen ∧ (t.dev.vlk n).goodAt = some t0 ∧ t.dev.bit (BLK_EVF 0x68) 0 0 = true ∧
      (∀ m : Nat, (m < a + 4 ∨ a + 16 ≤ m) → (m < x.addr ∨ x.addr + x.len ≤ m) → memByte t.sys.mem m = memByte s.sys.mem m) ∧
      PagesKept s t [0x68] ∧ t.pending = s.pending ∧ t.sys.fuses = s.sys.fuses)) ∧
  (∀ (s : State) (t0 n stamp : Nat) (b : List Byte),
    s.dev.bankOff 6 = false ∧ s.dev.vlkOn n = true →
    Ends (.vlkFrameReceive t0 n stamp false b) s (fun t =>
      t.dev.fld VLK_ERRCNT n 15 0 = min (s.dev.fld VLK_ERRCNT n 15 0 + 1) 65535 ∧ OnlyRegs s t [VLK_ERRCNT.key n 0])) ∧
  (∀ (s : State) (t0 n : Nat) (hi lo al : List Int),
    s.dev.pilRuns n = true ∧ t0 % 1000000 = 0 ∧ (s.dev.pil n).lastEnd < t0 ∧ hi ≠ [] ∧ lo ≠ [] ∧ inBand (s.dev.rd (PIL_BANDLOW (b2n (s.dev.bit PIL_PCFG n 4))) 0) (rneDiv lo.sum lo.length) = true →
    Ends (.pilotWindow t0 n true true hi lo al none) s (fun t =>
      let c := firstBand ((s.dev.bands (b2n (s.dev.bit PIL_PCFG n 4))).take 5) (rneDiv hi.sum hi.length)
      t.dev.fld PIL_PSTAT n 6 4 = c ∧ t.dev.bit PIL_PSTAT n 8 = true ∧ (t.dev.pil n).cls = c ∧ (t.dev.pil n).lastEnd = t0 ∧
      t.dev.rd PIL_PLVL n = w32 (twos (rneDiv lo.sum lo.length) 16 * 65536 + twos (rneDiv hi.sum hi.length) 16) ∧
      OnlyRegs s t [PIL_PSTAT.key n 0, PIL_PLVL.key n 0])) ∧
  (∀ (s : State) (t0 n : Nat),
    s.dev.pilRuns n = true ∧ 0 < (s.dev.pil n).runLen ∧ max 1 (s.dev.fld PIL_PCFG n 23 16) ≤ (s.dev.pil n).runLen ∧ (s.dev.pil n).cls ≠ s.dev.fld PIL_PSTAT n 2 0 ∧ (s.dev.pil n).cls < 8 →
    s.dev.level ≠ .standby ∧ s.dev.pwr.standbyEntry = false →
    Ends (.pilotStateAccept t0 n) s (fun t =>
      t.dev.fld PIL_PSTAT n 2 0 = (s.dev.pil n).cls ∧ t.dev.rd PIL_PTSLO n = w32 (s.dev.pil n).runFrom ∧ t.dev.rd PIL_PTSHI n = w32 ((s.dev.pil n).runFrom / 2 ^ 32) ∧
      (t.dev.rd PIL_PCNT n).toNat = min ((s.dev.rd PIL_PCNT n).toNat + 1) 0xFFFFFFFF ∧ t.dev.bit (BLK_EVF 0x6C) 0 0 = true ∧
      OnlyRegs s t [PIL_PSTAT.key n 0, PIL_PTSLO.key n 0, PIL_PTSHI.key n 0, PIL_PCNT.key n 0, (BLK_EVF 0x6C).key 0 0])) ∧
  (∀ (s : State) (i : Initiator) (v : Word) (n : Nat),
    Passes s i PIL_PCTL n →
    Ends (.pilotGeneratorWrite i v) s (fun t =>
      (∀ k : Nat, k < 32 → k < 11 ∨ (16 ≤ k ∧ k < 26) ∨ 30 ≤ k → t.dev.bit PIL_PCTL n k = bitOf v k) ∧ (t.dev.pil n).mode = bits v 31 30 ∧
      (bits v 31 30 = 3 → (s.dev.pil n).mode ≠ 3 → (t.dev.pil n).freq = clampN (bits v 10 0) 500 2000 ∧ (t.dev.pil n).duty = min 1000 (bits v 25 16) ∧ (t.dev.pil n).edgeAt = s.dev.time) ∧
      (bits v 31 30 = 3 → (s.dev.pil n).mode = 3 → (t.dev.pil n).next = some (clampN (bits v 10 0) 500 2000, min 1000 (bits v 25 16), ((s.dev.pil n).settle s.dev.time).nextEdge s.dev.time)) ∧
      OnlyRegs s t [PIL_PCTL.key n 0])) ∧
  (∀ (s : State) (i : Initiator) (v : Word) (n : Nat),
    Passes s i VLK_ATTCTL n ∧ (s.dev.greenPhy n = false ∨ bitOf v 0 = false) →
    Ends (.attenuationStart i v) s (fun t =>
      t.dev.ports = s.dev.ports ∧ OnlyRegs s t [])) ∧
  (∀ (s : State) (t0 n a k g : Nat) (l : List (List (Option Nat))),
    (s.dev.vlk n).att = some (a, k) ∧ s.dev.greenPhy n = true ∧ k < 256 ∧ g < 60 →
    k ≤ l.length ∨ a + 600000000 ≤ t0 →
    Ends (.attenuationDone t0 n l) s (fun t =>
      bits (t.dev.rd (VLK_ATT (g / 4)) n) (8 * (g % 4) + 7) (8 * (g % 4)) = (if 58 ≤ g then 0xFF else meanDb ((l.take k).filterMap (fun x => (x[g]?).join))) ∧
      (t.dev.vlk n).att = none ∧ t.dev.bit VLK_LSTAT n 4 = true ∧ t.dev.fld VLK_LSTAT n 15 8 = min k l.length ∧ t.dev.bit (BLK_EVF 0x68) 0 2 = true ∧ OnlyPages s t [0x68, 0x69])) ∧
  (∀ (s : State) (t0 n : Nat) (l : List (List (Option Nat))),
    s.dev.greenPhy n = false ∨ ((s.dev.vlk n).att.map (fun x => decide (l.length < x.2 ∧ t0 < x.1 + 600000000))).getD true = true →
    Ends (.attenuationDone t0 n l) s (fun t =>
      t.dev.ports = s.dev.ports ∧ OnlyRegs s t [])) ∧
  (∀ (s : State) (i : Initiator) (v : Word) (n : Nat),
    Passes s i VLK_KICK n ∧ bitOf v 0 = true ∧ s.dev.vlkRings n = true ∧ (s.dev.vlk n).ring.busy = false →
    s.sys.take (s.dev.vlkCfg n).txBase (s.dev.vlkCfg n).txLen (s.dev.vlk n).ring.txPos = .none →
    Ends (.vlkTxPoll i v) s (fun t =>
      (t.dev.vlk n).ring = (s.dev.vlk n).ring ∧ t.dev.bit VLK_LSTAT n 1 = false ∧ OnlyRegs s t [VLK_LSTAT.key n 0])) ∧
  (∀ (s : State) (i : Initiator) (v : Word) (n : Nat),
    Passes s i VLK_KICK n ∧ (bitOf v 0 = false ∨ s.dev.vlkRings n = false ∨ (s.dev.vlk n).ring.busy = true) →
    Ends (.vlkTxPoll i v) s (fun t =>
      t.dev.ports = s.dev.ports ∧ OnlyRegs s t [])) ∧
  (∀ (s : State) (t0 n stamp a : Nat) (x : Desc),
    s.dev.vlkRings n = true ∧ (s.dev.vlk n).ring.busy = true →
    s.sys.take (s.dev.vlkCfg n).txBase (s.dev.vlkCfg n).txLen (s.dev.vlk n).ring.txPos = .own a x →
    Ends (.vlkFrameSent t0 n stamp false) s (fun t =>
      t.sys.read (a + 4) 12 = leBytes 2 x.len ++ leBytes 2 1 ++ leBytes 8 stamp ∧
      (t.dev.vlk n).ring.txPos = ((s.dev.vlk n).ring.txPos + 1) % (s.dev.vlkCfg n).txLen ∧
      t.dev.fld VLK_ERRCNT n 31 16 = min (s.dev.fld VLK_ERRCNT n 31 16 + 1) 65535 ∧
      BytesKept s t (a + 4) 12 ∧ PagesKept s t [0x68] ∧ t.pending = s.pending ∧ t.sys.fuses = s.sys.fuses)) ∧
  (∀ (s : State) (t0 n stamp : Nat) (ok : Bool),
    s.dev.vlkRings n = false ∨ (s.dev.vlk n).ring.busy = false →
    Ends (.vlkFrameSent t0 n stamp ok) s (fun t =>
      t.dev.ports = s.dev.ports ∧ OnlyRegs s t [])) ∧
  (∀ (s : State) (t0 n stamp : Nat) (b : List Byte),
    s.dev.bankOff 6 = false ∧ s.dev.vlkOn n = true →
    s.dev.vlkRings n = false ∨ s.sys.take (s.dev.vlkCfg n).rxBase (s.dev.vlkCfg n).rxLen (s.dev.vlk n).ring.rxPos = .none →
    Ends (.vlkFrameReceive t0 n stamp true b) s (fun t =>
      (t.dev.vlk n).goodAt = some t0 ∧ (t.dev.vlk n).ring = (s.dev.vlk n).ring ∧ OnlyRegs s t [])) ∧
  (∀ (s : State) (t0 n stamp : Nat) (b : List Byte),
    s.dev.bankOff 6 = false ∧ s.dev.vlkRings n = true →
    s.sys.take (s.dev.vlkCfg n).rxBase (s.dev.vlkCfg n).rxLen (s.dev.vlk n).ring.rxPos = .bad →
    Ends (.vlkFrameReceive t0 n stamp true b) s (fun t =>
      (t.dev.vlk n).ring.stopped = true ∧ t.dev.bit (BLK_EVF 0x68) 0 3 = true ∧ OnlyPages s t [0x68])) ∧
  (∀ (s : State) (t0 n stamp : Nat) (ok : Bool) (b : List Byte),
    s.dev.bankOff 6 = true ∨ s.dev.vlkOn n = false →
    Ends (.vlkFrameReceive t0 n stamp ok b) s (fun t =>
      t.dev.ports = s.dev.ports ∧ OnlyRegs s t [])) ∧
  (∀ (s : State) (t0 n : Nat) (rise fall : Bool) (hi lo al : List Int) (per : Option (Nat × Nat)),
    s.dev.pilRuns n = true ∧ t0 % 1000000 = 0 ∧ (s.dev.pil n).lastEnd < t0 →
    (rise && fall) = false ∧ al ≠ [] →
    Ends (.pilotWindow t0 n rise fall hi lo al per) s (fun t =>
      let c := firstBand (s.dev.bands (b2n (s.dev.bit PIL_PCFG n 4))) (rneDiv al.sum al.length)
      t.dev.fld PIL_PSTAT n 6 4 = c ∧ t.dev.bit PIL_PSTAT n 8 = false ∧ t.dev.fld PIL_PLVL n 15 0 = twos (rneDiv al.sum al.length) 16 ∧
      (t.dev.pil n).cls = c ∧ (t.dev.pil n).lastEnd = t0 ∧
      (t.dev.pil n).runLen = (if (s.dev.pil n).cls = c ∧ (s.dev.pil n).lastEnd + 1000000 = t0 ∧ 0 < (s.dev.pil n).runLen then (s.dev.pil n).runLen + 1 else 1) ∧
      OnlyRegs s t [PIL_PSTAT.key n 0, PIL_PLVL.key n 0])) ∧
  (∀ (s : State) (t0 n : Nat) (hi lo al : List Int) (per : Option (Nat × Nat)),
    s.dev.pilRuns n = true ∧ t0 % 1000000 = 0 ∧ (s.dev.pil n).lastEnd < t0 ∧ hi ≠ [] ∧ lo ≠ [] →
    inBand (s.dev.rd (PIL_BANDLOW (b2n (s.dev.bit PIL_PCFG n 4))) 0) (rneDiv lo.sum lo.length) = false →
    Ends (.pilotWindow t0 n true true hi lo al per) s (fun t =>
      t.dev.fld PIL_PSTAT n 6 4 = 6 ∧ t.dev.bit PIL_PSTAT n 9 = true ∧ t.dev.bit (BLK_EVF 0x6C) 0 1 = true ∧ (t.dev.pil n).cls = 6 ∧ (t.dev.pil n).lastEnd = t0 ∧
      OnlyRegs s t [PIL_PSTAT.key n 0, PIL_PLVL.key n 0, PIL_PMEAS.key n 0, (BLK_EVF 0x6C).key 0 0])) ∧
  (∀ (s : State) (t0 n p h : Nat) (hi lo al : List Int),
    s.dev.pilRuns n = true ∧ t0 % 1000000 = 0 ∧ (s.dev.pil n).lastEnd < t0 ∧ hi ≠ [] ∧ lo ≠ [] ∧ p ≠ 0 →
    Ends (.pilotWindow t0 n true true hi lo al (some (p, h))) s (fun t =>
      t.dev.rd PIL_PMEAS n = w32 (min 2047 ((2000000000 + p) / (2 * p)) * 65536 + min 1023 ((2000 * h + p) / (2 * p))) ∧
      t.dev.rd PIL_PLVL n = w32 (twos (rneDiv lo.sum lo.length) 16 * 65536 + twos (rneDiv hi.sum hi.length) 16) ∧ t.dev.bit PIL_PSTAT n 8 = true)) ∧
  (∀ (s : State) (t0 n : Nat) (rise fall : Bool) (hi lo al : List Int) (per : Option (Nat × Nat)),
    s.dev.pilRuns n = true ∧ t0 % 1000000 = 0 ∧ (s.dev.pil n).lastEnd < t0 →
    Ends (.pilotWindow t0 n rise fall hi lo al per) s (fun t =>
      t.dev.bit PIL_PSTAT n 8 = (rise && fall) ∧ t.dev.fld PIL_PSTAT n 6 4 = (t.dev.pil n).cls ∧ (t.dev.pil n).lastEnd = t0 ∧ 0 < (t.dev.pil n).runLen ∧
      OnlyRegs s t [PIL_PSTAT.key n 0, PIL_PLVL.key n 0, PIL_PMEAS.key n 0, (BLK_EVF 0x6C).key 0 0])) ∧
  (∀ (s : State) (t0 n : Nat) (rise fall : Bool) (hi lo al : List Int) (per : Option (Nat × Nat)),
    s.dev.pilRuns n = false ∨ t0 % 1000000 ≠ 0 ∨ t0 ≤ (s.dev.pil n).lastEnd →
    Ends (.pilotWindow t0 n rise fall hi lo al per) s (fun t =>
      t.dev.ports = s.dev.ports ∧ OnlyRegs s t [])) ∧
  (∀ (s : State) (t0 n : Nat),
    s.dev.pilRuns n = true ∧ 0 < (s.dev.pil n).runLen ∧ max 1 (s.dev.fld PIL_PCFG n 23 16) ≤ (s.dev.pil n).runLen ∧ (s.dev.pil n).cls ≠ s.dev.fld PIL_PSTAT n 2 0 ∧ (s.dev.pil n).cls < 8 →
    s.dev.bit PWR_WAKECFG 0 0 = false →
    Ends (.pilotStateAccept t0 n) s (fun t =>
      t.dev.fld PIL_PSTAT n 2 0 = (s.dev.pil n).cls ∧ t.dev.rd PIL_PTSLO n = w32 (s.dev.pil n).runFrom ∧ t.dev.rd PIL_PTSHI n = w32 ((s.dev.pil n).runFrom / 2 ^ 32) ∧
      (t.dev.rd PIL_PCNT n).toNat = min ((s.dev.rd PIL_PCNT n).toNat + 1) 0xFFFFFFFF ∧ t.dev.bit (BLK_EVF 0x6C) 0 0 = true ∧
      OnlyRegs s t [PIL_PSTAT.key n 0, PIL_PTSLO.key n 0, PIL_PTSHI.key n 0, PIL_PCNT.key n 0, (BLK_EVF 0x6C).key 0 0])) ∧
  (∀ (s : State) (t0 n : Nat),
    s.dev.pilRuns n = true ∧ 0 < (s.dev.pil n).runLen ∧ max 1 (s.dev.fld PIL_PCFG n 23 16) ≤ (s.dev.pil n).runLen ∧ (s.dev.pil n).cls ≠ s.dev.fld PIL_PSTAT n 2 0 ∧ (s.dev.pil n).cls < 8 →
    s.dev.bit PWR_WAKECFG 0 0 = true ∧ s.dev.level = .standby →
    Ends (.pilotStateAccept t0 n) s (fun t =>
      t.dev.level = .normal ∧ t.dev.rd PWR_WAKESRC 0 = 1 ∧ t.dev.fld PIL_PSTAT n 2 0 = (s.dev.pil n).cls ∧ t.dev.rd PIL_PTSLO n = w32 (s.dev.pil n).runFrom ∧
      (t.dev.rd PIL_PCNT n).toNat = min ((s.dev.rd PIL_PCNT n).toNat + 1) 0xFFFFFFFF ∧ t.dev.bit (BLK_EVF 0x6C) 0 0 = true ∧ Quiet s t)) ∧
  (∀ (s : State) (t0 n : Nat),
    s.dev.pilRuns n = false ∨ (s.dev.pil n).runLen < max 1 (s.dev.fld PIL_PCFG n 23 16) ∨ (s.dev.pil n).cls = s.dev.fld PIL_PSTAT n 2 0 →
    Ends (.pilotStateAccept t0 n) s (fun t =>
      t.dev.ports = s.dev.ports ∧ OnlyRegs s t [])) ∧
  (∀ (s : State) (i : Initiator) (v : Word) (n : Nat),
    Passes s i PIL_PCTL n ∧ bits v 31 30 ≠ 3 →
    Ends (.pilotGeneratorWrite i v) s (fun t =>
      (t.dev.pil n).mode = bits v 31 30 ∧ (t.dev.pil n).next = none ∧ OnlyRegs s t [PIL_PCTL.key n 0]))

/-- CAN FIFOs take and give frames, receive objects take theirs, errors count, bus-off recovers. (R542, R543, R545, R546, R547, R548, R550, spec/13_vehicle_and_field_links.md) -/
def Obligations.CanControllersQueueSendAndReceive : Prop :=
  (∀ (s : State) (i : Initiator) (v : Word) (n : Nat),
    Passes s i PBS_TXPUSH n ∧ bitOf v 1 = false ∧ (s.dev.can n).norm.length < 32 →
    Ends (.canPushNormal i v) s (fun t =>
      (t.dev.can n).norm = (s.dev.can n).norm ++ [{ frame := s.dev.stagedFrame i n, pushedAt := s.dev.time }] ∧ (t.dev.can n).urg = (s.dev.can n).urg ∧
      t.dev.fld PBS_TXSTAT n 5 0 = (s.dev.can n).norm.length + 1 ∧ OnlyRegs s t [PBS_TXSTAT.key n 0])) ∧
  (∀ (s : State) (i : Initiator) (v : Word) (n : Nat),
    Passes s i PBS_TXPUSH n ∧ bitOf v 0 = false ∧ (s.dev.can n).urg.length < 32 →
    Ends (.canPushUrgent i v) s (fun t =>
      (t.dev.can n).urg = (s.dev.can n).urg ++ [{ frame := s.dev.stagedFrame i n, pushedAt := s.dev.time }] ∧ (t.dev.can n).norm = (s.dev.can n).norm ∧
      t.dev.fld PBS_TXSTAT n 13 8 = (s.dev.can n).urg.length + 1 ∧ OnlyRegs s t [PBS_TXSTAT.key n 0])) ∧
  (∀ (s : State) (i : Initiator) (v : Word) (n : Nat),
    Passes s i PBS_TXPUSH n ∧ bitOf v 0 = false ∧ 32 ≤ (s.dev.can n).urg.length →
    Ends (.canPushUrgent i v) s (fun t =>
      t.dev.can n = s.dev.can n ∧ t.dev.bit PBS_TXSTAT n 20 = true ∧ t.dev.bit (BLK_EVF 0x6E) 0 6 = true ∧ OnlyRegs s t [PBS_TXSTAT.key n 0, (BLK_EVF 0x6E).key 0 0])) ∧
  (∀ (s : State) (t0 n start : Nat) (u : Bool) (q : CanQueued),
    s.dev.canOn n = true ∧ s.dev.bit PBS_CCFG n 28 = false ∧ (s.dev.can n).offered start = some (u, q) ∧ s.dev.tec n ≤ 255 →
    Ends (.canTxAttemptEnd t0 n start .success) s (fun t =>
      (t.dev.can n).fifo u = ((s.dev.can n).fifo u).drop 1 ∧ (t.dev.can n).fifo (!u) = (s.dev.can n).fifo (!u) ∧
      t.dev.rd PBS_TXCNT n = s.dev.rd PBS_TXCNT n + 1 ∧ t.dev.tec n = s.dev.tec n - 1 ∧ t.dev.bit (BLK_EVF 0x6E) 0 1 = true ∧
      OnlyRegs s t [PBS_TXCNT.key n 0, PBS_CSTAT.key n 0, PBS_TXSTAT.key n 0, (BLK_EVF 0x6E).key 0 0])) ∧
  (∀ (s : State) (i : Initiator) (n : Nat) (b : Bool),
    Passes s i PBS_CCTL n ∧ (s.dev.can n).norm ≠ [] →
    Ends (.abortn i b) s (fun t =>
      (t.dev.can n).norm = (if b && s.dev.canOn n then (s.dev.can n).norm else (s.dev.can n).norm.drop 1) ∧ (t.dev.can n).urg = (s.dev.can n).urg ∧ (t.dev.can n).dropN = (b && s.dev.canOn n) ∧
      OnlyRegs s t [PBS_TXSTAT.key n 0])) ∧
  (∀ (s : State) (i : Initiator) (n : Nat) (b : Bool),
    Passes s i PBS_CCTL n ∧ (s.dev.can n).urg ≠ [] →
    Ends (.abortu i b) s (fun t =>
      (t.dev.can n).urg = (if b && s.dev.canOn n then (s.dev.can n).urg else (s.dev.can n).urg.drop 1) ∧ (t.dev.can n).norm = (s.dev.can n).norm ∧ (t.dev.can n).dropU = (b && s.dev.canOn n) ∧
      OnlyRegs s t [PBS_TXSTAT.key n 0])) ∧
  (∀ (s : State) (i : Initiator) (n : Nat) (b : Bool),
    Passes s i PBS_CCTL n ∧ (s.dev.can n).norm ≠ [] →
    Ends (.flushn i b) s (fun t =>
      (t.dev.can n).norm = (if b && s.dev.canOn n then (s.dev.can n).norm.take 1 else []) ∧ (t.dev.can n).urg = (s.dev.can n).urg ∧ OnlyRegs s t [PBS_TXSTAT.key n 0])) ∧
  (∀ (s : State) (i : Initiator) (n : Nat) (b : Bool),
    Passes s i PBS_CCTL n ∧ (s.dev.can n).urg ≠ [] →
    Ends (.flushu i b) s (fun t =>
      (t.dev.can n).urg = (if b && s.dev.canOn n then (s.dev.can n).urg.take 1 else []) ∧ (t.dev.can n).norm = (s.dev.can n).norm ∧ OnlyRegs s t [PBS_TXSTAT.key n 0])) ∧
  (∀ (s : State) (t0 n : Nat),
    n < s.dev.variant.canCtls ∧ s.dev.up .link = true ∧ s.dev.fld PBS_CCFG n 15 0 ≠ 0 ∧ (s.dev.can n).urg ≠ [] ∧ (s.dev.can n).headU + s.dev.fld PBS_CCFG n 15 0 * 100000 ≤ t0 ∧ s.dev.bit PBS_TXSTAT n 17 = false →
    Ends (.headTimeout t0 n true) s (fun t =>
      t.dev.bit PBS_TXSTAT n 17 = true ∧ t.dev.bit (BLK_EVF 0x6E) 0 5 = true ∧ t.dev.can n = s.dev.can n ∧ OnlyRegs s t [PBS_TXSTAT.key n 0, (BLK_EVF 0x6E).key 0 0])) ∧
  (∀ (s : State) (i : Initiator) (n : Nat),
    Passes s i PBS_CCTL n ∧ s.dev.canMode n = 2 ∧ (s.dev.can n).recover = none →
    Ends (.canRecover i) s (fun t =>
      (t.dev.can n).recover = some s.dev.time ∧ OnlyRegs s t [])) ∧
  (∀ (s : State) (i : Initiator) (n : Nat),
    Passes s i PBS_CCTL n ∧ s.dev.canMode n ≠ 2 ∧ s.dev.bit (BLK_ERR 0x6E) 0 31 = false →
    Ends (.canRecover i) s (fun t =>
      t.dev.can n = s.dev.can n ∧ t.dev.bit (BLK_ERR 0x6E) 0 31 = true ∧ OnlyRegs s t [(BLK_ERR 0x6E).key 0 0])) ∧
  (∀ (s : State) (t0 n a : Nat),
    n < s.dev.variant.canCtls ∧ s.dev.up .link = true ∧ s.dev.canMode n = 2 ∧ (s.dev.can n).recover = some a ∧ a * 2 + 128 * 11 * s.dev.canBit n * 25 ≤ t0 * 2 →
    Ends (.canRecoveryDone t0 n) s (fun t =>
      t.dev.canMode n = 0 ∧ t.dev.tec n = 0 ∧ t.dev.recCnt n = 0 ∧ t.dev.bit PBS_BOSUM 0 n = false ∧ (t.dev.can n).recover = none ∧
      OnlyRegs s t [PBS_CSTAT.key n 0, PBS_BOSUM.key 0 0])) ∧
  (∀ (s : State) (t0 n k stamp : Nat) (f : CanFrame),
    s.dev.bankOff 2 = false ∧ s.dev.canOn n = true ∧ s.dev.recCnt n ≤ 127 ∧ s.dev.tec n ≤ 255 ∧ f.remote = false ∧ (List.range 64).find? (fun k => s.dev.objMatches n k f) = some k →
    Ends (.canFrameReceive t0 n stamp f) s (fun t =>
      t.dev.rd (PBS_ROID (k % 16)) (4 * n + k / 16) = w32 (b2n f.ide * 2 ^ 31 + f.id % 2 ^ 29) ∧ t.dev.bit (PBS_ROSTAT (k % 16)) (4 * n + k / 16) 0 = true ∧
      t.dev.bit (PBS_ROSTAT (k % 16)) (4 * n + k / 16) 1 = (s.dev.bit (PBS_ROSTAT (k % 16)) (4 * n + k / 16) 1 || s.dev.bit (PBS_ROSTAT (k % 16)) (4 * n + k / 16) 0) ∧
      t.dev.rd (PBS_ROTSLO (k % 16)) (4 * n + k / 16) = w32 stamp ∧ t.dev.recCnt n = s.dev.recCnt n - 1 ∧
      OnlyPages s t [0x6E, 0x70])) ∧
  (∀ (s : State) (t0 n stamp : Nat) (f : CanFrame),
    s.dev.bankOff 2 = false ∧ s.dev.canOn n = true ∧ s.dev.recCnt n ≤ 127 ∧ s.dev.tec n ≤ 255 →
    f.remote = true ∨ (List.range 64).find? (fun k => s.dev.objMatches n k f) = none →
    Ends (.canFrameReceive t0 n stamp f) s (fun t =>
      t.dev.fld PBS_ERRCNT n 31 24 = min (s.dev.fld PBS_ERRCNT n 31 24 + 1) 255 ∧ OnlyRegs s t [PBS_ERRCNT.key n 0, PBS_CSTAT.key n 0, (BLK_EVF 0x6E).key 0 0])) ∧
  (∀ (s : State) (t0 n : Nat) (dom : Bool),
    s.dev.canOn n = true ∧ s.dev.tec n ≤ 255 ∧ s.dev.recCnt n + 8 ≤ 255 →
    Ends (.canReceiveError t0 n .stuff dom) s (fun t =>
      t.dev.fld PBS_ERRCNT n 15 8 = min (s.dev.fld PBS_ERRCNT n 15 8 + 1) 255 ∧ t.dev.recCnt n = s.dev.recCnt n + (if dom then 8 else 1) ∧
      t.dev.canMode n = b2n (decide (127 < s.dev.tec n) || decide (127 < t.dev.recCnt n)) ∧ OnlyRegs s t [PBS_ERRCNT.key n 0, PBS_CSTAT.key n 0, (BLK_EVF 0x6E).key 0 0])) ∧
  (∀ (s : State) (t0 n start : Nat) (u : Bool) (q : CanQueued),
    s.dev.canOn n = true ∧ s.dev.bit PBS_CCFG n 28 = false ∧ (s.dev.can n).offered start = some (u, q) ∧ s.dev.tec n + 8 ≤ 255 →
    Ends (.canTxAttemptEnd t0 n start .stuff) s (fun t =>
      ((t.dev.can n).fifo u = (if (s.dev.can n).drop u then ((s.dev.can n).fifo u).drop 1 else (s.dev.can n).fifo u) ∧ (t.dev.can n).fifo (!u) = (s.dev.can n).fifo (!u)) ∧ t.dev.tec n = s.dev.tec n + 8 ∧ t.dev.fld PBS_ERRCNT n 15 8 = min (s.dev.fld PBS_ERRCNT n 15 8 + 1) 255 ∧ t.dev.canMode n = b2n (decide (127 < t.dev.tec n) || decide (127 < s.dev.recCnt n)) ∧
      OnlyRegs s t [PBS_ERRCNT.key n 0, PBS_CSTAT.key n 0, PBS_TXSTAT.key n 0, (BLK_EVF 0x6E).key 0 0])) ∧
  (∀ (s : State) (t0 n start : Nat) (u : Bool) (q : CanQueued),
    s.dev.canOn n = true ∧ s.dev.bit PBS_CCFG n 28 = false ∧ (s.dev.can n).offered start = some (u, q) ∧ s.dev.tec n + 8 ≤ 255 →
    Ends (.canTxAttemptEnd t0 n start .form) s (fun t =>
      ((t.dev.can n).fifo u = (if (s.dev.can n).drop u then ((s.dev.can n).fifo u).drop 1 else (s.dev.can n).fifo u) ∧ (t.dev.can n).fifo (!u) = (s.dev.can n).fifo (!u)) ∧ t.dev.tec n = s.dev.tec n + 8 ∧ t.dev.fld PBS_ERRCNT n 23 16 = min (s.dev.fld PBS_ERRCNT n 23 16 + 1) 255 ∧ t.dev.canMode n = b2n (decide (127 < t.dev.tec n) || decide (127 < s.dev.recCnt n)) ∧
      OnlyRegs s t [PBS_ERRCNT.key n 0, PBS_CSTAT.key n 0, PBS_TXSTAT.key n 0, (BLK_EVF 0x6E).key 0 0])) ∧
  (∀ (s : State) (t0 n start : Nat) (u : Bool) (q : CanQueued),
    s.dev.canOn n = true ∧ s.dev.bit PBS_CCFG n 28 = false ∧ (s.dev.can n).offered start = some (u, q) ∧ s.dev.tec n + 8 ≤ 255 →
    Ends (.canTxAttemptEnd t0 n start (.bit false)) s (fun t =>
      ((t.dev.can n).fifo u = (if (s.dev.can n).drop u then ((s.dev.can n).fifo u).drop 1 else (s.dev.can n).fifo u) ∧ (t.dev.can n).fifo (!u) = (s.dev.can n).fifo (!u)) ∧ t.dev.tec n = s.dev.tec n + 8 ∧ t.dev.fld PBS_ERRCNT n 7 0 = min (s.dev.fld PBS_ERRCNT n 7 0 + 1) 255 ∧ t.dev.canMode n = b2n (decide (127 < t.dev.tec n) || decide (127 < s.dev.recCnt n)) ∧
      OnlyRegs s t [PBS_ERRCNT.key n 0, PBS_CSTAT.key n 0, PBS_TXSTAT.key n 0, (BLK_EVF 0x6E).key 0 0])) ∧
  (∀ (s : State) (t0 n start : Nat) (u : Bool) (q : CanQueued),
    s.dev.canOn n = true ∧ s.dev.bit PBS_CCFG n 28 = false ∧ (s.dev.can n).offered start = some (u, q) →
    Ends (.canTxAttemptEnd t0 n start .lost) s (fun t =>
      ((t.dev.can n).fifo u = (if (s.dev.can n).drop u then ((s.dev.can n).fifo u).drop 1 else (s.dev.can n).fifo u) ∧ (t.dev.can n).fifo (!u) = (s.dev.can n).fifo (!u)) ∧ t.dev.tec n = s.dev.tec n ∧ t.dev.canMode n = b2n (decide (127 < t.dev.tec n) || decide (127 < s.dev.recCnt n)) ∧
      OnlyRegs s t [PBS_CSTAT.key n 0, PBS_TXSTAT.key n 0, (BLK_EVF 0x6E).key 0 0])) ∧
  (∀ (s : State) (t0 n start : Nat) (u quiet : Bool) (q : CanQueued),
    s.dev.canOn n = true ∧ s.dev.bit PBS_CCFG n 28 = false ∧ (s.dev.can n).offered start = some (u, q) ∧ s.dev.tec n + 8 ≤ 255 →
    Ends (.canTxAttemptEnd t0 n start (.ack quiet)) s (fun t =>
      ((t.dev.can n).fifo u = (if (s.dev.can n).drop u then ((s.dev.can n).fifo u).drop 1 else (s.dev.can n).fifo u) ∧ (t.dev.can n).fifo (!u) = (s.dev.can n).fifo (!u)) ∧ t.dev.tec n = (if quiet && decide (s.dev.canMode n = 1) then s.dev.tec n else s.dev.tec n + 8) ∧ t.dev.fld PBS_ERRCNT n 23 16 = min (s.dev.fld PBS_ERRCNT n 23 16 + 1) 255 ∧ t.dev.canMode n = b2n (decide (127 < t.dev.tec n) || decide (127 < s.dev.recCnt n)) ∧
      OnlyRegs s t [PBS_ERRCNT.key n 0, PBS_CSTAT.key n 0, PBS_TXSTAT.key n 0, (BLK_EVF 0x6E).key 0 0])) ∧
  (∀ (s : State) (t0 n start : Nat) (u : Bool) (q : CanQueued),
    s.dev.canOn n = true ∧ s.dev.bit PBS_CCFG n 28 = false ∧ (s.dev.can n).offered start = some (u, q) ∧ s.dev.tec n + 8 ≤ 255 →
    kvGet (s.dev.can n).coll (collKey q.frame) 0 < 2 →
    Ends (.canTxAttemptEnd t0 n start (.bit true)) s (fun t =>
      kvGet (t.dev.can n).coll (collKey q.frame) 0 = kvGet (s.dev.can n).coll (collKey q.frame) 0 + 1 ∧
      ((t.dev.can n).fifo u = (if (s.dev.can n).drop u then ((s.dev.can n).fifo u).drop 1 else (s.dev.can n).fifo u) ∧ (t.dev.can n).fifo (!u) = (s.dev.can n).fifo (!u)) ∧ t.dev.tec n = s.dev.tec n + 8 ∧ t.dev.fld PBS_ERRCNT n 7 0 = min (s.dev.fld PBS_ERRCNT n 7 0 + 1) 255 ∧ t.dev.canMode n = b2n (decide (127 < t.dev.tec n) || decide (127 < s.dev.recCnt n)) ∧
      OnlyRegs s t [PBS_ERRCNT.key n 0, PBS_CSTAT.key n 0, PBS_TXSTAT.key n 0, (BLK_EVF 0x6E).key 0 0])) ∧
  (∀ (s : State) (t0 n start : Nat) (u : Bool) (q : CanQueued),
    s.dev.canOn n = true ∧ s.dev.bit PBS_CCFG n 28 = false ∧ (s.dev.can n).offered start = some (u, q) ∧ s.dev.tec n + 8 ≤ 255 →
    2 ≤ kvGet (s.dev.can n).coll (collKey q.frame) 0 →
    Ends (.canTxAttemptEnd t0 n start (.bit true)) s (fun t =>
      kvGet (t.dev.can n).coll (collKey q.frame) 0 = 0 ∧ t.dev.rd PBS_COLLID n = w32 (b2n q.frame.ide * 2 ^ 31 + q.frame.id) ∧
      t.dev.bit PBS_CSTAT n 25 = true ∧ t.dev.bit PBS_COLLSUM 0 n = true ∧ t.dev.bit (BLK_EVF 0x6E) 0 4 = true ∧ t.dev.tec n = s.dev.tec n + 8 ∧
      (t.dev.can n).fifo u = (if (s.dev.can n).drop u || s.dev.bit PBS_CCFG n 20 then ((s.dev.can n).fifo u).drop 1 else (s.dev.can n).fifo u) ∧
      OnlyRegs s t [PBS_COLLID.key n 0, PBS_COLLSUM.key 0 0, PBS_ERRCNT.key n 0, PBS_CSTAT.key n 0, PBS_TXSTAT.key n 0, (BLK_EVF 0x6E).key 0 0])) ∧
  (∀ (s : State) (t0 n start : Nat) (u : Bool) (q : CanQueued),
    s.dev.canOn n = true ∧ s.dev.bit PBS_CCFG n 28 = false ∧ (s.dev.can n).offered start = some (u, q) ∧ 255 < s.dev.tec n + 8 →
    Ends (.canTxAttemptEnd t0 n start .stuff) s (fun t =>
      t.dev.canMode n = 2 ∧ t.dev.tec n = 255 ∧ t.dev.bit PBS_CSTAT n 24 = true ∧ t.dev.bit PBS_BOSUM 0 n = true ∧ t.dev.bit (BLK_EVF 0x6E) 0 2 = true ∧
      (t.dev.can n).recover = none ∧ (s.dev.bit PBS_CCFG n 24 = true → (t.dev.can n).norm = [] ∧ (t.dev.can n).urg = []) ∧
      OnlyRegs s t [PBS_BOSUM.key 0 0, PBS_ERRCNT.key n 0, PBS_CSTAT.key n 0, PBS_TXSTAT.key n 0, (BLK_EVF 0x6E).key 0 0])) ∧
  (∀ (s : State) (t0 n start : Nat) (how : CanEnd),
    s.dev.canOn n = false ∨ s.dev.bit PBS_CCFG n 28 = true ∨ (s.dev.can n).offered start = none →
    Ends (.canTxAttemptEnd t0 n start how) s (fun t =>
      t.dev.ports = s.dev.ports ∧ OnlyRegs s t [])) ∧
  (∀ (s : State) (i : Initiator) (v : Word) (n : Nat),
    Passes s i PBS_TXPUSH n ∧ bitOf v 1 = false ∧ 32 ≤ (s.dev.can n).norm.length →
    Ends (.canPushNormal i v) s (fun t =>
      t.dev.can n = s.dev.can n ∧ t.dev.bit PBS_TXSTAT n 20 = true ∧ t.dev.bit (BLK_EVF 0x6E) 0 6 = true ∧ OnlyRegs s t [PBS_TXSTAT.key n 0, (BLK_EVF 0x6E).key 0 0])) ∧
  (∀ (s : State) (i : Initiator) (v : Word) (n : Nat),
    Passes s i PBS_TXPUSH n ∧ bitOf v 1 = true →
    Ends (.canPushNormal i v) s (fun t =>
      t.dev.ports = s.dev.ports ∧ OnlyRegs s t [])) ∧
  (∀ (s : State) (i : Initiator) (v : Word) (n : Nat),
    Passes s i PBS_TXPUSH n ∧ bitOf v 0 = true →
    Ends (.canPushUrgent i v) s (fun t =>
      t.dev.ports = s.dev.ports ∧ OnlyRegs s t [])) ∧
  (∀ (s : State) (i : Initiator) (n : Nat) (b : Bool),
    Passes s i PBS_CCTL n ∧ (s.dev.can n).norm = [] →
    Ends (.abortn i b) s (fun t =>
      t.dev.ports = s.dev.ports ∧ OnlyRegs s t [])) ∧
  (∀ (s : State) (i : Initiator) (n : Nat) (b : Bool),
    Passes s i PBS_CCTL n ∧ (s.dev.can n).urg = [] →
    Ends (.abortu i b) s (fun t =>
      t.dev.ports = s.dev.ports ∧ OnlyRegs s t [])) ∧
  (∀ (s : State) (i : Initiator) (n : Nat) (b : Bool),
    Passes s i PBS_CCTL n ∧ (s.dev.can n).norm = [] →
    Ends (.flushn i b) s (fun t =>
      t.dev.ports = s.dev.ports ∧ OnlyRegs s t [])) ∧
  (∀ (s : State) (i : Initiator) (n : Nat) (b : Bool),
    Passes s i PBS_CCTL n ∧ (s.dev.can n).urg = [] →
    Ends (.flushu i b) s (fun t =>
      t.dev.ports = s.dev.ports ∧ OnlyRegs s t [])) ∧
  (∀ (s : State) (t0 n : Nat),
    n < s.dev.variant.canCtls ∧ s.dev.up .link = true ∧ s.dev.fld PBS_CCFG n 15 0 ≠ 0 ∧ (s.dev.can n).norm ≠ [] ∧ (s.dev.can n).headN + s.dev.fld PBS_CCFG n 15 0 * 100000 ≤ t0 ∧ s.dev.bit PBS_TXSTAT n 16 = false →
    Ends (.headTimeout t0 n false) s (fun t =>
      t.dev.bit PBS_TXSTAT n 16 = true ∧ t.dev.bit (BLK_EVF 0x6E) 0 5 = true ∧ t.dev.can n = s.dev.can n ∧ OnlyRegs s t [PBS_TXSTAT.key n 0, (BLK_EVF 0x6E).key 0 0])) ∧
  (∀ (s : State) (t0 n : Nat) (u : Bool),
    s.dev.variant.canCtls ≤ n ∨ s.dev.up .link = false ∨ s.dev.fld PBS_CCFG n 15 0 = 0 ∨ (s.dev.can n).fifo u = [] ∨
      t0 < (if u then (s.dev.can n).headU else (s.dev.can n).headN) + s.dev.fld PBS_CCFG n 15 0 * 100000 ∨ s.dev.bit PBS_TXSTAT n (16 + b2n u) = true →
    Ends (.headTimeout t0 n u) s (fun t =>
      t.dev.ports = s.dev.ports ∧ OnlyRegs s t [])) ∧
  (∀ (s : State) (i : Initiator) (n a : Nat),
    Passes s i PBS_CCTL n ∧ s.dev.canMode n = 2 ∧ (s.dev.can n).recover = some a →
    Ends (.canRecover i) s (fun t =>
      t.dev.can n = s.dev.can n ∧ OnlyRegs s t [])) ∧
  (∀ (s : State) (i : Initiator) (n : Nat),
    Passes s i PBS_CCTL n ∧ s.dev.canMode n ≠ 2 →
    Ends (.canRecover i) s (fun t =>
      t.dev.can n = s.dev.can n ∧ (s.dev.bit (BLK_ERR 0x6E) 0 31 = false → t.dev.rd (BLK_ERR 0x6E) 0 = errWord 7 i 0x410) ∧
      (s.dev.bit (BLK_ERR 0x6E) 0 31 = true → t.dev.rd (BLK_ERR 0x6E) 0 = s.dev.rd (BLK_ERR 0x6E) 0) ∧ OnlyRegs s t [(BLK_ERR 0x6E).key 0 0])) ∧
  (∀ (s : State) (t0 n : Nat),
    s.dev.variant.canCtls ≤ n ∨ s.dev.up .link = false ∨ s.dev.canMode n ≠ 2 ∨
      ((s.dev.can n).recover.map (fun a => decide (t0 * 2 < a * 2 + 128 * 11 * s.dev.canBit n * 25))).getD true = true →
    Ends (.canRecoveryDone t0 n) s (fun t =>
      t.dev.ports = s.dev.ports ∧ OnlyRegs s t [])) ∧
  (∀ (s : State) (t0 n stamp : Nat) (f : CanFrame),
    s.dev.bankOff 2 = true ∨ s.dev.canOn n = false →
    Ends (.canFrameReceive t0 n stamp f) s (fun t =>
      t.dev.ports = s.dev.ports ∧ OnlyRegs s t [])) ∧
  (∀ (s : State) (t0 n stamp : Nat) (f : CanFrame),
    s.dev.bankOff 2 = false ∧ s.dev.canOn n = true ∧ 127 < s.dev.recCnt n →
    Ends (.canFrameReceive t0 n stamp f) s (fun t =>
      119 ≤ t.dev.recCnt n ∧ t.dev.recCnt n ≤ 127 ∧ t.dev.tec n = s.dev.tec n ∧ t.dev.can n = s.dev.can n ∧
      (f.remote = true ∨ (List.range 64).find? (fun k => s.dev.objMatches n k f) = none → t.dev.fld PBS_ERRCNT n 31 24 = min (s.dev.fld PBS_ERRCNT n 31 24 + 1) 255) ∧
      (∀ k : Nat, k < 64 → f.remote = false → (List.range 64).find? (fun k => s.dev.objMatches n k f) = some k →
        t.dev.rd (PBS_ROID (k % 16)) (4 * n + k / 16) = w32 (b2n f.ide * 2 ^ 31 + f.id % 2 ^ 29) ∧ t.dev.rd (PBS_ROTSLO (k % 16)) (4 * n + k / 16) = w32 stamp) ∧
      OnlyPages s t [0x6E, 0x70])) ∧
  (∀ (s : State) (t0 n : Nat) (dom : Bool),
    s.dev.canOn n = true →
    Ends (.canReceiveError t0 n .bit dom) s (fun t =>
      t.dev.fld PBS_ERRCNT n 7 0 = min (s.dev.fld PBS_ERRCNT n 7 0 + 1) 255 ∧ t.dev.recCnt n = min 255 (s.dev.recCnt n + (if dom then 8 else 1)) ∧
      t.dev.canMode n = b2n (decide (127 < s.dev.tec n) || decide (127 < t.dev.recCnt n)) ∧ t.dev.tec n = s.dev.tec n ∧ t.dev.can n = s.dev.can n ∧
      OnlyRegs s t [PBS_ERRCNT.key n 0, PBS_CSTAT.key n 0, (BLK_EVF 0x6E).key 0 0])) ∧
  (∀ (s : State) (t0 n : Nat) (dom : Bool),
    s.dev.canOn n = true →
    Ends (.canReceiveError t0 n .form dom) s (fun t =>
      t.dev.fld PBS_ERRCNT n 23 16 = min (s.dev.fld PBS_ERRCNT n 23 16 + 1) 255 ∧ t.dev.recCnt n = min 255 (s.dev.recCnt n + (if dom then 8 else 1)) ∧
      t.dev.canMode n = b2n (decide (127 < s.dev.tec n) || decide (127 < t.dev.recCnt n)) ∧ t.dev.tec n = s.dev.tec n ∧ t.dev.can n = s.dev.can n ∧
      OnlyRegs s t [PBS_ERRCNT.key n 0, PBS_CSTAT.key n 0, (BLK_EVF 0x6E).key 0 0])) ∧
  (∀ (s : State) (t0 n : Nat) (dom : Bool),
    s.dev.canOn n = true →
    Ends (.canReceiveError t0 n .crc dom) s (fun t =>
      t.dev.fld PBS_ERRCNT n 23 16 = min (s.dev.fld PBS_ERRCNT n 23 16 + 1) 255 ∧ t.dev.recCnt n = min 255 (s.dev.recCnt n + (if dom then 8 else 1)) ∧
      t.dev.canMode n = b2n (decide (127 < s.dev.tec n) || decide (127 < t.dev.recCnt n)) ∧ t.dev.tec n = s.dev.tec n ∧ t.dev.can n = s.dev.can n ∧
      OnlyRegs s t [PBS_ERRCNT.key n 0, PBS_CSTAT.key n 0, (BLK_EVF 0x6E).key 0 0])) ∧
  (∀ (s : State) (t0 n : Nat) (dom : Bool),
    s.dev.canOn n = true →
    Ends (.canReceiveError t0 n .stuff dom) s (fun t =>
      t.dev.fld PBS_ERRCNT n 15 8 = min (s.dev.fld PBS_ERRCNT n 15 8 + 1) 255 ∧ t.dev.recCnt n = min 255 (s.dev.recCnt n + (if dom then 8 else 1)) ∧
      t.dev.canMode n = b2n (decide (127 < s.dev.tec n) || decide (127 < t.dev.recCnt n)) ∧ t.dev.tec n = s.dev.tec n ∧ t.dev.can n = s.dev.can n ∧
      OnlyRegs s t [PBS_ERRCNT.key n 0, PBS_CSTAT.key n 0, (BLK_EVF 0x6E).key 0 0])) ∧
  (∀ (s : State) (t0 n : Nat) (kd : CanRxErr) (dom : Bool),
    s.dev.canOn n = false →
    Ends (.canReceiveError t0 n kd dom) s (fun t =>
      t.dev.ports = s.dev.ports ∧ OnlyRegs s t []))

/-- A UART sends the bytes written to it with DE around them, keeps received characters in order, and marks idle lines. (R552, R553, R554, spec/13_vehicle_and_field_links.md) -/
def Obligations.SerialPortsMoveCharacters : Prop :=
  (∀ (s : State) (i : Initiator) (v : Word) (n : Nat),
    Passes s i SER_TX n ∧ s.dev.serOn n = true ∧ (s.dev.ser n).tx = [] ∧ (s.dev.ser n).de = false →
    Ends (.uartTxWrite i v) s (fun t =>
      (t.dev.ser n).tx = [w8 v.toNat] ∧ (t.dev.ser n).de = true ∧ (t.dev.ser n).txAt = s.dev.time + s.dev.serBits n (s.dev.fld SER_DE n 15 8) ∧ t.dev.fld SER_STAT n 14 8 = 1 ∧
      OnlyRegs s t [SER_STAT.key n 0])) ∧
  (∀ (s : State) (i : Initiator) (v : Word) (n : Nat),
    Passes s i SER_TX n ∧ s.dev.serOn n = false ∧ (s.dev.ser n).tx.length = 64 →
    Ends (.uartTxWrite i v) s (fun t =>
      t.dev.ser n = s.dev.ser n ∧ OnlyRegs s t [])) ∧
  (∀ (s : State) (t0 n : Nat),
    s.dev.serOn n = true ∧ (s.dev.ser n).tx = [] ∧ (s.dev.ser n).de = true ∧ (s.dev.ser n).txAt + s.dev.serBits n (s.dev.fld SER_DE n 7 0) ≤ t0 →
    Ends (.uartTxDone t0 n) s (fun t =>
      (t.dev.ser n).de = false ∧ t.dev.bit SER_STAT n 18 = true ∧ t.dev.bit (BLK_EVF 0x74) 0 2 = true ∧ OnlyRegs s t [SER_STAT.key n 0, (BLK_EVF 0x74).key 0 0])) ∧
  (∀ (s : State) (t0 n : Nat) (c : Byte) (p f b : Bool),
    s.dev.bankOff 2 = false ∧ s.dev.serOn n = true ∧ (s.dev.ser n).de = false ∧ (s.dev.ser n).rx.length < 64 →
    Ends (.uartRxChar t0 n c p f b) s (fun t =>
      let ch := if s.dev.bit SER_CFG n 8 then c.toNat % 128 else c.toNat
      (t.dev.ser n).rx = (s.dev.ser n).rx ++ [w32 (0x8000 + b2n b * 0x400 + b2n f * 0x200 + b2n p * 0x100 + ch)] ∧ (t.dev.ser n).rxAt = some t0 ∧
      t.dev.fld SER_STAT n 6 0 = (s.dev.ser n).rx.length + 1 ∧ t.dev.bit SER_STAT n 16 = false ∧ t.dev.bit (BLK_EVF 0x74) 0 0 = true ∧ OnlyRegs s t [SER_STAT.key n 0, (BLK_EVF 0x74).key 0 0])) ∧
  (∀ (s : State) (t0 n : Nat) (c : Byte) (p f b : Bool),
    s.dev.bankOff 2 = false ∧ s.dev.serOn n = true ∧ (s.dev.ser n).de = false ∧ (s.dev.ser n).rx.length = 64 →
    Ends (.uartRxChar t0 n c p f b) s (fun t =>
      (t.dev.ser n).rx = (s.dev.ser n).rx ∧ t.dev.bit SER_STAT n 17 = true ∧ t.dev.bit (BLK_EVF 0x74) 0 3 = true ∧ OnlyRegs s t [SER_STAT.key n 0, (BLK_EVF 0x74).key 0 0])) ∧
  (∀ (s : State) (i : Initiator) (n : Nat),
    s.dev.reaches i 0x74 = true ∧ s.dev.up .link = true ∧ NothingWaits s ∧ n = s.dev.instOf i 0x74 0x414 ∧ n < s.dev.variant.uarts →
    Ends (.uartRxRead i) s (fun t =>
      kvGet t.dev.resp i.id {} = ⟨false, (s.dev.ser n).rx.headD 0⟩ ∧ (t.dev.ser n).rx = (s.dev.ser n).rx.tail ∧ OnlyRegs s t [SER_STAT.key n 0])) ∧
  (∀ (s : State) (t0 n a : Nat),
    s.dev.serOn n = true ∧ (s.dev.ser n).de = false ∧ (s.dev.ser n).rxAt = some a ∧ s.dev.fld SER_TMO n 7 0 ≠ 0 ∧ a * 2 + s.dev.serBits n (s.dev.fld SER_TMO n 7 0 * s.dev.serChar n) ≤ t0 * 2 →
    Ends (.uartIdle t0 n) s (fun t =>
      (t.dev.ser n).rxAt = none ∧ (t.dev.ser n).rx = (s.dev.ser n).rx ∧ t.dev.bit SER_STAT n 16 = true ∧ t.dev.bit (BLK_EVF 0x74) 0 1 = true ∧ OnlyRegs s t [SER_STAT.key n 0, (BLK_EVF 0x74).key 0 0])) ∧
  (∀ (s : State) (i : Initiator) (v : Word) (n : Nat),
    Passes s i SER_TX n ∧ s.dev.serOn n = false ∧ (s.dev.ser n).tx.length < 64 →
    Ends (.uartTxWrite i v) s (fun t =>
      (t.dev.ser n).tx = (s.dev.ser n).tx ++ [w8 v.toNat] ∧ (t.dev.ser n).de = (s.dev.ser n).de ∧ OnlyRegs s t [SER_STAT.key n 0])) ∧
  (∀ (s : State) (i : Initiator) (v : Word) (n : Nat),
    Passes s i SER_TX n ∧ s.dev.serOn n = true ∧ (s.dev.ser n).de = true ∧ s.dev.time < (s.dev.ser n).txAt →
    Ends (.uartTxWrite i v) s (fun t =>
      (t.dev.ser n).tx = (if (s.dev.ser n).tx.length < 64 then (s.dev.ser n).tx ++ [w8 v.toNat] else (s.dev.ser n).tx) ∧ (t.dev.ser n).de = true ∧
      (t.dev.ser n).txAt = (s.dev.ser n).txAt ∧ OnlyRegs s t [SER_STAT.key n 0])) ∧
  (∀ (s : State) (t0 n : Nat),
    s.dev.serOn n = false ∨ (s.dev.ser n).de = false ∨ (s.dev.ser n).tx = [] ∧ t0 < (s.dev.ser n).txAt + s.dev.serBits n (s.dev.fld SER_DE n 7 0) →
    Ends (.uartTxDone t0 n) s (fun t =>
      t.dev.ser n = s.dev.ser n ∧ OnlyRegs s t [SER_STAT.key n 0])) ∧
  (∀ (s : State) (t0 n : Nat) (c : Byte) (p f b : Bool),
    s.dev.bankOff 2 = false ∧ s.dev.serOn n = true ∧ (s.dev.ser n).de = true ∧ (s.dev.ser n).tx = [] →
    s.dev.bit SER_CFG n 24 = true ∧ (s.dev.ser n).rx.length < 64 →
    Ends (.uartRxChar t0 n c p f b) s (fun t =>
      let ch := if s.dev.bit SER_CFG n 8 then c.toNat % 128 else c.toNat
      (t.dev.ser n).rx = (s.dev.ser n).rx ++ [w32 (0x8000 + b2n b * 0x400 + b2n f * 0x200 + b2n p * 0x100 + ch)] ∧ (t.dev.ser n).rxAt = some t0 ∧
      t.dev.fld SER_STAT n 6 0 = (s.dev.ser n).rx.length + 1 ∧ t.dev.bit (BLK_EVF 0x74) 0 0 = true ∧ OnlyRegs s t [SER_STAT.key n 0, (BLK_EVF 0x74).key 0 0])) ∧
  (∀ (s : State) (t0 n : Nat) (c : Byte) (p f b : Bool),
    s.dev.bankOff 2 = true ∨ s.dev.serOn n = false ∨ (s.dev.ser n).de = true ∧ (s.dev.ser n).tx = [] ∧ s.dev.bit SER_CFG n 24 = false →
    Ends (.uartRxChar t0 n c p f b) s (fun t =>
      t.dev.ser n = s.dev.ser n ∧ OnlyRegs s t [SER_STAT.key n 0])) ∧
  (∀ (s : State) (t0 n : Nat),
    (s.dev.ser n).tx = [] →
    s.dev.serOn n = false ∨ s.dev.fld SER_TMO n 7 0 = 0 ∨ ((s.dev.ser n).rxAt.map (fun a => decide (t0 * 2 < a * 2 + s.dev.serBits n (s.dev.fld SER_TMO n 7 0 * s.dev.serChar n)))).getD true = true →
    Ends (.uartIdle t0 n) s (fun t =>
      t.dev.ser n = s.dev.ser n ∧ OnlyRegs s t [SER_STAT.key n 0]))

/-- Rounds poll each enabled slave, good answers advance SEQ, missing ones count and step the mode, slaves get lost. (R566, R567, R568, R569, R571, R572, R574, R575, R577, spec/14_site_powerline.md) -/
def Obligations.PowerLinePollsFollowTheirRounds : Prop :=
  (∀ (s : State) (t0 m x : Nat),
    s.dev.plmOn m = true ∧ (s.dev.plm m).inRound = false ∧ (s.dev.plm m).roundAt = none ∧ s.dev.nextSlave m (32 * m) = some x →
    Ends (.pollRoundStart t0 m) s (fun t =>
      (t.dev.plm m).inRound = true ∧ (t.dev.plm m).cur = x ∧ (t.dev.plm m).tries = 0 ∧ (t.dev.plm m).roundAt = some t0 ∧ t.dev.bit PLM_MSTAT m 8 = true ∧ t.dev.fld PLM_MSTAT m 5 0 = x % 64 ∧
      OnlyRegs s t [PLM_MSTAT.key m 0])) ∧
  (∀ (s : State) (t0 m : Nat),
    s.dev.plmOn m = true ∧ (s.dev.plm m).inRound = true ∧ (s.dev.plm m).attempt = none ∧ (s.dev.plm m).freeAt ≤ t0 ∧ s.dev.plcEn (s.dev.plm m).cur = true ∧ (s.dev.plm m).tries = 0 ∧ (s.dev.pls (s.dev.plm m).cur).frame = none →
    Ends (.pollAttempt t0 m) s (fun t =>
      let x := (s.dev.plm m).cur
      let p := (s.dev.pls x).pushed
      (t.dev.pls x).bytes = s.dev.pollFrame x p.isSome (p.getD []) ∧ (t.dev.pls x).pushed = none ∧ (t.dev.pls x).frame = some (p.isSome, p.getD []) ∧
      (t.dev.plm m).tries = 1 ∧ (t.dev.plm m).attempt = some { slave := x, tpoll := t0, txEnd := t0 + s.dev.plcDur x (p.getD []).length } ∧ OnlyRegs s t [])) ∧
  (∀ (s : State) (t0 m : Nat) (a : PlcAttempt) (f : List Byte),
    s.dev.plmOn m = true ∧ (s.dev.plm m).attempt = some a ∧ a.txEnd ≤ t0 ∧ s.dev.plcGood m true f = true ∧ f.length = 16 ∧ leAt f 5 1 = 0 ∧ a.slave / 32 = m →
    leAt f 0 1 = 2 ∧ leAt f 1 1 = leAt (s.dev.pls a.slave).bytes 1 1 ∧ leAt f 4 1 = leAt (s.dev.pls a.slave).bytes 4 1 ∧ s.dev.plcEn a.slave = true →
    Ends (.respReceive t0 m true f) s (fun t =>
      t.dev.fld PLM_SSEQ a.slave 7 0 = (s.dev.fld PLM_SSEQ a.slave 7 0 + 1) % 256 ∧ t.dev.fld PLM_SSEQ a.slave 15 8 = s.dev.fld PLM_SSEQ a.slave 7 0 ∧
      t.dev.rd PLM_SLASTLO a.slave = w32 (max s.dev.time t0) ∧ t.dev.fld PLM_SSTAT a.slave 3 2 = 1 ∧ (t.dev.plm m).attempt = none ∧
      OnlyRegs s t [PLM_SSEQ.key a.slave 0, PLM_SSTAT.key a.slave 0, PLM_SLASTLO.key a.slave 0, PLM_SLASTHI.key a.slave 0, PLM_MSTAT.key m 0, (BLK_EVF 0x72).key 0 0])) ∧
  (∀ (s : State) (t0 m : Nat) (a : PlcAttempt),
    s.dev.plmOn m = true ∧ (s.dev.plm m).attempt = some a ∧ a.txEnd + 4500000 ≤ t0 ∧ s.dev.plcEn a.slave = true ∧ (s.dev.plm m).tries ≤ s.dev.fld PLM_MSTEP m 11 8 ∧ a.slave / 32 = m →
    Ends (.responseTimeout t0 m) s (fun t =>
      t.dev.fld PLM_MCNT m 31 16 = min (s.dev.fld PLM_MCNT m 31 16 + 1) 65535 ∧ t.dev.fld PLM_SCNT a.slave 15 0 = min (s.dev.fld PLM_SCNT a.slave 15 0 + 1) 65535 ∧
      (t.dev.plm m).attempt = none ∧ (t.dev.plm m).freeAt = max s.dev.time t0 + 2000000 ∧ (t.dev.plm m).inRound = (s.dev.plm m).inRound ∧
      OnlyRegs s t [PLM_MCNT.key m 0, PLM_SCNT.key a.slave 0, PLM_SSTAT.key a.slave 0, PLM_MSTAT.key m 0, (BLK_EVF 0x72).key 0 0])) ∧
  (∀ (s : State) (t0 x : Nat),
    s.dev.plmOn (x / 32) = true ∧ s.dev.plcEn x = true ∧ s.dev.fld PLM_SSTAT x 3 2 = 1 ∧ (s.dev.pls x).since + clampN (s.dev.fld PLM_MTIM (x / 32) 13 0) 1000 10000 * 1000000 ≤ t0 →
    Ends (.slaveLost t0 x) s (fun t =>
      t.dev.fld PLM_SSTAT x 3 2 = 2 ∧ t.dev.bit PLM_SSTAT x 7 = true ∧ t.dev.bit (BLK_EVF 0x72) 0 1 = true ∧ OnlyRegs s t [PLM_SSTAT.key x 0, (BLK_EVF 0x72).key 0 0])) ∧
  (∀ (s : State) (i : Initiator) (v : Word) (x : Nat),
    Passes s i PLM_SCTL x ∧ bitOf v 0 = false →
    Ends (.dlpush i v) s (fun t =>
      (t.dev.pls x).pushed = (if 64 < bits v 22 16 then (s.dev.pls x).pushed else some (((List.range 16).flatMap (fun w => leBytes 4 (s.dev.rd (PLM_SDL w) x).toNat)).take (bits v 22 16))) ∧
      OnlyRegs s t [(BLK_ERR 0x73).key 0 0] ∧ (bits v 22 16 ≤ 64 → OnlyRegs s t []))) ∧
  (∀ (s : State) (i : Initiator) (v : Word) (x : Nat),
    Passes s i PLM_SCTL x ∧ bitOf v 4 = false →
    Ends (.modeset i v) s (fun t =>
      (s.dev.cool = false → t.dev.plcMode x = min 2 (s.dev.fld PLM_SCFG x 1 0) ∧ t.dev.fld PLM_SSTAT x 23 8 = 0 ∧ OnlyRegs s t [PLM_SSTAT.key x 0]) ∧
      (s.dev.cool = true → OnlyRegs s t [(BLK_ERR 0x73).key 0 0]))) ∧
  (∀ (s : State) (t0 p : Nat),
    s.dev.bankOff 3 = false ∧ p < 3 ∧ s.dev.variant ≠ .px4812 ∧ s.dev.up .link = true ∧ s.dev.level ≠ .standby ∧ s.dev.bit PLM_ZCCFG 0 p = true ∧ kvGet s.dev.plc.edge p none = none →
    Ends (.zeroCrossEdge t0 p) s (fun t =>
      t.dev.rd (PLM_ZCTSLO p) 0 = w32 (t0 - s.dev.fld (PLM_ZCDLY p) 0 15 0 * 1000) ∧ t.dev.rd (PLM_ZCTSHI p) 0 = w32 ((t0 - s.dev.fld (PLM_ZCDLY p) 0 15 0 * 1000) / 2 ^ 32) ∧
      kvGet t.dev.plc.edge p none = some (t0 - s.dev.fld (PLM_ZCDLY p) 0 15 0 * 1000) ∧ OnlyRegs s t [(PLM_ZCTSLO p).key 0 0, (PLM_ZCTSHI p).key 0 0])) ∧
  (∀ (s : State) (t0 m x r : Nat),
    s.dev.plmOn m = true ∧ (s.dev.plm m).inRound = false ∧ (s.dev.plm m).roundAt = some r ∧ r + clampN (s.dev.fld PLM_MTIM m 26 16) 50 2000 * 1000000 ≤ t0 ∧ s.dev.nextSlave m (32 * m) = some x →
    Ends (.pollRoundStart t0 m) s (fun t =>
      (t.dev.plm m).inRound = true ∧ (t.dev.plm m).cur = x ∧ (t.dev.plm m).tries = 0 ∧ (t.dev.plm m).roundAt = some t0 ∧ t.dev.bit PLM_MSTAT m 8 = true ∧ t.dev.fld PLM_MSTAT m 5 0 = x % 64 ∧
      OnlyRegs s t [PLM_MSTAT.key m 0])) ∧
  (∀ (s : State) (t0 m : Nat),
    s.dev.plmOn m = true ∧ (s.dev.plm m).inRound = false ∧ s.dev.nextSlave m (32 * m) = none →
    (∀ r ∈ (s.dev.plm m).roundAt, r + clampN (s.dev.fld PLM_MTIM m 26 16) 50 2000 * 1000000 ≤ t0) →
    Ends (.pollRoundStart t0 m) s (fun t =>
      (t.dev.plm m).inRound = false ∧ (t.dev.plm m).roundAt = some t0 ∧ t.dev.fld PLM_MSTAT m 31 16 = (s.dev.fld PLM_MSTAT m 31 16 + 1) % 65536 ∧
      OnlyRegs s t [PLM_MSTAT.key m 0])) ∧
  (∀ (s : State) (t0 m : Nat),
    s.dev.plmOn m = false ∨ (s.dev.plm m).inRound = true ∨ ((s.dev.plm m).roundAt.map (fun r => decide (t0 < r + clampN (s.dev.fld PLM_MTIM m 26 16) 50 2000 * 1000000))).getD false = true →
    Ends (.pollRoundStart t0 m) s (fun t =>
      t.dev.plc = s.dev.plc ∧ OnlyRegs s t [])) ∧
  (∀ (s : State) (t0 m : Nat) (p : Bool × List Byte),
    s.dev.plmOn m = true ∧ (s.dev.plm m).inRound = true ∧ (s.dev.plm m).attempt = none ∧ (s.dev.plm m).freeAt ≤ t0 ∧ s.dev.plcEn (s.dev.plm m).cur = true ∧ (s.dev.plm m).tries = 0 ∧ (s.dev.pls (s.dev.plm m).cur).frame = some p →
    Ends (.pollAttempt t0 m) s (fun t =>
      let x := (s.dev.plm m).cur
      (t.dev.pls x).bytes = s.dev.pollFrame x p.1 p.2 ∧ (t.dev.pls x).pushed = (s.dev.pls x).pushed ∧ (t.dev.pls x).frame = some p ∧
      (t.dev.plm m).tries = 1 ∧ (t.dev.plm m).attempt = some { slave := x, tpoll := t0, txEnd := t0 + s.dev.plcDur x p.2.length } ∧ OnlyRegs s t [])) ∧
  (∀ (s : State) (t0 m : Nat) (p : Bool × List Byte),
    s.dev.plmOn m = true ∧ (s.dev.plm m).inRound = true ∧ (s.dev.plm m).attempt = none ∧ (s.dev.plm m).freeAt ≤ t0 ∧ s.dev.plcEn (s.dev.plm m).cur = true ∧ (s.dev.plm m).tries ≠ 0 ∧ (s.dev.pls (s.dev.plm m).cur).frame = some p →
    Ends (.pollAttempt t0 m) s (fun t =>
      let x := (s.dev.plm m).cur
      (t.dev.pls x).bytes = (s.dev.pls x).bytes ∧ (t.dev.pls x).pushed = (s.dev.pls x).pushed ∧ (t.dev.pls x).frame = some p ∧
      (t.dev.plm m).tries = (s.dev.plm m).tries + 1 ∧ (t.dev.plm m).attempt = some { slave := x, tpoll := t0, txEnd := t0 + s.dev.plcDur x ((s.dev.pls x).bytes.length - 16) } ∧ OnlyRegs s t [])) ∧
  (∀ (s : State) (t0 m y : Nat),
    s.dev.plmOn m = true ∧ (s.dev.plm m).inRound = true ∧ (s.dev.plm m).attempt = none ∧ (s.dev.plm m).freeAt ≤ t0 ∧ s.dev.plcEn (s.dev.plm m).cur = false ∧ s.dev.nextSlave m ((s.dev.plm m).cur + 1) = some y ∧ (s.dev.pls y).frame = none →
    Ends (.pollAttempt t0 m) s (fun t =>
      let p := (s.dev.pls y).pushed
      (t.dev.pls y).bytes = s.dev.pollFrame y p.isSome (p.getD []) ∧ (t.dev.pls y).pushed = none ∧ (t.dev.pls y).frame = some (p.isSome, p.getD []) ∧
      (t.dev.plm m).cur = y ∧ (t.dev.plm m).tries = 1 ∧ (t.dev.plm m).attempt = some { slave := y, tpoll := t0, txEnd := t0 + s.dev.plcDur y (p.getD []).length } ∧
      t.dev.fld PLM_MSTAT m 5 0 = y % 64 ∧ OnlyRegs s t [PLM_MSTAT.key m 0])) ∧
  (∀ (s : State) (t0 m : Nat),
    s.dev.plmOn m = true ∧ (s.dev.plm m).inRound = true ∧ (s.dev.plm m).attempt = none ∧ (s.dev.plm m).freeAt ≤ t0 ∧ s.dev.plcEn (s.dev.plm m).cur = false ∧ s.dev.nextSlave m ((s.dev.plm m).cur + 1) = none →
    Ends (.pollAttempt t0 m) s (fun t =>
      (t.dev.plm m).inRound = false ∧ (t.dev.plm m).attempt = none ∧ t.dev.plc.slave = s.dev.plc.slave ∧ t.dev.fld PLM_MSTAT m 31 16 = (s.dev.fld PLM_MSTAT m 31 16 + 1) % 65536 ∧
      OnlyRegs s t [PLM_MSTAT.key m 0])) ∧
  (∀ (s : State) (t0 m : Nat),
    s.dev.plmOn m = false ∨ (s.dev.plm m).inRound = false ∨ (s.dev.plm m).attempt.isSome = true ∨ (s.dev.plcEn (s.dev.plm m).cur = true ∧ t0 < (s.dev.plm m).freeAt) →
    Ends (.pollAttempt t0 m) s (fun t =>
      t.dev.plc = s.dev.plc ∧ OnlyRegs s t [])) ∧
  (∀ (s : State) (t0 m : Nat) (a : PlcAttempt) (ok : Bool) (f : List Byte),
    s.dev.plmOn m = true ∧ (s.dev.plm m).attempt = some a ∧ a.txEnd ≤ t0 ∧ a.slave / 32 = m →
    s.dev.plcGood m ok f = true ∧ leAt f 0 1 = 2 ∧ leAt f 1 1 = leAt (s.dev.pls a.slave).bytes 1 1 ∧ leAt f 4 1 = leAt (s.dev.pls a.slave).bytes 4 1 →
    Ends (.respReceive t0 m ok f) s (fun t =>
      let l := leAt f 6 1
      let seq := s.dev.fld PLM_SSEQ a.slave 7 0
      t.dev.rd PLM_SSEQ a.slave = w32 ((seq + 1) % 256 + seq * 256 + (s.dev.fld PLM_SSEQ a.slave 31 16 + 1) % 65536 * 65536) ∧
      t.dev.rd PLM_SLASTLO a.slave = w32 (max s.dev.time t0) ∧ t.dev.rd PLM_SLASTHI a.slave = w32 (max s.dev.time t0 / 2 ^ 32) ∧
      t.dev.fld PLM_SSTAT a.slave 3 2 = (if s.dev.plcEn a.slave then 1 else 0) ∧ (t.dev.pls a.slave).frame = none ∧ (t.dev.pls a.slave).since = max s.dev.time t0 ∧
      (t.dev.plm m).attempt = none ∧ (t.dev.plm m).freeAt = max s.dev.time t0 + 2000000 ∧
      (l ≠ 0 → t.dev.rd PLM_SULLEN a.slave = w32 (l + seq * 256) ∧ t.dev.bit PLM_SSTAT a.slave 4 = true ∧
        t.dev.bit PLM_SSTAT a.slave 5 = (s.dev.bit PLM_SSTAT a.slave 5 || s.dev.bit PLM_SSTAT a.slave 4) ∧
        t.dev.fld PLM_SSTAT a.slave 31 24 = (s.dev.fld PLM_SSTAT a.slave 31 24 + 1) % 256 ∧ t.dev.bit (BLK_EVF 0x72) 0 0 = true) ∧
      (∀ w < 16, t.dev.rd (PLM_SUL w) a.slave = (if 4 * w < l then w32 (leNat (((slice f 12 l).drop (4 * w)).take 4)) else s.dev.rd (PLM_SUL w) a.slave)) ∧
      ((leAt f 5 1).testBit 0 = true → t.dev.bit PLM_SSTAT a.slave 6 = true ∧ t.dev.bit (BLK_EVF 0x72) 0 2 = true) ∧
      t.dev.rd PLM_SPHASE a.slave = (if (leAt f 5 1).testBit 1 then ((s.dev.at t0).phaseMeasure a.slave a.tpoll (leAt f 8 2)).rd PLM_SPHASE a.slave else s.dev.rd PLM_SPHASE a.slave) ∧
      ((s.dev.nextSlave m (a.slave + 1)).isSome = true → (t.dev.plm m).inRound = (s.dev.plm m).inRound ∧ some (t.dev.plm m).cur = s.dev.nextSlave m (a.slave + 1) ∧ (t.dev.plm m).tries = 0) ∧
      ((s.dev.nextSlave m (a.slave + 1)) = none → (t.dev.plm m).inRound = false ∧ t.dev.fld PLM_MSTAT m 31 16 = (s.dev.fld PLM_MSTAT m 31 16 + 1) % 65536) ∧
      OnlyPages s t [0x72, 0x73])) ∧
  (∀ (s : State) (t0 m : Nat) (a : PlcAttempt) (ok : Bool) (f : List Byte),
    s.dev.plmOn m = true ∧ (s.dev.plm m).attempt = some a ∧ a.txEnd ≤ t0 ∧ a.slave / 32 = m →
    s.dev.plcGood m ok f = true ∧ leAt f 0 1 = 2 ∧ leAt f 1 1 = leAt (s.dev.pls a.slave).bytes 1 1 ∧ leAt f 4 1 = leAt (s.dev.pls a.slave).bytes 4 1 →
    Ends (.respReceive t0 m ok f) s (fun t =>
      ((s.dev.cool = true → t.dev.plcMode a.slave = s.dev.plcMode a.slave) ∧
      (s.dev.cool = false ∧ max 1 (s.dev.fld PLM_MSTEP m 31 24) ≤ s.dev.fld PLM_SSTAT a.slave 23 16 + 1 ∧ s.dev.plcMode a.slave ≠ 0 →
        t.dev.plcMode a.slave = s.dev.plcMode a.slave - 1 ∧ t.dev.fld PLM_SSTAT a.slave 23 8 = 0 ∧ t.dev.bit (BLK_EVF 0x72) 0 4 = true) ∧
      (s.dev.cool = false ∧ s.dev.fld PLM_SSTAT a.slave 23 16 + 1 < max 1 (s.dev.fld PLM_MSTEP m 31 24) →
        t.dev.plcMode a.slave = s.dev.plcMode a.slave ∧ t.dev.fld PLM_SSTAT a.slave 23 16 = s.dev.fld PLM_SSTAT a.slave 23 16 + 1 ∧ t.dev.fld PLM_SSTAT a.slave 15 8 = 0)))) ∧
  (∀ (s : State) (t0 m : Nat) (a : PlcAttempt) (ok : Bool) (f : List Byte),
    s.dev.plmOn m = true ∧ (s.dev.plm m).attempt = some a ∧ a.txEnd ≤ t0 ∧ a.slave / 32 = m ∧ s.dev.plcEn a.slave = true ∧ (s.dev.plm m).tries ≤ s.dev.fld PLM_MSTEP m 11 8 →
    s.dev.plcGood m ok f = false ∨ leAt f 0 1 ≠ 2 ∨ leAt f 1 1 ≠ leAt (s.dev.pls a.slave).bytes 1 1 ∨ leAt f 4 1 ≠ leAt (s.dev.pls a.slave).bytes 4 1 →
    Ends (.respReceive t0 m ok f) s (fun t =>
      t.dev.fld PLM_MCNT m 31 16 = min (s.dev.fld PLM_MCNT m 31 16 + 1) 65535 ∧ t.dev.fld PLM_MCNT m 15 0 = (if s.dev.plcGood m ok f then s.dev.fld PLM_MCNT m 15 0 else min (s.dev.fld PLM_MCNT m 15 0 + 1) 65535) ∧ t.dev.fld PLM_SCNT a.slave 15 0 = min (s.dev.fld PLM_SCNT a.slave 15 0 + 1) 65535 ∧
      (t.dev.plm m).attempt = none ∧ (t.dev.plm m).freeAt = max s.dev.time t0 + 2000000 ∧
      (t.dev.plm m).inRound = (s.dev.plm m).inRound ∧ (t.dev.plm m).tries = (s.dev.plm m).tries ∧ t.dev.pls a.slave = s.dev.pls a.slave ∧
      ((s.dev.cool = true → t.dev.plcMode a.slave = s.dev.plcMode a.slave) ∧
      (s.dev.cool = false ∧ max 1 (s.dev.fld PLM_MSTEP m 19 16) ≤ s.dev.fld PLM_SSTAT a.slave 15 8 + 1 ∧ s.dev.plcMode a.slave < 2 →
        t.dev.plcMode a.slave = s.dev.plcMode a.slave + 1 ∧ t.dev.fld PLM_SSTAT a.slave 23 8 = 0 ∧ t.dev.bit (BLK_EVF 0x72) 0 4 = true) ∧
      (s.dev.cool = false ∧ s.dev.fld PLM_SSTAT a.slave 15 8 + 1 < max 1 (s.dev.fld PLM_MSTEP m 19 16) →
        t.dev.plcMode a.slave = s.dev.plcMode a.slave ∧ t.dev.fld PLM_SSTAT a.slave 15 8 = s.dev.fld PLM_SSTAT a.slave 15 8 + 1 ∧ t.dev.fld PLM_SSTAT a.slave 23 16 = 0)) ∧
      OnlyRegs s t [PLM_MCNT.key m 0, PLM_SCNT.key a.slave 0, PLM_SSTAT.key a.slave 0, PLM_MSTAT.key m 0, (BLK_EVF 0x72).key 0 0])) ∧
  (∀ (s : State) (t0 m : Nat) (a : PlcAttempt) (ok : Bool) (f : List Byte),
    s.dev.plmOn m = true ∧ (s.dev.plm m).attempt = some a ∧ a.txEnd ≤ t0 ∧ a.slave / 32 = m ∧ s.dev.plcEn a.slave = true ∧ s.dev.fld PLM_MSTEP m 11 8 < (s.dev.plm m).tries →
    s.dev.plcGood m ok f = false ∨ leAt f 0 1 ≠ 2 ∨ leAt f 1 1 ≠ leAt (s.dev.pls a.slave).bytes 1 1 ∨ leAt f 4 1 ≠ leAt (s.dev.pls a.slave).bytes 4 1 →
    Ends (.respReceive t0 m ok f) s (fun t =>
      t.dev.fld PLM_MCNT m 31 16 = min (s.dev.fld PLM_MCNT m 31 16 + 1) 65535 ∧ t.dev.fld PLM_MCNT m 15 0 = (if s.dev.plcGood m ok f then s.dev.fld PLM_MCNT m 15 0 else min (s.dev.fld PLM_MCNT m 15 0 + 1) 65535) ∧ t.dev.fld PLM_SCNT a.slave 15 0 = min (s.dev.fld PLM_SCNT a.slave 15 0 + 1) 65535 ∧
      (t.dev.plm m).attempt = none ∧ (t.dev.plm m).freeAt = max s.dev.time t0 + 2000000 ∧
      t.dev.fld PLM_SCNT a.slave 31 16 = min (s.dev.fld PLM_SCNT a.slave 31 16 + 1) 65535 ∧ t.dev.pls a.slave = s.dev.pls a.slave ∧
      ((s.dev.nextSlave m (a.slave + 1)).isSome = true → (t.dev.plm m).inRound = (s.dev.plm m).inRound ∧ some (t.dev.plm m).cur = s.dev.nextSlave m (a.slave + 1) ∧ (t.dev.plm m).tries = 0) ∧
      ((s.dev.nextSlave m (a.slave + 1)) = none → (t.dev.plm m).inRound = false ∧ t.dev.fld PLM_MSTAT m 31 16 = (s.dev.fld PLM_MSTAT m 31 16 + 1) % 65536) ∧
      ((s.dev.cool = true → t.dev.plcMode a.slave = s.dev.plcMode a.slave) ∧
      (s.dev.cool = false ∧ max 1 (s.dev.fld PLM_MSTEP m 19 16) ≤ s.dev.fld PLM_SSTAT a.slave 15 8 + 1 ∧ s.dev.plcMode a.slave < 2 →
        t.dev.plcMode a.slave = s.dev.plcMode a.slave + 1 ∧ t.dev.fld PLM_SSTAT a.slave 23 8 = 0 ∧ t.dev.bit (BLK_EVF 0x72) 0 4 = true) ∧
      (s.dev.cool = false ∧ s.dev.fld PLM_SSTAT a.slave 15 8 + 1 < max 1 (s.dev.fld PLM_MSTEP m 19 16) →
        t.dev.plcMode a.slave = s.dev.plcMode a.slave ∧ t.dev.fld PLM_SSTAT a.slave 15 8 = s.dev.fld PLM_SSTAT a.slave 15 8 + 1 ∧ t.dev.fld PLM_SSTAT a.slave 23 16 = 0)) ∧
      OnlyRegs s t [PLM_MCNT.key m 0, PLM_SCNT.key a.slave 0, PLM_SSTAT.key a.slave 0, PLM_MSTAT.key m 0, (BLK_EVF 0x72).key 0 0])) ∧
  (∀ (s : State) (t0 m : Nat) (ok : Bool) (f : List Byte),
    s.dev.plmOn m = false ∨ ((s.dev.plm m).attempt.map (fun a => decide (t0 < a.txEnd))).getD true = true →
    Ends (.respReceive t0 m ok f) s (fun t =>
      t.dev.plc = s.dev.plc ∧ OnlyRegs s t [])) ∧
  (∀ (s : State) (t0 m : Nat) (a : PlcAttempt),
    s.dev.plmOn m = true ∧ (s.dev.plm m).attempt = some a ∧ a.txEnd + 4500000 ≤ t0 ∧ a.slave / 32 = m ∧ s.dev.plcEn a.slave = true ∧ s.dev.fld PLM_MSTEP m 11 8 < (s.dev.plm m).tries →
    Ends (.responseTimeout t0 m) s (fun t =>
      t.dev.fld PLM_MCNT m 31 16 = min (s.dev.fld PLM_MCNT m 31 16 + 1) 65535 ∧ t.dev.fld PLM_MCNT m 15 0 = s.dev.fld PLM_MCNT m 15 0 ∧ t.dev.fld PLM_SCNT a.slave 15 0 = min (s.dev.fld PLM_SCNT a.slave 15 0 + 1) 65535 ∧
      (t.dev.plm m).attempt = none ∧ (t.dev.plm m).freeAt = max s.dev.time t0 + 2000000 ∧
      t.dev.fld PLM_SCNT a.slave 31 16 = min (s.dev.fld PLM_SCNT a.slave 31 16 + 1) 65535 ∧
      ((s.dev.nextSlave m (a.slave + 1)).isSome = true → (t.dev.plm m).inRound = (s.dev.plm m).inRound ∧ some (t.dev.plm m).cur = s.dev.nextSlave m (a.slave + 1) ∧ (t.dev.plm m).tries = 0) ∧
      ((s.dev.nextSlave m (a.slave + 1)) = none → (t.dev.plm m).inRound = false ∧ t.dev.fld PLM_MSTAT m 31 16 = (s.dev.fld PLM_MSTAT m 31 16 + 1) % 65536) ∧
      ((s.dev.cool = true → t.dev.plcMode a.slave = s.dev.plcMode a.slave) ∧
      (s.dev.cool = false ∧ max 1 (s.dev.fld PLM_MSTEP m 19 16) ≤ s.dev.fld PLM_SSTAT a.slave 15 8 + 1 ∧ s.dev.plcMode a.slave < 2 →
        t.dev.plcMode a.slave = s.dev.plcMode a.slave + 1 ∧ t.dev.fld PLM_SSTAT a.slave 23 8 = 0 ∧ t.dev.bit (BLK_EVF 0x72) 0 4 = true) ∧
      (s.dev.cool = false ∧ s.dev.fld PLM_SSTAT a.slave 15 8 + 1 < max 1 (s.dev.fld PLM_MSTEP m 19 16) →
        t.dev.plcMode a.slave = s.dev.plcMode a.slave ∧ t.dev.fld PLM_SSTAT a.slave 15 8 = s.dev.fld PLM_SSTAT a.slave 15 8 + 1 ∧ t.dev.fld PLM_SSTAT a.slave 23 16 = 0)) ∧
      OnlyRegs s t [PLM_MCNT.key m 0, PLM_SCNT.key a.slave 0, PLM_SSTAT.key a.slave 0, PLM_MSTAT.key m 0, (BLK_EVF 0x72).key 0 0])) ∧
  (∀ (s : State) (t0 m : Nat) (a : PlcAttempt),
    s.dev.plmOn m = true ∧ (s.dev.plm m).attempt = some a ∧ a.txEnd + 4500000 ≤ t0 ∧ a.slave / 32 = m ∧ s.dev.plcEn a.slave = false →
    Ends (.responseTimeout t0 m) s (fun t =>
      t.dev.fld PLM_MCNT m 31 16 = min (s.dev.fld PLM_MCNT m 31 16 + 1) 65535 ∧ t.dev.fld PLM_MCNT m 15 0 = s.dev.fld PLM_MCNT m 15 0 ∧ t.dev.fld PLM_SCNT a.slave 15 0 = min (s.dev.fld PLM_SCNT a.slave 15 0 + 1) 65535 ∧
      (t.dev.plm m).attempt = none ∧ (t.dev.plm m).freeAt = max s.dev.time t0 + 2000000 ∧
      ((s.dev.nextSlave m (a.slave + 1)).isSome = true → (t.dev.plm m).inRound = (s.dev.plm m).inRound ∧ some (t.dev.plm m).cur = s.dev.nextSlave m (a.slave + 1) ∧ (t.dev.plm m).tries = 0) ∧
      ((s.dev.nextSlave m (a.slave + 1)) = none → (t.dev.plm m).inRound = false ∧ t.dev.fld PLM_MSTAT m 31 16 = (s.dev.fld PLM_MSTAT m 31 16 + 1) % 65536) ∧
      OnlyRegs s t [PLM_MCNT.key m 0, PLM_SCNT.key a.slave 0, PLM_SSTAT.key a.slave 0, PLM_MSTAT.key m 0, (BLK_EVF 0x72).key 0 0])) ∧
  (∀ (s : State) (t0 m : Nat) (a : PlcAttempt),
    s.dev.plmOn m = true ∧ (s.dev.plm m).attempt = some a ∧ a.txEnd + 4500000 ≤ t0 ∧ a.slave / 32 = m →
    Ends (.responseTimeout t0 m) s (fun t =>
      ((s.dev.cool = true → t.dev.plcMode a.slave = s.dev.plcMode a.slave) ∧
      (s.dev.cool = false ∧ max 1 (s.dev.fld PLM_MSTEP m 19 16) ≤ s.dev.fld PLM_SSTAT a.slave 15 8 + 1 ∧ s.dev.plcMode a.slave < 2 →
        t.dev.plcMode a.slave = s.dev.plcMode a.slave + 1 ∧ t.dev.fld PLM_SSTAT a.slave 23 8 = 0 ∧ t.dev.bit (BLK_EVF 0x72) 0 4 = true) ∧
      (s.dev.cool = false ∧ s.dev.fld PLM_SSTAT a.slave 15 8 + 1 < max 1 (s.dev.fld PLM_MSTEP m 19 16) →
        t.dev.plcMode a.slave = s.dev.plcMode a.slave ∧ t.dev.fld PLM_SSTAT a.slave 15 8 = s.dev.fld PLM_SSTAT a.slave 15 8 + 1 ∧ t.dev.fld PLM_SSTAT a.slave 23 16 = 0)))) ∧
  (∀ (s : State) (t0 m : Nat),
    s.dev.plmOn m = false ∨ ((s.dev.plm m).attempt.map (fun a => decide (t0 < a.txEnd + 4500000))).getD true = true →
    Ends (.responseTimeout t0 m) s (fun t =>
      t.dev.plc = s.dev.plc ∧ OnlyRegs s t [])) ∧
  (∀ (s : State) (t0 m r : Nat) (a : PlcAttempt),
    s.dev.plmOn m = true ∧ (s.dev.plm m).attempt = some a ∧ a.txEnd + 4500000 ≤ t0 ∧ a.slave / 32 = m ∧ (s.dev.plm m).roundAt = some r →
    r + clampN (s.dev.fld PLM_MTIM m 26 16) 50 2000 * 1000000 < max s.dev.time t0 ∧ (s.dev.plm m).late = false →
    Ends (.responseTimeout t0 m) s (fun t =>
      t.dev.bit PLM_MSTAT m 9 = true ∧ t.dev.bit (BLK_EVF 0x72) 0 5 = true ∧ (t.dev.plm m).late = true)) ∧
  (∀ (s : State) (t0 x : Nat),
    s.dev.plmOn (x / 32) = false ∨ s.dev.plcEn x = false ∨ s.dev.fld PLM_SSTAT x 3 2 ≠ 1 ∨ t0 < (s.dev.pls x).since + clampN (s.dev.fld PLM_MTIM (x / 32) 13 0) 1000 10000 * 1000000 →
    Ends (.slaveLost t0 x) s (fun t =>
      t.dev.plc = s.dev.plc ∧ OnlyRegs s t [])) ∧
  (∀ (s : State) (i : Initiator) (v : Word) (x : Nat),
    Passes s i PLM_SCTL x ∧ bitOf v 0 = true ∧ s.dev.cool = false →
    Ends (.dlpush i v) s (fun t =>
      (t.dev.pls x).pushed = (if 64 < bits v 22 16 then (s.dev.pls x).pushed else some (((List.range 16).flatMap (fun w => leBytes 4 (s.dev.rd (PLM_SDL w) x).toNat)).take (bits v 22 16))) ∧
      t.dev.plcMode x = min 2 (s.dev.fld PLM_SCFG x 1 0) ∧ t.dev.fld PLM_SSTAT x 23 8 = 0 ∧ OnlyRegs s t [PLM_SSTAT.key x 0, (BLK_ERR 0x73).key 0 0])) ∧
  (∀ (s : State) (i : Initiator) (v : Word) (x : Nat),
    Passes s i PLM_SCTL x ∧ bitOf v 0 = true ∧ s.dev.cool = true →
    Ends (.dlpush i v) s (fun t =>
      (t.dev.pls x).pushed = (if 64 < bits v 22 16 then (s.dev.pls x).pushed else some (((List.range 16).flatMap (fun w => leBytes 4 (s.dev.rd (PLM_SDL w) x).toNat)).take (bits v 22 16))) ∧ t.dev.bit (BLK_ERR 0x73) 0 31 = true ∧ OnlyRegs s t [(BLK_ERR 0x73).key 0 0])) ∧
  (∀ (s : State) (i : Initiator) (v : Word) (x : Nat),
    Passes s i PLM_SCTL x ∧ 64 < bits v 22 16 →
    Ends (.dlpush i v) s (fun t =>
      t.dev.bit (BLK_ERR 0x73) 0 31 = true)) ∧
  (∀ (s : State) (i : Initiator) (v : Word) (x : Nat),
    Passes s i PLM_SCTL x ∧ bitOf v 4 = true →
    Ends (.modeset i v) s (fun t =>
      (t.dev.pls x).pushed = (if 64 < bits v 22 16 then (s.dev.pls x).pushed else some (((List.range 16).flatMap (fun w => leBytes 4 (s.dev.rd (PLM_SDL w) x).toNat)).take (bits v 22 16))) ∧
      (s.dev.cool = false → t.dev.plcMode x = min 2 (s.dev.fld PLM_SCFG x 1 0) ∧ t.dev.fld PLM_SSTAT x 23 8 = 0) ∧
      (s.dev.cool = true → t.dev.bit (BLK_ERR 0x73) 0 31 = true ∧ OnlyRegs s t [(BLK_ERR 0x73).key 0 0]) ∧ OnlyRegs s t [PLM_SSTAT.key x 0, (BLK_ERR 0x73).key 0 0])) ∧
  (∀ (s : State) (t0 p e : Nat),
    s.dev.bankOff 3 = false ∧ p < 3 ∧ s.dev.variant ≠ .px4812 ∧ s.dev.up .link = true ∧ s.dev.level ≠ .standby ∧ s.dev.bit PLM_ZCCFG 0 p = true ∧ kvGet s.dev.plc.edge p none = some e →
    e + 5000000 ≤ t0 - s.dev.fld (PLM_ZCDLY p) 0 15 0 * 1000 →
    Ends (.zeroCrossEdge t0 p) s (fun t =>
      t.dev.rd (PLM_ZCTSLO p) 0 = w32 (t0 - s.dev.fld (PLM_ZCDLY p) 0 15 0 * 1000) ∧ t.dev.rd (PLM_ZCTSHI p) 0 = w32 ((t0 - s.dev.fld (PLM_ZCDLY p) 0 15 0 * 1000) / 2 ^ 32) ∧
      kvGet t.dev.plc.edge p none = some (t0 - s.dev.fld (PLM_ZCDLY p) 0 15 0 * 1000) ∧ t.dev.plc.period = (if p = 0 then some (t0 - s.dev.fld (PLM_ZCDLY p) 0 15 0 * 1000 - e) else s.dev.plc.period) ∧
      OnlyRegs s t [(PLM_ZCTSLO p).key 0 0, (PLM_ZCTSHI p).key 0 0])) ∧
  (∀ (s : State) (t0 p : Nat),
    s.dev.bankOff 3 = true ∨ 3 ≤ p ∨ s.dev.variant = .px4812 ∨ s.dev.up .link = false ∨ s.dev.level = .standby ∨ s.dev.bit PLM_ZCCFG 0 p = false ∨
      ((kvGet s.dev.plc.edge p none).map (fun e => decide (t0 - s.dev.fld (PLM_ZCDLY p) 0 15 0 * 1000 < e + 5000000))).getD false = true →
    Ends (.zeroCrossEdge t0 p) s (fun t =>
      t.dev.plc = s.dev.plc ∧ OnlyRegs s t []))

/-- Claims take the best source until completed, timers and alarms fire at their instants, disciplines track and hold over. (R586, R591, R593, R610, R612, R613, R614, R615, spec/15_compute_island.md) -/
def Obligations.InterruptsTimersAndTheTimebase : Prop :=
  (∀ (s : State) (i : Initiator) (c k : Nat),
    s.dev.reaches i 0x19 = true ∧ s.dev.up .compute = true ∧ s.dev.holdsWrite i 0x19 = false ∧ k = s.dev.bestSource (c % 8) ∧ k ≠ 0 →
    Ends (.interruptClaim i c) s (fun t =>
      kvGet t.dev.resp i.id {} = ⟨false, w32 k⟩ ∧ t.dev.cmp.claimed = s.dev.cmp.claimed ||| 2 ^ k ∧ t.dev.srcPending k = false ∧ OnlyRegs s t [])) ∧
  (∀ (s : State) (i : Initiator) (c : Nat),
    s.dev.reaches i 0x19 = true ∧ s.dev.up .compute = true ∧ s.dev.holdsWrite i 0x19 = false ∧ s.dev.bestSource (c % 8) = 0 →
    Ends (.interruptClaim i c) s (fun t =>
      kvGet t.dev.resp i.id {} = ⟨false, 0⟩ ∧ t.dev.cmp = s.dev.cmp ∧ OnlyRegs s t [])) ∧
  (∀ (s : State) (i : Initiator) (c m : Nat) (v : Word),
    Passes s i (PIC_CLAIM (c % 8)) m →
    Ends (.interruptComplete i c v) s (fun t =>
      t.dev.cmp.claimed = (if decide (v.toNat < 256) && s.dev.srcEnabled (c % 8) v.toNat && s.dev.cmp.claimed.testBit v.toNat then s.dev.cmp.claimed - 2 ^ v.toNat else s.dev.cmp.claimed) ∧
      OnlyRegs s t [])) ∧
  (∀ (s : State) (t0 : Nat),
    Ends (.machineTimerInterrupt t0) s (fun t =>
      (∀ h : Nat, h < 4 → t.dev.cmp.mtip.testBit h = decide ((s.dev.rd (PIC_MTCMPHI h) 0).toNat * 2 ^ 32 + (s.dev.rd (PIC_MTCMPLO h) 0).toNat ≤ max s.dev.time t0)) ∧
      OnlyRegs s t [])) ∧
  (∀ (s : State) (i : Option Initiator) (a : Nat),
    s.dev.up .compute = true →
    Ends (.sramReadEcc i a .corrected) s (fun t =>
      (t.dev.rd PIC_ECCCNT 0).toNat = min ((s.dev.rd PIC_ECCCNT 0).toNat + 1) 0xFFFFFFFF ∧ OnlyRegs s t [PIC_ECCCNT.key 0 0])) ∧
  (∀ (s : State) (i : Initiator) (a : Nat),
    s.dev.up .compute = true →
    Ends (.sramReadEcc (some i) a .uncorrectable) s (fun t =>
      kvGet t.dev.resp i.id {} = ⟨true, 0⟩ ∧ t.dev.rd PIC_ECCADDR 0 = w32 a ∧ t.dev.bit PIC_MEMERR 0 0 = true ∧ t.dev.bit (BLK_EVF 0x19) 0 0 = true ∧
      OnlyRegs s t [PIC_ECCADDR.key 0 0, PIC_MEMERR.key 0 0, (BLK_EVF 0x19).key 0 0])) ∧
  (∀ (s : State) (i : Initiator) (v : Word) (m : Nat),
    Passes s i TMB_RATE m ∧ s.dev.following = false →
    Ends (.timebaseRateWrite i v) s (fun t =>
      t.dev.rd TMB_RATE 0 = v ∧ t.dev.fld TMB_STAT 0 1 0 = 1 ∧ t.dev.tmb.disciplined = s.dev.time ∧ OnlyRegs s t [TMB_RATE.key 0 0, TMB_STAT.key 0 0])) ∧
  (∀ (s : State) (i : Initiator) (v : Word) (m : Nat),
    Passes s i TMB_RATE m ∧ s.dev.following = true →
    Ends (.timebaseRateWrite i v) s (fun t =>
      t.dev.rd TMB_RATE 0 = s.dev.rd TMB_RATE 0 ∧ t.dev.bit (BLK_ERR 0x09) 0 31 = true ∧ OnlyRegs s t [(BLK_ERR 0x09).key 0 0])) ∧
  (∀ (s : State) (i : Initiator) (v : Word) (m : Nat),
    Passes s i TMB_OFFSHI m ∧ s.dev.following = false →
    Ends (.offsetWrite i v) s (fun t =>
      t.dev.tmb.offs = sext (v.toNat * 2 ^ 32 + (s.dev.rd TMB_OFFSLO 0).toNat) 64 ∧ t.dev.rd TMB_OFFSHI 0 = v ∧ t.dev.fld TMB_STAT 0 1 0 = 1 ∧ t.dev.bit (BLK_EVF 0x09) 0 5 = true ∧
      OnlyRegs s t [TMB_OFFSHI.key 0 0, TMB_STAT.key 0 0, (BLK_EVF 0x09).key 0 0])) ∧
  (∀ (s : State) (t0 : Nat),
    s.dev.fld TMB_STAT 0 1 0 = 1 ∧ s.dev.tmb.disciplined + max 1 (s.dev.fld TMB_HOLD 0 15 0) * 1000000 ≤ t0 →
    Ends (.holdoverEntry t0) s (fun t =>
      t.dev.fld TMB_STAT 0 1 0 = 2 ∧ t.dev.bit (BLK_EVF 0x09) 0 4 = true ∧ OnlyRegs s t [TMB_STAT.key 0 0, (BLK_EVF 0x09).key 0 0])) ∧
  (∀ (s : State) (i : Initiator) (a m : Nat) (v : Word),
    a < 4 ∧ Passes s i (TMB_ALMHI a) m →
    Ends (.alarmArm i a v) s (fun t =>
      let late := decide (v.toNat * 2 ^ 32 + (s.dev.rd (TMB_ALMLO a) 0).toNat ≤ s.dev.time)
      t.dev.rd (TMB_ALMHI a) 0 = v ∧ t.dev.tmb.armed.testBit a = !late ∧ (late = true → t.dev.bit (BLK_EVF 0x09) 0 a = true) ∧
      OnlyRegs s t [(TMB_ALMHI a).key 0 0, (BLK_EVF 0x09).key 0 0] ∧ (late = false → OnlyRegs s t [(TMB_ALMHI a).key 0 0]))) ∧
  (∀ (s : State) (t0 a : Nat),
    a < 4 ∧ s.dev.tmb.armed.testBit a = true ∧ s.dev.alarmAt a ≤ t0 →
    Ends (.alarmFire t0 a) s (fun t =>
      t.dev.bit (BLK_EVF 0x09) 0 a = true ∧ t.dev.tmb.armed = s.dev.tmb.armed - 2 ^ a ∧ OnlyRegs s t [(BLK_EVF 0x09).key 0 0])) ∧
  (∀ (s : State) (i : Initiator) (c : Nat),
    s.dev.reaches i 0x19 = true ∧ s.dev.holdsWrite i 0x19 = true →
    Ends (.interruptClaim i c) s (fun t =>
      t.dev.txn.reads = s.dev.txn.reads ++ [{ init := i, page := 0x19, off := 0x044 + 8 * (c % 8), inst := 0 }] ∧ t.dev.cmp = s.dev.cmp ∧ t.dev.resp = s.dev.resp ∧ OnlyRegs s t [])) ∧
  (∀ (s : State) (i : Initiator) (c : Nat),
    s.dev.reaches i 0x19 = true ∧ s.dev.up .compute = false ∧ s.dev.holdsWrite i 0x19 = false →
    Ends (.interruptClaim i c) s (fun t =>
      (kvGet t.dev.resp i.id {}).err = false ∧ t.dev.cmp = s.dev.cmp ∧ OnlyRegs s t [])) ∧
  (∀ (s : State) (i : Initiator) (c : Nat),
    s.dev.reaches i 0x19 = false →
    Ends (.interruptClaim i c) s (fun t =>
      kvGet t.dev.resp i.id {} = ⟨true, 0⟩ ∧ t.dev.cmp = s.dev.cmp ∧ OnlyRegs s t [])) ∧
  (∀ (s : State) (i : Initiator) (a : Nat),
    s.dev.up .compute = true →
    Ends (.sramReadEcc (some i) a .corrected) s (fun t =>
      kvGet t.dev.resp i.id {} = ⟨false, w32 (memNat s.sys.mem (a / 4 * 4) 4)⟩) ∧
    Ends (.sramReadEcc (some i) a .cacheCorrected) s (fun t =>
      kvGet t.dev.resp i.id {} = ⟨false, w32 (memNat s.sys.mem (a / 4 * 4) 4)⟩ ∧ OnlyRegs s t []) ∧
    Ends (.sramReadEcc (some i) a .instructionParity) s (fun t =>
      kvGet t.dev.resp i.id {} = ⟨false, w32 (memNat s.sys.mem (a / 4 * 4) 4)⟩ ∧ OnlyRegs s t []) ∧
    Ends (.sramReadEcc (some i) a .cacheUncorrectable) s (fun t =>
      kvGet t.dev.resp i.id {} = ⟨true, 0⟩ ∧ t.dev.bit PIC_MEMERR 0 1 = true ∧ OnlyRegs s t [PIC_MEMERR.key 0 0])) ∧
  (∀ (s : State) (a : Nat),
    s.dev.up .compute = true →
    Ends (.sramReadEcc none a .uncorrectable) s (fun t =>
      t.dev.resp = s.dev.resp ∧ t.dev.rd PIC_ECCADDR 0 = w32 a ∧ t.dev.bit PIC_MEMERR 0 0 = true ∧ t.dev.bit (BLK_EVF 0x19) 0 0 = true ∧
      OnlyRegs s t [PIC_ECCADDR.key 0 0, PIC_MEMERR.key 0 0, (BLK_EVF 0x19).key 0 0]) ∧
    Ends (.sramReadEcc none a .cacheCorrected) s (fun t => t = s) ∧
    Ends (.sramReadEcc none a .instructionParity) s (fun t => t = s) ∧
    Ends (.sramReadEcc none a .cacheUncorrectable) s (fun t =>
      t.dev.resp = s.dev.resp ∧ t.dev.bit PIC_MEMERR 0 1 = true ∧ OnlyRegs s t [PIC_MEMERR.key 0 0])) ∧
  (∀ (s : State) (i : Option Initiator) (a : Nat) (e : MemErr),
    s.dev.up .compute = false →
    Ends (.sramReadEcc i a e) s (fun t => t = s)) ∧
  (∀ (s : State) (t0 : Nat),
    s.dev.fld TMB_STAT 0 1 0 ≠ 1 ∨ t0 < s.dev.tmb.disciplined + max 1 (s.dev.fld TMB_HOLD 0 15 0) * 1000000 →
    Ends (.holdoverEntry t0) s (fun t =>
      t.dev.tmb = s.dev.tmb ∧ OnlyRegs s t [])) ∧
  (∀ (s : State) (i : Initiator) (a : Nat) (v : Word),
    Ends (.alarmArm i a v) s (fun t =>
      exec (.alarmArm i (a % 4) v) s = .next t)) ∧
  (∀ (s : State) (t0 a : Nat),
    4 ≤ a ∨ s.dev.tmb.armed.testBit a = false ∨ max s.dev.time t0 < s.dev.alarmAt a →
    Ends (.alarmFire t0 a) s (fun t =>
      t.dev.tmb = s.dev.tmb ∧ OnlyRegs s t []))

/-- A crypto job writes the result of its operation to its output buffer, or ends with the STATUS of what stops it. (R594, R596, R597, spec/15_compute_island.md) -/
def Obligations.CryptoJobsGiveTheirResults : Prop :=
  (∀ (s : State) (t0 : Nat) (j : Job),
    JobReady s 0x1A j ∧ (j.op = 1 ∨ j.op = 2 ∨ j.op = 3) ∧ (if j.op = 1 then 32 else if j.op = 2 then 48 else 64) ≤ j.outCap →
    Ends (.cryptoSha t0 true) s (fun t =>
      let m := s.sys.read j.input j.inLen
      JobGives s t 0x1A j (if j.op = 1 then sha256 m else if j.op = 2 then sha384 m else sha512 m))) ∧
  (∀ (s : State) (t0 : Nat) (j : Job),
    JobReady s 0x1A j ∧ (j.op = 1 ∨ j.op = 2 ∨ j.op = 3) ∧ j.outCap < (if j.op = 1 then 32 else if j.op = 2 then 48 else 64) →
    Ends (.cryptoSha t0 true) s (fun t =>
      JobFails s t 0x1A 3)) ∧
  (∀ (s : State) (t0 : Nat) (j : Job),
    JobReady s 0x1A j ∧ j.op = 1 →
    Ends (.cryptoSha t0 false) s (fun t =>
      JobFails s t 0x1A 7)) ∧
  (∀ (s : State) (t0 : Nat) (j : Job) (sh : Bool) (k : List Byte),
    JobReady s 0x1A j ∧ j.op = 0x10 ∧ 12 ≤ j.auxLen ∧ j.inLen + 16 ≤ j.outCap ∧ s.sys.jobKey j (if sh then 16 else 32) = .ok k →
    Ends (.cryptoAesGcmEncrypt t0 true sh) s (fun t =>
      let a := s.sys.read j.aux j.auxLen
      JobGives s t 0x1A j (gcmEncrypt k (a.take 12) (a.drop 12) (s.sys.read j.input j.inLen)))) ∧
  (∀ (s : State) (t0 : Nat) (j : Job) (sh : Bool) (k : List Byte),
    JobReady s 0x1A j ∧ j.op = 0x11 ∧ 12 ≤ j.auxLen ∧ 16 ≤ j.inLen ∧ j.inLen ≤ j.outCap + 16 ∧ s.sys.jobKey j (if sh then 16 else 32) = .ok k →
    Ends (.cryptoAesGcmDecrypt t0 true sh) s (fun t =>
      let a := s.sys.read j.aux j.auxLen
      let p := gcmDecrypt k (a.take 12) (a.drop 12) (s.sys.read j.input j.inLen)
      (p.isSome = true → JobGives s t 0x1A j (p.getD [])) ∧ (p.isNone = true → JobFails s t 0x1A 2))) ∧
  (∀ (s : State) (t0 : Nat) (j : Job) (k : List Byte),
    JobReady s 0x1A j ∧ (j.op = 0x20 ∨ j.op = 0x22) ∧ j.inLen = (opCurve j.op).len ∧ 2 * (opCurve j.op).len ≤ j.outCap →
    s.sys.jobKey j (opCurve j.op).len = .ok k ∧ (opCurve j.op).scalarOk k = true →
    Ends (.cryptoEcdsaSign t0 true) s (fun t =>
      JobGives s t 0x1A j (ecdsaSign (opCurve j.op) (beNat k) (s.sys.read j.input j.inLen)))) ∧
  (∀ (s : State) (t0 : Nat) (j : Job) (k : List Byte),
    JobReady s 0x1A j ∧ (j.op = 0x21 ∨ j.op = 0x23) ∧ j.inLen = (opCurve j.op).len ∧ j.auxLen = 2 * (opCurve j.op).len ∧ s.sys.jobKey j (2 * (opCurve j.op).len) = .ok k →
    Ends (.cryptoEcdsaVerify t0 true) s (fun t =>
      let ok := ecdsaVerify (opCurve j.op) k (s.sys.read j.input j.inLen) (s.sys.read j.aux j.auxLen)
      (ok = true → JobGives s t 0x1A j []) ∧ (ok = false → JobFails s t 0x1A 2))) ∧
  (∀ (s : State) (t0 : Nat) (j : Job) (k : List Byte),
    JobReady s 0x1A j ∧ j.op = 0x30 ∧ 114 ≤ j.outCap ∧ s.sys.jobKey j 57 = .ok k →
    Ends (.cryptoEd448Sign t0 true) s (fun t =>
      JobGives s t 0x1A j (edSign k (s.sys.read j.input j.inLen)))) ∧
  (∀ (s : State) (t0 : Nat) (j : Job) (k : List Byte),
    JobReady s 0x1A j ∧ j.op = 0x31 ∧ j.auxLen = 114 ∧ s.sys.jobKey j 57 = .ok k →
    Ends (.cryptoEd448Verify t0 true) s (fun t =>
      let ok := edVerify k (s.sys.read j.input j.inLen) (s.sys.read j.aux j.auxLen)
      (ok = true → JobGives s t 0x1A j []) ∧ (ok = false → JobFails s t 0x1A 2))) ∧
  (∀ (s : State) (t0 : Nat) (j : Job) (k : List Byte),
    JobReady s 0x1A j ∧ (j.op = 0x40 ∨ j.op = 0x41) ∧ j.auxLen = 2 * (opCurve j.op).len ∧ (opCurve j.op).len ≤ j.outCap →
    s.sys.jobKey j (opCurve j.op).len = .ok k ∧ (opCurve j.op).scalarOk k = true →
    Ends (.cryptoEcdh t0 true) s (fun t =>
      let x := ecdh (opCurve j.op) (beNat k) (s.sys.read j.aux j.auxLen)
      (x.isSome = true → JobGives s t 0x1A j (x.getD [])) ∧ (x.isNone = true → JobFails s t 0x1A 2))) ∧
  (∀ (s : State) (t0 : Nat) (j : Job),
    JobReady s 0x1A j ∧ (j.op = 0x42 ∨ j.op = 0x43) ∧ 3 * (opCurve j.op).len ≤ j.outCap →
    Ends (.cryptoKeyPairGeneration t0 true true) s (fun t =>
      let c := opCurve j.op
      let k := beNat (s.dev.randomBytes (c.len + 8)).1 % (c.n - 1) + 1
      JobGives s t 0x1A j (beBytes c.len k ++ c.pub k))) ∧
  (∀ (s : State) (t0 : Nat) (j : Job),
    JobReady s 0x1A j ∧ j.op = 0x50 →
    Ends (.cryptoRandomBytes t0 true true) s (fun t =>
      JobGives s t 0x1A j (s.dev.randomBytes j.outCap).1 ∧ t.dev.fresh = s.dev.fresh + (j.outCap + 3) / 4)) ∧
  (∀ (s : State) (t0 : Nat) (j : Job),
    JobReady s 0x1A j ∧ j.op = 0x50 →
    Ends (.cryptoRandomBytes t0 true false) s (fun t =>
      (t.dev.eng 0x1A).result = some (6, 0) ∧ t.dev.bit (BLK_EVF 0x1A) 0 3 = true ∧ OnlyRegs s t [(BLK_EVF 0x1A).key 0 0])) ∧
  (∀ (s : State) (t0 m : Nat),
    s.dev.up .compute = true ∧ s.dev.engHas 0x1A = true ∧ inSram (s.dev.jobAddr 0x1A) 32 = true ∧ (s.dev.eng 0x1A).result = some (1, m) ∧ m ≠ 0 →
    Ends (.cryptoJobDone t0) s (fun t =>
      let a := s.dev.jobAddr 0x1A
      t.sys.read (a + 30) 1 = [1] ∧ t.sys.read (a + 20) 4 = leBytes 4 m ∧ BytesKept s t (a + 20) 11 ∧ (t.dev.eng 0x1A).result = none ∧
      t.dev.fld CRY_TAIL 0 9 0 = (s.dev.fld CRY_TAIL 0 9 0 + 1) % s.dev.fld CRY_RLEN 0 9 0 ∧ ((s.sys.job a).irq = true → t.dev.bit (BLK_EVF 0x1A) 0 0 = true) ∧
      RegsKept s t [CRY_TAIL.key 0 0, CRY_STAT.key 0 0, (BLK_EVF 0x1A).key 0 0] ∧ t.pending = s.pending ∧ t.sys.fuses = s.sys.fuses)) ∧
  (∀ (s : State) (t0 : Nat),
    s.dev.up .compute = true ∧ s.dev.engHas 0x1A = true ∧ inSram (s.dev.jobAddr 0x1A) 32 = true ∧ (s.dev.eng 0x1A).result = none ∧ cryptoOps.contains (s.sys.job (s.dev.jobAddr 0x1A)).op = false →
    Ends (.cryptoJobDone t0) s (fun t =>
      t.sys.read (s.dev.jobAddr 0x1A + 30) 1 = [3] ∧ t.dev.bit CRY_STAT 0 1 = true ∧ t.dev.fld CRY_STAT 0 15 8 = 3 ∧ t.dev.bit (BLK_EVF 0x1A) 0 1 = true ∧ t.dev.bit (BLK_EVF 0x1A) 0 2 = true ∧
      BytesKept s t (s.dev.jobAddr 0x1A + 30) 1 ∧ RegsKept s t [CRY_TAIL.key 0 0, CRY_STAT.key 0 0, (BLK_EVF 0x1A).key 0 0] ∧ t.pending = s.pending)) ∧
  (∀ (s : State) (t0 : Nat) (j : Job) (sh en : Bool) (x : Instr × List Nat),
    JobReady s 0x1A j ∧ x ∈ cryptoCmds t0 false sh en ∧ j.op ∈ x.2 →
    Ends x.1 s (fun t =>
      JobFails s t 0x1A 7)) ∧
  (∀ (s : State) (t0 : Nat) (ok : Bool) (sh en : Bool) (x : Instr × List Nat),
    s.dev.up (pageIsland 0x1A) = true ∧ s.dev.engHas 0x1A = true ∧ (s.dev.eng 0x1A).result = none ∧ inSram (s.dev.jobAddr 0x1A) 32 = true →
    x ∈ cryptoCmds t0 ok sh en ∧ (s.sys.job (s.dev.jobAddr 0x1A)).op ∈ x.2 ∧ (s.sys.job (s.dev.jobAddr 0x1A)).bufsOk = false →
    Ends x.1 s (fun t =>
      JobFails s t 0x1A 4)) ∧
  (∀ (s : State) (t0 : Nat) (ok : Bool) (sh en : Bool) (x : Instr × List Nat),
    x ∈ cryptoCmds t0 ok sh en →
    s.dev.up .compute = false ∨ s.dev.engHas 0x1A = false ∨ (s.dev.eng 0x1A).result.isSome = true ∨ inSram (s.dev.jobAddr 0x1A) 32 = false ∨ (s.sys.job (s.dev.jobAddr 0x1A)).op ∉ x.2 →
    Ends x.1 s (fun t =>
      t.dev.cmp = s.dev.cmp ∧ OnlyRegs s t [])) ∧
  (∀ (s : State) (t0 : Nat) (j : Job) (sh : Bool),
    JobReady s 0x1A j ∧ j.op = 0x10 ∧ j.auxLen < 12 →
    Ends (.cryptoAesGcmEncrypt t0 true sh) s (fun t =>
      JobFails s t 0x1A 3)) ∧
  (∀ (s : State) (t0 e : Nat) (j : Job) (sh : Bool),
    JobReady s 0x1A j ∧ j.op = 0x10 ∧ 12 ≤ j.auxLen ∧ s.sys.jobKey j (if sh then 16 else 32) = .error e →
    Ends (.cryptoAesGcmEncrypt t0 true sh) s (fun t =>
      JobFails s t 0x1A e)) ∧
  (∀ (s : State) (t0 : Nat) (j : Job) (sh : Bool) (k : List Byte),
    JobReady s 0x1A j ∧ j.op = 0x10 ∧ 12 ≤ j.auxLen ∧ j.outCap < j.inLen + 16 ∧ s.sys.jobKey j (if sh then 16 else 32) = .ok k →
    Ends (.cryptoAesGcmEncrypt t0 true sh) s (fun t =>
      JobFails s t 0x1A 3)) ∧
  (∀ (s : State) (t0 : Nat) (j : Job) (sh : Bool),
    JobReady s 0x1A j ∧ j.op = 0x11 ∧ (j.auxLen < 12 ∨ j.inLen < 16) →
    Ends (.cryptoAesGcmDecrypt t0 true sh) s (fun t =>
      JobFails s t 0x1A 3)) ∧
  (∀ (s : State) (t0 e : Nat) (j : Job) (sh : Bool),
    JobReady s 0x1A j ∧ j.op = 0x11 ∧ 12 ≤ j.auxLen ∧ 16 ≤ j.inLen ∧ s.sys.jobKey j (if sh then 16 else 32) = .error e →
    Ends (.cryptoAesGcmDecrypt t0 true sh) s (fun t =>
      JobFails s t 0x1A e)) ∧
  (∀ (s : State) (t0 : Nat) (j : Job) (sh : Bool) (k : List Byte),
    JobReady s 0x1A j ∧ j.op = 0x11 ∧ 12 ≤ j.auxLen ∧ 16 ≤ j.inLen ∧ j.outCap + 16 < j.inLen ∧ s.sys.jobKey j (if sh then 16 else 32) = .ok k →
    Ends (.cryptoAesGcmDecrypt t0 true sh) s (fun t =>
      let a := s.sys.read j.aux j.auxLen
      JobFails s t 0x1A (if (gcmDecrypt k (a.take 12) (a.drop 12) (s.sys.read j.input j.inLen)).isSome then 3 else 2))) ∧
  (∀ (s : State) (t0 : Nat) (j : Job),
    JobReady s 0x1A j ∧ (j.op = 0x20 ∨ j.op = 0x22) ∧ j.inLen ≠ (opCurve j.op).len →
    Ends (.cryptoEcdsaSign t0 true) s (fun t =>
      JobFails s t 0x1A 3)) ∧
  (∀ (s : State) (t0 e : Nat) (j : Job),
    JobReady s 0x1A j ∧ (j.op = 0x20 ∨ j.op = 0x22) ∧ j.inLen = (opCurve j.op).len ∧ s.sys.jobKey j ((opCurve j.op).len) = .error e →
    Ends (.cryptoEcdsaSign t0 true) s (fun t =>
      JobFails s t 0x1A e)) ∧
  (∀ (s : State) (t0 : Nat) (j : Job) (k : List Byte),
    JobReady s 0x1A j ∧ (j.op = 0x20 ∨ j.op = 0x22) ∧ j.inLen = (opCurve j.op).len ∧ s.sys.jobKey j (opCurve j.op).len = .ok k ∧ ((opCurve j.op).scalarOk k = false ∨ j.outCap < 2 * (opCurve j.op).len) →
    Ends (.cryptoEcdsaSign t0 true) s (fun t =>
      JobFails s t 0x1A 3)) ∧
  (∀ (s : State) (t0 : Nat) (j : Job),
    JobReady s 0x1A j ∧ (j.op = 0x21 ∨ j.op = 0x23) ∧ (j.inLen ≠ (opCurve j.op).len ∨ j.auxLen ≠ 2 * (opCurve j.op).len) →
    Ends (.cryptoEcdsaVerify t0 true) s (fun t =>
      JobFails s t 0x1A 3)) ∧
  (∀ (s : State) (t0 e : Nat) (j : Job),
    JobReady s 0x1A j ∧ (j.op = 0x21 ∨ j.op = 0x23) ∧ j.inLen = (opCurve j.op).len ∧ j.auxLen = 2 * (opCurve j.op).len ∧ s.sys.jobKey j (2 * (opCurve j.op).len) = .error e →
    Ends (.cryptoEcdsaVerify t0 true) s (fun t =>
      JobFails s t 0x1A e)) ∧
  (∀ (s : State) (t0 e : Nat) (j : Job),
    JobReady s 0x1A j ∧ j.op = 0x30 ∧ s.sys.jobKey j (57) = .error e →
    Ends (.cryptoEd448Sign t0 true) s (fun t =>
      JobFails s t 0x1A e)) ∧
  (∀ (s : State) (t0 : Nat) (j : Job) (k : List Byte),
    JobReady s 0x1A j ∧ j.op = 0x30 ∧ j.outCap < 114 ∧ s.sys.jobKey j 57 = .ok k →
    Ends (.cryptoEd448Sign t0 true) s (fun t =>
      JobFails s t 0x1A 3)) ∧
  (∀ (s : State) (t0 : Nat) (j : Job),
    JobReady s 0x1A j ∧ j.op = 0x31 ∧ j.auxLen ≠ 114 →
    Ends (.cryptoEd448Verify t0 true) s (fun t =>
      JobFails s t 0x1A 3)) ∧
  (∀ (s : State) (t0 e : Nat) (j : Job),
    JobReady s 0x1A j ∧ j.op = 0x31 ∧ j.auxLen = 114 ∧ s.sys.jobKey j (57) = .error e →
    Ends (.cryptoEd448Verify t0 true) s (fun t =>
      JobFails s t 0x1A e)) ∧
  (∀ (s : State) (t0 : Nat) (j : Job),
    JobReady s 0x1A j ∧ (j.op = 0x40 ∨ j.op = 0x41) ∧ j.auxLen ≠ 2 * (opCurve j.op).len →
    Ends (.cryptoEcdh t0 true) s (fun t =>
      JobFails s t 0x1A 3)) ∧
  (∀ (s : State) (t0 e : Nat) (j : Job),
    JobReady s 0x1A j ∧ (j.op = 0x40 ∨ j.op = 0x41) ∧ j.auxLen = 2 * (opCurve j.op).len ∧ s.sys.jobKey j ((opCurve j.op).len) = .error e →
    Ends (.cryptoEcdh t0 true) s (fun t =>
      JobFails s t 0x1A e)) ∧
  (∀ (s : State) (t0 : Nat) (j : Job) (k : List Byte),
    JobReady s 0x1A j ∧ (j.op = 0x40 ∨ j.op = 0x41) ∧ j.auxLen = 2 * (opCurve j.op).len ∧ s.sys.jobKey j (opCurve j.op).len = .ok k ∧ (opCurve j.op).scalarOk k = false →
    Ends (.cryptoEcdh t0 true) s (fun t =>
      JobFails s t 0x1A 3)) ∧
  (∀ (s : State) (t0 : Nat) (j : Job) (k : List Byte),
    JobReady s 0x1A j ∧ (j.op = 0x40 ∨ j.op = 0x41) ∧ j.auxLen = 2 * (opCurve j.op).len ∧ j.outCap < (opCurve j.op).len →
    s.sys.jobKey j (opCurve j.op).len = .ok k ∧ (opCurve j.op).scalarOk k = true →
    Ends (.cryptoEcdh t0 true) s (fun t =>
      JobFails s t 0x1A (if (ecdh (opCurve j.op) (beNat k) (s.sys.read j.aux j.auxLen)).isSome then 3 else 2))) ∧
  (∀ (s : State) (t0 : Nat) (j : Job),
    JobReady s 0x1A j ∧ (j.op = 0x42 ∨ j.op = 0x43) ∧ j.outCap < 3 * (opCurve j.op).len →
    Ends (.cryptoKeyPairGeneration t0 true true) s (fun t =>
      JobFails s t 0x1A 3)) ∧
  (∀ (s : State) (t0 : Nat) (j : Job),
    JobReady s 0x1A j ∧ (j.op = 0x42 ∨ j.op = 0x43) →
    Ends (.cryptoKeyPairGeneration t0 true false) s (fun t =>
      (t.dev.eng 0x1A).result = some (6, 0) ∧ t.dev.bit (BLK_EVF 0x1A) 0 3 = true ∧ OnlyRegs s t [(BLK_EVF 0x1A).key 0 0])) ∧
  (∀ (s : State) (t0 : Nat),
    s.dev.up .compute = true ∧ s.dev.engHas 0x1A = true ∧ inSram (s.dev.jobAddr 0x1A) 32 = true ∧ (s.dev.eng 0x1A).result = some (1, 0) →
    Ends (.cryptoJobDone t0) s (fun t =>
      t.sys.read (s.dev.jobAddr 0x1A + 30) 1 = [1] ∧ BytesKept s t (s.dev.jobAddr 0x1A + 30) 1 ∧ (t.dev.eng 0x1A).result = none ∧ t.dev.fld CRY_TAIL 0 9 0 = (s.dev.fld CRY_TAIL 0 9 0 + 1) % s.dev.fld CRY_RLEN 0 9 0 ∧
      ((s.sys.job (s.dev.jobAddr 0x1A)).irq = true → t.dev.bit (BLK_EVF 0x1A) 0 0 = true) ∧ RegsKept s t [CRY_TAIL.key 0 0, CRY_STAT.key 0 0, (BLK_EVF 0x1A).key 0 0] ∧ t.pending = s.pending ∧ t.sys.fuses = s.sys.fuses)) ∧
  (∀ (s : State) (t0 n : Nat),
    s.dev.up .compute = true ∧ s.dev.engHas 0x1A = true ∧ inSram (s.dev.jobAddr 0x1A) 32 = true ∧ (s.dev.eng 0x1A).result = some (2, n) →
    Ends (.cryptoJobDone t0) s (fun t =>
      t.sys.read (s.dev.jobAddr 0x1A + 30) 1 = [2] ∧ BytesKept s t (s.dev.jobAddr 0x1A + 30) 1 ∧ (t.dev.eng 0x1A).result = none ∧ t.dev.fld CRY_TAIL 0 9 0 = (s.dev.fld CRY_TAIL 0 9 0 + 1) % s.dev.fld CRY_RLEN 0 9 0 ∧
      t.dev.fld CRY_STAT 0 15 8 = 2 ∧ t.dev.bit CRY_STAT 0 1 = s.dev.bit CRY_STAT 0 1 ∧ t.dev.bit (BLK_EVF 0x1A) 0 1 = true ∧
      RegsKept s t [CRY_TAIL.key 0 0, CRY_STAT.key 0 0, (BLK_EVF 0x1A).key 0 0] ∧ t.pending = s.pending ∧ t.sys.fuses = s.sys.fuses)) ∧
  (∀ (s : State) (t0 st n : Nat),
    s.dev.up .compute = true ∧ s.dev.engHas 0x1A = true ∧ inSram (s.dev.jobAddr 0x1A) 32 = true ∧ (s.dev.eng 0x1A).result = some (st, n) ∧ 2 < st ∧ st < 256 →
    Ends (.cryptoJobDone t0) s (fun t =>
      t.sys.read (s.dev.jobAddr 0x1A + 30) 1 = [w8 st] ∧ BytesKept s t (s.dev.jobAddr 0x1A + 30) 1 ∧ (t.dev.eng 0x1A).result = none ∧ t.dev.fld CRY_TAIL 0 9 0 = (s.dev.fld CRY_TAIL 0 9 0 + 1) % s.dev.fld CRY_RLEN 0 9 0 ∧
      t.dev.fld CRY_STAT 0 15 8 = st ∧ t.dev.bit CRY_STAT 0 1 = true ∧ t.dev.bit (BLK_EVF 0x1A) 0 1 = true ∧ t.dev.bit (BLK_EVF 0x1A) 0 2 = true ∧
      RegsKept s t [CRY_TAIL.key 0 0, CRY_STAT.key 0 0, (BLK_EVF 0x1A).key 0 0] ∧ t.pending = s.pending ∧ t.sys.fuses = s.sys.fuses)) ∧
  (∀ (s : State) (t0 : Nat),
    s.dev.up .compute = true ∧ s.dev.engHas 0x1A = true ∧ inSram (s.dev.jobAddr 0x1A) 32 = false →
    Ends (.cryptoJobDone t0) s (fun t =>
      t.dev.fld CRY_TAIL 0 9 0 = (s.dev.fld CRY_TAIL 0 9 0 + 1) % s.dev.fld CRY_RLEN 0 9 0 ∧ t.dev.fld CRY_STAT 0 15 8 = 4 ∧ t.dev.bit CRY_STAT 0 1 = true ∧ t.dev.bit (BLK_EVF 0x1A) 0 1 = true ∧ t.dev.bit (BLK_EVF 0x1A) 0 2 = true ∧
      (t.dev.eng 0x1A).result = none ∧ OnlyRegs s t [CRY_TAIL.key 0 0, CRY_STAT.key 0 0, (BLK_EVF 0x1A).key 0 0])) ∧
  (∀ (s : State) (t0 : Nat),
    s.dev.up .compute = false ∨ s.dev.engHas 0x1A = false ∨ (inSram (s.dev.jobAddr 0x1A) 32 = true ∧ (s.dev.eng 0x1A).result = none ∧ cryptoOps.contains (s.sys.job (s.dev.jobAddr 0x1A)).op = true) →
    Ends (.cryptoJobDone t0) s (fun t =>
      t.dev.cmp = s.dev.cmp ∧ OnlyRegs s t []))

/-- An EXI job converts by its schema or ends with its STATUS; an xSPI command runs to its end and held reads wait for it. (R594, R598, R599, R601, spec/15_compute_island.md) -/
def Obligations.ExiJobsAndXspiPorts : Prop :=
  (∀ (s : State) (t0 : Nat) (j : Job),
    JobReady s 0x1B j ∧ j.op = 1 ∧ 1 ≤ j.key ∧ j.key ≤ 6 ∧ j.inLen ≤ 65535 →
    Ends (.exiDecode t0 true) s (fun t =>
      let x := s.sys.read j.input j.inLen
      let o := Config.exiOut 1 j.key x
      (Config.exiDepth j.key x ≤ 24 → Config.exiValid 1 j.key x = true → o.length ≤ j.outCap → JobGives s t 0x1B j o) ∧
      (Config.exiDepth j.key x ≤ 24 → Config.exiValid 1 j.key x = true → j.outCap < o.length → JobFails s t 0x1B 3) ∧
      (Config.exiDepth j.key x ≤ 24 → Config.exiValid 1 j.key x = false → JobFails s t 0x1B 8) ∧ (24 < Config.exiDepth j.key x → JobFails s t 0x1B 9))) ∧
  (∀ (s : State) (t0 : Nat) (j : Job),
    JobReady s 0x1B j ∧ j.op = 2 ∧ 1 ≤ j.key ∧ j.key ≤ 6 →
    leAt (s.sys.read j.input j.inLen) 8 8 ≠ 0 ∧ 16 * leAt (s.sys.read j.input j.inLen) 8 8 ≤ j.inLen ∧ eventDepth (s.sys.read j.input j.inLen) ≤ 24 →
    Ends (.exiEncode t0 true) s (fun t =>
      let x := s.sys.read j.input j.inLen
      let o := Config.exiOut 2 j.key x
      (Config.exiValid 2 j.key x = true → o.length ≤ 65535 → o.length ≤ j.outCap → JobGives s t 0x1B j o) ∧
      (Config.exiValid 2 j.key x = true → 65535 < o.length → JobFails s t 0x1B 9) ∧ (Config.exiValid 2 j.key x = true → o.length ≤ 65535 → j.outCap < o.length → JobFails s t 0x1B 3) ∧
      (Config.exiValid 2 j.key x = false → JobFails s t 0x1B 8))) ∧
  (∀ (s : State) (t0 m : Nat),
    s.dev.up .compute = true ∧ s.dev.engHas 0x1B = true ∧ inSram (s.dev.jobAddr 0x1B) 32 = true ∧ (s.dev.eng 0x1B).result = some (1, m) ∧ m ≠ 0 →
    Ends (.exiJobDone t0) s (fun t =>
      let a := s.dev.jobAddr 0x1B
      t.sys.read (a + 30) 1 = [1] ∧ t.sys.read (a + 20) 4 = leBytes 4 m ∧ BytesKept s t (a + 20) 11 ∧ (t.dev.eng 0x1B).result = none ∧
      t.dev.fld EXI_TAIL 0 9 0 = (s.dev.fld EXI_TAIL 0 9 0 + 1) % s.dev.fld EXI_RLEN 0 9 0 ∧ RegsKept s t [EXI_TAIL.key 0 0, EXI_STAT.key 0 0, (BLK_EVF 0x1B).key 0 0] ∧ t.pending = s.pending)) ∧
  (∀ (s : State) (i : Initiator) (p m : Nat) (v : Word),
    p < 2 ∧ Passes s i (xspCmd p) m →
    Ends (.xspiCommand i p v) s (fun t =>
      (s.dev.xspBusy p = false → t.dev.rd (xspCmd p) 0 = (v ||| 0x80000000) &&& 0x83FFFFFF ∧ t.dev.xspBusy p = true ∧ OnlyRegs s t [(xspCmd p).key 0 0, (xspStat p).key 0 0]) ∧
      (s.dev.xspBusy p = true → OnlyRegs s t []))) ∧
  (∀ (s : State) (t0 p : Nat) (l : List Byte) (h : HeldRead),
    p < 2 ∧ s.dev.up .compute = true ∧ s.dev.xspBusy p = true ∧ s.dev.xspHeld p = [h] →
    Ends (.xspiCommandDone t0 p l []) s (fun t =>
      let k := min 8 (s.dev.fld (xspCmd p) 0 23 20)
      t.dev.xspBusy p = false ∧ t.dev.bit (xspCmd p) 0 31 = false ∧ t.dev.xspHeld p = [] ∧ t.dev.bit (BLK_EVF (0x1C + p)) 0 0 = true ∧
      kvGet t.dev.resp h.init.id {} = ⟨false, w32 (memNat s.sys.mem h.addr (min h.size 4))⟩ ∧
      (s.dev.bit (xspCmd p) 0 24 = false → k ≠ 0 → t.dev.rd (XSP_DATA0 p) 0 = w32 (leNat ((slice l 0 k).take 4)) ∧ t.dev.rd (XSP_DATA1 p) 0 = w32 (leNat ((slice l 0 k).drop 4))) ∧
      OnlyPages s t [0x1C + p])) ∧
  (∀ (s : State) (t0 p : Nat) (h : HeldRead),
    p < 2 ∧ s.dev.xspHeld p = [h] ∧ h.since + (s.dev.rd (XSP_RDTMO p) 0).toNat * 1000 ≤ t0 →
    Ends (.xspiReadTimeout t0 p) s (fun t =>
      kvGet t.dev.resp h.init.id {} = ⟨true, 0⟩ ∧ t.dev.xspHeld p = [] ∧ t.dev.bit (xspStat p) 0 8 = true ∧ t.dev.bit (BLK_EVF (0x1C + p)) 0 1 = true ∧
      OnlyRegs s t [(xspStat p).key 0 0, (BLK_EVF (0x1C + p)).key 0 0])) ∧
  (∀ (s : State) (t0 : Nat) (j : Job) (x : Instr × List Nat),
    JobReady s 0x1B j ∧ x ∈ exiCmds t0 false ∧ j.op ∈ x.2 →
    Ends x.1 s (fun t =>
      JobFails s t 0x1B 7)) ∧
  (∀ (s : State) (t0 : Nat) (ok : Bool) (x : Instr × List Nat),
    s.dev.up (pageIsland 0x1B) = true ∧ s.dev.engHas 0x1B = true ∧ (s.dev.eng 0x1B).result = none ∧ inSram (s.dev.jobAddr 0x1B) 32 = true →
    x ∈ exiCmds t0 ok ∧ (s.sys.job (s.dev.jobAddr 0x1B)).op ∈ x.2 ∧ (s.sys.job (s.dev.jobAddr 0x1B)).bufsOk = false →
    Ends x.1 s (fun t =>
      JobFails s t 0x1B 4)) ∧
  (∀ (s : State) (t0 : Nat) (ok : Bool) (x : Instr × List Nat),
    x ∈ exiCmds t0 ok →
    s.dev.up .compute = false ∨ s.dev.engHas 0x1B = false ∨ (s.dev.eng 0x1B).result.isSome = true ∨ inSram (s.dev.jobAddr 0x1B) 32 = false ∨ (s.sys.job (s.dev.jobAddr 0x1B)).op ∉ x.2 →
    Ends x.1 s (fun t =>
      t.dev.cmp = s.dev.cmp ∧ OnlyRegs s t [])) ∧
  (∀ (s : State) (t0 : Nat) (j : Job),
    JobReady s 0x1B j ∧ j.op = 1 ∧ (j.key = 0 ∨ 6 < j.key) →
    Ends (.exiDecode t0 true) s (fun t =>
      JobFails s t 0x1B 3)) ∧
  (∀ (s : State) (t0 : Nat) (j : Job),
    JobReady s 0x1B j ∧ j.op = 1 ∧ 1 ≤ j.key ∧ j.key ≤ 6 ∧ 65535 < j.inLen →
    Ends (.exiDecode t0 true) s (fun t =>
      JobFails s t 0x1B 9)) ∧
  (∀ (s : State) (t0 : Nat) (j : Job),
    JobReady s 0x1B j ∧ j.op = 2 ∧ (j.key = 0 ∨ 6 < j.key) →
    Ends (.exiEncode t0 true) s (fun t =>
      JobFails s t 0x1B 3)) ∧
  (∀ (s : State) (t0 : Nat) (j : Job),
    JobReady s 0x1B j ∧ j.op = 2 ∧ 1 ≤ j.key ∧ j.key ≤ 6 ∧ (leAt (s.sys.read j.input j.inLen) 8 8 = 0 ∨ j.inLen < 16 * leAt (s.sys.read j.input j.inLen) 8 8) →
    Ends (.exiEncode t0 true) s (fun t =>
      JobFails s t 0x1B 8)) ∧
  (∀ (s : State) (t0 : Nat) (j : Job),
    JobReady s 0x1B j ∧ j.op = 2 ∧ 1 ≤ j.key ∧ j.key ≤ 6 ∧ leAt (s.sys.read j.input j.inLen) 8 8 ≠ 0 ∧ 16 * leAt (s.sys.read j.input j.inLen) 8 8 ≤ j.inLen ∧ 24 < eventDepth (s.sys.read j.input j.inLen) →
    Ends (.exiEncode t0 true) s (fun t =>
      JobFails s t 0x1B 9)) ∧
  (∀ (s : State) (t0 m : Nat),
    s.dev.up .compute = true ∧ s.dev.engHas 0x1B = true ∧ inSram (s.dev.jobAddr 0x1B) 32 = true ∧ (s.dev.eng 0x1B).result = some (1, m) ∧ m ≠ 0 ∧ (s.sys.job (s.dev.jobAddr 0x1B)).irq = true →
    Ends (.exiJobDone t0) s (fun t =>
      t.dev.bit (BLK_EVF 0x1B) 0 0 = true ∧ t.sys.fuses = s.sys.fuses)) ∧
  (∀ (s : State) (t0 : Nat),
    s.dev.up .compute = true ∧ s.dev.engHas 0x1B = true ∧ inSram (s.dev.jobAddr 0x1B) 32 = true ∧ (s.dev.eng 0x1B).result = none ∧ (s.sys.job (s.dev.jobAddr 0x1B)).op ≠ 1 ∧ (s.sys.job (s.dev.jobAddr 0x1B)).op ≠ 2 →
    Ends (.exiJobDone t0) s (fun t =>
      t.sys.read (s.dev.jobAddr 0x1B + 30) 1 = [3] ∧ t.dev.bit EXI_STAT 0 1 = true ∧ t.dev.fld EXI_STAT 0 15 8 = 3 ∧ t.dev.bit (BLK_EVF 0x1B) 0 1 = true ∧ t.dev.bit (BLK_EVF 0x1B) 0 2 = true ∧
      BytesKept s t (s.dev.jobAddr 0x1B + 30) 1 ∧ RegsKept s t [EXI_TAIL.key 0 0, EXI_STAT.key 0 0, (BLK_EVF 0x1B).key 0 0] ∧ t.pending = s.pending)) ∧
  (∀ (s : State) (t0 : Nat),
    s.dev.up .compute = true ∧ s.dev.engHas 0x1B = true ∧ inSram (s.dev.jobAddr 0x1B) 32 = true ∧ (s.dev.eng 0x1B).result = some (1, 0) →
    Ends (.exiJobDone t0) s (fun t =>
      t.sys.read (s.dev.jobAddr 0x1B + 30) 1 = [1] ∧ BytesKept s t (s.dev.jobAddr 0x1B + 30) 1 ∧ (t.dev.eng 0x1B).result = none ∧ t.dev.fld EXI_TAIL 0 9 0 = (s.dev.fld EXI_TAIL 0 9 0 + 1) % s.dev.fld EXI_RLEN 0 9 0 ∧
      ((s.sys.job (s.dev.jobAddr 0x1B)).irq = true → t.dev.bit (BLK_EVF 0x1B) 0 0 = true) ∧ RegsKept s t [EXI_TAIL.key 0 0, EXI_STAT.key 0 0, (BLK_EVF 0x1B).key 0 0] ∧ t.pending = s.pending ∧ t.sys.fuses = s.sys.fuses)) ∧
  (∀ (s : State) (t0 n : Nat),
    s.dev.up .compute = true ∧ s.dev.engHas 0x1B = true ∧ inSram (s.dev.jobAddr 0x1B) 32 = true ∧ (s.dev.eng 0x1B).result = some (2, n) →
    Ends (.exiJobDone t0) s (fun t =>
      t.sys.read (s.dev.jobAddr 0x1B + 30) 1 = [2] ∧ BytesKept s t (s.dev.jobAddr 0x1B + 30) 1 ∧ (t.dev.eng 0x1B).result = none ∧ t.dev.fld EXI_TAIL 0 9 0 = (s.dev.fld EXI_TAIL 0 9 0 + 1) % s.dev.fld EXI_RLEN 0 9 0 ∧
      t.dev.fld EXI_STAT 0 15 8 = 2 ∧ t.dev.bit EXI_STAT 0 1 = s.dev.bit EXI_STAT 0 1 ∧ t.dev.bit (BLK_EVF 0x1B) 0 1 = true ∧
      RegsKept s t [EXI_TAIL.key 0 0, EXI_STAT.key 0 0, (BLK_EVF 0x1B).key 0 0] ∧ t.pending = s.pending ∧ t.sys.fuses = s.sys.fuses)) ∧
  (∀ (s : State) (t0 st n : Nat),
    s.dev.up .compute = true ∧ s.dev.engHas 0x1B = true ∧ inSram (s.dev.jobAddr 0x1B) 32 = true ∧ (s.dev.eng 0x1B).result = some (st, n) ∧ 2 < st ∧ st < 256 →
    Ends (.exiJobDone t0) s (fun t =>
      t.sys.read (s.dev.jobAddr 0x1B + 30) 1 = [w8 st] ∧ BytesKept s t (s.dev.jobAddr 0x1B + 30) 1 ∧ (t.dev.eng 0x1B).result = none ∧ t.dev.fld EXI_TAIL 0 9 0 = (s.dev.fld EXI_TAIL 0 9 0 + 1) % s.dev.fld EXI_RLEN 0 9 0 ∧
      t.dev.fld EXI_STAT 0 15 8 = st ∧ t.dev.bit EXI_STAT 0 1 = true ∧ t.dev.bit (BLK_EVF 0x1B) 0 1 = true ∧ t.dev.bit (BLK_EVF 0x1B) 0 2 = true ∧
      RegsKept s t [EXI_TAIL.key 0 0, EXI_STAT.key 0 0, (BLK_EVF 0x1B).key 0 0] ∧ t.pending = s.pending ∧ t.sys.fuses = s.sys.fuses)) ∧
  (∀ (s : State) (t0 : Nat),
    s.dev.up .compute = true ∧ s.dev.engHas 0x1B = true ∧ inSram (s.dev.jobAddr 0x1B) 32 = false →
    Ends (.exiJobDone t0) s (fun t =>
      t.dev.fld EXI_TAIL 0 9 0 = (s.dev.fld EXI_TAIL 0 9 0 + 1) % s.dev.fld EXI_RLEN 0 9 0 ∧ t.dev.fld EXI_STAT 0 15 8 = 4 ∧ t.dev.bit EXI_STAT 0 1 = true ∧ t.dev.bit (BLK_EVF 0x1B) 0 1 = true ∧ t.dev.bit (BLK_EVF 0x1B) 0 2 = true ∧
      (t.dev.eng 0x1B).result = none ∧ OnlyRegs s t [EXI_TAIL.key 0 0, EXI_STAT.key 0 0, (BLK_EVF 0x1B).key 0 0])) ∧
  (∀ (s : State) (t0 : Nat),
    s.dev.up .compute = false ∨ s.dev.engHas 0x1B = false ∨ (inSram (s.dev.jobAddr 0x1B) 32 = true ∧ (s.dev.eng 0x1B).result = none ∧ [1, 2].contains (s.sys.job (s.dev.jobAddr 0x1B)).op = true) →
    Ends (.exiJobDone t0) s (fun t =>
      t.dev.cmp = s.dev.cmp ∧ OnlyRegs s t [])) ∧
  (∀ (s : State) (i : Initiator) (t0 p : Nat) (v : Word) (l : List Byte) (ch : List (Nat × Byte)),
    Ends (.xspiCommand i p v) s (fun t =>
      exec (.xspiCommand i (p % 2) v) s = .next t) ∧
    Ends (.xspiCommandDone t0 p l ch) s (fun t =>
      exec (.xspiCommandDone t0 (p % 2) l ch) s = .next t) ∧
    Ends (.xspiReadTimeout t0 p) s (fun t =>
      exec (.xspiReadTimeout t0 (p % 2)) s = .next t)) ∧
  (∀ (s : State) (t0 p : Nat) (l : List Byte) (ch : List (Nat × Byte)),
    p < 2 ∧ s.dev.up .compute = true ∧ s.dev.xspBusy p = true →
    Ends (.xspiCommandDone t0 p l ch) s (fun t =>
      let k := min 8 (s.dev.fld (xspCmd p) 0 23 20)
      let base := if p = 0 then 0x20000000 else 0x30000000
      t.dev.xspBusy p = false ∧ t.dev.bit (xspCmd p) 0 31 = false ∧ t.dev.xspHeld p = [] ∧ t.dev.bit (BLK_EVF (0x1C + p)) 0 0 = true ∧
      t.dev.rd (XSP_DATA0 p) 0 = (if s.dev.bit (xspCmd p) 0 24 = false ∧ k ≠ 0 then w32 (leNat ((slice l 0 k).take 4)) else s.dev.rd (XSP_DATA0 p) 0) ∧
      t.dev.rd (XSP_DATA1 p) 0 = (if s.dev.bit (xspCmd p) 0 24 = false ∧ k ≠ 0 then w32 (leNat ((slice l 0 k).drop 4)) else s.dev.rd (XSP_DATA1 p) 0) ∧
      (∀ n, (∀ c ∈ ch, base + c.1 ≠ n) → memByte t.sys.mem n = memByte s.sys.mem n) ∧
      (∀ h ∈ s.dev.xspHeld p, (kvGet t.dev.resp h.init.id {}).err = false) ∧
      t.pending = s.pending ∧ t.sys.fuses = s.sys.fuses ∧ PagesKept s t [0x1C + p])) ∧
  (∀ (s : State) (t0 p k : Nat) (b : Byte) (l : List Byte),
    p < 2 ∧ s.dev.up .compute = true ∧ s.dev.xspBusy p = true ∧ k < 0x10000000 →
    Ends (.xspiCommandDone t0 p l [(k, b)]) s (fun t =>
      memByte t.sys.mem ((if p = 0 then 0x20000000 else 0x30000000) + k) = b)) ∧
  (∀ (s : State) (t0 p : Nat) (l : List Byte) (ch : List (Nat × Byte)),
    p < 2 →
    s.dev.up .compute = false ∨ s.dev.xspBusy p = false →
    Ends (.xspiCommandDone t0 p l ch) s (fun t =>
      t.dev.cmp = s.dev.cmp ∧ t.dev.resp = s.dev.resp ∧ OnlyRegs s t [])) ∧
  (∀ (s : State) (t0 p : Nat),
    p < 2 ∧ (s.dev.xspHeld p).any (fun h => decide (h.since + (s.dev.rd (XSP_RDTMO p) 0).toNat * 1000 ≤ t0)) = true →
    Ends (.xspiReadTimeout t0 p) s (fun t =>
      t.dev.xspHeld p = (s.dev.xspHeld p).filter (fun h => !decide (h.since + (s.dev.rd (XSP_RDTMO p) 0).toNat * 1000 ≤ t0)) ∧
      (∀ h ∈ s.dev.xspHeld p, h.since + (s.dev.rd (XSP_RDTMO p) 0).toNat * 1000 ≤ t0 → kvGet t.dev.resp h.init.id {} = ⟨true, 0⟩) ∧
      t.dev.bit (xspStat p) 0 8 = true ∧ t.dev.bit (BLK_EVF (0x1C + p)) 0 1 = true ∧
      OnlyRegs s t [(xspStat p).key 0 0, (BLK_EVF (0x1C + p)).key 0 0])) ∧
  (∀ (s : State) (t0 p : Nat),
    p < 2 ∧ (s.dev.xspHeld p).any (fun h => decide (h.since + (s.dev.rd (XSP_RDTMO p) 0).toNat * 1000 ≤ t0)) = false →
    Ends (.xspiReadTimeout t0 p) s (fun t =>
      t.dev.cmp = s.dev.cmp ∧ t.dev.resp = s.dev.resp ∧ OnlyRegs s t []))

/-- Ethernet queues take, send and receive frames by their rings; links show their state and speed. (R604, R606, R607, spec/15_compute_island.md) -/
def Obligations.EthernetMovesFramesThroughItsQueues : Prop :=
  (∀ (s : State) (i : Initiator) (v : Word) (k a : Nat) (x : Desc),
    Passes s i ETH_QKICK k ∧ bitOf v 0 = true ∧ s.dev.ethRefuses k = false ∧ s.dev.ethRings (k / 4) (k % 4) = true ∧ (s.dev.ethQ k).busy = false →
    s.sys.take (s.dev.ethCfg k).txBase (s.dev.ethCfg k).txLen (s.dev.ethQ k).txPos = .own a x →
    Ends (.ethTxPoll i v) s (fun t =>
      (t.dev.ethQ k).busy = true ∧ (t.dev.ethQ k).readyAt = s.dev.time ∧ OnlyRegs s t [])) ∧
  (∀ (s : State) (t0 m q stamp a : Nat) (x : Desc),
    s.dev.ethRings m q = true ∧ (s.dev.ethQ (4 * m + q)).busy = true ∧ (∀ p : Nat, p < 4 → q < p → (s.dev.ethQ (4 * m + p)).busy = false ∨ stamp ≤ (s.dev.ethQ (4 * m + p)).readyAt) →
    s.sys.take (s.dev.ethCfg (4 * m + q)).txBase (s.dev.ethCfg (4 * m + q)).txLen (s.dev.ethQ (4 * m + q)).txPos = .own a x →
    Ends (.ethFrameSent t0 m q stamp) s (fun t =>
      t.sys.read (a + 4) 12 = leBytes 2 x.len ++ leBytes 2 (b2n (decide (1518 < x.len))) ++ leBytes 8 stamp ∧ BytesKept s t (a + 4) 12 ∧
      (t.dev.ethQ (4 * m + q)).txPos = ((s.dev.ethQ (4 * m + q)).txPos + 1) % (s.dev.ethCfg (4 * m + q)).txLen ∧ t.dev.bit ETH_MSTAT m 9 = true ∧ t.dev.bit (BLK_EVF 0x78) 0 1 = true ∧
      PagesKept s t [0x78, 0x79] ∧ t.pending = s.pending ∧ t.sys.fuses = s.sys.fuses)) ∧
  (∀ (s : State) (t0 m q stamp a : Nat) (x : Desc) (b : List Byte),
    s.dev.bankOff 5 = false ∧ s.dev.macOn m = true ∧ 14 ≤ b.length ∧ b.length ≤ 1518 ∧ s.dev.level ≠ .standby ∧ (s.dev.ringPort m && decide ((ethFrame b).etherType = 0x88B5) && decide ((ethFrame b).tag.map (· % 4096) = some (s.dev.fld STG_CFG 0 27 16))) = false ∧ s.dev.ethAccepts m (b.take 6) = true →
    q = ((ethFrame b).tag.map (fun g => s.dev.fld ETH_PCPMAP m (2 * (g / 8192 % 8) + 1) (2 * (g / 8192 % 8)))).getD 0 ∧ s.dev.ethRings m q = true →
    s.sys.take (s.dev.ethCfg (4 * m + q)).rxBase (s.dev.ethCfg (4 * m + q)).rxLen (s.dev.ethQ (4 * m + q)).rxPos = .own a x ∧ (x.addr + x.len ≤ a + 4 ∨ a + 16 ≤ x.addr) →
    Ends (.ethFrameReceive t0 m stamp true b) s (fun t =>
      t.sys.read x.addr (min b.length x.len) = b.take x.len ∧
      t.sys.read (a + 4) 12 = leBytes 2 (min b.length x.len) ++ leBytes 2 (b2n (decide (x.len < b.length))) ++ leBytes 8 stamp ∧
      (∀ n : Nat, (n < a + 4 ∨ a + 16 ≤ n) → (n < x.addr ∨ x.addr + x.len ≤ n) → memByte t.sys.mem n = memByte s.sys.mem n) ∧
      t.dev.bit ETH_MSTAT m 8 = true ∧ t.dev.bit (BLK_EVF 0x78) 0 0 = true ∧ (t.dev.ethQ (4 * m + q)).rxPos = ((s.dev.ethQ (4 * m + q)).rxPos + 1) % (s.dev.ethCfg (4 * m + q)).rxLen ∧
      RegsKept s t [ETH_MSTAT.key m 0, (BLK_EVF 0x78).key 0 0] ∧ t.pending = s.pending ∧ t.sys.fuses = s.sys.fuses)) ∧
  (∀ (s : State) (t0 m q stamp : Nat) (b : List Byte),
    s.dev.bankOff 5 = false ∧ s.dev.macOn m = true ∧ 14 ≤ b.length ∧ b.length ≤ 1518 ∧ s.dev.level ≠ .standby ∧ (s.dev.ringPort m && decide ((ethFrame b).etherType = 0x88B5) && decide ((ethFrame b).tag.map (· % 4096) = some (s.dev.fld STG_CFG 0 27 16))) = false ∧ s.dev.ethAccepts m (b.take 6) = true →
    q = ((ethFrame b).tag.map (fun g => s.dev.fld ETH_PCPMAP m (2 * (g / 8192 % 8) + 1) (2 * (g / 8192 % 8)))).getD 0 ∧ s.dev.ethRings m q = true →
    s.sys.take (s.dev.ethCfg (4 * m + q)).rxBase (s.dev.ethCfg (4 * m + q)).rxLen (s.dev.ethQ (4 * m + q)).rxPos = .none →
    Ends (.ethFrameReceive t0 m stamp true b) s (fun t =>
      t.dev.fld ETH_ERRCNT m 15 0 = min (s.dev.fld ETH_ERRCNT m 15 0 + 1) 65535 ∧ OnlyRegs s t [ETH_ERRCNT.key m 0])) ∧
  (∀ (s : State) (t0 m stamp : Nat) (b : List Byte) (good : Bool),
    s.dev.bankOff 5 = false ∧ s.dev.macOn m = true ∧ s.dev.backendStops m = false →
    good = false ∨ b.length < 14 ∨ 1518 < b.length →
    Ends (.ethFrameReceive t0 m stamp good b) s (fun t =>
      t.dev.fld ETH_ERRCNT m 31 16 = min (s.dev.fld ETH_ERRCNT m 31 16 + 1) 65535 ∧ OnlyRegs s t [ETH_ERRCNT.key m 0])) ∧
  (∀ (s : State) (t0 m sp : Nat) (b : Bool),
    s.dev.macOn m = true →
    Ends (.ethLinkChange t0 m b sp) s (fun t =>
      t.dev.bit ETH_MSTAT m 0 = b ∧ t.dev.bit (BLK_EVF 0x78) 0 2 = true ∧ t.dev.fld ETH_MSTAT m 2 1 = (if !b then s.dev.fld ETH_MSTAT m 2 1 else if s.dev.fld ETH_MCFG m 29 28 = 3 then sp % 4 else s.dev.fld ETH_MCFG m 29 28) ∧
      OnlyRegs s t [ETH_MSTAT.key m 0, (BLK_EVF 0x78).key 0 0])) ∧
  (∀ (s : State) (i : Initiator) (v : Word) (k : Nat),
    Passes s i ETH_QKICK k ∧ bitOf v 0 = true ∧ s.dev.ethRefuses k = false ∧ s.dev.ethRings (k / 4) (k % 4) = true ∧ (s.dev.ethQ k).busy = false →
    s.sys.take (s.dev.ethCfg k).txBase (s.dev.ethCfg k).txLen (s.dev.ethQ k).txPos = .none →
    Ends (.ethTxPoll i v) s (fun t =>
      t.dev.ethQ k = s.dev.ethQ k ∧ OnlyRegs s t [])) ∧
  (∀ (s : State) (i : Initiator) (v : Word) (k : Nat),
    Passes s i ETH_QKICK k ∧ bitOf v 0 = true ∧ s.dev.ethRefuses k = false ∧ s.dev.ethRings (k / 4) (k % 4) = true ∧ (s.dev.ethQ k).busy = false →
    s.sys.take (s.dev.ethCfg k).txBase (s.dev.ethCfg k).txLen (s.dev.ethQ k).txPos = .bad →
    Ends (.ethTxPoll i v) s (fun t =>
      (t.dev.ethQ k).stopped = true ∧ (t.dev.ethQ k).busy = false ∧ t.dev.bit (BLK_EVF 0x78) 0 3 = true ∧ t.dev.bit (BLK_ERR 0x79) 0 31 = true ∧ OnlyRegs s t [(BLK_EVF 0x78).key 0 0, (BLK_ERR 0x79).key 0 0])) ∧
  (∀ (s : State) (i : Initiator) (v : Word) (k : Nat),
    Passes s i ETH_QKICK k ∧ s.dev.ethRefuses k = true →
    Ends (.ethTxPoll i v) s (fun t =>
      t.dev.cmp = s.dev.cmp ∧ t.dev.bit (BLK_ERR 0x79) 0 31 = true ∧ OnlyRegs s t [(BLK_ERR 0x79).key 0 0])) ∧
  (∀ (s : State) (i : Initiator) (v : Word) (k : Nat),
    Passes s i ETH_QKICK k ∧ s.dev.ethRefuses k = false →
    bitOf v 0 = false ∨ s.dev.ethRings (k / 4) (k % 4) = false ∨ (s.dev.ethQ k).busy = true →
    Ends (.ethTxPoll i v) s (fun t =>
      t.dev.cmp = s.dev.cmp ∧ OnlyRegs s t [])) ∧
  (∀ (s : State) (t0 m q stamp : Nat),
    s.dev.ethRings m q = true ∧ (s.dev.ethQ (4 * m + q)).busy = true ∧ (∀ p : Nat, p < 4 → q < p → (s.dev.ethQ (4 * m + p)).busy = false ∨ stamp ≤ (s.dev.ethQ (4 * m + p)).readyAt) →
    s.sys.take (s.dev.ethCfg (4 * m + q)).txBase (s.dev.ethCfg (4 * m + q)).txLen (s.dev.ethQ (4 * m + q)).txPos = .none →
    Ends (.ethFrameSent t0 m q stamp) s (fun t =>
      (t.dev.ethQ (4 * m + q)).busy = false ∧ t.dev.bit ETH_MSTAT m 9 = true ∧ t.dev.bit (BLK_EVF 0x78) 0 1 = true ∧ OnlyRegs s t [ETH_MSTAT.key m 0, (BLK_EVF 0x78).key 0 0])) ∧
  (∀ (s : State) (t0 m q stamp : Nat),
    s.dev.ethRings m q = true ∧ (s.dev.ethQ (4 * m + q)).busy = true ∧ (∀ p : Nat, p < 4 → q < p → (s.dev.ethQ (4 * m + p)).busy = false ∨ stamp ≤ (s.dev.ethQ (4 * m + p)).readyAt) →
    s.sys.take (s.dev.ethCfg (4 * m + q)).txBase (s.dev.ethCfg (4 * m + q)).txLen (s.dev.ethQ (4 * m + q)).txPos = .bad →
    Ends (.ethFrameSent t0 m q stamp) s (fun t =>
      (t.dev.ethQ (4 * m + q)).stopped = true ∧ (t.dev.ethQ (4 * m + q)).busy = false ∧ t.dev.bit (BLK_EVF 0x78) 0 3 = true ∧ t.dev.bit (BLK_ERR 0x79) 0 31 = true ∧ OnlyRegs s t [ETH_MSTAT.key m 0, (BLK_EVF 0x78).key 0 0, (BLK_ERR 0x79).key 0 0])) ∧
  (∀ (s : State) (t0 m q stamp : Nat),
    s.dev.ethRings m q = false ∨ (s.dev.ethQ (4 * m + q)).busy = false ∨ (∃ p ∈ List.range 4, q < p ∧ (s.dev.ethQ (4 * m + p)).busy = true ∧ (s.dev.ethQ (4 * m + p)).readyAt < stamp) →
    Ends (.ethFrameSent t0 m q stamp) s (fun t =>
      t.dev.cmp = s.dev.cmp ∧ OnlyRegs s t [])) ∧
  (∀ (s : State) (t0 m q stamp a : Nat) (x : Desc) (b : List Byte),
    s.dev.bankOff 5 = false ∧ s.dev.macOn m = true ∧ 14 ≤ b.length ∧ b.length ≤ 1518 ∧ s.dev.level ≠ .standby ∧ (s.dev.ringPort m && decide ((ethFrame b).etherType = 0x88B5) && decide ((ethFrame b).tag.map (· % 4096) = some (s.dev.fld STG_CFG 0 27 16))) = false ∧ s.dev.ethAccepts m (b.take 6) = true →
    q = ((ethFrame b).tag.map (fun g => s.dev.fld ETH_PCPMAP m (2 * (g / 8192 % 8) + 1) (2 * (g / 8192 % 8)))).getD 0 ∧ s.dev.ethRings m q = true →
    s.sys.take (s.dev.ethCfg (4 * m + q)).rxBase (s.dev.ethCfg (4 * m + q)).rxLen (s.dev.ethQ (4 * m + q)).rxPos = .own a x →
    Ends (.ethFrameReceive t0 m stamp true b) s (fun t =>
      t.sys.read (a + 4) 12 = leBytes 2 (min b.length x.len) ++ leBytes 2 (b2n (decide (x.len < b.length))) ++ leBytes 8 stamp ∧
      t.dev.bit ETH_MSTAT m 8 = true ∧ t.dev.bit (BLK_EVF 0x78) 0 0 = true ∧ (t.dev.ethQ (4 * m + q)).rxPos = ((s.dev.ethQ (4 * m + q)).rxPos + 1) % (s.dev.ethCfg (4 * m + q)).rxLen ∧
      RegsKept s t [ETH_MSTAT.key m 0, (BLK_EVF 0x78).key 0 0] ∧ t.pending = s.pending ∧ t.sys.fuses = s.sys.fuses)) ∧
  (∀ (s : State) (t0 m q stamp : Nat) (b : List Byte),
    s.dev.bankOff 5 = false ∧ s.dev.macOn m = true ∧ 14 ≤ b.length ∧ b.length ≤ 1518 ∧ s.dev.level ≠ .standby ∧ (s.dev.ringPort m && decide ((ethFrame b).etherType = 0x88B5) && decide ((ethFrame b).tag.map (· % 4096) = some (s.dev.fld STG_CFG 0 27 16))) = false ∧ s.dev.ethAccepts m (b.take 6) = true →
    q = ((ethFrame b).tag.map (fun g => s.dev.fld ETH_PCPMAP m (2 * (g / 8192 % 8) + 1) (2 * (g / 8192 % 8)))).getD 0 ∧ s.dev.ethRings m q = true →
    s.sys.take (s.dev.ethCfg (4 * m + q)).rxBase (s.dev.ethCfg (4 * m + q)).rxLen (s.dev.ethQ (4 * m + q)).rxPos = .bad →
    Ends (.ethFrameReceive t0 m stamp true b) s (fun t =>
      (t.dev.ethQ (4 * m + q)).stopped = true ∧ (t.dev.ethQ (4 * m + q)).busy = false ∧ t.dev.bit (BLK_EVF 0x78) 0 3 = true ∧ t.dev.bit (BLK_ERR 0x79) 0 31 = true ∧ OnlyRegs s t [(BLK_EVF 0x78).key 0 0, (BLK_ERR 0x79).key 0 0])) ∧
  (∀ (s : State) (t0 m q stamp : Nat) (b : List Byte),
    s.dev.bankOff 5 = false ∧ s.dev.macOn m = true ∧ 14 ≤ b.length ∧ b.length ≤ 1518 ∧ s.dev.level ≠ .standby ∧ (s.dev.ringPort m && decide ((ethFrame b).etherType = 0x88B5) && decide ((ethFrame b).tag.map (· % 4096) = some (s.dev.fld STG_CFG 0 27 16))) = false →
    q = ((ethFrame b).tag.map (fun g => s.dev.fld ETH_PCPMAP m (2 * (g / 8192 % 8) + 1) (2 * (g / 8192 % 8)))).getD 0 →
    s.dev.ethAccepts m (b.take 6) = false ∨ s.dev.ethRings m q = false →
    Ends (.ethFrameReceive t0 m stamp true b) s (fun t =>
      t.dev.cmp = s.dev.cmp ∧ OnlyRegs s t [])) ∧
  (∀ (s : State) (t0 m c stamp : Nat) (b : List Byte),
    s.dev.bankOff 5 = false ∧ s.dev.macOn m = true ∧ s.dev.backendStops m = false ∧ 14 ≤ b.length ∧ b.length ≤ 1518 ∧ s.dev.level ≠ .standby ∧ (s.dev.ringPort m && decide ((ethFrame b).etherType = 0x88B5) && decide ((ethFrame b).tag.map (· % 4096) = some (s.dev.fld STG_CFG 0 27 16))) = true ∧ s.dev.telConn (ethFrame b).payload = some c →
    Ends (.ethFrameReceive t0 m stamp true b) s (fun t =>
      exec (.telegramReceive t0 c 1 (ethFrame b).payload) s = .next t)) ∧
  (∀ (s : State) (t0 m stamp : Nat) (b : List Byte),
    s.dev.bankOff 5 = false ∧ s.dev.macOn m = true ∧ s.dev.backendStops m = false ∧ 14 ≤ b.length ∧ b.length ≤ 1518 ∧ s.dev.level ≠ .standby ∧ (s.dev.ringPort m && decide ((ethFrame b).etherType = 0x88B5) && decide ((ethFrame b).tag.map (· % 4096) = some (s.dev.fld STG_CFG 0 27 16))) = true ∧ s.dev.telConn (ethFrame b).payload = none →
    Ends (.ethFrameReceive t0 m stamp true b) s (fun t =>
      t.dev.cmp = s.dev.cmp ∧ OnlyRegs s t [])) ∧
  (∀ (s : State) (t0 m stamp : Nat) (b : List Byte),
    s.dev.bankOff 5 = false ∧ s.dev.macOn m = true ∧ 14 ≤ b.length ∧ b.length ≤ 1518 ∧ s.dev.level = .standby ∧ s.dev.wakeFrame (ethFrame b) = true ∧ s.dev.bit PWR_WAKECFG 0 2 = true →
    Ends (.ethFrameReceive t0 m stamp true b) s (fun t =>
      t.dev.level = .normal ∧ t.dev.rd PWR_WAKESRC 0 = 4 ∧ Quiet s t)) ∧
  (∀ (s : State) (t0 m stamp : Nat) (b : List Byte),
    s.dev.bankOff 5 = false ∧ s.dev.macOn m = true ∧ 14 ≤ b.length ∧ b.length ≤ 1518 ∧ s.dev.level = .standby ∧ (s.dev.wakeFrame (ethFrame b) = false ∨ s.dev.bit PWR_WAKECFG 0 2 = false) →
    Ends (.ethFrameReceive t0 m stamp true b) s (fun t =>
      t.dev.cmp = s.dev.cmp ∧ OnlyRegs s t [])) ∧
  (∀ (s : State) (t0 m stamp : Nat) (good : Bool) (b : List Byte),
    s.dev.bankOff 5 = true ∨ s.dev.macOn m = false ∨ s.dev.backendStops m = true →
    Ends (.ethFrameReceive t0 m stamp good b) s (fun t =>
      t.dev.cmp = s.dev.cmp ∧ OnlyRegs s t [])) ∧
  (∀ (s : State) (t0 m sp : Nat) (b : Bool),
    s.dev.macOn m = false →
    Ends (.ethLinkChange t0 m b sp) s (fun t =>
      t.dev.cmp = s.dev.cmp ∧ OnlyRegs s t []))

/-- A mailbox takes one request per initiator, and completes it with its response, with HWRES 1 or 2, or releases it. (R618, R619, R620, R621, spec/15_compute_island.md) -/
def Obligations.MailboxesCarryRequestsAndResponses : Prop :=
  (∀ (s : State) (i : Initiator) (m n : Nat) (v : Word),
    m < 2 ∧ Passes s i (MBX_REQ m) n ∧ bits (s.dev.rdB (MBX_STAT m) 0 i.id) 1 0 = 0 ∧ bits v 13 0 ≠ 0 ∧ bits v 13 0 ≤ 12288 ∧ s.dev.up (mbxTarget m) = true →
    Ends (.mailboxRequest i m v) s (fun t =>
      bits (t.dev.rdB (MBX_STAT m) 0 i.id) 1 0 = 1 ∧ bits (t.dev.rdB (MBX_STAT m) 0 i.id) 15 8 = bits v 31 24 ∧ t.dev.bit (MBX_PENDSUM m) 0 i.id = true ∧
      t.dev.mbxReq m i = some { len := bits v 13 0, tag := bits v 31 24, since := s.dev.time } ∧ OnlyRegs s t [(MBX_STAT m).key 0 i.id, (MBX_PENDSUM m).key 0 0])) ∧
  (∀ (s : State) (i : Initiator) (m n : Nat) (v : Word),
    m < 2 ∧ Passes s i (MBX_REQ m) n ∧ bits (s.dev.rdB (MBX_STAT m) 0 i.id) 1 0 = 0 ∧ bits v 13 0 ≠ 0 ∧ bits v 13 0 ≤ 12288 ∧ s.dev.up (mbxTarget m) = false →
    Ends (.mailboxRequest i m v) s (fun t =>
      t.dev.rdB (MBX_RSP m) 0 i.id = 0x01000000 ∧ bits (t.dev.rdB (MBX_STAT m) 0 i.id) 1 0 = 2 ∧ t.dev.mbxReq m i = none ∧ t.dev.bit (BLK_EVF (0x1E + m)) 0 0 = true ∧
      OnlyRegs s t [(MBX_STAT m).key 0 i.id, (MBX_RSP m).key 0 i.id, (MBX_PENDSUM m).key 0 0, (BLK_EVF (0x1E + m)).key 0 0])) ∧
  (∀ (s : State) (i : Initiator) (m n : Nat) (v : Word),
    m < 2 ∧ Passes s i (MBX_REQ m) n →
    bits (s.dev.rdB (MBX_STAT m) 0 i.id) 1 0 ≠ 0 ∨ bits v 13 0 = 0 ∨ 12288 < bits v 13 0 →
    Ends (.mailboxRequest i m v) s (fun t =>
      t.dev.mbx = s.dev.mbx ∧ t.dev.bit (BLK_ERR (0x1E + m)) 0 31 = true ∧ OnlyRegs s t [(BLK_ERR (0x1E + m)).key 0 0])) ∧
  (∀ (s : State) (i : Initiator) (m : Nat) (r : MbxReq) (b : List Byte),
    m < 2 ∧ s.dev.mbxReq m i = some r ∧ r.ready = some b ∧ s.dev.up (mbxTarget m) = true ∧ b.length ≤ 12288 →
    Ends (.mailboxResponse i m) s (fun t =>
      (∀ k : Nat, k < (b.length + 3) / 4 → t.dev.rdB (MBX_BUF m (k % 768)) (4 + k / 768) i.id = w32 (leAt b (4 * k) 4)) ∧
      t.dev.rdB (MBX_RSP m) 0 i.id = w32 b.length ∧ bits (t.dev.rdB (MBX_STAT m) 0 i.id) 1 0 = 2 ∧ t.dev.mbxReq m i = none ∧ t.dev.bit (MBX_PENDSUM m) 0 i.id = false ∧ t.dev.bit (BLK_EVF (0x1E + m)) 0 0 = true ∧
      OnlyPages s t [0x1E + m])) ∧
  (∀ (s : State) (i : Initiator) (m n : Nat) (v : Word),
    m < 2 ∧ Passes s i (MBX_ACK m) n ∧ bitOf v 0 = true ∧ bits (s.dev.rdB (MBX_STAT m) 0 i.id) 1 0 = 2 →
    Ends (.mailboxAck i m v) s (fun t =>
      bits (t.dev.rdB (MBX_STAT m) 0 i.id) 1 0 = 0 ∧ OnlyRegs s t [(MBX_STAT m).key 0 i.id])) ∧
  (∀ (s : State) (i : Initiator) (m t0 : Nat) (r : MbxReq),
    m < 2 ∧ s.dev.mbxReq m i = some r ∧ r.since + max 1 (s.dev.fld (MBX_TMO m) 0 15 0) * 1000000 ≤ t0 →
    Ends (.mailboxTimeout i m t0) s (fun t =>
      t.dev.rdB (MBX_RSP m) 0 i.id = 0x02000000 ∧ bits (t.dev.rdB (MBX_STAT m) 0 i.id) 1 0 = 2 ∧ t.dev.mbxReq m i = none ∧ t.dev.bit (BLK_EVF (0x1E + m)) 0 0 = true ∧
      OnlyRegs s t [(MBX_STAT m).key 0 i.id, (MBX_RSP m).key 0 i.id, (MBX_PENDSUM m).key 0 0, (BLK_EVF (0x1E + m)).key 0 0])) ∧
  (∀ (s : State) (i : Initiator) (m t0 : Nat) (v : Word),
    Ends (.mailboxRequest i m v) s (fun t =>
      exec (.mailboxRequest i (m % 2) v) s = .next t) ∧
    Ends (.mailboxResponse i m) s (fun t =>
      exec (.mailboxResponse i (m % 2)) s = .next t) ∧
    Ends (.mailboxAck i m v) s (fun t =>
      exec (.mailboxAck i (m % 2) v) s = .next t) ∧
    Ends (.mailboxTimeout i m t0) s (fun t =>
      exec (.mailboxTimeout i (m % 2) t0) s = .next t)) ∧
  (∀ (s : State) (i : Initiator) (m k : Nat) (r : MbxReq),
    m < 2 ∧ s.dev.mbxReq m i = some r ∧ r.ready = none ∧ s.dev.up (mbxTarget m) = true ∧ s.dev.mbxRefuse m i r = some k →
    Ends (.mailboxResponse i m) s (fun t =>
      t.dev.rdB (MBX_BUF m 0) 4 i.id = w32 (leAt (s.dev.mbxBytes m i 0 2 ++ [w8 k, 0]) 0 4) ∧
      t.dev.rdB (MBX_RSP m) 0 i.id = 4 ∧ bits (t.dev.rdB (MBX_STAT m) 0 i.id) 1 0 = 2 ∧ t.dev.mbxReq m i = none ∧ t.dev.bit (MBX_PENDSUM m) 0 i.id = false ∧ t.dev.bit (BLK_EVF (0x1E + m)) 0 0 = true ∧
      OnlyPages s t [0x1E + m])) ∧
  (∀ (s : State) (i : Initiator) (m : Nat),
    m < 2 →
    s.dev.up (mbxTarget m) = false ∨ ((s.dev.mbxReq m i).map (fun r => r.ready.isNone && (s.dev.mbxRefuse m i r).isNone)).getD true = true →
    Ends (.mailboxResponse i m) s (fun t => t = s)) ∧
  (∀ (s : State) (i : Initiator) (m n : Nat) (v : Word),
    m < 2 ∧ Passes s i (MBX_ACK m) n →
    bitOf v 0 = false ∨ bits (s.dev.rdB (MBX_STAT m) 0 i.id) 1 0 ≠ 2 →
    Ends (.mailboxAck i m v) s (fun t =>
      t.dev.mbx = s.dev.mbx ∧ OnlyRegs s t [])) ∧
  (∀ (s : State) (i : Initiator) (m t0 : Nat),
    m < 2 ∧ ((s.dev.mbxReq m i).map (fun r => decide (t0 < r.since + max 1 (s.dev.fld (MBX_TMO m) 0 15 0) * 1000000))).getD true = true →
    Ends (.mailboxTimeout i m t0) s (fun t =>
      t.dev.mbx = s.dev.mbx ∧ OnlyRegs s t []))

/-- Slots enable under their parents, derive from them, renew by generations, and the key island's jobs use them. (R630, R631, R632, R633, R634, R637, R644, R645, spec/16_keys_and_attestation.md) -/
def Obligations.TheKeyTreeDerivesAndRenews : Prop :=
  (∀ (s : State) (i : Initiator) (v : Word) (n : Nat),
    Passes s i KEY_NCFG n ∧ 3 ≤ n ∧ bits v 26 24 < 6 ∧ s.dev.slotEn n = false ∧ s.dev.enableOk n (v ||| 0x80000000) = true →
    Ends (.slotEnable i v) s (fun t =>
      t.dev.slotEn n = true ∧ t.dev.slotLvl n = s.dev.slotLvl (bits v 7 0) + 1 ∧ t.dev.slotUse n = bits v 26 24 ∧ t.dev.slotPar n = bits v 7 0 ∧
      (∀ k : Nat, k < 256 → t.dev.keySlot k = s.dev.keySlot k ∧ t.dev.gen k = s.dev.gen k) ∧
      OnlyRegs s t [KEY_NCFG.key n 0, KEY_NSTAT.key n 0, KEY_NGEN.key n 0, KEY_NHANDLE.key n 0, KEY_ROOTGEN.key 0 0, KEY_STAT.key 0 0])) ∧
  (∀ (s : State) (i : Initiator) (v : Word) (n : Nat),
    Passes s i KEY_NCFG n →
    n < 3 ∨ 6 ≤ bits v 26 24 ∨ (s.dev.slotEn n = false ∧ s.dev.enableOk n (v ||| 0x80000000) = false) →
    Ends (.slotEnable i v) s (fun t =>
      t.dev.bit (BLK_ERR 0x11) 0 31 = true ∧ (∀ k : Nat, k < 256 → t.dev.keySlot k = s.dev.keySlot k) ∧ OnlyRegs s t [(BLK_ERR 0x11).key 0 0])) ∧
  (∀ (s : State) (t0 n : Nat),
    s.dev.up .key = true ∧ n < 256 ∧ n ≠ 0 ∧ s.dev.derivable n = true →
    Ends (.slotDerived t0 n) s (fun t =>
      t.dev.keySlot n = { key := shapeKey (s.dev.slotUse n) (hkdfExpand (hkdfExtract (s.dev.keySlot (s.dev.slotPar n)).key) (s.dev.keyInfo n) (usageLen (s.dev.slotUse n))), derivations := (s.dev.keySlot n).derivations + 1 } ∧
      (∀ k : Nat, k < 256 → k ≠ n → t.dev.keySlot k = s.dev.keySlot k) ∧ OnlyRegs s t [KEY_NSTAT.key n 0, KEY_NGEN.key n 0, KEY_NHANDLE.key n 0, KEY_ROOTGEN.key 0 0, KEY_STAT.key 0 0])) ∧
  (∀ (s : State) (i : Initiator) (n : Nat),
    Passes s i KEY_NCTL n ∧ n ≠ 2 ∧ s.dev.slotEn n = true ∧ s.dev.genBad n = false ∧ s.dev.gen n < 0xFFFFFFFF →
    Ends (.geninc i true) s (fun t =>
      let ds := s.dev.descend n 5
      t.dev.gen n = s.dev.gen n + 1 ∧ t.dev.bit (BLK_EVF 0x11) 0 0 = true ∧ (∀ k : Nat, k < 256 → k ≠ n → t.dev.gen k = s.dev.gen k) ∧
      (∀ k : Nat, k < 256 → k ∉ ds → t.dev.keySlot k = s.dev.keySlot k) ∧
      (∀ k : Nat, k < 256 → k ∈ ds ∧ n ∉ ds ∧ s.dev.slotPar k = n ∧ s.dev.derived n = true ∧ s.dev.slotLvl k < 6 → t.dev.keySlot k = { key := shapeKey (s.dev.slotUse k) (hkdfExpand (hkdfExtract (s.dev.keySlot n).key) (t.dev.keyInfo k) (usageLen (s.dev.slotUse k))), derivations := (s.dev.keySlot k).derivations + 1 }) ∧
      OnlyPages s t [0x11, 0x12])) ∧
  (∀ (s : State) (i : Initiator) (n : Nat) (w : Bool),
    Passes s i KEY_NCTL n ∧ n ≠ 2 ∧ s.dev.slotEn n = true ∧ s.dev.genBad n = false ∧ (s.dev.gen n = 0xFFFFFFFF ∨ w = false) →
    Ends (.geninc i w) s (fun t =>
      t.dev.bit KEY_NSTAT n (if s.dev.gen n = 0xFFFFFFFF then 4 else 5) = true ∧ t.dev.key = s.dev.key ∧ OnlyRegs s t [KEY_NSTAT.key n 0])) ∧
  (∀ (s : State) (t0 : Nat) (j : Job),
    JobReady s 0x12 j ∧ j.op = 0x60 ∧ inSram j.key (hssKeyLen (s.sys.read j.key 8)) = true →
    Ends (.hssVerify t0 true) s (fun t =>
      let ok := hssVerify (s.sys.read j.key (hssKeyLen (s.sys.read j.key 8))) (s.sys.read j.input j.inLen) (s.sys.read j.aux j.auxLen)
      (ok = true → JobGives s t 0x12 j []) ∧ (ok = false → JobFails s t 0x12 2))) ∧
  (∀ (s : State) (t0 : Nat) (j : Job) (k : List Byte),
    JobReady s 0x12 j ∧ j.op = 0x61 ∧ s.dev.handleKey j.key 0x61 = some k →
    (if s.dev.slotUse (j.key % 256) = 2 then 64 else if s.dev.slotUse (j.key % 256) = 3 then 96 else 57) ≤ j.outCap →
    Ends (.slotPublicKey t0 true) s (fun t =>
      let u := s.dev.slotUse (j.key % 256)
      JobGives s t 0x12 j (if u = 2 then p256.pub (beNat k) else if u = 3 then p384.pub (beNat k) else edPub k))) ∧
  (∀ (s : State) (t0 : Nat) (j : Job),
    JobReady s 0x12 j ∧ j.op = 0x61 ∧ s.dev.handleKey j.key 0x61 = none →
    Ends (.slotPublicKey t0 true) s (fun t =>
      JobFails s t 0x12 5)) ∧
  (∀ (s : State) (t0 : Nat) (j : Job),
    JobReady s 0x12 j ∧ j.op = 0x63 ∧ s.dev.key.topBuilt = true ∧ 60 ≤ j.outCap →
    Ends (.signerPublicKey t0 true) s (fun t =>
      JobGives s t 0x12 j (signerPub (s.dev.keySlot 2).key))) ∧
  (∀ (s : State) (t0 : Nat) (e : Bool),
    s.dev.key.topBuilt = false →
    Ends (.signerPublicKey t0 e) s (fun t =>
      t.dev.key = s.dev.key ∧ OnlyRegs s t [])) ∧
  (∀ (s : State) (t0 m : Nat),
    s.dev.up .key = true ∧ s.dev.engHas 0x12 = true ∧ inSram (s.dev.jobAddr 0x12) 32 = true ∧ (s.dev.eng 0x12).result = some (1, m) ∧ m ≠ 0 →
    Ends (.keyJobDone t0) s (fun t =>
      let a := s.dev.jobAddr 0x12
      t.sys.read (a + 30) 1 = [1] ∧ t.sys.read (a + 20) 4 = leBytes 4 m ∧ BytesKept s t (a + 20) 11 ∧ (t.dev.eng 0x12).result = none ∧
      t.dev.fld KEY_TAIL 0 9 0 = (s.dev.fld KEY_TAIL 0 9 0 + 1) % s.dev.fld KEY_RLEN 0 9 0 ∧ RegsKept s t [KEY_TAIL.key 0 0, KEY_RSTAT.key 0 0, (BLK_EVF 0x12).key 0 0] ∧ t.pending = s.pending)) ∧
  (∀ (s : State) (i : Initiator) (v : Word) (n : Nat),
    Passes s i KEY_NCFG n ∧ 3 ≤ n ∧ bits v 26 24 < 6 ∧ s.dev.slotEn n = true →
    Ends (.slotEnable i v) s (fun t =>
      t.dev.key = s.dev.key ∧ OnlyRegs s t [])) ∧
  (∀ (s : State) (t0 : Nat),
    s.dev.up .key = true ∧ s.dev.derivable 0 = true →
    Ends (.slotDerived t0 0) s (fun t =>
      t.dev.keySlot 0 = { key := s.sys.rootKey, derivations := (s.dev.keySlot 0).derivations + 1 } ∧
      (∀ k : Nat, k < 256 → k ≠ 0 → t.dev.keySlot k = s.dev.keySlot k) ∧ OnlyRegs s t [KEY_NSTAT.key 0 0, KEY_NGEN.key 0 0, KEY_NHANDLE.key 0 0, KEY_ROOTGEN.key 0 0, KEY_STAT.key 0 0])) ∧
  (∀ (s : State) (t0 n : Nat),
    s.dev.up .key = false ∨ 256 ≤ n ∨ s.dev.derivable n = false →
    Ends (.slotDerived t0 n) s (fun t =>
      t.dev.key = s.dev.key ∧ OnlyRegs s t [])) ∧
  (∀ (s : State) (i : Initiator) (w : Bool),
    Passes s i KEY_NCTL 2 →
    Ends (.geninc i w) s (fun t =>
      t.dev.key = s.dev.key ∧ t.dev.bit (BLK_ERR 0x11) 0 31 = true ∧ OnlyRegs s t [(BLK_ERR 0x11).key 0 0])) ∧
  (∀ (s : State) (i : Initiator) (n : Nat) (w : Bool),
    Passes s i KEY_NCTL n ∧ n ≠ 2 ∧ (s.dev.slotEn n = false ∨ s.dev.genBad n = true) →
    Ends (.geninc i w) s (fun t =>
      t.dev.key = s.dev.key ∧ OnlyRegs s t [])) ∧
  (∀ (s : State) (i : Initiator) (n : Nat),
    Passes s i KEY_NCTL n ∧ n ≠ 2 ∧ s.dev.slotEn n = true ∧ s.dev.genBad n = false ∧ s.dev.gen n < 0xFFFFFFFF ∧ (s.dev.descend n 5).contains 2 = true →
    Ends (.geninc i true) s (fun t =>
      t.dev.key.qnext = 0 ∧ t.dev.key.qlimit = 0 ∧ t.dev.key.topBuilt = false ∧ t.dev.key.built = [] ∧ t.dev.key.building = [0, 1] ∧
      (t.dev.resRec).map (fun r => r.next) = some 0 ∧ t.dev.rd KEY_SIGNEXT 0 = 0 ∧ t.dev.rd KEY_SIGQ 0 = 0)) ∧
  (∀ (s : State) (t0 : Nat) (j : Job) (x : Instr × List Nat),
    JobReady s 0x12 j ∧ x ∈ keyCmds t0 false ∧ j.op ∈ x.2 →
    Ends x.1 s (fun t =>
      JobFails s t 0x12 7)) ∧
  (∀ (s : State) (t0 : Nat) (ok : Bool) (x : Instr × List Nat),
    s.dev.up (pageIsland 0x12) = true ∧ s.dev.engHas 0x12 = true ∧ (s.dev.eng 0x12).result = none ∧ inSram (s.dev.jobAddr 0x12) 32 = true →
    x ∈ keyCmds t0 ok ∧ (s.sys.job (s.dev.jobAddr 0x12)).op ∈ x.2 ∧ (s.sys.job (s.dev.jobAddr 0x12)).bufsOk = false →
    Ends x.1 s (fun t =>
      JobFails s t 0x12 4)) ∧
  (∀ (s : State) (t0 : Nat) (ok : Bool) (x : Instr × List Nat),
    x ∈ keyCmds t0 ok →
    s.dev.up .key = false ∨ s.dev.engHas 0x12 = false ∨ (s.dev.eng 0x12).result.isSome = true ∨ inSram (s.dev.jobAddr 0x12) 32 = false ∨ (s.sys.job (s.dev.jobAddr 0x12)).op ∉ x.2 →
    Ends x.1 s (fun t =>
      t.dev.key = s.dev.key ∧ OnlyRegs s t [])) ∧
  (∀ (s : State) (t0 : Nat) (j : Job),
    JobReady s 0x12 j ∧ j.op = 0x60 ∧ inSram j.key (hssKeyLen (s.sys.read j.key 8)) = false →
    Ends (.hssVerify t0 true) s (fun t =>
      JobFails s t 0x12 4)) ∧
  (∀ (s : State) (t0 : Nat) (j : Job) (k : List Byte),
    JobReady s 0x12 j ∧ j.op = 0x61 ∧ s.dev.handleKey j.key 0x61 = some k →
    j.outCap < (if s.dev.slotUse (j.key % 256) = 2 then 64 else if s.dev.slotUse (j.key % 256) = 3 then 96 else 57) →
    Ends (.slotPublicKey t0 true) s (fun t =>
      JobFails s t 0x12 3)) ∧
  (∀ (s : State) (t0 : Nat) (j : Job),
    JobReady s 0x12 j ∧ j.op = 0x63 ∧ s.dev.key.topBuilt = true ∧ j.outCap < 60 →
    Ends (.signerPublicKey t0 true) s (fun t =>
      JobFails s t 0x12 3)) ∧
  (∀ (s : State) (t0 : Nat) (j : Job),
    JobReady s 0x12 j ∧ j.op = 0x63 ∧ s.dev.key.topBuilt = true →
    Ends (.signerPublicKey t0 false) s (fun t =>
      JobFails s t 0x12 7)) ∧
  (∀ (s : State) (t0 : Nat) (ok : Bool),
    s.dev.up .key = true ∧ s.dev.engHas 0x12 = true ∧ (s.dev.eng 0x12).result = none ∧ inSram (s.dev.jobAddr 0x12) 32 = true ∧ (s.sys.job (s.dev.jobAddr 0x12)).op = 0x63 ∧ (s.sys.job (s.dev.jobAddr 0x12)).bufsOk = false ∧ s.dev.key.topBuilt = true →
    Ends (.signerPublicKey t0 ok) s (fun t =>
      JobFails s t 0x12 4)) ∧
  (∀ (s : State) (t0 : Nat) (ok : Bool),
    s.dev.up .key = false ∨ s.dev.engHas 0x12 = false ∨ (s.dev.eng 0x12).result.isSome = true ∨ inSram (s.dev.jobAddr 0x12) 32 = false ∨ (s.sys.job (s.dev.jobAddr 0x12)).op ≠ 0x63 →
    Ends (.signerPublicKey t0 ok) s (fun t =>
      t.dev.key = s.dev.key ∧ OnlyRegs s t [])) ∧
  (∀ (s : State) (t0 m : Nat),
    s.dev.up .key = true ∧ s.dev.engHas 0x12 = true ∧ inSram (s.dev.jobAddr 0x12) 32 = true ∧ (s.dev.eng 0x12).result = some (1, m) ∧ m ≠ 0 ∧ (s.sys.job (s.dev.jobAddr 0x12)).irq = true →
    Ends (.keyJobDone t0) s (fun t =>
      t.dev.bit (BLK_EVF 0x12) 0 0 = true ∧ t.sys.fuses = s.sys.fuses)) ∧
  (∀ (s : State) (t0 : Nat),
    s.dev.up .key = true ∧ s.dev.engHas 0x12 = true ∧ inSram (s.dev.jobAddr 0x12) 32 = true ∧ (s.dev.eng 0x12).result = none ∧ [0x60, 0x61, 0x62, 0x63].contains (s.sys.job (s.dev.jobAddr 0x12)).op = false →
    Ends (.keyJobDone t0) s (fun t =>
      t.sys.read (s.dev.jobAddr 0x12 + 30) 1 = [3] ∧ t.dev.bit KEY_RSTAT 0 1 = true ∧ t.dev.fld KEY_RSTAT 0 15 8 = 3 ∧ t.dev.bit (BLK_EVF 0x12) 0 1 = true ∧ t.dev.bit (BLK_EVF 0x12) 0 2 = true ∧
      BytesKept s t (s.dev.jobAddr 0x12 + 30) 1 ∧ RegsKept s t [KEY_TAIL.key 0 0, KEY_RSTAT.key 0 0, (BLK_EVF 0x12).key 0 0] ∧ t.pending = s.pending)) ∧
  (∀ (s : State) (t0 : Nat),
    s.dev.up .key = true ∧ s.dev.engHas 0x12 = true ∧ inSram (s.dev.jobAddr 0x12) 32 = true ∧ (s.dev.eng 0x12).result = some (1, 0) →
    Ends (.keyJobDone t0) s (fun t =>
      t.sys.read (s.dev.jobAddr 0x12 + 30) 1 = [1] ∧ BytesKept s t (s.dev.jobAddr 0x12 + 30) 1 ∧ (t.dev.eng 0x12).result = none ∧ t.dev.fld KEY_TAIL 0 9 0 = (s.dev.fld KEY_TAIL 0 9 0 + 1) % s.dev.fld KEY_RLEN 0 9 0 ∧
      ((s.sys.job (s.dev.jobAddr 0x12)).irq = true → t.dev.bit (BLK_EVF 0x12) 0 0 = true) ∧ RegsKept s t [KEY_TAIL.key 0 0, KEY_RSTAT.key 0 0, (BLK_EVF 0x12).key 0 0] ∧ t.pending = s.pending ∧ t.sys.fuses = s.sys.fuses)) ∧
  (∀ (s : State) (t0 n : Nat),
    s.dev.up .key = true ∧ s.dev.engHas 0x12 = true ∧ inSram (s.dev.jobAddr 0x12) 32 = true ∧ (s.dev.eng 0x12).result = some (2, n) →
    Ends (.keyJobDone t0) s (fun t =>
      t.sys.read (s.dev.jobAddr 0x12 + 30) 1 = [2] ∧ BytesKept s t (s.dev.jobAddr 0x12 + 30) 1 ∧ (t.dev.eng 0x12).result = none ∧ t.dev.fld KEY_TAIL 0 9 0 = (s.dev.fld KEY_TAIL 0 9 0 + 1) % s.dev.fld KEY_RLEN 0 9 0 ∧
      t.dev.fld KEY_RSTAT 0 15 8 = 2 ∧ t.dev.bit KEY_RSTAT 0 1 = s.dev.bit KEY_RSTAT 0 1 ∧ t.dev.bit (BLK_EVF 0x12) 0 1 = true ∧
      RegsKept s t [KEY_TAIL.key 0 0, KEY_RSTAT.key 0 0, (BLK_EVF 0x12).key 0 0] ∧ t.pending = s.pending ∧ t.sys.fuses = s.sys.fuses)) ∧
  (∀ (s : State) (t0 st n : Nat),
    s.dev.up .key = true ∧ s.dev.engHas 0x12 = true ∧ inSram (s.dev.jobAddr 0x12) 32 = true ∧ (s.dev.eng 0x12).result = some (st, n) ∧ 2 < st ∧ st < 256 →
    Ends (.keyJobDone t0) s (fun t =>
      t.sys.read (s.dev.jobAddr 0x12 + 30) 1 = [w8 st] ∧ BytesKept s t (s.dev.jobAddr 0x12 + 30) 1 ∧ (t.dev.eng 0x12).result = none ∧ t.dev.fld KEY_TAIL 0 9 0 = (s.dev.fld KEY_TAIL 0 9 0 + 1) % s.dev.fld KEY_RLEN 0 9 0 ∧
      t.dev.fld KEY_RSTAT 0 15 8 = st ∧ t.dev.bit KEY_RSTAT 0 1 = true ∧ t.dev.bit (BLK_EVF 0x12) 0 1 = true ∧ t.dev.bit (BLK_EVF 0x12) 0 2 = true ∧
      RegsKept s t [KEY_TAIL.key 0 0, KEY_RSTAT.key 0 0, (BLK_EVF 0x12).key 0 0] ∧ t.pending = s.pending ∧ t.sys.fuses = s.sys.fuses)) ∧
  (∀ (s : State) (t0 : Nat),
    s.dev.up .key = true ∧ s.dev.engHas 0x12 = true ∧ inSram (s.dev.jobAddr 0x12) 32 = false →
    Ends (.keyJobDone t0) s (fun t =>
      t.dev.fld KEY_TAIL 0 9 0 = (s.dev.fld KEY_TAIL 0 9 0 + 1) % s.dev.fld KEY_RLEN 0 9 0 ∧ t.dev.fld KEY_RSTAT 0 15 8 = 4 ∧ t.dev.bit KEY_RSTAT 0 1 = true ∧ t.dev.bit (BLK_EVF 0x12) 0 1 = true ∧ t.dev.bit (BLK_EVF 0x12) 0 2 = true ∧
      (t.dev.eng 0x12).result = none ∧ OnlyRegs s t [KEY_TAIL.key 0 0, KEY_RSTAT.key 0 0, (BLK_EVF 0x12).key 0 0])) ∧
  (∀ (s : State) (t0 : Nat),
    s.dev.up .key = false ∨ s.dev.engHas 0x12 = false ∨ (inSram (s.dev.jobAddr 0x12) 32 = true ∧ (s.dev.eng 0x12).result = none ∧ [0x60, 0x61, 0x62, 0x63].contains (s.sys.job (s.dev.jobAddr 0x12)).op = true) →
    Ends (.keyJobDone t0) s (fun t =>
      t.dev.key = s.dev.key ∧ OnlyRegs s t []))

/-- A signing request takes the next index, reserving blocks of 64; signatures, statements, measurements and versions follow. (R638, R639, R640, R641, R657, R658, R659, R660, spec/16_keys_and_attestation.md) -/
def Obligations.SignaturesTakeEachIndexOnce : Prop :=
  (∀ (s : State) (t0 : Nat) (w : SigFor) (ok : Bool),
    s.dev.signs = true ∧ s.sys.sigWanted w = true ∧ s.dev.derived 2 = true ∧ s.dev.bit KEY_SIGSTAT 0 5 = false ∧ s.dev.key.qnext ≠ s.dev.key.qlimit →
    Ends (.signRequest t0 w ok) s (fun t =>
      t.dev.key.reqs = s.dev.key.reqs ++ [{ what := w, q := s.dev.key.qnext, k2 := (s.dev.keySlot 2).key }] ∧ t.dev.key.qnext = s.dev.key.qnext + 1 ∧ t.dev.key.qlimit = s.dev.key.qlimit ∧
      OnlyRegs s t [KEY_SIGSTAT.key 0 0, KEY_SIGQ.key 0 0])) ∧
  (∀ (s : State) (t0 : Nat) (w : SigFor),
    s.dev.signs = true ∧ s.sys.sigWanted w = true ∧ s.dev.derived 2 = true ∧ s.dev.bit KEY_SIGSTAT 0 5 = false ∧ s.dev.key.qnext = s.dev.key.qlimit ∧ s.dev.key.qlimit < 2 ^ 30 →
    Ends (.signRequest t0 w true) s (fun t =>
      t.dev.key.reqs = s.dev.key.reqs ++ [{ what := w, q := s.dev.key.qnext, k2 := (s.dev.keySlot 2).key }] ∧ t.dev.key.qnext = s.dev.key.qnext + 1 ∧ t.dev.key.qlimit = s.dev.key.qlimit + 64 ∧
      t.dev.rd KEY_SIGNEXT 0 = w32 (s.dev.key.qlimit + 64) ∧ (t.dev.resRec).map (fun r => r.next) = some (s.dev.key.qlimit + 64) ∧ OnlyRegs s t [KEY_SIGSTAT.key 0 0, KEY_SIGQ.key 0 0, KEY_SIGNEXT.key 0 0])) ∧
  (∀ (s : State) (t0 : Nat) (w : SigFor) (ok : Bool),
    s.dev.signs = true ∧ s.sys.sigWanted w = true ∧ s.dev.derived 2 = true ∧ s.dev.bit KEY_SIGSTAT 0 5 = false ∧ s.dev.key.qnext = s.dev.key.qlimit ∧ 2 ^ 30 ≤ s.dev.key.qlimit →
    Ends (.signRequest t0 w ok) s (fun t =>
      t.dev.key.reqs = s.dev.key.reqs ∧ t.dev.key.qnext = s.dev.key.qnext ∧ t.dev.bit KEY_SIGSTAT 0 4 = true ∧ t.dev.bit (BLK_EVF 0x12) 0 4 = true ∧ OnlyRegs s t [KEY_SIGSTAT.key 0 0, (BLK_EVF 0x12).key 0 0])) ∧
  (∀ (s : State) (t0 k : Nat) (r : SigReq) (l : List SigReq),
    s.dev.signs = true ∧ s.dev.key.reqs = r :: l ∧ r.what = .session k →
    r.k2 ≠ (s.dev.keySlot 2).key ∨ (s.dev.key.topBuilt = true ∧ s.dev.key.built.contains (r.q / 32768) = true) →
    Ends (.signatureDone t0) s (fun t =>
      t.dev.key.reqs = l ∧ kvGet t.dev.key.done (k + 1) [] = signerSign r.k2 r.q (slice (kvGet s.dev.key.topC (r.q / 32768) []) 0 32) (s.dev.randomBytes 32).1 (sha256 (s.sys.read (sessSlot k) 256)) ∧
      t.dev.fld KEY_SIGSTAT 0 31 16 = min (s.dev.fld KEY_SIGSTAT 0 31 16 + 1) 65535 ∧ OnlyRegs s t [KEY_SIGSTAT.key 0 0, KEY_SIGQ.key 0 0])) ∧
  (∀ (s : State) (t0 : Nat),
    s.dev.signs = true ∧ s.dev.key.building.contains 0 = true ∧ s.dev.paused 0 = false →
    Ends (.treeBuilt t0 0) s (fun t =>
      t.dev.key.topBuilt = true ∧ t.dev.key.building = s.dev.key.building.filter (· ≠ 0) ∧ t.dev.bit (BLK_EVF 0x12) 0 3 = true ∧ OnlyRegs s t [KEY_SIGSTAT.key 0 0, KEY_SIGQ.key 0 0, (BLK_EVF 0x12).key 0 0])) ∧
  (∀ (s : State) (t0 k : Nat),
    s.dev.signs = true ∧ s.dev.key.building.contains (k + 1) = true ∧ s.dev.paused (k + 1) = false →
    Ends (.treeBuilt t0 (k + 1)) s (fun t =>
      t.dev.key.built = s.dev.key.built ++ [k] ∧ t.dev.key.topBuilt = s.dev.key.topBuilt ∧ t.dev.bit (BLK_EVF 0x12) 0 3 = true ∧ OnlyRegs s t [KEY_SIGSTAT.key 0 0, KEY_SIGQ.key 0 0, (BLK_EVF 0x12).key 0 0])) ∧
  (∀ (s : State) (t0 : Nat) (j : Job),
    JobReady s 0x12 j ∧ j.op = 0x62 ∧ j.inLen = 32 ∧ 5844 ≤ j.outCap ∧ kvGet s.dev.key.done 0 [] ≠ [] ∧ (kvGet s.dev.key.done 0 []).length ≤ j.outCap →
    Ends (.chromosStatement t0 true) s (fun t =>
      JobGives s t 0x12 j (kvGet s.dev.key.done 0 []) ∧ kvGet t.dev.key.done 0 [] = [])) ∧
  (∀ (s : State) (t0 : Nat) (j : Job),
    JobReady s 0x12 j ∧ j.op = 0x62 ∧ (j.inLen ≠ 32 ∨ j.outCap < 5844) →
    Ends (.chromosStatement t0 true) s (fun t =>
      JobFails s t 0x12 3)) ∧
  (∀ (s : State) (i : Initiator) (v : Word) (n : Nat),
    Passes s i ATT_EXTCTL n ∧ bitOf v 0 = true →
    Ends (.measurementExtend i v) s (fun t =>
      let k := 6 + b2n (bitOf v 8)
      t.dev.meas k = sha256 (s.dev.meas k ++ (List.range 8).flatMap (fun w => leBytes 4 (s.dev.rd (ATT_EXTDATA w) 0).toNat)) ∧
      (∀ m : Nat, m < 8 → m ≠ k → t.dev.meas m = s.dev.meas m) ∧ t.dev.bit (BLK_EVF 0x13) 0 0 = true ∧ OnlyRegs s t [(BLK_EVF 0x13).key 0 0])) ∧
  (∀ (s : State) (i : Initiator) (v : Word) (n : Nat),
    Passes s i ATT_SVNCOMMIT n ∧ bitOf v 0 = true →
    Ends (.svnCommit i v) s (fun t =>
      (t.dev.rd ATT_SVNK 0).toNat = max (s.dev.rd ATT_SVNK 0).toNat (s.dev.rd ATT_BSVNK 0).toNat ∧ (t.dev.rd ATT_SVNO 0).toNat = max (s.dev.rd ATT_SVNO 0).toNat (s.dev.rd ATT_BSVNO 0).toNat ∧
      OnlyRegs s t [ATT_SVNK.key 0 0, ATT_SVNO.key 0 0])) ∧
  (∀ (s : State) (t0 : Nat) (w : SigFor) (ok : Bool),
    s.dev.signs = true ∧ s.sys.sigWanted w = true ∧ s.dev.derived 2 = true ∧ s.dev.bit KEY_SIGSTAT 0 5 = true →
    Ends (.signRequest t0 w ok) s (fun t =>
      t.dev.key.reqs = s.dev.key.reqs ∧ t.dev.key.qnext = s.dev.key.qnext ∧ t.dev.key.qlimit = s.dev.key.qlimit ∧ (w = .statement → (t.dev.eng 0x12).result = some (0xB, 0)) ∧ (w ≠ .statement → (t.dev.eng 0x12).result = (s.dev.eng 0x12).result) ∧ OnlyRegs s t [])) ∧
  (∀ (s : State) (t0 : Nat) (w : SigFor),
    s.dev.signs = true ∧ s.sys.sigWanted w = true ∧ s.dev.derived 2 = true ∧ s.dev.bit KEY_SIGSTAT 0 5 = false ∧ s.dev.key.qnext = s.dev.key.qlimit ∧ s.dev.key.qlimit < 2 ^ 30 →
    Ends (.signRequest t0 w false) s (fun t =>
      t.dev.key.reqs = s.dev.key.reqs ∧ t.dev.key.qnext = s.dev.key.qnext ∧ t.dev.key.qlimit = s.dev.key.qlimit ∧ (w = .statement → (t.dev.eng 0x12).result = some (0xB, 0)) ∧ (w ≠ .statement → (t.dev.eng 0x12).result = (s.dev.eng 0x12).result) ∧ OnlyRegs s t [])) ∧
  (∀ (s : State) (t0 : Nat) (ok : Bool),
    s.dev.signs = true ∧ s.sys.sigWanted .statement = true ∧ s.dev.derived 2 = true ∧ s.dev.bit KEY_SIGSTAT 0 5 = false ∧ s.dev.key.qnext = s.dev.key.qlimit ∧ 2 ^ 30 ≤ s.dev.key.qlimit →
    Ends (.signRequest t0 .statement ok) s (fun t =>
      (t.dev.eng 0x12).result = some (0xA, 0))) ∧
  (∀ (s : State) (t0 : Nat) (w : SigFor) (ok : Bool),
    s.dev.signs = false ∨ s.sys.sigWanted w = false ∨ s.dev.derived 2 = false →
    Ends (.signRequest t0 w ok) s (fun t =>
      t.dev.key = s.dev.key ∧ OnlyRegs s t [])) ∧
  (∀ (s : State) (t0 : Nat) (r : SigReq) (l : List SigReq),
    s.dev.signs = true ∧ s.dev.key.reqs = r :: l ∧ r.what = .statement →
    r.k2 ≠ (s.dev.keySlot 2).key ∨ (s.dev.key.topBuilt = true ∧ s.dev.key.built.contains (r.q / 32768) = true) →
    Ends (.signatureDone t0) s (fun t =>
      let j := s.sys.job (s.dev.jobAddr 0x12)
      let body := (s.sys.onDev (·.at t0)).statementBody (slice (s.sys.read j.input j.inLen) 0 32) r.q r.k2
      t.dev.key.reqs = l ∧ kvGet t.dev.key.done 0 [] = body ++ signerSign r.k2 r.q (slice (kvGet s.dev.key.topC (r.q / 32768) []) 0 32) (s.dev.randomBytes 32).1 (sha256 body) ∧
      t.dev.fld KEY_SIGSTAT 0 31 16 = min (s.dev.fld KEY_SIGSTAT 0 31 16 + 1) 65535 ∧ OnlyRegs s t [KEY_SIGSTAT.key 0 0, KEY_SIGQ.key 0 0])) ∧
  (∀ (s : State) (t0 : Nat),
    s.dev.signs = false ∨ (s.dev.key.reqs.head?.map (fun r => decide (r.k2 = (s.dev.keySlot 2).key) && !(s.dev.key.topBuilt && s.dev.key.built.contains (r.q / 32768)))).getD true = true →
    Ends (.signatureDone t0) s (fun t =>
      t.dev.key = s.dev.key ∧ OnlyRegs s t [])) ∧
  (∀ (s : State) (t0 k : Nat),
    s.dev.signs = false ∨ s.dev.key.building.contains k = false ∨ s.dev.paused k = true →
    Ends (.treeBuilt t0 k) s (fun t =>
      t.dev.key = s.dev.key ∧ OnlyRegs s t [])) ∧
  (∀ (s : State) (t0 : Nat) (j : Job) (ok : Bool),
    JobReady s 0x12 j ∧ j.op = 0x62 ∧ j.inLen = 32 ∧ 5844 ≤ j.outCap ∧ kvGet s.dev.key.done 0 [] = [] →
    Ends (.chromosStatement t0 ok) s (fun t =>
      t.dev.key = s.dev.key ∧ OnlyRegs s t [])) ∧
  (∀ (s : State) (t0 : Nat) (j : Job),
    JobReady s 0x12 j ∧ j.op = 0x62 ∧ j.inLen = 32 ∧ 5844 ≤ j.outCap ∧ j.outCap < (kvGet s.dev.key.done 0 []).length →
    Ends (.chromosStatement t0 true) s (fun t =>
      JobFails s t 0x12 3)) ∧
  (∀ (s : State) (t0 : Nat) (j : Job),
    JobReady s 0x12 j ∧ j.op = 0x62 ∧ (kvGet s.dev.key.done 0 [] ≠ [] ∨ j.inLen ≠ 32 ∨ j.outCap < 5844) →
    Ends (.chromosStatement t0 false) s (fun t =>
      JobFails s t 0x12 7)) ∧
  (∀ (s : State) (t0 : Nat) (ok : Bool),
    s.dev.up .key = true ∧ s.dev.engHas 0x12 = true ∧ (s.dev.eng 0x12).result = none ∧ inSram (s.dev.jobAddr 0x12) 32 = true ∧ (s.sys.job (s.dev.jobAddr 0x12)).op = 0x62 ∧ (s.sys.job (s.dev.jobAddr 0x12)).bufsOk = false →
    Ends (.chromosStatement t0 ok) s (fun t =>
      JobFails s t 0x12 4)) ∧
  (∀ (s : State) (t0 : Nat) (ok : Bool),
    s.dev.up .key = false ∨ s.dev.engHas 0x12 = false ∨ (s.dev.eng 0x12).result.isSome = true ∨ inSram (s.dev.jobAddr 0x12) 32 = false ∨ (s.sys.job (s.dev.jobAddr 0x12)).op ≠ 0x62 →
    Ends (.chromosStatement t0 ok) s (fun t =>
      t.dev.key = s.dev.key ∧ OnlyRegs s t [])) ∧
  (∀ (s : State) (i : Initiator) (v : Word) (n : Nat),
    Passes s i ATT_EXTCTL n ∧ bitOf v 0 = false →
    Ends (.measurementExtend i v) s (fun t =>
      t.dev.key = s.dev.key ∧ OnlyRegs s t [])) ∧
  (∀ (s : State) (i : Initiator) (v : Word) (n : Nat),
    Passes s i ATT_SVNCOMMIT n ∧ bitOf v 0 = false →
    Ends (.svnCommit i v) s (fun t =>
      t.dev.key = s.dev.key ∧ OnlyRegs s t []))

/-- Life-cycle requests pass their checks and get a nonce, the confirmation executes them or ends them with their code. (R626, R627, R647, R648, R651, R652, R653, spec/16_keys_and_attestation.md) -/
def Obligations.LifeCycleRequestsAreCheckedAndConfirmed : Prop :=
  (∀ (s : State) (i : Initiator) (g n : Nat),
    Passes s i LCM_REQ n ∧ 1 ≤ g ∧ g ≤ 5 ∧ s.sys.lcCheck i g = 0 →
    Ends (.lcRequestState i g) s (fun t =>
      t.dev.rd LCM_RSTAT 0 = 1 ∧ t.dev.key.lcReq = some { target := g, init := i, nonce := (t.dev.rd LCM_NONCE 0).toNat, since := s.dev.time } ∧ OnlyRegs s t [LCM_RSTAT.key 0 0, LCM_NONCE.key 0 0])) ∧
  (∀ (s : State) (i : Initiator) (g n : Nat),
    Passes s i LCM_REQ n ∧ 1 ≤ g ∧ g ≤ 5 ∧ s.sys.lcCheck i g ≠ 0 →
    Ends (.lcRequestState i g) s (fun t =>
      t.dev.rd LCM_RSTAT 0 = w32 (s.sys.lcCheck i g) ∧ t.dev.key.lcReq = none ∧ t.dev.bit (BLK_EVF 0x10) 0 0 = true ∧ OnlyRegs s t [LCM_RSTAT.key 0 0, LCM_NONCE.key 0 0, (BLK_EVF 0x10).key 0 0])) ∧
  (∀ (s : State) (i : Initiator) (n : Nat),
    Passes s i LCM_REQ n ∧ s.sys.lcCheck i 6 = 0 →
    Ends (.lcRequestBlowRoot i) s (fun t =>
      t.dev.rd LCM_RSTAT 0 = 1 ∧ t.dev.key.lcReq = some { target := 6, init := i, nonce := (t.dev.rd LCM_NONCE 0).toNat, since := s.dev.time } ∧ OnlyRegs s t [LCM_RSTAT.key 0 0, LCM_NONCE.key 0 0])) ∧
  (∀ (s : State) (i : Initiator) (n : Nat),
    Passes s i LCM_REQ n ∧ s.sys.lcCheck i 7 = 0 →
    Ends (.lcRequestDebugUnlock i) s (fun t =>
      t.dev.rd LCM_RSTAT 0 = 1 ∧ t.dev.key.lcReq = some { target := 7, init := i, nonce := (t.dev.rd LCM_NONCE 0).toNat, since := s.dev.time } ∧ OnlyRegs s t [LCM_RSTAT.key 0 0, LCM_NONCE.key 0 0])) ∧
  (∀ (s : State) (t0 n b : Nat) (i : Initiator) (v : Word) (o : BootObs) (r : LcReq),
    Passes s i LCM_CONFIRM n ∧ s.dev.key.lcReq = some r →
    v.toNat ≠ r.nonce ∨ i ≠ r.init ∨ r.since + 1000000000 < max s.dev.time t0 →
    Ends (.lcConfirm t0 i v b o) s (fun t =>
      t.dev.rd LCM_RSTAT 0 = 5 ∧ t.dev.key.lcReq = none ∧ t.dev.bit (BLK_EVF 0x10) 0 0 = true ∧ OnlyRegs s t [LCM_RSTAT.key 0 0, LCM_NONCE.key 0 0, (BLK_EVF 0x10).key 0 0])) ∧
  (∀ (s : State) (t0 n b : Nat) (i : Initiator) (v : Word) (o : BootObs) (r : LcReq),
    Passes s i LCM_CONFIRM n ∧ s.dev.key.lcReq = some r ∧ v.toNat = r.nonce ∧ i = r.init ∧ max s.dev.time t0 ≤ r.since + 1000000000 ∧ r.target = 7 ∧ s.sys.lcCheck i 7 = 0 →
    Ends (.lcConfirm t0 i v b o) s (fun t =>
      let ok := s.sys.authorised [0x44, 0x42, 0x47, 0x31] r.nonce true
      t.dev.rd LCM_RSTAT 0 = (if ok then 2 else 4) ∧ t.dev.key.unlock = (ok || s.dev.key.unlock) ∧ t.dev.key.lcReq = none ∧
      OnlyRegs s t [LCM_RSTAT.key 0 0, LCM_NONCE.key 0 0, LCM_DBGCTL.key 0 0, (BLK_EVF 0x10).key 0 0])) ∧
  (∀ (s : State) (t0 n b : Nat) (i : Initiator) (v : Word) (o : BootObs) (r : LcReq),
    Passes s i LCM_CONFIRM n ∧ s.dev.key.lcReq = some r ∧ v.toNat = r.nonce ∧ i = r.init ∧ max s.dev.time t0 ≤ r.since + 1000000000 ∧ r.target = 6 ∧ s.sys.lcCheck i 6 = 0 →
    Ends (.lcConfirm t0 i v b o) s (fun t =>
      let w := s.dev.freshRoot.1
      t.sys.fuses = s.sys.fuses ||| (w &&& b) ∧ t.dev.rd LCM_RSTAT 0 = (if w &&& b = w then 2 else 7) ∧ t.dev.key.lcReq = none ∧
      t.pending = s.pending ∧ BytesKept s t 0 0 ∧ RegsKept s t [LCM_RSTAT.key 0 0, LCM_NONCE.key 0 0, (BLK_EVF 0x10).key 0 0])) ∧
  (∀ (s : State) (t0 n b g : Nat) (i : Initiator) (v : Word) (o : BootObs) (r : LcReq),
    Passes s i LCM_CONFIRM n ∧ s.dev.key.lcReq = some r ∧ v.toNat = r.nonce ∧ i = r.init ∧ max s.dev.time t0 ≤ r.since + 1000000000 →
    r.target = g ∧ (g = 1 ∨ g = 2 ∨ g = 3 ∨ g = 5) ∧ s.sys.lcCheck i g = 0 →
    b = 0 ∧ lcMask (if g = 5 then 0 else s.dev.fld LCM_STATE 0 2 0) g &&& s.sys.fuses = 0 →
    Ends (.lcConfirm t0 i v b o) s (fun t =>
      t.dev.rd LCM_RSTAT 0 = 7 ∧ t.sys.fuses = s.sys.fuses ∧ t.dev.fld LCM_STATE 0 2 0 = s.dev.fld LCM_STATE 0 2 0 ∧ t.pending = s.pending ∧ BytesKept s t 0 0)) ∧
  (∀ (s : State) (t0 n b g : Nat) (i : Initiator) (v : Word) (o : BootObs) (r : LcReq),
    Passes s i LCM_CONFIRM n ∧ s.dev.key.lcReq = some r ∧ v.toNat = r.nonce ∧ i = r.init ∧ max s.dev.time t0 ≤ r.since + 1000000000 →
    r.target = g ∧ (g = 1 ∨ g = 2 ∨ g = 3 ∨ g = 5) ∧ s.sys.lcCheck i g = 0 ∧ b = lcMask 0 5 ∧ lcTorn s.sys.fuses = 0 →
    Ends (.lcConfirm t0 i v b o) s (fun t =>
      t.sys.fuses = s.sys.fuses ||| lcMask (if g = 5 then 0 else s.dev.fld LCM_STATE 0 2 0) g ∧ t.dev.bit RST_CAUSE 0 6 = true ∧ t.pending = s.pending)) ∧
  (∀ (s : State) (i : Initiator) (v : Word) (n : Nat),
    Passes s i LCM_DBGCTL n ∧ bitOf v 0 = true →
    Ends (.debugRelock i v) s (fun t =>
      t.dev.key.unlock = false ∧ t.dev.bit LCM_DBGCTL 0 8 = false ∧ OnlyRegs s t [LCM_DBGCTL.key 0 0])) ∧
  (∀ (s : State) (i : Initiator) (v : Word) (n b : Nat),
    Passes s i LCM_OWNERSET n ∧ bitOf v 0 = true ∧ s.dev.fld LCM_STATE 0 2 0 = 2 ∧ s.sys.fuses / 2 ^ 448 % 2 ^ 256 = 0 ∧ s.dev.ownerDigest ≠ 0 →
    Ends (.ownerSet i v b) s (fun t =>
      let w := s.dev.ownerDigest <<< 448 ||| (s.dev.free 652).1.toNat <<< 704
      t.sys.fuses = s.sys.fuses ||| (w &&& b) ∧ t.dev.bit LCM_STATE 0 16 = (decide (w &&& b = w) || s.dev.bit LCM_STATE 0 16) ∧
      t.pending = s.pending ∧ BytesKept s t 0 0 ∧ RegsKept s t [LCM_STATE.key 0 0])) ∧
  (∀ (s : State) (i : Initiator) (g n : Nat),
    Passes s i LCM_REQ n ∧ (g = 0 ∨ 5 < g) →
    Ends (.lcRequestState i g) s (fun t =>
      t.dev.key = s.dev.key ∧ OnlyRegs s t [])) ∧
  (∀ (s : State) (i : Initiator) (n : Nat),
    Passes s i LCM_REQ n ∧ s.sys.lcCheck i 6 ≠ 0 →
    Ends (.lcRequestBlowRoot i) s (fun t =>
      t.dev.rd LCM_RSTAT 0 = w32 (s.sys.lcCheck i 6) ∧ t.dev.rd LCM_NONCE 0 = 0 ∧ t.dev.key.lcReq = none ∧ t.dev.bit (BLK_EVF 0x10) 0 0 = true ∧ OnlyRegs s t [LCM_RSTAT.key 0 0, LCM_NONCE.key 0 0, (BLK_EVF 0x10).key 0 0])) ∧
  (∀ (s : State) (i : Initiator) (n : Nat),
    Passes s i LCM_REQ n ∧ s.sys.lcCheck i 7 ≠ 0 →
    Ends (.lcRequestDebugUnlock i) s (fun t =>
      t.dev.rd LCM_RSTAT 0 = w32 (s.sys.lcCheck i 7) ∧ t.dev.rd LCM_NONCE 0 = 0 ∧ t.dev.key.lcReq = none ∧ t.dev.bit (BLK_EVF 0x10) 0 0 = true ∧ OnlyRegs s t [LCM_RSTAT.key 0 0, LCM_NONCE.key 0 0, (BLK_EVF 0x10).key 0 0])) ∧
  (∀ (s : State) (t0 n b : Nat) (i : Initiator) (v : Word) (o : BootObs),
    Passes s i LCM_CONFIRM n ∧ s.dev.key.lcReq = none →
    Ends (.lcConfirm t0 i v b o) s (fun t =>
      t.dev.key = s.dev.key ∧ OnlyRegs s t [])) ∧
  (∀ (s : State) (t0 n b : Nat) (i : Initiator) (v : Word) (o : BootObs) (r : LcReq),
    Passes s i LCM_CONFIRM n ∧ s.dev.key.lcReq = some r ∧ v.toNat = r.nonce ∧ i = r.init ∧ max s.dev.time t0 ≤ r.since + 1000000000 ∧ s.sys.lcCheck i r.target ≠ 0 →
    Ends (.lcConfirm t0 i v b o) s (fun t =>
      t.dev.rd LCM_RSTAT 0 = w32 (s.sys.lcCheck i r.target) ∧ t.dev.rd LCM_NONCE 0 = 0 ∧ t.dev.key.lcReq = none ∧ t.dev.bit (BLK_EVF 0x10) 0 0 = true ∧ OnlyRegs s t [LCM_RSTAT.key 0 0, LCM_NONCE.key 0 0, (BLK_EVF 0x10).key 0 0])) ∧
  (∀ (s : State) (t0 n b : Nat) (i : Initiator) (v : Word) (o : BootObs) (r : LcReq),
    Passes s i LCM_CONFIRM n ∧ s.dev.key.lcReq = some r ∧ v.toNat = r.nonce ∧ i = r.init ∧ max s.dev.time t0 ≤ r.since + 1000000000 ∧ r.target = 4 ∧ s.sys.lcCheck i 4 = 0 ∧ s.sys.authorised [0x52, 0x54, 0x4E, 0x31] r.nonce false = false →
    Ends (.lcConfirm t0 i v b o) s (fun t =>
      t.dev.rd LCM_RSTAT 0 = 4 ∧ t.dev.rd LCM_NONCE 0 = 0 ∧ t.dev.key.lcReq = none ∧ t.dev.bit (BLK_EVF 0x10) 0 0 = true ∧ OnlyRegs s t [LCM_RSTAT.key 0 0, LCM_NONCE.key 0 0, (BLK_EVF 0x10).key 0 0])) ∧
  (∀ (s : State) (t0 n b : Nat) (i : Initiator) (v : Word) (o : BootObs) (r : LcReq),
    Passes s i LCM_CONFIRM n ∧ s.dev.key.lcReq = some r ∧ v.toNat = r.nonce ∧ i = r.init ∧ max s.dev.time t0 ≤ r.since + 1000000000 →
    (r.target = 1 ∨ r.target = 2 ∨ r.target = 3 ∨ r.target = 5 ∨ (r.target = 4 ∧ s.sys.authorised [0x52, 0x54, 0x4E, 0x31] r.nonce false = true)) ∧ s.sys.lcCheck i r.target = 0 →
    ((lcMask (if r.target = 5 then 0 else s.dev.fld LCM_STATE 0 2 0) r.target) &&& ((lcMask (if r.target = 5 then 0 else s.dev.fld LCM_STATE 0 2 0) r.target) ^^^ (s.sys.fuses &&& (lcMask (if r.target = 5 then 0 else s.dev.fld LCM_STATE 0 2 0) r.target)))) &&& b ≠ ((lcMask (if r.target = 5 then 0 else s.dev.fld LCM_STATE 0 2 0) r.target) &&& ((lcMask (if r.target = 5 then 0 else s.dev.fld LCM_STATE 0 2 0) r.target) ^^^ (s.sys.fuses &&& (lcMask (if r.target = 5 then 0 else s.dev.fld LCM_STATE 0 2 0) r.target)))) →
    Ends (.lcConfirm t0 i v b o) s (fun t =>
      t.dev.rd LCM_RSTAT 0 = 7 ∧ t.sys.fuses = s.sys.fuses ||| (((lcMask (if r.target = 5 then 0 else s.dev.fld LCM_STATE 0 2 0) r.target) &&& ((lcMask (if r.target = 5 then 0 else s.dev.fld LCM_STATE 0 2 0) r.target) ^^^ (s.sys.fuses &&& (lcMask (if r.target = 5 then 0 else s.dev.fld LCM_STATE 0 2 0) r.target)))) &&& b) ∧ t.dev.key.lcReq = none ∧ t.dev.txn.opens = [] ∧
      t.dev.fld LCM_STATE 0 2 0 = s.dev.fld LCM_STATE 0 2 0 ∧ t.pending = s.pending ∧ BytesKept s t 0 0)) ∧
  (∀ (s : State) (t0 n b : Nat) (i : Initiator) (v : Word) (o : BootObs) (r : LcReq),
    Passes s i LCM_CONFIRM n ∧ s.dev.key.lcReq = some r ∧ v.toNat = r.nonce ∧ i = r.init ∧ max s.dev.time t0 ≤ r.since + 1000000000 →
    (r.target = 1 ∨ r.target = 2 ∨ r.target = 3 ∨ r.target = 5 ∨ (r.target = 4 ∧ s.sys.authorised [0x52, 0x54, 0x4E, 0x31] r.nonce false = true)) ∧ s.sys.lcCheck i r.target = 0 ∧ lcTorn s.sys.fuses = 0 →
    ((lcMask (if r.target = 5 then 0 else s.dev.fld LCM_STATE 0 2 0) r.target) &&& ((lcMask (if r.target = 5 then 0 else s.dev.fld LCM_STATE 0 2 0) r.target) ^^^ (s.sys.fuses &&& (lcMask (if r.target = 5 then 0 else s.dev.fld LCM_STATE 0 2 0) r.target)))) &&& b = ((lcMask (if r.target = 5 then 0 else s.dev.fld LCM_STATE 0 2 0) r.target) &&& ((lcMask (if r.target = 5 then 0 else s.dev.fld LCM_STATE 0 2 0) r.target) ^^^ (s.sys.fuses &&& (lcMask (if r.target = 5 then 0 else s.dev.fld LCM_STATE 0 2 0) r.target)))) →
    Ends (.lcConfirm t0 i v b o) s (fun t =>
      t.sys.fuses = s.sys.fuses ||| (lcMask (if r.target = 5 then 0 else s.dev.fld LCM_STATE 0 2 0) r.target) ∧ t.dev.bit RST_CAUSE 0 6 = true ∧ t.pending = s.pending)) ∧
  (∀ (s : State) (i : Initiator) (v : Word) (n : Nat),
    Passes s i LCM_DBGCTL n ∧ bitOf v 0 = false →
    Ends (.debugRelock i v) s (fun t =>
      t.dev.key = s.dev.key ∧ OnlyRegs s t [])) ∧
  (∀ (s : State) (i : Initiator) (v : Word) (n b : Nat),
    Passes s i LCM_OWNERSET n →
    bitOf v 0 = false ∨ s.dev.fld LCM_STATE 0 2 0 ≠ 2 ∨ s.sys.fuses / 2 ^ 448 % 2 ^ 256 ≠ 0 ∨ s.dev.ownerDigest = 0 →
    Ends (.ownerSet i v b) s (fun t =>
      t.dev.key = s.dev.key ∧ OnlyRegs s t []))

/-- Each reset sets its RST_CAUSE bit, re-initialises the islands, wipes the volatile memories and keeps the fuses. (R671, R675, R676, R677, R678, R679, R686, R687, R699, R754, spec/17_power_reset_bist.md) -/
def Obligations.ResetsReinitialiseAndRecordTheirCause : Prop :=
  (∀ (s : State) (t0 : Nat) (o : BootObs),
    o.vsys < 270 →
    Ends (.powerOnReset t0 o) s (fun t =>
      t.dev.pwr.phase = .waitVsys ∧ t.dev.rd RST_CAUSE 0 = 1 ∧ t.dev.time = t0 ∧ t.dev.fld MON_VSTAT 0 15 0 = o.vsys % 65536 ∧
      (∀ m : Nat, 0x08000000 ≤ m → m < 0x09000000 → memByte t.sys.mem m = 0) ∧ (∀ m : Nat, 0x20000000 ≤ m → m < 2 ^ 32 → memByte t.sys.mem m = memByte s.sys.mem m) ∧
      PagesReset t 0x28 0x3F ∧ t.sys.fuses = s.sys.fuses ∧ t.pending = s.pending)) ∧
  (∀ (s : State) (t0 : Nat) (o : BootObs),
    Ends (.powerOnReset t0 o) s (fun t =>
      t.dev.bit RST_CAUSE 0 0 = true ∧ t.dev.time = t0 ∧ t.pending = s.pending ∧ FusesKept s t)) ∧
  (∀ (s : State) (t0 : Nat) (o : BootObs),
    Ends (.brownOutReset t0 o) s (fun t =>
      t.dev.bit RST_CAUSE 0 1 = true ∧ t.dev.time = max s.dev.time t0 ∧ t.pending = s.pending ∧ FusesKept s t)) ∧
  (∀ (s : State) (t0 n : Nat),
    160 ≤ n ∧ s.dev.pwr.phase ≠ .off →
    Ends (.pinReset t0 n) s (fun t =>
      t.dev.pwr.phase = .waitPin ∧ t.dev.bit RST_CAUSE 0 2 = true ∧ t.dev.pwr.resetN = false ∧ t.dev.pwr.resetLowSince = some (t0 - n * 125 / 2) ∧ t.dev.time = max s.dev.time t0 ∧
      (∀ m : Nat, 0x08000000 ≤ m → m < 0x09000000 → memByte t.sys.mem m = 0) ∧ (∀ m : Nat, 0x20000000 ≤ m → m < 2 ^ 32 → memByte t.sys.mem m = memByte s.sys.mem m) ∧
      PagesReset t 0x28 0x3F ∧ t.sys.fuses = s.sys.fuses ∧ t.pending = s.pending)) ∧
  (∀ (s : State) (t0 n : Nat),
    n < 160 ∨ s.dev.pwr.phase = .off →
    Ends (.pinReset t0 n) s (fun t =>
      t.dev.pwr = s.dev.pwr ∧ OnlyRegs s t [])) ∧
  (∀ (s : State) (i : Initiator) (n : Nat) (o : BootObs),
    Passes s i RST_SWRST n →
    Ends (.softwareReset i 0x5A01 o) s (fun t =>
      t.dev.bit RST_CAUSE 0 4 = true ∧ t.dev.time = s.dev.time ∧ t.pending = s.pending ∧ FusesKept s t)) ∧
  (∀ (s : State) (i : Initiator) (v : Word) (n : Nat) (o : BootObs),
    Passes s i RST_SWRST n ∧ v ≠ 0x5A01 →
    Ends (.softwareReset i v o) s (fun t =>
      t.dev.pwr = s.dev.pwr ∧ t.dev.bit (BLK_ERR 0x03) 0 31 = true ∧ OnlyRegs s t [(BLK_ERR 0x03).key 0 0])) ∧
  (∀ (s : State) (t0 : Nat) (o : BootObs),
    s.dev.pwr.phase = .running ∧ s.dev.fld RST_DWDCFG 0 15 0 ≠ 0 ∧ s.dev.pwr.dwdSince + s.dev.fld RST_DWDCFG 0 15 0 * 1000000 ≤ t0 →
    Ends (.deviceWatchdogExpiry t0 o) s (fun t =>
      t.dev.bit RST_CAUSE 0 3 = true ∧ t.dev.time = max s.dev.time t0 ∧ t.pending = s.pending ∧ FusesKept s t)) ∧
  (∀ (s : State) (t0 : Nat) (o : BootObs),
    s.dev.pwr.phase ≠ .running ∨ s.dev.fld RST_DWDCFG 0 15 0 = 0 ∨ t0 < s.dev.pwr.dwdSince + s.dev.fld RST_DWDCFG 0 15 0 * 1000000 →
    Ends (.deviceWatchdogExpiry t0 o) s (fun t =>
      t.dev.pwr = s.dev.pwr ∧ OnlyRegs s t [])) ∧
  (∀ (s : State) (t0 : Nat) (o : BootObs),
    s.dev.pwr.phase = .waitPin ∧ s.dev.pwr.stuckRec = none →
    Ends (.resetNRise t0 o) s (fun t =>
      t.dev.rd RST_PINLOW 0 = w32 (min ((t0 - s.dev.pwr.resetLowSince.getD t0) / 10000000) 0xFFFFFFFF) ∧ t.dev.pwr.phase ≠ .waitPin ∧ t.pending = s.pending ∧ FusesKept s t)) ∧
  (∀ (s : State) (t0 : Nat) (o : BootObs),
    s.dev.pwr.phase ≠ .waitPin →
    Ends (.resetNRise t0 o) s (fun t =>
      t.dev.pwr.resetN = true ∧ t.dev.pwr.resetLowSince = none ∧ t.dev.pwr.phase = s.dev.pwr.phase ∧ OnlyRegs s t [])) ∧
  (∀ (s : State) (t0 a : Nat),
    s.dev.pwr.resetLowSince = some a ∧ a + 5001000000 ≤ t0 →
    (∀ r ∈ s.dev.pwr.stuckRec, r.1 ≠ a ∨ r.2.2 + 60000 ≤ (t0 - a) / 1000000) →
    Ends (.stuckResetRecord t0) s (fun t =>
      t.dev.pwr.stuckRec = some (a, 0, (t0 - a) / 1000000) ∧ t.dev.bit (BLK_EVF 0x03) 0 1 = true ∧ OnlyRegs s t [(BLK_EVF 0x03).key 0 0])) ∧
  (∀ (s : State) (t0 : Nat) (o : BootObs),
    s.dev.pwr.phase = .heldBist ∧ s.dev.pwr.bistRetried = false →
    Ends (.bistRetry t0 o) s (fun t =>
      t.dev.pwr.bistRetried = true ∧ (o.vsys < 270 → t.dev.pwr.phase = .waitVsys) ∧ (270 ≤ o.vsys → s.dev.fld MON_VSYSCFG 0 5 0 ≤ 6 → o.resetN = true → o.stops 3 = true → t.dev.pwr.phase = .heldBist ∧ t.dev.bit RST_CAUSE 0 10 = true) ∧
      t.pending = s.pending ∧ FusesKept s t)) ∧
  (∀ (s : State) (t0 : Nat) (o : BootObs),
    o.vsys < 270 →
    Ends (.brownOutReset t0 o) s (fun t =>
      t.dev.pwr.phase = .waitVsys ∧ (∀ m : Nat, 0x08000000 ≤ m → m < 0x09000000 → memByte t.sys.mem m = 0) ∧ (∀ m : Nat, 0x20000000 ≤ m → m < 2 ^ 32 → memByte t.sys.mem m = memByte s.sys.mem m) ∧
      PagesReset t 0x28 0x3F ∧ t.sys.fuses = s.sys.fuses ∧ t.pending = s.pending)) ∧
  (∀ (s : State) (i : Initiator) (n : Nat) (o : BootObs),
    Passes s i RST_SWRST n ∧ o.vsys < 270 →
    Ends (.softwareReset i 0x5A01 o) s (fun t =>
      t.dev.pwr.phase = .waitVsys ∧ (∀ m : Nat, 0x08000000 ≤ m → m < 0x09000000 → memByte t.sys.mem m = 0) ∧ (∀ m : Nat, 0x20000000 ≤ m → m < 2 ^ 32 → memByte t.sys.mem m = memByte s.sys.mem m) ∧
      PagesReset t 0x28 0x3F ∧ t.sys.fuses = s.sys.fuses ∧ t.pending = s.pending)) ∧
  (∀ (s : State) (t0 : Nat) (o : BootObs),
    s.dev.pwr.phase = .running ∧ s.dev.fld RST_DWDCFG 0 15 0 ≠ 0 ∧ s.dev.pwr.dwdSince + s.dev.fld RST_DWDCFG 0 15 0 * 1000000 ≤ t0 ∧ o.vsys < 270 →
    Ends (.deviceWatchdogExpiry t0 o) s (fun t =>
      t.dev.pwr.phase = .waitVsys ∧ (∀ m : Nat, 0x08000000 ≤ m → m < 0x09000000 → memByte t.sys.mem m = 0) ∧ (∀ m : Nat, 0x20000000 ≤ m → m < 2 ^ 32 → memByte t.sys.mem m = memByte s.sys.mem m) ∧
      PagesReset t 0x28 0x3F ∧ t.sys.fuses = s.sys.fuses ∧ t.pending = s.pending)) ∧
  (∀ (s : State) (t0 : Nat) (o : BootObs) (r : Nat × Nat × Nat),
    s.dev.pwr.phase = .waitPin ∧ s.dev.pwr.stuckRec = some r →
    Ends (.resetNRise t0 o) s (fun t =>
      let a := s.dev.pwr.resetLowSince.getD t0
      let ms := (t0 - a) / 1000000
      t.dev.pwr.phase ≠ .waitPin ∧ (o.vsys < 270 → t.dev.pwr.phase = .waitVsys) ∧
      (t.dev.pwr.phase ≠ .running → t.dev.pwr.stuckRec = some (a, t0, ms)) ∧
      (t.dev.pwr.phase = .running → t.dev.pwr.stuckRec = none ∧ t.dev.bit RST_CAUSE 0 2 = true ∧ t.dev.bit RST_CAUSE 0 7 = true ∧ t.dev.rd RST_PINLOW 0 = w32 (min (ms / 10) 0xFFFFFFFF)) ∧
      t.pending = s.pending ∧ FusesKept s t)) ∧
  (∀ (s : State) (t0 : Nat),
    s.dev.pwr.resetLowSince.any (fun a => decide (a + 5001000000 ≤ t0) && !s.dev.pwr.stuckRec.any (fun r => decide (r.1 = a ∧ (t0 - a) / 1000000 < r.2.2 + 60000))) = false →
    Ends (.stuckResetRecord t0) s (fun t =>
      t.dev.pwr = s.dev.pwr ∧ OnlyRegs s t [])) ∧
  (∀ (s : State) (t0 : Nat) (o : BootObs),
    s.dev.pwr.phase ≠ .heldBist ∨ s.dev.pwr.bistRetried = true →
    Ends (.bistRetry t0 o) s (fun t =>
      t.dev.pwr = s.dev.pwr ∧ OnlyRegs s t [])) ∧
  (∀ (s : State) (t0 : Nat) (o : BootObs),
    o.vsys < 270 →
    Ends (.powerOnReset t0 o) s (fun t =>
      t.dev.pin .pgood = .low ∧ t.dev.pin .faultN = .low ∧ (∀ b < 8, t.dev.bankOff b = o.vioLow.testBit b) ∧
      (∀ n < 16, t.dev.pin (.vlk n) = .highZ) ∧ (∀ m < 4, t.dev.pin (.plmTx m) = .highZ ∧ t.dev.pin (.plmTxen m) = (if s.dev.pwr.vauxLow then .highZ else .low)))) ∧
  (∀ (s : State) (t0 n : Nat),
    160 ≤ n ∧ s.dev.pwr.phase ≠ .off →
    Ends (.pinReset t0 n) s (fun t =>
      t.dev.pin .pgood = (if s.dev.pwr.buck then .highZ else .low) ∧ t.dev.pin .faultN = .low ∧
      (∀ n < 16, t.dev.pin (.vlk n) = .highZ) ∧ (∀ m < 4, t.dev.pin (.plmTx m) = .highZ ∧ t.dev.pin (.plmTxen m) = (if s.dev.pwr.vauxLow then .highZ else .low)))) ∧
  (∀ (s : State) (n : Nat),
    s.dev.bankOff 6 = true ∨ s.dev.pwr.phase ≠ .running ∨ s.dev.vlkOn n = false →
    s.dev.pin (.vlk n) = .highZ) ∧
  (∀ (s : State) (m : Nat),
    s.dev.pwr.vauxLow = false ∧ (s.dev.pwr.phase ≠ .running ∨ s.dev.plmOn m = false) →
    s.dev.pin (.plmTx m) = .highZ ∧ s.dev.pin (.plmTxen m) = .low) ∧
  (∀ (s : State) (b : Nat) (p : Pin),
    p.domain = .vio b ∧ s.dev.bankOff b = true →
    s.dev.pin p = .highZ)

/-- Watchdog kicks, failures, requests and power warnings restart or shed islands, and a restart ends with the island running or held off. (R38, R672, R673, R679, R681, R682, spec/17_power_reset_bist.md) -/
def Obligations.IslandsRestartWithTheirWindows : Prop :=
  (∀ (s : State) (i : Initiator) (v : Word) (n : Nat),
    Passes s i RST_DWDKICK n ∧ bitOf v 0 = true →
    Ends (.deviceWatchdogKick i v) s (fun t =>
      ((s.dev.fld RST_DWDCFG 0 23 16).testBit i.id = true → t.dev.pwr.dwdSince = s.dev.time ∧ OnlyRegs s t []) ∧
      ((s.dev.fld RST_DWDCFG 0 23 16).testBit i.id = false → t.dev.pwr = s.dev.pwr ∧ t.dev.bit (BLK_ERR 0x03) 0 31 = true ∧ OnlyRegs s t [(BLK_ERR 0x03).key 0 0]))) ∧
  (∀ (s : State) (i : Initiator) (v : Word) (n : Nat),
    Passes s i RST_CWDKICK n ∧ bitOf v 0 = true →
    Ends (.computeWatchdogKick i v) s (fun t =>
      (i.isCore = true → t.dev.pwr.cwdSince = s.dev.time ∧ OnlyRegs s t []) ∧
      (i.isCore = false → t.dev.pwr = s.dev.pwr ∧ t.dev.bit (BLK_ERR 0x03) 0 31 = true ∧ OnlyRegs s t [(BLK_ERR 0x03).key 0 0]))) ∧
  (∀ (s : State) (t0 : Nat),
    s.dev.up .compute = true ∧ s.dev.fld RST_CWDCFG 0 15 0 ≠ 0 ∧ s.dev.pwr.cwdSince + s.dev.fld RST_CWDCFG 0 15 0 * 1000000 ≤ t0 ∧ WindowOpen s t0 .compute = false →
    Ends (.computeWatchdogExpiry t0) s (fun t =>
      t.dev.islStat .compute = 1 ∧ t.dev.fld RST_LASTISL 0 11 0 = 0x104 ∧ (t.dev.islRec .compute).faultAt = some (max s.dev.time t0) ∧ t.dev.bit (BLK_EVF 0x03) 0 0 = true ∧
      (∀ m : Nat, 0x08000000 ≤ m → m < 0x09000000 → memByte t.sys.mem m = 0) ∧ (∀ m : Nat, 0x09000000 ≤ m → memByte t.sys.mem m = memByte s.sys.mem m) ∧
      (∀ y ∈ [Island.safety, .metrology, .key, .control, .acquisition, .link, .pstage, .iface], t.dev.islStat y = s.dev.islStat y) ∧ ConfigHeld s t 0x20 0x5F ∧ t.sys.fuses = s.sys.fuses ∧ t.pending = s.pending)) ∧
  (∀ (s : State) (i : Initiator) (n : Nat) (x : Island),
    Passes s i RST_ISLRST n ∧ restartable x = true ∧ (s.dev.islStat x = 0 ∨ s.dev.islStat x = 2) ∧ (s.dev.islRec x).shed = false ∧ (s.dev.islRec x).hot = false →
    Ends (.islandRestartRequest i (w32 (2 ^ x.idx))) s (fun t =>
      t.dev.islStat x = 1 ∧ t.dev.fld RST_LASTISL 0 11 0 = 0x400 + x.idx ∧ t.dev.fld RST_LASTISL 0 31 16 = min (s.dev.fld RST_LASTISL 0 31 16 + 1) 65535 ∧ (t.dev.islRec x).asked = true ∧
      (∀ y ∈ [Island.aon, .safety, .metrology, .key, .compute, .control, .acquisition, .link, .pstage, .iface], y ≠ x → t.dev.islStat y = s.dev.islStat y) ∧ t.sys.fuses = s.sys.fuses ∧ t.pending = s.pending)) ∧
  (∀ (s : State) (i : Initiator) (n : Nat) (x : Island),
    Passes s i RST_ISLRST n ∧ restartable x = false →
    Ends (.islandRestartRequest i (w32 (2 ^ x.idx))) s (fun t =>
      t.dev.pwr = s.dev.pwr ∧ t.dev.bit (BLK_ERR 0x03) 0 31 = true ∧ OnlyRegs s t [(BLK_ERR 0x03).key 0 0])) ∧
  (∀ (s : State) (t0 : Nat) (x : Island) (ok : Bool) (o : BootObs),
    s.dev.pwr.phase = .running ∧ s.dev.islStat x = 1 ∧ (ok = true → (s.dev.at t0).tooEarly x = false) ∧ NothingWaits s →
    Ends (.islandRestartDone t0 x ok o) s (fun t =>
      t.dev.islStat x = (if ok && (decide (x ≠ .compute) || s.sys.reloadImage.2) then 0 else 2) ∧
      (∀ y ∈ [Island.aon, .safety, .metrology, .key, .compute, .control, .acquisition, .link, .pstage, .iface], y ≠ x → t.dev.islStat y = s.dev.islStat y) ∧ t.sys.fuses = s.sys.fuses ∧ t.pending = s.pending)) ∧
  (∀ (s : State) (t0 v : Nat) (l : List (Nat × List Int)),
    v < s.dev.pfwarn ∧ s.dev.pwr.pfw = none ∧ s.dev.pwr.phase = .running ∧ NothingWaits s →
    Ends (.powerFailWarning t0 v l) s (fun t =>
      t.dev.fld MON_VSTAT 0 16 0 = 65536 + v ∧ t.dev.bit MON_STAT 0 1 = true ∧ t.dev.bit (BLK_EVF 0x04) 0 6 = true ∧ t.dev.pwr.pfw = some (t0, v) ∧
      (∀ x ∈ [Island.control, .acquisition, .link, .pstage, .compute], t.dev.islStat x = 2) ∧ (∀ x ∈ [Island.safety, .metrology, .key], t.dev.islStat x = s.dev.islStat x) ∧
      t.sys.fuses = s.sys.fuses ∧ t.pending = s.pending ∧ ConfigHeld s t 0x10 0x13)) ∧
  (∀ (s : State) (t0 v lo a b : Nat) (o : BootObs),
    s.dev.pfwarn + 10 ≤ v ∧ v < 65536 ∧ s.dev.pwr.pfw = some (a, b) ∧ s.dev.pwr.phase = .running ∧ NothingWaits s →
    Ends (.powerFailWarningEnd t0 v lo o) s (fun t =>
      t.dev.fld MON_VSTAT 0 16 0 = v ∧ t.dev.pwr.pfw = none ∧ t.dev.pwr.stableSince = some t0 ∧ OnlyPages s t [0x04, 0x07])) ∧
  (∀ (s : State) (t0 a : Nat),
    s.dev.pwr.stableSince = some a ∧ a + 10000000 ≤ t0 ∧ s.dev.pwr.pfw = none ∧ s.dev.pwr.phase = .running →
    Ends (.shedIslandRestart t0) s (fun t =>
      (∀ x ∈ [Island.control, .acquisition, .link, .pstage, .compute], t.dev.islStat x = (if (s.dev.islRec x).shed then 1 else s.dev.islStat x) ∧ (t.dev.islRec x).shed = false) ∧
      t.dev.pwr.stableSince = none ∧ t.sys.fuses = s.sys.fuses ∧ t.pending = s.pending)) ∧
  (∀ (s : State) (i : Initiator) (v : Word) (n : Nat),
    Passes s i RST_DWDKICK n ∧ bitOf v 0 = false →
    Ends (.deviceWatchdogKick i v) s (fun t =>
      t.dev.pwr = s.dev.pwr ∧ OnlyRegs s t [])) ∧
  (∀ (s : State) (i : Initiator) (v : Word) (n : Nat),
    Passes s i RST_CWDKICK n ∧ bitOf v 0 = false →
    Ends (.computeWatchdogKick i v) s (fun t =>
      t.dev.pwr = s.dev.pwr ∧ OnlyRegs s t [])) ∧
  (∀ (s : State) (t0 : Nat),
    s.dev.up .compute = true ∧ s.dev.fld RST_CWDCFG 0 15 0 ≠ 0 ∧ s.dev.pwr.cwdSince + s.dev.fld RST_CWDCFG 0 15 0 * 1000000 ≤ t0 ∧ WindowOpen s t0 .compute = true →
    Ends (.computeWatchdogExpiry t0) s (fun t =>
      t.dev.islStat .compute = 2 ∧ t.dev.cause 0 = true ∧ (t.dev.islRec .compute).faultAt = none ∧ t.dev.level = (if s.dev.level = .normal then .limp else s.dev.level) ∧
      t.sys.fuses = s.sys.fuses ∧ t.pending = s.pending)) ∧
  (∀ (s : State) (t0 : Nat),
    s.dev.up .compute = false ∨ s.dev.fld RST_CWDCFG 0 15 0 = 0 ∨ t0 < s.dev.pwr.cwdSince + s.dev.fld RST_CWDCFG 0 15 0 * 1000000 →
    Ends (.computeWatchdogExpiry t0) s (fun t =>
      t.dev.pwr = s.dev.pwr ∧ OnlyRegs s t [])) ∧
  (∀ (s : State) (i : Initiator) (n : Nat) (v : Word),
    Passes s i RST_ISLRST n →
    Ends (.islandRestartRequest i v) s (fun t =>
      (∀ x ∈ [Island.aon, .safety, .metrology, .key, .compute, .control, .acquisition, .link, .pstage, .iface],
        let go := bitOf v x.idx && restartable x && decide (s.dev.islStat x = 0 ∨ s.dev.islStat x = 2) && !(s.dev.islRec x).shed && !(s.dev.islRec x).hot
        t.dev.islStat x = (if go then 1 else s.dev.islStat x) ∧ (go = true → (t.dev.islRec x).asked = true ∧ (t.dev.islRec x).faultAt = some s.dev.time) ∧
        (bitOf v x.idx = true ∧ restartable x = false → t.dev.bit (BLK_ERR 0x03) 0 31 = true)) ∧
      t.sys.fuses = s.sys.fuses ∧ t.pending = s.pending)) ∧
  (∀ (s : State) (t0 : Nat) (x : Island) (ok : Bool) (o : BootObs),
    s.dev.pwr.phase ≠ .running ∨ s.dev.islStat x ≠ 1 ∨ (ok = true ∧ (s.dev.at t0).tooEarly x = true) →
    NothingWaits s →
    Ends (.islandRestartDone t0 x ok o) s (fun t =>
      (∀ y ∈ [Island.aon, .safety, .metrology, .key, .compute, .control, .acquisition, .link, .pstage, .iface], t.dev.islStat y = s.dev.islStat y) ∧ ((∀ f ∈ (s.dev.islRec x).faultAt, t0 < f + 10000000) → t.dev.pwr = s.dev.pwr ∧ OnlyRegs s t []) ∧
      t.sys.fuses = s.sys.fuses ∧ t.pending = s.pending)) ∧
  (∀ (s : State) (t0 v : Nat) (l : List (Nat × List Int)),
    s.dev.pfwarn ≤ v ∨ s.dev.pwr.pfw.isSome = true ∨ s.dev.pwr.phase = .off →
    NothingWaits s →
    Ends (.powerFailWarning t0 v l) s (fun t =>
      t.dev.pwr = s.dev.pwr ∧ OnlyRegs s t [])) ∧
  (∀ (s : State) (t0 v : Nat) (l : List (Nat × List Int)),
    v < s.dev.pfwarn ∧ s.dev.pwr.pfw = none ∧ s.dev.pwr.phase ≠ .off ∧ s.dev.pwr.phase ≠ .running ∧ NothingWaits s →
    Ends (.powerFailWarning t0 v l) s (fun t =>
      t.dev.fld MON_VSTAT 0 16 0 = 65536 + v ∧ t.dev.bit MON_STAT 0 1 = true ∧ t.dev.fld MON_STAT 0 31 16 = min (s.dev.fld MON_STAT 0 31 16 + 1) 65535 ∧ t.dev.bit (BLK_EVF 0x04) 0 6 = true ∧
      t.dev.pwr.pfw = some (t0, v) ∧ t.dev.pwr.phase = s.dev.pwr.phase ∧ OnlyRegs s t [MON_VSTAT.key 0 0, MON_STAT.key 0 0, (BLK_EVF 0x04).key 0 0])) ∧
  (∀ (s : State) (t0 v lo : Nat) (o : BootObs),
    v < s.dev.pfwarn + 10 ∨ (s.dev.pwr.pfw = none ∧ s.dev.pwr.phase ≠ .waitVsys) →
    NothingWaits s →
    Ends (.powerFailWarningEnd t0 v lo o) s (fun t =>
      t.dev.pwr = s.dev.pwr ∧ OnlyRegs s t [])) ∧
  (∀ (s : State) (t0 v lo : Nat) (o : BootObs),
    s.dev.pfwarn + 10 ≤ v ∧ v < 65536 ∧ s.dev.pwr.phase = .waitVsys ∧ NothingWaits s →
    Ends (.powerFailWarningEnd t0 v lo o) s (fun t =>
      t.dev.pwr.buck = true ∧ t.dev.pwr.pfw = none ∧ (o.resetN = false → t.dev.pwr.phase = .waitPin ∧ t.dev.fld MON_VSTAT 0 15 0 = v) ∧
      (o.resetN = true → t.dev.pwr.phase = .heldBist ∨ t.dev.pwr.phase = .running) ∧ t.pending = s.pending ∧ FusesKept s t)) ∧
  (∀ (s : State) (t0 : Nat),
    (∀ a ∈ s.dev.pwr.stableSince, t0 < a + 10000000) ∨ s.dev.pwr.pfw.isSome = true ∨ s.dev.pwr.phase ≠ .running →
    Ends (.shedIslandRestart t0) s (fun t =>
      t.dev.pwr = s.dev.pwr ∧ OnlyRegs s t []))

/-- Monitors show what they read, flag what crosses a threshold, fail an island beyond its limits; hard repair blows its fuses. (R685, R691, R692, R693, R697, R699, spec/17_power_reset_bist.md) -/
def Obligations.MonitorsWatchSuppliesTemperatureAndSpeed : Prop :=
  (∀ (s : State) (t0 v : Nat),
    v < 600 ∧ s.dev.pwr.ifaceReset = false →
    Ends (.interfaceDieReset t0 v) s (fun t =>
      t.dev.pwr.ifaceReset = true ∧ t.dev.rd SOUT_ONSUM 0 &&& w32 (2 ^ s.dev.variant.outPairs - 1) = 0 ∧ t.dev.pwr.vauxLow = true ∧ (∀ n : Nat, n < s.dev.variant.loadSwitches → t.dev.lswSt n = (if s.dev.bit LSW_VAUX 0 16 then 3 else 0) ∧ t.dev.bit LSW_ONSUM 0 n = false) ∧
      OnlyPages s t [0x5C, 0x5D, 0x64, 0x65])) ∧
  (∀ (s : State) (t0 v : Nat) (b : BistPart),
    650 < v ∧ s.dev.pwr.ifaceReset = true ∧ s.dev.pwr.ifaceHot = false ∧ s.dev.pwr.phase = .running ∧ (s.dev.fld BST_RESULT 0 19 18 = 1 ∨ s.dev.fld BST_RESULT 0 19 18 = 2) ∧ s.dev.islStat .iface = 0 →
    Ends (.interfaceDieResetEnd t0 v b) s (fun t =>
      t.dev.pwr.ifaceReset = false ∧ t.dev.pwr.vauxLow = false ∧ OnlyRegs s t [])) ∧
  (∀ (s : State) (t0 k v : Nat),
    k < 10 ∧ v < s.dev.twarn ∧ v < centiK 140 ∧ v < 65536 ∧ s.dev.pwr.ifaceHot = false ∧ (s.dev.islRec (Island.ofIdx k)).hot = false ∧ NothingWaits s →
    Ends (.temperatureRead t0 k v) s (fun t =>
      t.dev.fld MON_IT k 15 0 = v ∧ t.dev.fld MON_IT k 31 16 = max v (s.dev.fld MON_IT k 31 16) ∧ OnlyRegs s t [MON_IT.key k 0])) ∧
  (∀ (s : State) (t0 k v : Nat),
    k < 10 ∧ s.dev.twarn ≤ v ∧ s.dev.fld MON_IT k 15 0 < s.dev.twarn ∧ v < s.dev.thot ∧ v < centiK 140 ∧ s.dev.pwr.ifaceHot = false ∧ (s.dev.islRec (Island.ofIdx k)).hot = false ∧ NothingWaits s →
    Ends (.temperatureRead t0 k v) s (fun t =>
      t.dev.bit MON_ISTAT k 0 = true ∧ t.dev.bit (BLK_EVF 0x04) 0 0 = true ∧ OnlyRegs s t [MON_IT.key k 0, MON_ISTAT.key k 0, (BLK_EVF 0x04).key 0 0])) ∧
  (∀ (s : State) (t0 k v a : Nat),
    2 ≤ k ∧ k < 9 ∧ centiK 140 ≤ v ∧ kvGet s.dev.pwr.critSince (k + 1) 0 = a + 1 ∧ a + 1000000 ≤ t0 ∧ s.dev.pwr.phase = .running ∧ s.dev.islStat (Island.ofIdx k) < 2 ∧ (s.dev.islRec (Island.ofIdx k)).hot = false ∧ NothingWaits s →
    Ends (.temperatureRead t0 k v) s (fun t =>
      t.dev.islStat (Island.ofIdx k) = 2 ∧ (t.dev.islRec (Island.ofIdx k)).hot = true ∧ t.dev.bit MON_ISTAT k 2 = true ∧ t.dev.bit MON_ISTAT k 8 = true ∧ t.dev.bit (BLK_EVF 0x04) 0 2 = true ∧
      t.sys.fuses = s.sys.fuses ∧ t.pending = s.pending)) ∧
  (∀ (s : State) (t0 k v n : Nat),
    k < 10 ∧ (n < 1000 ∨ (720 ≤ v ∧ v ≤ 880)) →
    Ends (.supplyDeviation t0 k v n) s (fun t =>
      t.dev.rd MON_IV k = w32 (v % 65536) ∧ OnlyRegs s t [MON_IV.key k 0])) ∧
  (∀ (s : State) (t0 k v n : Nat),
    2 ≤ k ∧ k < 9 ∧ 1000 ≤ n ∧ (v < 720 ∨ 880 < v) →
    s.dev.pwr.phase = .running ∧ s.dev.islStat (Island.ofIdx k) < 2 ∧ WindowOpen s t0 (Island.ofIdx k) = false →
    Ends (.supplyDeviation t0 k v n) s (fun t =>
      t.dev.rd MON_IV k = w32 (v % 65536) ∧ t.dev.bit MON_ISTAT k 3 = true ∧ t.dev.bit (BLK_EVF 0x04) 0 3 = true ∧ t.dev.islStat (Island.ofIdx k) = 1 ∧ t.dev.fld RST_LASTISL 0 11 0 = 0x300 + k ∧
      t.sys.fuses = s.sys.fuses ∧ t.pending = s.pending)) ∧
  (∀ (s : State) (t0 k v : Nat),
    k < 10 ∧ clampN (s.dev.fld MON_PCFG 0 7 0) 6 50 ≤ v →
    Ends (.processSpeedCheck t0 k v) s (fun t =>
      t.dev.fld MON_IP k 7 0 = min v 255 ∧ t.dev.fld MON_IP k 15 8 = (if s.dev.pwr.slackSeen.testBit k then min (s.dev.fld MON_IP k 15 8) (min v 255) else min v 255) ∧ OnlyRegs s t [MON_IP.key k 0])) ∧
  (∀ (s : State) (t0 k v : Nat),
    2 ≤ k ∧ k < 9 ∧ v < 5 ∧ s.dev.pwr.phase = .running ∧ s.dev.islStat (Island.ofIdx k) < 2 ∧ WindowOpen s t0 (Island.ofIdx k) = false →
    Ends (.processSpeedCheck t0 k v) s (fun t =>
      t.dev.bit MON_ISTAT k 4 = true ∧ t.dev.bit MON_ISTAT k 5 = true ∧ t.dev.bit (BLK_EVF 0x04) 0 5 = true ∧ t.dev.islStat (Island.ofIdx k) = 1 ∧
      t.sys.fuses = s.sys.fuses ∧ t.pending = s.pending)) ∧
  (∀ (s : State) (i : Initiator) (v : Word) (n : Nat) (ok : Bool),
    Passes s i BST_HREPAIR n ∧ bitOf v 0 = true ∧ (i.isCore = true ∨ i = .debug) ∧ s.dev.fld LCM_STATE 0 2 0 ≠ 5 →
    s.dev.level ≠ .hold ∨ s.dev.pwr.softRepairs = [] ∨ (freeRepairs s.sys.fuses).length < s.dev.pwr.softRepairs.length →
    Ends (.hardRepair i v ok) s (fun t =>
      t.dev.fld BST_HRSTAT 0 7 0 = (if s.dev.level ≠ .hold then 4 else if s.dev.pwr.softRepairs = [] then 2 else 3) ∧ t.dev.fld BST_HRSTAT 0 15 8 = (freeRepairs s.sys.fuses).length ∧
      OnlyRegs s t [BST_HRSTAT.key 0 0])) ∧
  (∀ (s : State) (i : Initiator) (v : Word) (n : Nat) (ok : Bool),
    Passes s i BST_HREPAIR n ∧ bitOf v 0 = true ∧ (i.isCore = true ∨ i = .debug) ∧ s.dev.fld LCM_STATE 0 2 0 ≠ 5 →
    s.dev.level = .hold ∧ s.dev.pwr.softRepairs ≠ [] ∧ s.dev.pwr.softRepairs.length ≤ (freeRepairs s.sys.fuses).length →
    Ends (.hardRepair i v ok) s (fun t =>
      t.dev.fld BST_HRSTAT 0 7 0 = (if ok then 1 else 5) ∧ t.dev.bit (BLK_EVF 0x05) 0 0 = true ∧
      (∀ p ∈ (freeRepairs s.sys.fuses).zip s.dev.pwr.softRepairs, ok = true → (t.sys.fuses / 2 ^ (768 + 32 * p.1) % 2 ^ 32) ||| (p.2 ||| 0x80000000).toNat = t.sys.fuses / 2 ^ (768 + 32 * p.1) % 2 ^ 32) ∧
      (ok = true → t.dev.pwr.softRepairs = []) ∧ (ok = false → t.sys.fuses = s.sys.fuses) ∧ FusesKept s t ∧ BytesKept s t 0 0 ∧ RegsKept s t [BST_HRSTAT.key 0 0, (BLK_EVF 0x05).key 0 0] ∧ t.pending = s.pending)) ∧
  (∀ (s : State) (t0 v : Nat),
    v < 600 ∧ s.dev.pwr.ifaceReset = true →
    Ends (.interfaceDieReset t0 v) s (fun t =>
      t.dev.pwr = { s.dev.pwr with vauxLow := true } ∧ OnlyRegs s t [])) ∧
  (∀ (s : State) (t0 v : Nat),
    600 ≤ v →
    Ends (.interfaceDieReset t0 v) s (fun t =>
      t.dev.pwr = s.dev.pwr ∧ OnlyRegs s t [])) ∧
  (∀ (s : State) (t0 v : Nat) (b : BistPart),
    v ≤ 650 →
    Ends (.interfaceDieResetEnd t0 v b) s (fun t =>
      t.dev.pwr = s.dev.pwr ∧ OnlyRegs s t [])) ∧
  (∀ (s : State) (t0 v : Nat) (b : BistPart),
    650 < v →
    s.dev.pwr.ifaceReset = false ∨ s.dev.pwr.ifaceHot = true ∨ s.dev.pwr.phase ≠ .running ∨ ((s.dev.fld BST_RESULT 0 19 18 = 1 ∨ s.dev.fld BST_RESULT 0 19 18 = 2) ∧ s.dev.islStat .iface ≠ 0) →
    Ends (.interfaceDieResetEnd t0 v b) s (fun t =>
      t.dev.pwr = { s.dev.pwr with vauxLow := false } ∧ OnlyRegs s t [])) ∧
  (∀ (s : State) (t0 v : Nat) (b : BistPart),
    650 < v ∧ s.dev.pwr.ifaceReset = true ∧ s.dev.pwr.ifaceHot = false ∧ s.dev.pwr.phase = .running ∧ s.dev.fld BST_RESULT 0 19 18 = 0 ∧ b.result < 3 ∧ s.dev.islStat .iface = 0 →
    Ends (.interfaceDieResetEnd t0 v b) s (fun t =>
      t.dev.pwr.ifaceReset = false ∧ t.dev.pwr.vauxLow = false ∧ t.dev.fld BST_RESULT 0 19 18 = b.result ∧ t.dev.rd BST_LSIG 9 = b.lsig ∧ t.dev.rd BST_LEXP 9 = b.lexp ∧
      OnlyPages s t [0x05])) ∧
  (∀ (s : State) (t0 v : Nat) (b : BistPart),
    650 < v ∧ s.dev.pwr.ifaceReset = true ∧ s.dev.pwr.ifaceHot = false ∧ s.dev.pwr.phase = .running ∧ (s.dev.fld BST_RESULT 0 19 18 = 3 ∨ (s.dev.fld BST_RESULT 0 19 18 = 0 ∧ b.result = 3)) →
    Ends (.interfaceDieResetEnd t0 v b) s (fun t =>
      t.dev.pwr.ifaceReset = true ∧ t.dev.pwr.vauxLow = false ∧ t.dev.islStat .iface = 2 ∧ t.dev.cause 6 = true ∧ t.dev.level = .hold ∧ t.pending = s.pending ∧ t.sys.fuses = s.sys.fuses)) ∧
  (∀ (s : State) (t0 k v : Nat),
    k < 10 ∧ v < 65536 ∧ NothingWaits s →
    s.dev.pwr.phase ≠ .running ∨ ((v < centiK 140 ∨ kvGet s.dev.pwr.critSince (k + 1) 0 = 0 ∨ t0 < kvGet s.dev.pwr.critSince (k + 1) 0 + 999999 ∨ (if k = 9 then s.dev.pwr.ifaceHot else (s.dev.islRec (Island.ofIdx k)).hot) = true) ∧ ((if k = 9 then s.dev.pwr.ifaceHot else (s.dev.islRec (Island.ofIdx k)).hot) = false ∨ s.dev.thot - 1000 < v)) →
    s.dev.bit MON_TCFG 0 16 = false ∨ v < s.dev.thot ∨ s.dev.thot ≤ s.dev.fld MON_IT k 15 0 →
    Ends (.temperatureRead t0 k v) s (fun t =>
      t.dev.fld MON_IT k 15 0 = v ∧ t.dev.fld MON_IT k 31 16 = max v (s.dev.fld MON_IT k 31 16) ∧
      t.dev.bit MON_ISTAT k 0 = (s.dev.bit MON_ISTAT k 0 || (decide (s.dev.twarn ≤ v) && decide (s.dev.fld MON_IT k 15 0 < s.dev.twarn))) ∧ t.dev.bit MON_ISTAT k 1 = (s.dev.bit MON_ISTAT k 1 || (decide (s.dev.thot ≤ v) && decide (s.dev.fld MON_IT k 15 0 < s.dev.thot))) ∧
      t.dev.bit (BLK_EVF 0x04) 0 0 = (s.dev.bit (BLK_EVF 0x04) 0 0 || (decide (s.dev.twarn ≤ v) && decide (s.dev.fld MON_IT k 15 0 < s.dev.twarn))) ∧ t.dev.bit (BLK_EVF 0x04) 0 1 = (s.dev.bit (BLK_EVF 0x04) 0 1 || (decide (s.dev.thot ≤ v) && decide (s.dev.fld MON_IT k 15 0 < s.dev.thot))) ∧
      kvGet t.dev.pwr.critSince (k + 1) 0 = (if v < centiK 140 then 0 else if kvGet s.dev.pwr.critSince (k + 1) 0 = 0 then t0 + 1 else kvGet s.dev.pwr.critSince (k + 1) 0) ∧
      OnlyRegs s t [MON_IT.key k 0, MON_ISTAT.key k 0, (BLK_EVF 0x04).key 0 0])) ∧
  (∀ (s : State) (t0 k v : Nat),
    k < 10 ∧ v < 65536 ∧ NothingWaits s →
    s.dev.pwr.phase ≠ .running ∨ ((v < centiK 140 ∨ kvGet s.dev.pwr.critSince (k + 1) 0 = 0 ∨ t0 < kvGet s.dev.pwr.critSince (k + 1) 0 + 999999 ∨ (if k = 9 then s.dev.pwr.ifaceHot else (s.dev.islRec (Island.ofIdx k)).hot) = true) ∧ ((if k = 9 then s.dev.pwr.ifaceHot else (s.dev.islRec (Island.ofIdx k)).hot) = false ∨ s.dev.thot - 1000 < v)) →
    s.dev.bit MON_TCFG 0 16 = true ∧ s.dev.thot ≤ v ∧ s.dev.fld MON_IT k 15 0 < s.dev.thot →
    Ends (.temperatureRead t0 k v) s (fun t =>
      t.dev.bit MON_ISTAT k 1 = true ∧ t.dev.bit (BLK_EVF 0x04) 0 1 = true ∧ t.dev.fld MON_IT k 15 0 = v ∧
      (s.dev.bit PWR_STAT 0 0 = true → t.dev.bit PWR_STAT 0 2 = true ∧ t.dev.pwr.profPending = s.dev.pwr.profPending) ∧
      (s.dev.bit PWR_STAT 0 0 = false ∧ s.dev.profile ≠ 2 ∧ s.dev.profileBreach 2 = false → t.dev.bit PWR_STAT 0 0 = true ∧ t.dev.pwr.profPending = some 2) ∧
      (s.dev.bit PWR_STAT 0 0 = false ∧ s.dev.profile ≠ 2 ∧ s.dev.profileBreach 2 = true → t.dev.bit MON_STAT 0 0 = true ∧ t.dev.pwr.profPending = s.dev.pwr.profPending) ∧
      t.pending = s.pending ∧ t.sys.fuses = s.sys.fuses ∧ BytesKept s t 0 0)) ∧
  (∀ (s : State) (t0 k v a : Nat),
    2 ≤ k ∧ k < 9 ∧ centiK 140 ≤ v ∧ v < 65536 ∧ kvGet s.dev.pwr.critSince (k + 1) 0 = a + 1 ∧ a + 1000000 ≤ t0 ∧ s.dev.pwr.phase = .running ∧ NothingWaits s ∧ 2 ≤ s.dev.islStat (Island.ofIdx k) ∧ (s.dev.islRec (Island.ofIdx k)).hot = false →
    Ends (.temperatureRead t0 k v) s (fun t =>
      t.dev.bit MON_ISTAT k 2 = true ∧ t.dev.bit (BLK_EVF 0x04) 0 2 = true ∧ t.dev.pwr.isl = s.dev.pwr.isl ∧ t.dev.islStat (Island.ofIdx k) = s.dev.islStat (Island.ofIdx k) ∧ t.sys.fuses = s.sys.fuses ∧ t.pending = s.pending)) ∧
  (∀ (s : State) (t0 v a : Nat),
    centiK 140 ≤ v ∧ v < 65536 ∧ kvGet s.dev.pwr.critSince 1 0 = a + 1 ∧ a + 1000000 ≤ t0 ∧ s.dev.pwr.phase = .running ∧ NothingWaits s ∧ (s.dev.islRec .aon).hot = false →
    Ends (.temperatureRead t0 0 v) s (fun t =>
      t.dev.bit MON_ISTAT 0 2 = true ∧ t.dev.bit (BLK_EVF 0x04) 0 2 = true ∧ t.dev.pwr.isl = s.dev.pwr.isl ∧ (∀ y ∈ [Island.aon, .safety, .metrology, .key, .compute, .control, .acquisition, .link, .pstage, .iface], t.dev.islStat y = s.dev.islStat y) ∧ t.sys.fuses = s.sys.fuses ∧ t.pending = s.pending)) ∧
  (∀ (s : State) (t0 v a : Nat),
    centiK 140 ≤ v ∧ v < 65536 ∧ kvGet s.dev.pwr.critSince 2 0 = a + 1 ∧ a + 1000000 ≤ t0 ∧ s.dev.pwr.phase = .running ∧ NothingWaits s ∧ (s.dev.islRec .safety).hot = false ∧ s.dev.up .safety = true →
    Ends (.temperatureRead t0 1 v) s (fun t =>
      t.dev.bit MON_ISTAT 1 2 = true ∧ t.dev.bit (BLK_EVF 0x04) 0 2 = true ∧ t.dev.islStat .safety = 2 ∧ t.dev.saf.faultLow = true ∧ t.sys.fuses = s.sys.fuses ∧ t.pending = s.pending)) ∧
  (∀ (s : State) (t0 v a : Nat),
    centiK 140 ≤ v ∧ v < 65536 ∧ kvGet s.dev.pwr.critSince 10 0 = a + 1 ∧ a + 1000000 ≤ t0 ∧ s.dev.pwr.phase = .running ∧ NothingWaits s ∧ s.dev.pwr.ifaceHot = false →
    Ends (.temperatureRead t0 9 v) s (fun t =>
      t.dev.bit MON_ISTAT 9 2 = true ∧ t.dev.bit MON_ISTAT 9 8 = true ∧ t.dev.bit (BLK_EVF 0x04) 0 2 = true ∧ t.dev.pwr.ifaceHot = true ∧ t.dev.pwr.ifaceReset = true ∧
      (∀ n : Nat, n < s.dev.variant.loadSwitches → t.dev.lswSt n = (if s.dev.bit LSW_VAUX 0 16 then 3 else 0)) ∧ t.sys.fuses = s.sys.fuses ∧ t.pending = s.pending)) ∧
  (∀ (s : State) (t0 k v : Nat),
    2 ≤ k ∧ k < 9 ∧ (s.dev.islRec (Island.ofIdx k)).hot = true ∧ v ≤ s.dev.thot - 1000 ∧ s.dev.pwr.phase = .running ∧ NothingWaits s →
    Ends (.temperatureRead t0 k v) s (fun t =>
      t.dev.islStat (Island.ofIdx k) = 1 ∧ (t.dev.islRec (Island.ofIdx k)).hot = false ∧ t.dev.bit MON_ISTAT k 8 = false ∧ t.dev.fld RST_LASTISL 0 11 0 = 0x300 + k ∧
      t.sys.fuses = s.sys.fuses ∧ t.pending = s.pending)) ∧
  (∀ (s : State) (t0 v : Nat),
    s.dev.pwr.ifaceHot = true ∧ v ≤ s.dev.thot - 1000 ∧ s.dev.pwr.phase = .running ∧ NothingWaits s →
    (s.dev.fld BST_RESULT 0 19 18 = 1 ∨ s.dev.fld BST_RESULT 0 19 18 = 2) ∧ s.dev.islStat .iface = 0 →
    Ends (.temperatureRead t0 9 v) s (fun t =>
      t.dev.pwr.ifaceHot = false ∧ t.dev.bit MON_ISTAT 9 8 = false ∧ t.dev.pwr.ifaceReset = (s.dev.pwr.vauxLow && s.dev.pwr.ifaceReset) ∧
      t.sys.fuses = s.sys.fuses ∧ t.pending = s.pending)) ∧
  (∀ (s : State) (t0 k v n : Nat),
    10 ≤ k ∧ NothingWaits s →
    Ends (.temperatureRead t0 k v) s (fun t =>
      t.dev.pwr = s.dev.pwr ∧ OnlyRegs s t []) ∧
    Ends (.supplyDeviation t0 k v n) s (fun t =>
      t.dev.pwr = s.dev.pwr ∧ OnlyRegs s t []) ∧
    Ends (.processSpeedCheck t0 k v) s (fun t =>
      t.dev.pwr = s.dev.pwr ∧ OnlyRegs s t [])) ∧
  (∀ (s : State) (t0 k v : Nat),
    k < 10 ∧ 5 ≤ v ∧ v < clampN (s.dev.fld MON_PCFG 0 7 0) 6 50 →
    Ends (.processSpeedCheck t0 k v) s (fun t =>
      t.dev.fld MON_IP k 7 0 = v ∧ t.dev.bit MON_ISTAT k 4 = true ∧ t.dev.bit (BLK_EVF 0x04) 0 4 = true ∧ OnlyRegs s t [MON_IP.key k 0, MON_ISTAT.key k 0, (BLK_EVF 0x04).key 0 0])) ∧
  (∀ (s : State) (t0 k v m n : Nat),
    2 ≤ k ∧ k < 9 ∧ 1000 ≤ m ∧ (v < 720 ∨ 880 < v) →
    s.dev.pwr.phase = .running ∧ s.dev.islStat (Island.ofIdx k) < 2 ∧ WindowOpen s t0 (Island.ofIdx k) = true ∧ islandCause (Island.ofIdx k) = some n →
    Ends (.supplyDeviation t0 k v m) s (fun t =>
      t.dev.rd MON_IV k = w32 (v % 65536) ∧ t.dev.bit MON_ISTAT k 3 = true ∧ t.dev.bit (BLK_EVF 0x04) 0 3 = true ∧ t.dev.islStat (Island.ofIdx k) = 2 ∧ t.dev.cause n = true ∧ (t.dev.islRec (Island.ofIdx k)).faultAt = none ∧
      t.sys.fuses = s.sys.fuses ∧ t.pending = s.pending)) ∧
  (∀ (s : State) (t0 k v m : Nat),
    k < 10 ∧ 1000 ≤ m ∧ (v < 720 ∨ 880 < v) →
    s.dev.pwr.phase ≠ .running ∨ k = 0 ∨ k = 9 ∨ (k = 1 ∧ s.dev.up .safety = false) ∨ (2 ≤ k ∧ 2 ≤ s.dev.islStat (Island.ofIdx k)) →
    Ends (.supplyDeviation t0 k v m) s (fun t =>
      t.dev.rd MON_IV k = w32 (v % 65536) ∧ t.dev.bit MON_ISTAT k 3 = true ∧ t.dev.bit (BLK_EVF 0x04) 0 3 = true ∧ t.dev.pwr.isl = s.dev.pwr.isl ∧ OnlyRegs s t [MON_IV.key k 0, MON_ISTAT.key k 0, (BLK_EVF 0x04).key 0 0])) ∧
  (∀ (s : State) (t0 v m : Nat),
    1000 ≤ m ∧ (v < 720 ∨ 880 < v) ∧ s.dev.up .safety = true →
    Ends (.supplyDeviation t0 1 v m) s (fun t =>
      t.dev.rd MON_IV 1 = w32 (v % 65536) ∧ t.dev.bit MON_ISTAT 1 3 = true ∧ t.dev.bit (BLK_EVF 0x04) 0 3 = true ∧ t.dev.islStat .safety = 2 ∧ t.dev.saf.faultLow = true ∧ t.sys.fuses = s.sys.fuses ∧ t.pending = s.pending)) ∧
  (∀ (s : State) (t0 k v n : Nat),
    2 ≤ k ∧ k < 9 ∧ v < 5 →
    s.dev.pwr.phase = .running ∧ s.dev.islStat (Island.ofIdx k) < 2 ∧ WindowOpen s t0 (Island.ofIdx k) = true ∧ islandCause (Island.ofIdx k) = some n →
    Ends (.processSpeedCheck t0 k v) s (fun t =>
      t.dev.fld MON_IP k 7 0 = v ∧ t.dev.bit MON_ISTAT k 4 = true ∧ t.dev.bit MON_ISTAT k 5 = true ∧ t.dev.bit (BLK_EVF 0x04) 0 5 = true ∧ t.dev.islStat (Island.ofIdx k) = 2 ∧ t.dev.cause n = true ∧ (t.dev.islRec (Island.ofIdx k)).faultAt = none ∧
      t.sys.fuses = s.sys.fuses ∧ t.pending = s.pending)) ∧
  (∀ (s : State) (t0 k v : Nat),
    k < 10 ∧ v < 5 →
    s.dev.pwr.phase ≠ .running ∨ k = 0 ∨ k = 9 ∨ (k = 1 ∧ s.dev.up .safety = false) ∨ (2 ≤ k ∧ 2 ≤ s.dev.islStat (Island.ofIdx k)) →
    Ends (.processSpeedCheck t0 k v) s (fun t =>
      t.dev.fld MON_IP k 7 0 = v ∧ t.dev.bit MON_ISTAT k 4 = true ∧ t.dev.bit MON_ISTAT k 5 = true ∧ t.dev.bit (BLK_EVF 0x04) 0 5 = true ∧ t.dev.pwr.isl = s.dev.pwr.isl ∧ OnlyRegs s t [MON_IP.key k 0, MON_ISTAT.key k 0, (BLK_EVF 0x04).key 0 0])) ∧
  (∀ (s : State) (t0 v : Nat),
    v < 5 ∧ s.dev.up .safety = true →
    Ends (.processSpeedCheck t0 1 v) s (fun t =>
      t.dev.fld MON_IP 1 7 0 = v ∧ t.dev.bit MON_ISTAT 1 4 = true ∧ t.dev.bit MON_ISTAT 1 5 = true ∧ t.dev.bit (BLK_EVF 0x04) 0 5 = true ∧ t.dev.islStat .safety = 2 ∧ t.dev.saf.faultLow = true ∧ t.sys.fuses = s.sys.fuses ∧ t.pending = s.pending)) ∧
  (∀ (s : State) (i : Initiator) (v : Word) (n : Nat) (ok : Bool),
    Passes s i BST_HREPAIR n →
    bitOf v 0 = false ∨ (i.isCore = false ∧ i ≠ .debug) ∨ s.dev.fld LCM_STATE 0 2 0 = 5 →
    Ends (.hardRepair i v ok) s (fun t =>
      t.dev.pwr = s.dev.pwr ∧ OnlyRegs s t []))

/-- Heartbeats show the partner, lanes fall and rise with their records, and mastership passes by timeout, takeover, demotion and handover. (R703, R704, R705, R711, R712, R713, R714, R715, spec/18_pair_and_recovery.md) -/
def Obligations.ThePairKeepsItsLinkAndChangesMastership : Prop :=
  (∀ (s : State) (t0 : Nat),
    s.dev.pstate ≠ 0 ∧ s.dev.up .link = true ∧ s.dev.pair.sentAt = none →
    Ends (.heartbeatSend t0) s (fun t =>
      t.dev.pair.hbOut.map (fun h => (h.pstate, h.role, h.epoch, h.level, h.frame, h.time)) = some (s.dev.pstate, b2n (s.dev.bit AUS_STAT 0 4), s.dev.fld AUS_EPOCH 0 15 0, s.dev.level, s.dev.frame, max s.dev.time t0) ∧
      t.dev.pair.sentAt = some t0 ∧ t.dev.pair.seqOut = s.dev.pair.seqOut + 1 ∧ OnlyRegs s t [])) ∧
  (∀ (s : State) (t0 a : Nat),
    s.dev.pstate ≠ 0 ∧ s.dev.up .link = true ∧ s.dev.pair.sentAt = some a ∧ a + 50000 ≤ t0 →
    Ends (.heartbeatSend t0) s (fun t =>
      t.dev.fld AUS_MISS 0 31 16 = (if s.dev.pair.hbSeen = true then s.dev.fld AUS_MISS 0 31 16 else min (s.dev.fld AUS_MISS 0 31 16 + 1) 65535) ∧
      t.dev.pair.sentAt = some t0 ∧ t.dev.pair.hbSeen = false ∧ t.dev.pair.seqOut = s.dev.pair.seqOut + 1 ∧ OnlyRegs s t [AUS_MISS.key 0 0])) ∧
  (∀ (s : State) (t0 a : Nat),
    s.dev.pstate = 0 ∨ s.dev.up .link = false ∨ (s.dev.pair.sentAt = some a ∧ t0 < a + 50000) →
    Ends (.heartbeatSend t0) s (fun t =>
      t.dev.pair = s.dev.pair ∧ OnlyRegs s t [])) ∧
  (∀ (s : State) (t0 seq k : Nat) (h : Heartbeat),
    s.dev.pstate = 0 ∨ seq < s.dev.pair.seqIn ∨ s.dev.up .link = false ∨ (s.dev.bit AUS_STAT 0 8 = false ∧ s.dev.bit AUS_STAT 0 9 = false) ∨ s.dev.bankOff 5 = true →
    Ends (.heartbeatReceive t0 seq k h) s (fun t =>
      t.dev.pair = s.dev.pair ∧ OnlyRegs s t [])) ∧
  (∀ (s : State) (t0 seq k : Nat) (h : Heartbeat),
    s.dev.pstate ≠ 0 ∧ s.dev.up .link = true ∧ (s.dev.bit AUS_STAT 0 8 = true ∨ s.dev.bit AUS_STAT 0 9 = true) ∧ s.dev.pair.seqIn ≤ seq ∧ s.dev.bankOff 5 = false →
    Ends (.heartbeatReceive t0 seq k h) s (fun t =>
      t.dev.fld AUS_STAT 0 14 12 = h.pstate % 8 ∧ t.dev.bit AUS_STAT 0 16 = decide (h.role = b2n (s.dev.bit AUS_STAT 0 4)) ∧
      t.dev.pair.seqIn = seq + 1 ∧ t.dev.pair.hb = some h ∧ t.dev.pair.hbAt = some t0 ∧ t.dev.pair.hbSeen = true ∧
      Quiet s t)) ∧
  (∀ (s : State) (t0 seq k : Nat) (h : Heartbeat),
    s.dev.pstate = 1 ∧ s.dev.up .link = true ∧ (s.dev.bit AUS_STAT 0 8 = true ∨ s.dev.bit AUS_STAT 0 9 = true) ∧ s.dev.pair.seqIn ≤ seq ∧ s.dev.bankOff 5 = false →
    h.role ≠ b2n (s.dev.bit AUS_STAT 0 4) ∧ h.pstate = 4 →
    Ends (.heartbeatReceive t0 seq k h) s (fun t =>
      t.dev.pstate = 2 ∧ t.dev.fld MTR_ROLE 0 1 0 = 2 ∧ t.dev.fld AUS_EPOCH 0 15 0 = s.dev.fld AUS_EPOCH 0 15 0)) ∧
  (∀ (s : State) (t0 seq k : Nat) (h : Heartbeat),
    s.dev.pstate = 1 ∧ s.dev.up .link = true ∧ (s.dev.bit AUS_STAT 0 8 = true ∨ s.dev.bit AUS_STAT 0 9 = true) ∧ s.dev.pair.seqIn ≤ seq ∧ s.dev.bankOff 5 = false →
    h.role = 1 ∧ s.dev.bit AUS_STAT 0 4 = false ∧ h.pstate = 1 →
    Ends (.heartbeatReceive t0 seq k h) s (fun t =>
      t.dev.pstate = 4 ∧ t.dev.fld MTR_ROLE 0 1 0 = 1 ∧ t.dev.fld AUS_LASTTO 0 15 0 = 6 ∧ t.dev.fld AUS_EPOCH 0 15 0 = (s.dev.newestEpoch + 1) % 65536)) ∧
  (∀ (s : State) (t0 seq k : Nat) (h : Heartbeat),
    s.dev.pstate = 3 ∧ s.dev.up .link = true ∧ (s.dev.bit AUS_STAT 0 8 = true ∨ s.dev.bit AUS_STAT 0 9 = true) ∧ s.dev.pair.seqIn ≤ seq ∧ s.dev.bankOff 5 = false →
    (h.level = .limp ∨ h.level = .hold) ∧ h.cause &&& 0x7D ≠ 0 ∧ s.dev.level = .normal →
    Ends (.heartbeatReceive t0 seq k h) s (fun t =>
      t.dev.pstate = 3 ∧ t.dev.pair.takeNext = some (s.dev.pair.takeNext.getD 2))) ∧
  (∀ (s : State) (t0 seq k : Nat) (h : Heartbeat),
    s.dev.pstate = 4 ∧ s.dev.up .link = true ∧ (s.dev.bit AUS_STAT 0 8 = true ∨ s.dev.bit AUS_STAT 0 9 = true) ∧ s.dev.pair.seqIn ≤ seq ∧ s.dev.bankOff 5 = false →
    h.pstate = 4 ∧ newer h.epoch (s.dev.fld AUS_EPOCH 0 15 0) = true →
    Ends (.heartbeatReceive t0 seq k h) s (fun t =>
      t.dev.pstate = 4 ∧ t.dev.pair.demoteSeen = some (h.epoch, 0xFF))) ∧
  (∀ (s : State) (t0 l n ns : Nat),
    l < s.dev.variant.lanes ∧ s.dev.up .link = true ∧ s.dev.bit AUS_STAT 0 (8 + l) = true ∧ 2000 ≤ ns →
    Ends (.ausalReplay t0 l n ns) s (fun t =>
      t.dev.fld AUS_ERRCNT 0 (16 * l + 15) (16 * l) = min (s.dev.fld AUS_ERRCNT 0 (16 * l + 15) (16 * l) + 1) 65535 ∧
      (t.dev.lane l).msg = n ∧ (t.dev.lane l).resent = s.dev.pair.sent.filter (fun k => decide (n ≤ k)) ∧ OnlyRegs s t [AUS_ERRCNT.key 0 0])) ∧
  (∀ (s : State) (t0 l q : Nat),
    s.dev.variant = .px4840 ∧ l < s.dev.variant.lanes ∧ s.dev.up .link = true ∧ s.dev.bit AUS_STAT 0 (8 + l) = true ∧ s.dev.bit AUS_STAT 0 (9 - l) = true →
    8 ≤ (s.dev.lane l).run ∨ 20000 ≤ q →
    Ends (.laneDown t0 l q) s (fun t =>
      t.dev.bit AUS_STAT 0 (8 + l) = false ∧ t.dev.bit AUS_STAT 0 (9 - l) = true ∧ t.dev.pstate = s.dev.pstate ∧ t.dev.partnerState = s.dev.partnerState ∧
      t.dev.bit (BLK_EVF 0x75) 0 2 = true ∧ OnlyRegs s t [AUS_STAT.key 0 0, (BLK_EVF 0x75).key 0 0, EVT_LOST.key 0 0, EVT_LOSTSRC.key 0 0, (BLK_EVF 0x07).key 0 0])) ∧
  (∀ (s : State) (t0 l q : Nat),
    s.dev.variant = .px4840 ∧ l < s.dev.variant.lanes ∧ s.dev.up .link = true ∧ s.dev.bit AUS_STAT 0 (8 + l) = true ∧ s.dev.bit AUS_STAT 0 (9 - l) = false →
    8 ≤ (s.dev.lane l).run ∨ 20000 ≤ q →
    Ends (.laneDown t0 l q) s (fun t =>
      t.dev.partnerState = 7 ∧ t.dev.bit AUS_STAT 0 8 = false ∧ t.dev.bit AUS_STAT 0 9 = false ∧ t.dev.bit (BLK_EVF 0x75) 0 2 = true ∧
      (s.dev.partnerState ≠ 7 → t.dev.bit (BLK_EVF 0x75) 0 1 = true) ∧
      (s.dev.pstate = 2 → t.dev.pstate = 1) ∧ (s.dev.pstate = 3 → t.dev.pstate = 3 ∧ t.dev.pair.takeNext = some 3) ∧ (s.dev.pstate ∉ [2, 3] → t.dev.pstate = s.dev.pstate) ∧
      Quiet s t)) ∧
  (∀ (s : State) (t0 l q : Nat),
    s.dev.variant = .px4840 ∧ l < s.dev.variant.lanes ∧ s.dev.up .link = true ∧ s.dev.bit AUS_STAT 0 (8 + l) = false ∧ 1000 ≤ q ∧ s.dev.bankOff 5 = false →
    Ends (.laneUp t0 l q) s (fun t =>
      t.dev.bit AUS_STAT 0 (8 + l) = true ∧ t.dev.bit (BLK_EVF 0x75) 0 2 = true ∧
      OnlyRegs s t [AUS_STAT.key 0 0, (BLK_EVF 0x75).key 0 0, EVT_LOST.key 0 0, EVT_LOSTSRC.key 0 0, (BLK_EVF 0x07).key 0 0])) ∧
  (∀ (s : State) (t0 : Nat),
    s.dev.variant = .px4840 ∧ s.dev.pstate = 1 ∧ s.dev.bit AUS_STAT 0 8 = false ∧ s.dev.bit AUS_STAT 0 9 = false ∧ s.dev.bit AUS_STAT 0 16 = false →
    s.dev.pair.waitFrom + max 1 (bits s.dev.pair.cfg 15 0) * 1000000 ≤ t0 →
    Ends (.waitTimeout t0) s (fun t =>
      let e := (s.dev.newestEpoch + 1 + b2n (s.dev.bit AUS_STAT 0 4)) % 65536
      t.dev.pstate = 4 ∧ t.dev.fld AUS_EPOCH 0 15 0 = e ∧ t.dev.rd AUS_LASTTO 0 = w32 (5 + 65536 * e) ∧ t.dev.rd AUS_TOFRM 0 = s.dev.rd LPE_FRAMELO 0 ∧
      t.dev.fld MTR_ROLE 0 1 0 = 1 ∧ t.dev.rd CAB_TOKEN 0 = w32 (65536 * e + 256 * b2n (s.dev.bit AUS_STAT 0 4) + 3) ∧ t.dev.bit (BLK_EVF 0x75) 0 0 = true ∧ Quiet s t)) ∧
  (∀ (s : State) (t0 : Nat),
    s.dev.pstate ≠ 1 ∨ s.dev.bit AUS_STAT 0 8 = true ∨ s.dev.bit AUS_STAT 0 9 = true ∨ s.dev.bit AUS_STAT 0 16 = true ∨ t0 < s.dev.pair.waitFrom + max 1 (bits s.dev.pair.cfg 15 0) * 1000000 →
    Ends (.waitTimeout t0) s (fun t =>
      t.dev.pair = s.dev.pair ∧ OnlyRegs s t [])) ∧
  (∀ (s : State) (t0 c : Nat) (b : Bool),
    s.dev.variant = .px4840 ∧ s.dev.pstate = 3 ∧ (s.dev.pair.takeDue = some c ∨ s.dev.pair.takeDue = none ∧ b = true ∧ c = 4) →
    Ends (.takeover t0 b) s (fun t =>
      let e := (s.dev.newestEpoch + 1 + b2n (s.dev.bit AUS_STAT 0 4)) % 65536
      t.dev.pstate = 4 ∧ t.dev.fld AUS_EPOCH 0 15 0 = e ∧ t.dev.rd AUS_LASTTO 0 = w32 (c + 65536 * e) ∧ t.dev.rd AUS_TOFRM 0 = s.dev.rd LPE_FRAMELO 0 ∧
      t.dev.fld MTR_ROLE 0 1 0 = 1 ∧ t.dev.rd CAB_TOKEN 0 = w32 (65536 * e + 256 * b2n (s.dev.bit AUS_STAT 0 4) + 3) ∧ t.dev.bit (BLK_EVF 0x75) 0 0 = true ∧ Quiet s t)) ∧
  (∀ (s : State) (t0 : Nat),
    s.dev.pstate ≠ 3 ∨ s.dev.pair.takeDue = none →
    Ends (.takeover t0 false) s (fun t =>
      t.dev.pair = s.dev.pair ∧ OnlyRegs s t [])) ∧
  (∀ (s : State) (t0 : Nat),
    s.dev.variant = .px4840 ∧ s.dev.pstate = 4 ∧ 2 ≤ s.dev.pair.demoteRun →
    Ends (.demotion t0) s (fun t =>
      t.dev.pstate = 1 ∧ t.dev.bit AUS_STAT 0 18 = true ∧ t.dev.bit (BLK_EVF 0x75) 0 3 = true ∧ t.dev.fld MTR_ROLE 0 1 0 = 2 ∧
      t.dev.rd CAB_TOKEN 0 = w32 (65536 * s.dev.fld AUS_EPOCH 0 15 0 + 256 * b2n (s.dev.bit AUS_STAT 0 4) + 2) ∧
      OnlyRegs s t [AUS_STAT.key 0 0, (BLK_EVF 0x75).key 0 0, TMB_STAT.key 0 0, MTR_ROLE.key 0 0, MTR_PAIRSTAT.key 0 0, CAB_TOKEN.key 0 0, EVT_LOST.key 0 0, EVT_LOSTSRC.key 0 0, (BLK_EVF 0x07).key 0 0])) ∧
  (∀ (s : State) (t0 : Nat),
    s.dev.pstate ≠ 4 ∨ s.dev.pair.demoteRun < 2 →
    Ends (.demotion t0) s (fun t =>
      t.dev.pair = s.dev.pair ∧ OnlyRegs s t [])) ∧
  (∀ (s : State) (i : Initiator) (v : Word) (n : Nat) (h : Heartbeat),
    Passes s i AUS_CTL n ∧ bitOf v 0 = true ∧ s.dev.pstate = 4 ∧ s.dev.partnerState = 3 ∧ s.dev.level = .normal ∧ s.dev.pair.hb = some h ∧ h.level = .normal ∧ (∀ c ∈ s.dev.txn.commits, c.needsAck = false ∨ c.ackAt.isSome = true) →
    Ends (.handover i v) s (fun t =>
      t.dev.pair.handAt = some s.dev.time ∧ t.dev.pstate = 4 ∧ OnlyRegs s t [])) ∧
  (∀ (s : State) (i : Initiator) (v : Word) (n : Nat),
    Passes s i AUS_CTL n ∧ bitOf v 0 = true →
    s.dev.pstate ≠ 4 ∨ s.dev.partnerState ≠ 3 ∨ s.dev.level ≠ .normal ∨ s.dev.pair.hb.all (fun h => decide (h.level ≠ .normal)) = true ∨ (∃ c ∈ s.dev.txn.commits, c.needsAck = true ∧ c.ackAt.isSome = false) →
    Ends (.handover i v) s (fun t =>
      t.dev.bit AUS_STAT 0 17 = true ∧ t.dev.pair.handAt = s.dev.pair.handAt ∧ t.dev.pstate = s.dev.pstate ∧ OnlyRegs s t [AUS_STAT.key 0 0])) ∧
  (∀ (s : State) (t0 seq k : Nat) (h : Heartbeat),
    s.dev.pstate = 1 ∧ s.dev.up .link = true ∧ (s.dev.bit AUS_STAT 0 8 = true ∨ s.dev.bit AUS_STAT 0 9 = true) ∧ s.dev.pair.seqIn ≤ seq ∧ s.dev.bankOff 5 = false →
    h.role = b2n (s.dev.bit AUS_STAT 0 4) →
    Ends (.heartbeatReceive t0 seq k h) s (fun t =>
      t.dev.pstate = 1 ∧ (s.dev.variant = .px4840 ∧ s.dev.bit AUS_STAT 0 16 = false → t.dev.bit (BLK_EVF 0x75) 0 5 = true) ∧ t.dev.fld AUS_EPOCH 0 15 0 = s.dev.fld AUS_EPOCH 0 15 0)) ∧
  (∀ (s : State) (t0 seq k : Nat) (h : Heartbeat),
    s.dev.pstate = 1 ∧ s.dev.up .link = true ∧ (s.dev.bit AUS_STAT 0 8 = true ∨ s.dev.bit AUS_STAT 0 9 = true) ∧ s.dev.pair.seqIn ≤ seq ∧ s.dev.bankOff 5 = false →
    h.role ≠ b2n (s.dev.bit AUS_STAT 0 4) ∧ h.pstate ≠ 4 ∧ (h.pstate ≠ 1 ∨ s.dev.bit AUS_STAT 0 4 = true) →
    Ends (.heartbeatReceive t0 seq k h) s (fun t =>
      t.dev.pstate = 1 ∧ t.dev.fld AUS_EPOCH 0 15 0 = s.dev.fld AUS_EPOCH 0 15 0)) ∧
  (∀ (s : State) (t0 seq k : Nat) (h : Heartbeat),
    s.dev.pstate ≠ 0 ∧ s.dev.up .link = true ∧ (s.dev.bit AUS_STAT 0 8 = true ∨ s.dev.bit AUS_STAT 0 9 = true) ∧ s.dev.pair.seqIn ≤ seq ∧ s.dev.bankOff 5 = false →
    s.dev.bit TMB_STAT 0 4 = true ∧ h.role ≠ b2n (s.dev.bit AUS_STAT 0 4) →
    Ends (.heartbeatReceive t0 seq k h) s (fun t =>
      t.dev.rd TMB_RATE 0 = h.rate ∧ t.dev.rd TMB_OFFSLO 0 = h.offsLo ∧ t.dev.rd TMB_OFFSHI 0 = h.offsHi ∧ t.dev.rd TMB_UTC 0 = h.utc)) ∧
  (∀ (s : State) (t0 l n ns : Nat),
    s.dev.variant.lanes ≤ l ∨ s.dev.up .link = false ∨ s.dev.bit AUS_STAT 0 (8 + l) = false ∨ ns < 2000 →
    Ends (.ausalReplay t0 l n ns) s (fun t =>
      t.dev.pair = s.dev.pair ∧ OnlyRegs s t [])) ∧
  (∀ (s : State) (t0 l q : Nat),
    s.dev.variant.lanes ≤ l ∨ s.dev.up .link = false ∨ s.dev.bit AUS_STAT 0 (8 + l) = false ∨ ((s.dev.lane l).run < 8 ∧ q < 20000) →
    Ends (.laneDown t0 l q) s (fun t =>
      t.dev.pair = s.dev.pair ∧ OnlyRegs s t [])) ∧
  (∀ (s : State) (t0 l q : Nat),
    s.dev.variant.lanes ≤ l ∨ s.dev.up .link = false ∨ s.dev.bit AUS_STAT 0 (8 + l) = true ∨ q < 1000 ∨ s.dev.bankOff 5 = true →
    Ends (.laneUp t0 l q) s (fun t =>
      t.dev.pair = s.dev.pair ∧ OnlyRegs s t [])) ∧
  (∀ (s : State) (i : Initiator) (v : Word) (n : Nat),
    Passes s i AUS_CTL n ∧ bitOf v 0 = false →
    Ends (.handover i v) s (fun t =>
      t.dev.pair.handAt = s.dev.pair.handAt ∧ t.dev.pstate = s.dev.pstate ∧ OnlyRegs s t []))

/-- A standby holds the mirrored state, commits and copies; log entries queue by source and are written at the next slot. (R703, R705, R706, R707, R708, R709, R720, R721, R722, R723, spec/18_pair_and_recovery.md) -/
def Obligations.MirrorsCopiesAndTheEventLog : Prop :=
  (∀ (s : State) (t0 seq : Nat) (m : FrameMirror) (c : CtxMirror),
    (s.dev.pstate = 2 ∨ s.dev.pstate = 3) ∧ s.dev.up .link = true ∧ s.dev.up .control = true ∧ (s.dev.bit AUS_STAT 0 8 = true ∨ s.dev.bit AUS_STAT 0 9 = true) ∧ s.dev.pair.seqIn ≤ seq →
    s.dev.bankOff 5 = false ∧ m.ctxs = [c] ∧ c.ctx < s.dev.variant.contexts →
    Ends (.frameMirrorReceive t0 seq m) s (fun t =>
      t.dev.pair.mirrorFrame = m.frame ∧ t.dev.pair.seqIn = seq + 1 ∧ t.dev.pstate = s.dev.pstate ∧
      (∀ k : Nat, k < 14 → t.dev.rd (coefReg c.ctx (0x100 + 4 * k)) 0 = c.st.getD k 0) ∧ t.dev.rd LPE_OUT c.ctx = c.out ∧ t.dev.rd LPE_MISSCNT c.ctx = c.misscnt ∧
      (∀ o : Nat, o < s.dev.variant.outlets → t.dev.rd SHR_CLAIM o = m.claims.getD o 0) ∧ t.dev.rd SHR_CYCFRM 0 = w32 m.cycFrame ∧
      OnlyPages s t [0x28, 0x38, 0x39, 0x3C, 0x3E, 0x100 + c.ctx])) ∧
  (∀ (s : State) (t0 seq : Nat) (m : FrameMirror),
    s.dev.pstate < 2 ∨ 4 ≤ s.dev.pstate ∨ seq < s.dev.pair.seqIn ∨ s.dev.up .link = false ∨ s.dev.up .control = false ∨ (s.dev.bit AUS_STAT 0 8 = false ∧ s.dev.bit AUS_STAT 0 9 = false) ∨ s.dev.bankOff 5 = true →
    Ends (.frameMirrorReceive t0 seq m) s (fun t =>
      t.dev.pair = s.dev.pair ∧ OnlyRegs s t [])) ∧
  (∀ (s : State) (t0 page off inst n : Nat) (v : Word) (r : RegRow),
    page ∈ [0x28, 0x38, 0x39, 0x3A, 0x3C, 0x58, 0x59] ∧ (page, off) ∉ [(0x38, 0x454), (0x58, 0x04C)] ∧ 0x040 ≤ off ∧ onMap page off = true →
    (s.dev.pstate = 2 ∨ s.dev.pstate = 3) ∧ s.dev.up .link = true ∧ (s.dev.bit AUS_STAT 0 8 = true ∨ s.dev.bit AUS_STAT 0 9 = true) ∧ s.dev.mirrored page = true →
    s.dev.gateAt .mirror page off inst false = .pass n ∧ rowOf s.dev.variant page off = some r ∧ r.banked = false →
    Ends (.mirroredWrite t0 page off inst v) s (fun t =>
      t.dev.rd (regAt s.dev.variant page off) n = (fieldWrite r (s.dev.rd (regAt s.dev.variant page off) n) v (s.dev.sealOpen .mirror) false).1 ∧
      OnlyRegs s t [(regAt s.dev.variant page off).key n 0, (BLK_ERR page).key 0 0])) ∧
  (∀ (s : State) (t0 page off inst : Nat) (v : Word),
    s.dev.pstate < 2 ∨ 4 ≤ s.dev.pstate ∨ s.dev.mirrored page = false ∨ onMap page off = false ∨ s.dev.up .link = false ∨ (s.dev.bit AUS_STAT 0 8 = false ∧ s.dev.bit AUS_STAT 0 9 = false) →
    Ends (.mirroredWrite t0 page off inst v) s (fun t =>
      t.dev.pair = s.dev.pair ∧ OnlyRegs s t [])) ∧
  (∀ (s : State) (t0 : Nat) (i : Initiator) (ws : List PendWrite) (c : Commit),
    s.dev.up .link = true ∧ (s.dev.bit AUS_STAT 0 8 = true ∨ s.dev.bit AUS_STAT 0 9 = true) ∧ s.dev.pstate = 4 →
    s.dev.txn.commits.find? (fun c => decide (c.init = i) && c.needsAck && c.ackAt.isNone && c.validAt.isSome) = some c →
    Ends (.mirrorCommitAck t0 i ws) s (fun t =>
      t.dev.txn.commits = s.dev.txn.commits.map (fun x => if x.seq = c.seq then { c with ackAt := some t0 } else x) ∧
      t.dev.pair.mirrorOut = s.dev.pair.mirrorOut.filter (fun w => !c.staged.contains w) ∧ OnlyRegs s t [])) ∧
  (∀ (s : State) (t0 : Nat) (i : Initiator) (ws : List PendWrite),
    s.dev.up .link = true ∧ (s.dev.bit AUS_STAT 0 8 = true ∨ s.dev.bit AUS_STAT 0 9 = true) ∧ (s.dev.pstate = 2 ∨ s.dev.pstate = 3) →
    Ends (.mirrorCommitAck t0 i ws) s (fun t =>
      t.dev.pair.commitsIn = s.dev.pair.commitsIn ++ [(ws, t0)] ∧ t.dev.txn = s.dev.txn ∧ OnlyRegs s t [])) ∧
  (∀ (s : State) (t0 : Nat) (c : SyncCopy),
    s.dev.up .link = true ∧ (s.dev.bit AUS_STAT 0 8 = true ∨ s.dev.bit AUS_STAT 0 9 = true) ∧ s.dev.pstate = 4 ∧ s.dev.partnerState = 2 →
    Ends (.syncCopy t0 c) s (fun t =>
      t.dev.pair.copyOut.map SyncCopy.frame = some s.dev.frame ∧ t.dev.pair.copyOut.map SyncCopy.regs = some s.dev.syncOut.regs ∧ t.dev.pair.seqOut = s.dev.pair.seqOut + 1 ∧ OnlyRegs s t [])) ∧
  (∀ (s : State) (t0 : Nat) (c : SyncCopy),
    s.dev.up .link = true ∧ (s.dev.bit AUS_STAT 0 8 = true ∨ s.dev.bit AUS_STAT 0 9 = true) ∧ s.dev.pstate = 2 →
    Ends (.syncCopy t0 c) s (fun t =>
      t.dev.pair.copyIn = some c ∧ OnlyRegs s t [])) ∧
  (∀ (s : State) (i : Initiator) (v : Word) (n : Nat),
    Passes s i EVT_SWPUT n ∧ 0x80 ≤ bits v 7 0 ∧ (s.dev.logSrc 4).lost = 0 ∧ (s.dev.logSrc 4).fifo.length < 16 →
    Ends (.firmwareEventPut i v) s (fun t =>
      (t.dev.logSrc 4).nextSeq = (s.dev.logSrc 4).nextSeq + 1 ∧ (t.dev.logSrc 4).fifo = (s.dev.logSrc 4).fifo ++ [{ code := bits v 7 0, sseq := (s.dev.logSrc 4).nextSeq, stamp := s.dev.time, data := (List.range 9).flatMap (fun w => leBytes 4 (s.dev.rdI (EVT_SWDATA w) i).toNat) }] ∧
      (∀ k : Nat, k < 32 → k ≠ 4 → t.dev.logSrc k = s.dev.logSrc k) ∧ OnlyRegs s t [])) ∧
  (∀ (s : State) (i : Initiator) (v : Word) (n : Nat),
    Passes s i EVT_SWPUT n ∧ 0x80 ≤ bits v 7 0 ∧ 16 ≤ (s.dev.logSrc 4).fifo.length →
    Ends (.firmwareEventPut i v) s (fun t =>
      (t.dev.logSrc 4).fifo = (s.dev.logSrc 4).fifo ∧ (t.dev.logSrc 4).lost = (s.dev.logSrc 4).lost + 1 ∧ t.dev.fld EVT_LOST 0 31 0 = min (s.dev.fld EVT_LOST 0 31 0 + 1) 0xFFFFFFFF ∧
      t.dev.bit EVT_LOSTSRC 0 4 = true ∧ t.dev.bit (BLK_EVF 0x07) 0 1 = true ∧ OnlyRegs s t [EVT_LOST.key 0 0, EVT_LOSTSRC.key 0 0, (BLK_EVF 0x07).key 0 0])) ∧
  (∀ (s : State) (i : Initiator) (v : Word) (n : Nat),
    Passes s i EVT_SWPUT n ∧ bits v 7 0 < 0x80 ∧ s.dev.bit (BLK_ERR 0x07) 0 31 = false →
    Ends (.firmwareEventPut i v) s (fun t =>
      t.dev.rd (BLK_ERR 0x07) 0 = errWord 7 i 0x074 ∧ t.dev.log = s.dev.log ∧ OnlyRegs s t [(BLK_ERR 0x07).key 0 0])) ∧
  (∀ (s : State) (t0 src : Nat) (e : LogEntry) (rest : List LogEntry),
    (s.dev.logSrc src).fifo = e :: rest ∧ s.dev.pwr.phase ≠ .off ∧ s.dev.rd EVT_COUNT 0 ≠ 0 →
    Ends (.logEntryWrite t0 src) s (fun t =>
      let n := ((s.dev.rd EVT_HEAD 0).toNat + 1) % 2 ^ 32
      t.sys.read (logAddr n) 64 = logBytes src n e ∧ BytesKept s t (logAddr n) 64 ∧ (t.dev.logSrc src).fifo = rest ∧
      (src < 16 ∧ s.dev.pstate ≠ 0 ∧ s.dev.up .link = true ∧ (s.dev.bit AUS_STAT 0 8 = true ∨ s.dev.bit AUS_STAT 0 9 = true) → t.dev.pair.logOut = some (src, e)) ∧
      t.dev.rd EVT_HEAD 0 = w32 n ∧ t.dev.rd EVT_COUNT 0 = w32 (min ((s.dev.rd EVT_COUNT 0).toNat + 1) 16384) ∧ t.dev.bit (BLK_EVF 0x07) 0 0 = true ∧
      RegsKept s t [EVT_HEAD.key 0 0, EVT_COUNT.key 0 0, (BLK_EVF 0x07).key 0 0] ∧ t.pending = s.pending ∧ t.sys.fuses = s.sys.fuses)) ∧
  (∀ (s : State) (t0 src : Nat),
    (s.dev.logSrc src).fifo = [] ∨ s.dev.pwr.phase = .off →
    Ends (.logEntryWrite t0 src) s (fun t =>
      t.dev.log = s.dev.log ∧ OnlyRegs s t [])) ∧
  (∀ (s : State) (t0 src code q st : Nat) (b : List Byte),
    s.dev.pstate ≠ 0 ∧ s.dev.up .link = true ∧ (s.dev.bit AUS_STAT 0 8 = true ∨ s.dev.bit AUS_STAT 0 9 = true) ∧ src < 10 ∧ (s.dev.logSrc (16 + src)).lost = 0 ∧ (s.dev.logSrc (16 + src)).fifo.length < 16 →
    Ends (.partnerLogEntry t0 src code q st b) s (fun t =>
      (t.dev.logSrc (16 + src)).fifo = (s.dev.logSrc (16 + src)).fifo ++ [{ code, sseq := q, stamp := st, data := b }] ∧ (∀ k : Nat, k < 32 → k ≠ 16 + src → t.dev.logSrc k = s.dev.logSrc k) ∧ OnlyRegs s t [])) ∧
  (∀ (s : State) (t0 src code q st : Nat) (b : List Byte),
    s.dev.pstate ≠ 0 ∧ s.dev.up .link = true ∧ (s.dev.bit AUS_STAT 0 8 = true ∨ s.dev.bit AUS_STAT 0 9 = true) ∧ src < 10 ∧ 16 ≤ (s.dev.logSrc (16 + src)).fifo.length →
    Ends (.partnerLogEntry t0 src code q st b) s (fun t =>
      (t.dev.logSrc (16 + src)).fifo = (s.dev.logSrc (16 + src)).fifo ∧ (t.dev.logSrc (16 + src)).lost = (s.dev.logSrc (16 + src)).lost + 1 ∧ t.dev.bit EVT_LOSTSRC 0 (16 + src) = true ∧ t.dev.bit (BLK_EVF 0x07) 0 1 = true ∧
      OnlyRegs s t [EVT_LOST.key 0 0, EVT_LOSTSRC.key 0 0, (BLK_EVF 0x07).key 0 0])) ∧
  (∀ (s : State) (t0 : Nat) (i : Initiator) (ws : List PendWrite),
    s.dev.up .link = false ∨ (s.dev.bit AUS_STAT 0 8 = false ∧ s.dev.bit AUS_STAT 0 9 = false) ∨ s.dev.pstate < 2 ∨ 4 < s.dev.pstate ∨ (s.dev.pstate = 4 ∧ ∀ c ∈ s.dev.txn.commits, c.init ≠ i ∨ c.needsAck = false ∨ c.ackAt.isSome = true ∨ c.validAt = none) →
    Ends (.mirrorCommitAck t0 i ws) s (fun t =>
      t.dev.pair = s.dev.pair ∧ t.dev.txn = s.dev.txn ∧ OnlyRegs s t [])) ∧
  (∀ (s : State) (t0 : Nat) (c : SyncCopy),
    s.dev.up .link = false ∨ (s.dev.bit AUS_STAT 0 8 = false ∧ s.dev.bit AUS_STAT 0 9 = false) ∨ (s.dev.pstate ≠ 2 ∧ (s.dev.pstate ≠ 4 ∨ s.dev.partnerState ≠ 2)) →
    Ends (.syncCopy t0 c) s (fun t =>
      t.dev.pair = s.dev.pair ∧ OnlyRegs s t [])) ∧
  (∀ (s : State) (i : Initiator) (v : Word) (n : Nat),
    Passes s i EVT_SWPUT n ∧ 0x80 ≤ bits v 7 0 ∧ 0 < (s.dev.logSrc 4).lost ∧ (s.dev.logSrc 4).fifo.length < 15 →
    Ends (.firmwareEventPut i v) s (fun t =>
      (t.dev.logSrc 4).nextSeq = (s.dev.logSrc 4).nextSeq + 2 ∧ (t.dev.logSrc 4).lost = 0 ∧
      (t.dev.logSrc 4).fifo = (s.dev.logSrc 4).fifo ++ [{ code := 0x0F, sseq := (s.dev.logSrc 4).nextSeq, stamp := (s.dev.logSrc 4).lostAt, data := leBytes 1 4 ++ leBytes 2 (min (s.dev.logSrc 4).lost 65535) }, { code := bits v 7 0, sseq := (s.dev.logSrc 4).nextSeq + 1, stamp := s.dev.time, data := (List.range 9).flatMap (fun w => leBytes 4 (s.dev.rdI (EVT_SWDATA w) i).toNat) }] ∧
      (∀ k : Nat, k < 32 → k ≠ 4 → t.dev.logSrc k = s.dev.logSrc k) ∧ OnlyRegs s t [])) ∧
  (∀ (s : State) (i : Initiator) (v : Word) (n : Nat),
    Passes s i EVT_SWPUT n ∧ 0x80 ≤ bits v 7 0 ∧ 0 < (s.dev.logSrc 4).lost ∧ (s.dev.logSrc 4).fifo.length = 15 →
    Ends (.firmwareEventPut i v) s (fun t =>
      (t.dev.logSrc 4).fifo = (s.dev.logSrc 4).fifo ∧ (t.dev.logSrc 4).lost = (s.dev.logSrc 4).lost + 1 ∧ t.dev.bit EVT_LOSTSRC 0 4 = true ∧ t.dev.bit (BLK_EVF 0x07) 0 1 = true ∧ OnlyRegs s t [EVT_LOST.key 0 0, EVT_LOSTSRC.key 0 0, (BLK_EVF 0x07).key 0 0])) ∧
  (∀ (s : State) (i : Initiator) (v : Word) (n : Nat),
    Passes s i EVT_SWPUT n ∧ bits v 7 0 < 0x80 ∧ s.dev.bit (BLK_ERR 0x07) 0 31 = true →
    Ends (.firmwareEventPut i v) s (fun t =>
      t.dev.log = s.dev.log ∧ OnlyRegs s t [])) ∧
  (∀ (s : State) (t0 src : Nat) (e : LogEntry) (rest : List LogEntry),
    (s.dev.logSrc src).fifo = e :: rest ∧ s.dev.pwr.phase ≠ .off ∧ s.dev.rd EVT_COUNT 0 = 0 →
    Ends (.logEntryWrite t0 src) s (fun t =>
      let n := (t.dev.rd EVT_HEAD 0).toNat
      t.sys.read (logAddr n) 64 = logBytes src n e ∧ BytesKept s t (logAddr n) 64 ∧ (t.dev.logSrc src).fifo = rest ∧
      t.dev.rd EVT_COUNT 0 = 1 ∧ t.dev.bit (BLK_EVF 0x07) 0 0 = true ∧
      RegsKept s t [EVT_HEAD.key 0 0, EVT_COUNT.key 0 0, (BLK_EVF 0x07).key 0 0] ∧ t.pending = s.pending ∧ t.sys.fuses = s.sys.fuses)) ∧
  (∀ (s : State) (t0 src code q st : Nat) (b : List Byte),
    s.dev.pstate ≠ 0 ∧ s.dev.up .link = true ∧ (s.dev.bit AUS_STAT 0 8 = true ∨ s.dev.bit AUS_STAT 0 9 = true) ∧ src < 10 ∧ 0 < (s.dev.logSrc (16 + src)).lost ∧ (s.dev.logSrc (16 + src)).fifo.length < 15 →
    Ends (.partnerLogEntry t0 src code q st b) s (fun t =>
      (t.dev.logSrc (16 + src)).lost = 0 ∧ (t.dev.logSrc (16 + src)).fifo.length = (s.dev.logSrc (16 + src)).fifo.length + 2 ∧
      (t.dev.logSrc (16 + src)).fifo.getLast? = some { code, sseq := q, stamp := st, data := b } ∧ (∀ k : Nat, k < 32 → k ≠ 16 + src → t.dev.logSrc k = s.dev.logSrc k) ∧ OnlyRegs s t [])) ∧
  (∀ (s : State) (t0 src code q st : Nat) (b : List Byte),
    s.dev.pstate = 0 ∨ s.dev.up .link = false ∨ (s.dev.bit AUS_STAT 0 8 = false ∧ s.dev.bit AUS_STAT 0 9 = false) ∨ 10 ≤ src →
    Ends (.partnerLogEntry t0 src code q st b) s (fun t =>
      t.dev.log = s.dev.log ∧ OnlyRegs s t []))
end

