-- ==== Sys2Proof/Laws/Hash.lean ====
section
/-! SUPPORT. Lengths of hashes, and for every message and well-shaped signature a public key under which it verifies: the
requests that carry an AUTH are not vacuous. -/
namespace Sys2Proof.Machine

theorem leBytes_length (n v : Nat) : (leBytes n v).length = n := by simp [leBytes]

theorem beBytes_length (n v : Nat) : (beBytes n v).length = n := by simp [beBytes, leBytes_length]

theorem sha256_length (l : List Byte) : (sha256 l).length = 32 := by
  simp [sha256, shaHash, ShaRegs.words, beBytes_length]

theorem hashN_length (n : Nat) (l : List Byte) (h : n ≤ 32) : (hashN n l).length = n := by simp [hashN, sha256_length, h]

theorem lmsClimb_length (m : Nat) (hm : m ≤ 32) (id : List Byte) (k r : Nat) (p x : List Byte) (hx : x.length = m) :
    (lmsClimb m id k r p x).length = m := by
  induction k generalizing r p x with
  | zero => exact hx
  | succ k ih => exact ih _ _ _ (hashN_length _ _ hm)

theorem slice_left (a b : List Byte) (i n : Nat) (h : i + n ≤ a.length) : slice (a ++ b) i n = slice a i n := by
  unfold slice
  refine List.map_congr_left (fun k hk => ?_)
  have : i + k < a.length := by have := List.mem_range.1 hk; omega
  simp [List.getD_eq_getElem?_getD, List.getElem?_append_left this]

theorem slice_right (a b : List Byte) : slice (a ++ b) a.length b.length = b := by
  unfold slice
  refine List.ext_getElem (by simp) (fun k h1 h2 => ?_)
  simp [List.getD_eq_getElem?_getD, h2]

/-! ### A signature under a key made for it -/

/-- A signature of one level, LMOTS_SHA256_N24_W8 and LMS_SHA256_M24_H5, of leaf 0, with every hash zero. -/
def zeroSig : List Byte :=
  [0, 0, 0, 0, 0, 0, 0, 0, 0, 0, 0, 8] ++ List.replicate 648 0 ++ [0, 0, 0, 10] ++ List.replicate 120 0

/-- The head of the LMS key of those types with a zero identifier. -/
def zeroHead : List Byte := [0, 0, 0, 10, 0, 0, 0, 8] ++ List.replicate 16 0

/-- The root to which the zero signature of a message leads. -/
def zeroRoot (msg : List Byte) : List Byte :=
  let sig := zeroSig.drop 4
  let id := slice zeroHead 8 16
  let pre := id ++ slice sig 0 4
  let k := otsCandidate ⟨24, 8, 26, 0⟩ pre (slice sig 8 24) (slice sig 32 624) msg
  lmsClimb 24 id 5 (2 ^ 5 + beNat (slice sig 0 4)) (slice sig 660 120) (hashN 24 (id ++ beBytes 4 (2 ^ 5 + beNat (slice sig 0 4)) ++ [0x82, 0x82] ++ k))

/-- The HSS public key under which the zero signature signs a message. -/
def zeroKey (msg : List Byte) : List Byte := [0, 0, 0, 1] ++ (zeroHead ++ zeroRoot msg)

theorem zeroRoot_length (msg : List Byte) : (zeroRoot msg).length = 24 :=
  lmsClimb_length 24 (by omega) _ _ _ _ _ (hashN_length _ _ (by omega))

theorem zeroKey_types (msg : List Byte) : lmsTypes (zeroHead ++ zeroRoot msg) = some (⟨24, 8, 26, 0⟩, 24, 5) := by
  unfold lmsTypes
  rw [slice_left _ _ 0 4 (by decide), slice_left _ _ 4 4 (by decide)]
  rfl

theorem zeroKey_lms (msg : List Byte) : lmsVerify (zeroHead ++ zeroRoot msg) msg (zeroSig.drop 4) = true := by
  have h1 : slice (zeroHead ++ zeroRoot msg) 24 24 = zeroRoot msg := by
    have h := slice_right zeroHead (zeroRoot msg)
    rw [zeroRoot_length] at h
    exact h
  have h2 : (zeroHead ++ zeroRoot msg).length = 48 := by rw [List.length_append, zeroRoot_length]; rfl
  unfold lmsVerify
  rw [zeroKey_types]
  simp only []
  rw [slice_left _ _ 8 16 (by decide), slice_left _ _ 4 4 (by decide), slice_left _ _ 0 4 (by decide), h1, h2]
  rw [Bool.and_eq_true, Bool.and_eq_true, Bool.and_eq_true, Bool.and_eq_true, Bool.and_eq_true]
  exact ⟨⟨⟨⟨⟨by decide +kernel, by decide⟩, by decide +kernel⟩, by decide +kernel⟩, by decide +kernel⟩, decide_eq_true rfl⟩

/-- The zero signature verifies under the key made for the message. -/
theorem zeroKey_verifies (msg : List Byte) : hssVerify (zeroKey msg) msg zeroSig = true := by
  have h0 : slice (zeroKey msg) 0 4 = [0, 0, 0, 1] := slice_left _ _ 0 4 (by decide)
  have h1 : 4 ≤ (zeroKey msg).length := by simp [zeroKey]
  have hd : (zeroKey msg).drop 4 = zeroHead ++ zeroRoot msg := rfl
  have h2 : beNat (slice zeroSig 0 4) = 0 := by decide +kernel
  have h3 : beNat [0, 0, 0, 1] = 1 := by decide
  unfold hssVerify
  rw [h0, hd, h2, h3]
  simp only [Bool.and_eq_true, decide_eq_true_eq]
  refine ⟨⟨⟨⟨⟨h1, by omega⟩, by omega⟩, by decide +kernel⟩, by decide +kernel⟩, ?_⟩
  unfold hssDown
  rw [zeroKey_types]
  exact zeroKey_lms msg

/-- A request of role 3 to 5 that carries the zero signature under the key made for it passes its check. -/
theorem Dev.bilAuth_zero (d : Dev) (i : Initiator) (q : BilReq) (n a : Nat) (hr : 3 ≤ q.role ∧ q.role ≤ 5) (hu : d.up .key = true)
    (hc : d.bil.openCh = some (n, a)) (ht : d.time < a + 60000000000) (hs : q.auth = zeroSig)
    (hk : kvGet d.bil.roleKeys q.role [] = zeroKey (sha256 (d.devId ++ leBytes 8 n ++ q.signedPart))) : (d.bilAuth i q).1 = none := by
  have hn : zeroKey (sha256 (d.devId ++ leBytes 8 n ++ q.signedPart)) ≠ [] := by simp [zeroKey]
  unfold Dev.bilAuth
  rw [if_neg (by omega), if_neg (by omega), if_pos hr, hu, hc, hk, hs]
  simp only [Bool.not_true, Bool.false_eq_true, if_false]
  rw [if_pos ⟨ht, hn, zeroKey_verifies _⟩]

end Sys2Proof.Machine
end

