-- ==== Sys2Proof/Laws/Memory.lean ====
section
/-! SUPPORT. Laws of the memories: every operation keeps the canonical form, a read after a write, and what a write leaves
alone. -/
namespace Sys2Proof.Machine

theorem memWf_iff (m : KV Byte) : memWf m = true ↔ kvSorted m = true ∧ ∀ p ∈ m, p.2 ≠ 0 ∧ 0x10000 ≤ p.1 := by
  simp [memWf, List.all_eq_true]

theorem memWf_nil : memWf [] = true := rfl

theorem memPut_wf {m : KV Byte} (a : Nat) (b : Byte) (h : memWf m = true) : memWf (memPut m a b) = true := by
  unfold memPut
  split
  · exact h
  · rename_i ha
    obtain ⟨hs, hv⟩ := (memWf_iff m).1 h
    refine (memWf_iff _).2 ⟨kvSet_sorted a b 0 hs, ?_⟩
    intro p hp
    unfold kvSet at hp
    split at hp
    · exact hv p (kvDel_mem hp)
    · rename_i hb
      rcases kvPut_mem hp with rfl | hp
      · exact ⟨hb, by show 0x10000 ≤ a; omega⟩
      · exact hv p hp

theorem memWrite_wf {m : KV Byte} (a : Nat) (l : List Byte) (h : memWf m = true) : memWf (memWrite m a l) = true := by
  induction l generalizing m a with
  | nil => exact h
  | cons b r ih => exact ih (a + 1) (memPut_wf a b h)

theorem memWipe_wf {m : KV Byte} (lo hi : Nat) (h : memWf m = true) : memWf (memWipe m lo hi) = true := by
  obtain ⟨hs, hv⟩ := (memWf_iff m).1 h
  exact (memWf_iff _).2 ⟨kvFilter_sorted _ hs, fun p hp => hv p (List.mem_of_mem_filter hp)⟩

theorem memByte_memPut_other (m : KV Byte) {a c : Nat} (h : c ≠ a) (b : Byte) : memByte (memPut m a b) c = memByte m c := by
  unfold memByte memPut
  split
  · rfl
  · split
    · rfl
    · exact kvGet_kvSet_other m h b 0 0

theorem memByte_memPut_same (m : KV Byte) {a : Nat} (h : 0x10000 ≤ a) (b : Byte) : memByte (memPut m a b) a = b := by
  have h' : ¬ a < 0x10000 := by omega
  simp [memByte, memPut, h']

/-- The boot ROM keeps its contents. -/
theorem memByte_rom (m : KV Byte) {a : Nat} (h : a < 0x10000) : memByte m a = Config.bootRom a := by simp [memByte, h]

/-- A write leaves every byte outside its range alone. -/
theorem memByte_memWrite_outside (m : KV Byte) (a : Nat) (l : List Byte) {c : Nat} (h : c < a ∨ a + l.length ≤ c) :
    memByte (memWrite m a l) c = memByte m c := by
  induction l generalizing m a with
  | nil => rfl
  | cons b r ih =>
    simp only [memWrite, List.length_cons] at *
    rw [ih (memPut m a b) (a + 1) (by omega), memByte_memPut_other m (by omega)]

/-- A byte in a write's range reads as written, above the boot ROM. -/
theorem memByte_memWrite_inside (m : KV Byte) (a : Nat) (l : List Byte) (ha : 0x10000 ≤ a) {n : Nat} (h : n < l.length) :
    memByte (memWrite m a l) (a + n) = l[n] := by
  induction l generalizing m a n with
  | nil => simp at h
  | cons b r ih =>
    cases n with
    | zero =>
      simp only [memWrite, Nat.add_zero, List.getElem_cons_zero]
      rw [memByte_memWrite_outside _ _ _ (by omega), memByte_memPut_same m ha]
    | succ n =>
      have := ih (memPut m a b) (a + 1) (by omega) (n := n) (by simpa using h)
      simpa [memWrite, Nat.add_assoc, Nat.add_comm 1 n] using this

end Sys2Proof.Machine
end

