-- ==== Sys2Proof/Machine/Balls.lean ====
section
/-! DEFINITION. The balls of the packages (spec/19_package_electrical.md, R733-R735; spec/00_scope.md, R14, R22): the rows and
columns, the regions of the ball maps with their signals in order, and what each ball carries. -/
namespace Sys2Proof.Machine

/-- The two packages (R733). -/
inductive Package where
  | fcbga676 | fcbga484
  deriving DecidableEq, Repr

/-- The package of a part (Table 0.1). -/
def packageOf : Variant → Package
  | .px4840 | .px4824 => .fcbga676
  | .px4812 => .fcbga484

/-- The row names of the larger package in order; the smaller one has the first 22 (R22). -/
def rowNames : List String :=
  ["A", "B", "C", "D", "E", "F", "G", "H", "J", "K", "L", "M", "N", "P", "T", "U", "V", "W", "Y",
   "AA", "AB", "AC", "AD", "AE", "AF", "AG"]

/-- Rows and columns of a package's ball matrix, which is fully populated (Table 19.1). -/
def Package.side : Package → Nat
  | .fcbga676 => 26
  | .fcbga484 => 22

/-- A region of a ball map: its first and last row and column, and its signals in order (R734). -/
structure Region where
  row0 : String
  row1 : String
  col0 : Nat
  col1 : Nat
  signals : List String
  deriving DecidableEq, Repr

/-- The signals of a pattern, repeated for n = 0, 1, 2 and so on up to a count. -/
def repeated (count : Nat) (unit : String) (ends : List String) : List String :=
  (List.range count).flatMap (fun n => ends.map (fun e => unit ++ toString n ++ e))

/-- A numbered list of single signals. -/
def numbered (count : Nat) (unit : String) : List String := repeated count unit [""]

/-- The clock groups of the sigma-delta inputs. -/
def sdmClocks : Variant → Nat | .px4840 => 4 | .px4824 => 3 | .px4812 => 2

/-- The signals of each function group of a part, in the order of Table 19.2. -/
def xspiBalls : List String := repeated 2 "XSP" (["_SCLK", "_CS_N", "_DQS", "_RESET_N"] ++ (numbered 8 "_DQ"))
def controlBalls : List String := ["RESET_N", "PGOOD", "SEAL_A", "SEAL_B", "BOOTSEL0", "BOOTSEL1", "HOLD_N", "FAULT_N"]
def crystalBalls : List String := ["XTAL25_IN", "XTAL25_OUT", "XTAL32_IN", "XTAL32_OUT"]
def laneEnds : List String := ["_TXP", "_TXM", "_RXP", "_RXM"]
def plmBalls (v : Variant) : List String := repeated v.modems "PLM" ["_TXP", "_TXN", "_RXP", "_RXN", "_TXEN", "_VREF"]
def sinBalls (v : Variant) : List String := repeated v.inPairs "SIN" ["_A", "_B"] ++ numbered 4 "SINTP"
def soutBalls (v : Variant) : List String := repeated v.outPairs "SOUT" ["_HS", "_LS", "_HSRB", "_LSRB"]
def thmBalls (v : Variant) : List String := numbered v.thermals "THM"
def sdmBalls (v : Variant) : List String := repeated v.sdInputs "SDM" ["_D"]
def buckBalls : List String :=
  ["BUCK_SW0", "BUCK_SW0", "BUCK_SW1", "BUCK_SW1", "BUCK_SW2", "BUCK_SW2", "BUCK_SW3", "BUCK_SW3", "BUCK_FB"]
def vlkBalls (v : Variant) : List String := repeated v.outlets "VLK" ["_P", "_N"]
def pilBalls (v : Variant) : List String := repeated v.outlets "PIL" ["_DRV", "_SNS"]
def canBalls (v : Variant) : List String := repeated v.canCtls "PBS" ["_TX", "_RX"]
def serBalls (v : Variant) : List String := repeated v.uarts "SER" ["_TX", "_RX", "_DE"]
def debugBalls : List String := ["DBG_TCK", "DBG_TMS", "DBG_TDI", "DBG_TDO", "DBG_TRST_N", "DBG_SWO"]
def lswBalls (v : Variant) : List String := repeated v.loadSwitches "LSW" ["_G", "_OUT", "_CSP", "_CSN"]

/-- The regions of the two maps, each with the signals that the part's map lists (Tables 19.2 and 19.3). -/
def Package.regions : Package → List Region
  | .fcbga676 =>
    let v := Variant.px4840
    [⟨"A", "D", 1, 6, xspiBalls⟩,
     ⟨"A", "D", 7, 8, controlBalls⟩,
     ⟨"A", "D", 9, 9, crystalBalls⟩,
     ⟨"A", "D", 10, 13, repeated v.macs "ETH" laneEnds⟩,
     ⟨"A", "D", 14, 21, repeated v.cabinets "CAB" laneEnds⟩,
     ⟨"A", "D", 22, 23, repeated v.lanes "AUS" laneEnds⟩,
     ⟨"A", "D", 24, 26, plmBalls v⟩,
     ⟨"E", "K", 1, 6, sinBalls v⟩,
     ⟨"L", "U", 1, 6, soutBalls v ++ ["XTRIP_IN_N", "XTRIP_OUT_N"]⟩,
     ⟨"V", "AC", 1, 6, thmBalls v ++ ["THMREF", "THMRTN"]⟩,
     ⟨"E", "H", 7, 18, sdmBalls v ++ numbered (sdmClocks v) "SDMCLK"⟩,
     ⟨"L", "M", 7, 11, buckBalls⟩,
     ⟨"E", "H", 19, 26, vlkBalls v⟩,
     ⟨"J", "M", 19, 26, pilBalls v⟩,
     ⟨"N", "U", 19, 26, canBalls v⟩,
     ⟨"V", "W", 19, 26, numbered 16 "GPIO"⟩,
     ⟨"Y", "AC", 19, 26, serBalls v ++ numbered 3 "ZC" ++ debugBalls⟩,
     ⟨"AD", "AG", 1, 24, lswBalls v⟩,
     ⟨"AD", "AG", 25, 25, numbered 4 "ACQTRG"⟩,
     ⟨"AD", "AG", 26, 26, numbered 4 "PULSE"⟩]
  | .fcbga484 =>
    let v := Variant.px4812
    [⟨"A", "D", 1, 6, xspiBalls⟩,
     ⟨"A", "D", 7, 8, controlBalls⟩,
     ⟨"A", "D", 9, 9, crystalBalls⟩,
     ⟨"A", "D", 10, 11, repeated v.macs "ETH" laneEnds⟩,
     ⟨"A", "D", 12, 12, repeated v.cabinets "CAB" laneEnds⟩,
     ⟨"A", "D", 13, 14, vlkBalls v⟩,
     ⟨"A", "D", 15, 16, pilBalls v⟩,
     ⟨"A", "D", 17, 19, canBalls v⟩,
     ⟨"A", "D", 20, 22, serBalls v ++ numbered 3 "ZC"⟩,
     ⟨"E", "J", 1, 4, sinBalls v⟩,
     ⟨"K", "P", 1, 4, soutBalls v ++ ["XTRIP_IN_N", "XTRIP_OUT_N"]⟩,
     ⟨"T", "W", 1, 4, thmBalls v ++ ["THMREF", "THMRTN"]⟩,
     ⟨"K", "L", 9, 13, buckBalls⟩,
     ⟨"Y", "AC", 1, 8, lswBalls v⟩,
     ⟨"Y", "AC", 9, 9, numbered 4 "ACQTRG"⟩,
     ⟨"Y", "AC", 10, 10, numbered 4 "PULSE"⟩,
     ⟨"Y", "AC", 11, 14, numbered 16 "GPIO"⟩,
     ⟨"Y", "AC", 15, 16, debugBalls⟩,
     ⟨"Y", "AC", 17, 21, sdmBalls v ++ numbered (sdmClocks v) "SDMCLK"⟩,
     ⟨"Y", "AC", 22, 22, []⟩]

/-- The signals of the units that a part has, and those of no numbered unit. -/
def ballSignals (v : Variant) : List String :=
  xspiBalls ++ controlBalls ++ crystalBalls ++ repeated v.macs "ETH" laneEnds ++ repeated v.cabinets "CAB" laneEnds ++
  repeated v.lanes "AUS" laneEnds ++ plmBalls v ++ sinBalls v ++ soutBalls v ++ ["XTRIP_IN_N", "XTRIP_OUT_N"] ++ thmBalls v ++
  ["THMREF", "THMRTN"] ++ sdmBalls v ++ numbered (sdmClocks v) "SDMCLK" ++ buckBalls ++ vlkBalls v ++ pilBalls v ++ canBalls v ++
  numbered 16 "GPIO" ++ serBalls v ++ numbered 3 "ZC" ++ debugBalls ++ lswBalls v ++ numbered 4 "ACQTRG" ++ numbered 4 "PULSE"

/-- What a ball carries. -/
inductive Ball where
  | signal (name : String)
  /-- A signal of a unit that the part does not have: no connection inside the package (R14). -/
  | unconnected (name : String)
  | ground
  /-- A ball outside the regions: supply, ground or regulator (R735). -/
  | supply
  deriving DecidableEq, Repr

/-- The position of a ball within a region: row by row, within a row from the lowest column (R734). -/
def Region.place (g : Region) (row : String) (col : Nat) : Option Nat :=
  let r := rowNames.idxOf row
  let r0 := rowNames.idxOf g.row0
  if r0 ≤ r ∧ r ≤ rowNames.idxOf g.row1 ∧ g.col0 ≤ col ∧ col ≤ g.col1 then
    some ((r - r0) * (g.col1 + 1 - g.col0) + (col - g.col0))
  else none

/-- What the ball of a part at a row and column carries; none where the package has no such ball (R734, R735, R14). -/
def ballAt (v : Variant) (row : String) (col : Nat) : Option Ball :=
  let p := packageOf v
  if (rowNames.take p.side).contains row = false ∨ col = 0 ∨ p.side < col then none
  else match p.regions.findSome? (fun g => (g.place row col).map (fun k => g.signals[k]?)) with
    | none => some .supply
    | some none => some .ground
    | some (some n) => some (if (ballSignals v).contains n then .signal n else .unconnected n)

/-- Where a package has a signal: the balls that carry it, in the order of their region. -/
def Package.ballsOf (p : Package) (name : String) : List (String × Nat) :=
  p.regions.flatMap (fun g =>
    let w := g.col1 + 1 - g.col0
    (g.signals.zipIdx.filter (fun x => x.1 == name)).map (fun x =>
      (rowNames.getD (rowNames.idxOf g.row0 + x.2 / w) "", g.col0 + x.2 % w)))

/-- How many balls of each kind Table 19.4 gives a package: VSYS, VCORE, VAUX, each of VIO0 to VIO7, each of VAONCAP, VPLLCAP,
VIFCAP and VSDCAP, and GND. -/
structure SupplyBalls where
  vsys : Nat
  vcore : Nat
  vaux : Nat
  vio : Nat
  cap : Nat
  gnd : Nat
  deriving DecidableEq, Repr

/-- Table 19.4. -/
def Package.supplies : Package → SupplyBalls
  | .fcbga676 => ⟨14, 40, 6, 3, 1, 90⟩
  | .fcbga484 => ⟨12, 40, 6, 2, 1, 180⟩

end Sys2Proof.Machine
end

