-- ==== Sys2Proof/WellFormed.lean ====
section
/-! DEFINITION. Well-formed commands: each operand names something that the largest part (Table 0.1) has. A command that is
not well formed cannot be sent to the block; `exec` is total and gives it the effect of naming something absent. -/
namespace Sys2Proof

/-- A page of Table 2.3, or a coefficient block (0x100 + context). -/
def pageOk (page : Nat) : Bool := (Machine.pageInfo page).isSome || (decide (0x100 ≤ page) && decide (page < 0x180))

/-- The offset of a word of a page. -/
def offOk (off : Nat) : Bool := decide (off < 4096) && decide (off % 4 = 0)

/-- The access sizes of R50, and the others that it answers with a bus error. -/
def sizeOk (size : Nat) : Bool := decide (size = 1) || decide (size = 2) || decide (size = 4) || decide (size = 8)

/-- The operands of a command name what the part can have. -/
def Instr.wf (i : Instr) : Bool :=
  match i with
  | .registerWrite _ page off _ => pageOk page && offOk off
  | .busAccessError _ _ _ addr size _ => decide (addr < 2 ^ 32) && sizeOk size
  | .eventSet _ page _ => pageOk page
  | .pageLock _ page _ => pageOk page
  | .channelSelect _ page _ => pageOk page
  | .loReadLatch _ page off => pageOk page && offOk off
  | .txnBegin _ _ => true
  | .stagedWrite _ page off _ => pageOk page && offOk off
  | .txnCommit _ _ => true
  | .txnAbort _ _ => true
  | .validationDone _ => true
  | .commitAbandon _ _ => true
  | .txnIdleTimeout _ _ => true
  | .fence _ _ => true
  | .fenceComplete _ _ => true
  | .fenceTimeout _ _ => true
  | .crystalLoss _ which _ => decide (which < 2)
  | .pllLoss _ isl _ => decide (isl < 10)
  | .nvmReadEcc _ _ addr _ => decide (addr < 2 ^ 32)
  | .nvmRefreshPassEnd _ => true
  | .swoTransmit _ _ => true
  | .debuggerAttach a => (match a.ask with | .halt h | .step h | .resume h => decide (h < 4) | .access => true)
  | .profileChangeRequest _ _ => true
  | .levelRequestNormal _ _ => true
  | .levelRequestLimp _ _ => true
  | .levelRequestHold _ => true
  | .levelRequestStandby _ => true
  | .standbyEntryDone _ => true
  | .wakeEvent _ src => decide (src < 4)
  | .holdPinLow _ _ => true
  | .islandFailure _ _ cause _ => decide (1 ≤ cause ∧ cause ≤ 3)
  | .recoveryWindowExpiry _ _ => true
  | .causeClear _ _ _ => true
  | .vreqHoldExpiry _ => true
  | .headroomHoldExpiry _ => true
  | .loopFrameBoundary _ _ => true
  | .frameClockFallback _ _ => true
  | .fastTripSample _ _ => true
  | .stuckDetect _ ch _ _ => decide (ch < 40)
  | .stuckClear _ ch _ => decide (ch < 40)
  | .settleEnd _ ch => decide (ch < 40)
  | .skewCalStart _ _ => true
  | .skewCalDone _ _ _ _ => true
  | .snapshotRequest _ _ => true
  | .controlSamplesValid _ _ => true
  | .evaluationDeadline _ => true
  | .outputDistribution _ => true
  | .missEscalation ctx => decide (ctx < 128)
  | .saturationLimit ctx _ => decide (ctx < 128)
  | .tFrameReceive _ link _ _ => decide (link < 8)
  | .tFrameCutoff _ link => decide (link < 8)
  | .sFrameSend _ link _ => decide (link < 8)
  | .cabinetRearm _ _ => true
  | .vehicleRequestWrite _ _ => true
  | .tuningStart _ _ => true
  | .tuningStop _ _ => true
  | .tuningPointDone _ => true
  | .allocationCycle _ => true
  | .moduleRebuild _ m => decide (m < 64)
  | .moduleMoveRequest _ _ => true
  | .moduleParkRequest _ _ => true
  | .moduleRelease _ _ => true
  | .movePhaseAdvance _ slot => decide (slot < 8)
  | .movePhaseTimeout _ slot => decide (slot < 8)
  | .captureTick _ _ _ => true
  | .sequencerTimerExpiry _ unit n => decide (unit < 4) && decide (n < 4)
  | .sequencerCounterLimit _ unit n => decide (unit < 4) && decide (n < 4)
  | .podClose _ unit => decide (unit < 4)
  | .sequencerArm _ unit _ => decide (unit < 4)
  | .sequencerDisarm _ unit _ => decide (unit < 4)
  | .softwareTrigger _ _ => true
  | .podReadReport _ _ => true
  | .triggerPinEdge _ pin _ _ _ => decide (pin < 4)
  | .simpleTriggerArm _ _ => true
  | .meteringSample _ _ => true
  | .fallbackTick _ => true
  | .latch _ => true
  | .reverseEventStart _ ch => decide (ch < 17)
  | .reverseEventEnd _ ch => decide (ch < 17)
  | .pulseStart n _ => decide (n < 4)
  | .pulseEnd n _ => decide (n < 4)
  | .pairLatchCompare _ _ _ _ => true
  | .totalsAdopt _ _ => true
  | .billingGet _ => true
  | .billingSet _ _ => true
  | .billingChallenge _ => true
  | .challengeExpiry _ => true
  | .settariff _ ch tariff => decide (ch < 17) && decide (tariff < 8)
  | .closebp _ => true
  | .snap _ _ _ => true
  | .snapPairTimeout _ => true
  | .snapHoldExpiry bank _ => decide (bank < 4)
  | .sessionStart _ outlet tag _ => decide (outlet < 16) && decide (tag.length ≤ 32)
  | .sessionStop _ outlet _ => decide (outlet < 16)
  | .sessionAck _ outlet slot => decide (outlet < 16) && decide (slot < 32)
  | .sessionSigned slot _ => decide (slot < 32)
  | .cosignTimeout slot _ => decide (slot < 32)
  | .sealLock _ => true
  | .sealReseal _ => true
  | .sealJumperOpen _ => true
  | .sealJumperClose _ => true
  | .safetyCycle _ _ => true
  | .testPulse _ out _ => decide (out < 4)
  | .rampOpen _ outlet _ => decide (outlet < 16)
  | .pinOvertempTrip _ outlet _ => decide (outlet < 16)
  | .reliefWindowExpiry _ outlet => decide (outlet < 16)
  | .readbackFault _ pair _ _ _ _ => decide (pair < 8)
  | .darkTest _ pair _ _ _ => decide (pair < 8)
  | .darkTestTimeout _ pair => decide (pair < 8)
  | .darkTestOverdue _ pair => decide (pair < 8)
  | .keepaliveLoss _ => true
  | .safetyFailure _ _ => true
  | .xtripInput _ _ _ => true
  | .xtripTestPulse _ => true
  | .xlineTimeout _ => true
  | .tripResetRequest _ _ => true
  | .pairResetRequest _ _ => true
  | .outputFaultClear _ _ _ => true
  | .safetyConfigLoad _ => true
  | .safetyConfigConfirm _ => true
  | .safetyResetService _ => true
  | .safetyOutputsService _ => true
  | .telegramSend _ conn => decide (conn < 8)
  | .telegramReceive _ conn path _ => decide (conn < 8) && decide (path < 2)
  | .singleCopyAccept _ conn => decide (conn < 8)
  | .telegramWatchdogExpiry _ conn => decide (conn < 8)
  | .connectionOpenTimeout _ conn => decide (conn < 8)
  | .connectionReopen _ conn => decide (conn < 8)
  | .graceExpiry _ conn => decide (conn < 8)
  | .thermalFrame _ _ _ _ => true
  | .bandFall _ input => decide (input < 32)
  | .throttleStep _ outlet => decide (outlet < 16)
  | .shutdownAck _ _ _ _ => true
  | .coolingFaultClear _ _ => true
  | .loadSwitchCommand _ _ => true
  | .turnOnComplete _ ch _ => decide (ch < 24)
  | .inrushTimeout _ ch => decide (ch < 24)
  | .overcurrent _ ch _ => decide (ch < 24)
  | .shortCircuit _ ch _ => decide (ch < 24)
  | .fetModelUpdate _ _ _ _ => true
  | .loadFaultClear _ _ => true
  | .thermalLatchClear _ _ => true
  | .retryClear _ _ => true
  | .retryResetTimeout _ ch => decide (ch < 24)
  | .vauxUndervoltage _ _ => true
  | .vauxUndervoltageEnd _ _ => true
  | .restartDelayExpiry _ ch => decide (ch < 24)
  | .openLoadOn _ ch _ _ => decide (ch < 24)
  | .offStateTest _ ch _ _ => decide (ch < 24)
  | .commandLinkLoss _ _ => true
  | .attenuationStart _ _ => true
  | .attenuationDone _ link _ => decide (link < 16)
  | .vlkTxPoll _ _ => true
  | .vlkFrameReceive _ link _ _ _ => decide (link < 16)
  | .vlkFrameSent _ link _ _ => decide (link < 16)
  | .pilotWindow _ port _ _ _ _ _ _ => decide (port < 16)
  | .pilotStateAccept _ port => decide (port < 16)
  | .pilotGeneratorWrite _ _ => true
  | .canFrameReceive _ ctl _ _ => decide (ctl < 16)
  | .canPushNormal _ _ => true
  | .canPushUrgent _ _ => true
  | .canTxAttemptEnd _ ctl _ _ => decide (ctl < 16)
  | .canRecover _ => true
  | .canRecoveryDone _ ctl => decide (ctl < 16)
  | .abortn _ _ => true
  | .abortu _ _ => true
  | .flushn _ _ => true
  | .flushu _ _ => true
  | .headTimeout _ ctl _ => decide (ctl < 16)
  | .uartTxWrite _ _ => true
  | .uartRxChar _ uart _ _ _ _ => decide (uart < 4)
  | .uartRxRead _ => true
  | .uartIdle _ uart => decide (uart < 4)
  | .uartTxDone _ uart => decide (uart < 4)
  | .pollRoundStart _ m => decide (m < 2)
  | .pollAttempt _ m => decide (m < 2)
  | .respReceive _ m _ _ => decide (m < 2)
  | .responseTimeout _ m => decide (m < 2)
  | .slaveLost _ slave => decide (slave < 64)
  | .dlpush _ _ => true
  | .modeset _ _ => true
  | .zeroCrossEdge _ p => decide (p < 3)
  | .interruptClaim _ ctx => decide (ctx < 8)
  | .interruptComplete _ ctx _ => decide (ctx < 8)
  | .cryptoSha _ _ => true
  | .cryptoAesGcmEncrypt _ _ _ => true
  | .cryptoAesGcmDecrypt _ _ _ => true
  | .cryptoEcdsaSign _ _ => true
  | .cryptoEcdsaVerify _ _ => true
  | .cryptoEd448Sign _ _ => true
  | .cryptoEd448Verify _ _ => true
  | .cryptoEcdh _ _ => true
  | .cryptoKeyPairGeneration _ _ _ => true
  | .cryptoRandomBytes _ _ _ => true
  | .cryptoJobDone _ => true
  | .exiDecode _ _ => true
  | .exiEncode _ _ => true
  | .exiJobDone _ => true
  | .xspiCommand _ port _ => decide (port < 2)
  | .xspiCommandDone _ port _ _ => decide (port < 2)
  | .xspiReadTimeout _ port => decide (port < 2)
  | .ethFrameReceive _ mac _ _ _ => decide (mac < 4)
  | .ethTxPoll _ _ => true
  | .timebaseRateWrite _ _ => true
  | .offsetWrite _ _ => true
  | .holdoverEntry _ => true
  | .alarmArm _ a _ => decide (a < 4)
  | .alarmFire _ a => decide (a < 4)
  | .mailboxRequest _ m _ => decide (m < 2)
  | .mailboxResponse _ m => decide (m < 2)
  | .mailboxAck _ m _ => decide (m < 2)
  | .mailboxTimeout _ m _ => decide (m < 2)
  | .slotEnable _ _ => true
  | .slotDerived _ slot => decide (slot < 256)
  | .geninc _ _ => true
  | .hssVerify _ _ => true
  | .slotPublicKey _ _ => true
  | .chromosStatement _ _ => true
  | .signerPublicKey _ _ => true
  | .keyJobDone _ => true
  | .signRequest _ _ _ => true
  | .signatureDone _ => true
  | .treeBuilt _ tree => decide (tree ≤ 32768)
  | .lcRequestState _ target => decide (1 ≤ target ∧ target ≤ 5)
  | .lcRequestBlowRoot _ => true
  | .lcRequestDebugUnlock _ => true
  | .lcConfirm _ _ _ _ _ => true
  | .debugRelock _ _ => true
  | .ownerSet _ _ _ => true
  | .measurementExtend _ _ => true
  | .svnCommit _ _ => true
  | .powerOnReset _ _ => true
  | .brownOutReset _ _ => true
  | .pinReset _ _ => true
  | .softwareReset _ _ _ => true
  | .deviceWatchdogExpiry _ _ => true
  | .deviceWatchdogKick _ _ => true
  | .computeWatchdogExpiry _ => true
  | .computeWatchdogKick _ _ => true
  | .islandRestartRequest _ _ => true
  | .islandRestartDone _ _ _ _ => true
  | .powerFailWarning _ _ _ => true
  | .powerFailWarningEnd _ _ _ _ => true
  | .shedIslandRestart _ => true
  | .stuckResetRecord _ => true
  | .interfaceDieReset _ _ => true
  | .interfaceDieResetEnd _ _ _ => true
  | .temperatureRead _ k _ => decide (k < 10)
  | .supplyDeviation _ k _ _ => decide (k < 10)
  | .processSpeedCheck _ k _ => decide (k < 10)
  | .bistRetry _ _ => true
  | .hardRepair _ _ _ => true
  | .heartbeatSend _ => true
  | .heartbeatReceive _ _ _ _ => true
  | .frameMirrorReceive _ _ _ => true
  | .ausalReplay _ lane _ _ => decide (lane < 2)
  | .laneDown _ lane _ => decide (lane < 2)
  | .laneUp _ lane _ => decide (lane < 2)
  | .mirroredWrite _ page off inst _ => pageOk page && offOk off && decide (inst < 256)
  | .mirrorCommitAck _ _ _ => true
  | .syncCopy _ _ => true
  | .waitTimeout _ => true
  | .takeover _ _ => true
  | .demotion _ => true
  | .handover _ _ => true
  | .firmwareEventPut _ _ => true
  | .logEntryWrite _ src => decide (src < 26)
  | .partnerLogEntry _ src code _ _ _ => decide (src < 10) && decide (code < 256)
  | .ethLinkChange _ mac _ speed => decide (mac < 4) && decide (speed < 3)
  | .ethFrameSent _ mac queue _ => decide (mac < 4) && decide (queue < 4)
  | .machineTimerInterrupt _ => true
  | .sramReadEcc _ addr _ => decide (addr < 2 ^ 32)
  | .safetyInputSample _ contacts => decide (contacts < 2 ^ 32)
  | .canReceiveError _ ctl _ _ => decide (ctl < 16)
  | .resetNRise _ _ => true

end Sys2Proof
end

