-- ==== Sys2Proof/Tests/Slice0.lean ====
section
/-! SUPPORT. The model's own tests: ill-formed commands are refused by the check of their operands, and for every statement
with hypotheses a concrete state and operands that meet them. -/
namespace Sys2Proof.Tests

open Sys2Proof Sys2Proof.Machine

set_option Elab.async false

/-- A PX4840 with every register at its reset value. -/
def base : State := { pending := [], sys := {} }

/-- A state with registers written: register, instance, value. -/
def withR (s : State) (l : List (Reg × Nat × Word)) : State :=
  { s with sys := s.sys.onDev (fun d => d.each l (fun x e => e.wr x.1 x.2.1 x.2.2)) }

/-- A state with its device changed. -/
def onD (s : State) (f : Dev → Dev) : State := { s with sys := s.sys.onDev f }


/-- A request of an initiator in mailbox m. -/
def mbxS (m : Nat) (i : Initiator) (bytes : List Byte) (s : State) : State :=
  onD s (fun d => (d.each (List.range ((bytes.length + 3) / 4)) (fun k e =>
    e.wrB (MBX_BUF m (k % 768)) (k / 768) i.id (w32 (leAt bytes (4 * k) 4)))).setMbx m i (some { len := bytes.length, tag := 0, since := 0 }))

/-- A billing request as the mailbox holds it. -/
def bq (op role : Nat) (code : List Nat) (data auth : List Byte) : BilReq :=
  { op, role, code := code.map w8, obj := objOf .px4840 code, data, auth
    signedPart := [w8 op, w8 role] ++ code.map w8 ++ [0, 0] ++ leBytes 2 data.length ++ data }

/-- A core's billing request in flight. -/
def bilS (q : BilReq) (s : State) : State := mbxS 1 .core0 ([1, 0, 0, 0] ++ q.signedPart ++ q.auth) s

/-- A request of a keyed role, of no data, with the zero signature as its AUTH, and the challenge it answers open. -/
def authS (q : BilReq) (s : State) : State :=
  onD (mbxS 1 .core0 ([1, 0, 0, 0] ++ q.signedPart ++ zeroSig.take 12) s) (fun d =>
    { (d.wrB (MBX_BUF 1 169) 0 0 0x0A000000).setMbx 1 .core0 (some { len := 800, tag := 0, since := 0 }) with
      bil := { d.bil with openCh := some (1, 0), roleKeys := [(q.role, zeroKey (sha256
        (({ (d.wrB (MBX_BUF 1 169) 0 0 0x0A000000).setMbx 1 .core0 (some { len := 800, tag := 0, since := 0 }) with bil := d.bil } : Dev).devId ++
          leBytes 8 1 ++ q.signedPart)))] } })

theorem authS_ok (q : BilReq) (s : State) (hr : 3 ≤ q.role ∧ q.role ≤ 5) (hu : (authS q s).dev.up .key = true)
    (ht : (authS q s).dev.time < 0 + 60000000000) (hs : q.auth = zeroSig) : ((authS q s).dev.bilAuth .core0 q).1 = none :=
  Dev.bilAuth_zero _ _ _ 1 0 hr hu rfl ht hs (by
    show (if q.role = q.role then _ else _) = _
    rw [if_pos rfl]
    rfl)

/-- A safety configuration image of one entry: SAF_FTI of outlet 0. -/
def imgBytes : List Byte :=
  let body := leBytes 2 0x7E43 ++ [1, 0] ++ leBytes 4 1 ++ List.replicate 8 0 ++ leBytes 4 0x40058404 ++ leBytes 4 0 ++ leBytes 4 7
  body ++ leBytes 4 (crc32c body)

/-- A STAT telegram of SEQ 1 to connection 0, with LOCALSTOP or not, under GEN 0 and identifier 0. -/
def statTel (stop : Byte) : List Byte :=
  let body := [3, 8, 0, 0, 0, 0, 1, 0, 0, 0] ++ List.replicate 8 0 ++ [0, 0, stop, 0, 0, 0, 0, 0]
  body ++ leBytes 4 (crc32c (List.replicate 8 0 ++ body))

/-- An OPEN telegram to connection 0 with a NEWGEN. -/
def openTel (gen : Nat) : List Byte :=
  let body := [1, 4, 0, 0, 0, 0, 0, 0, 0, 0] ++ List.replicate 8 0 ++ leBytes 4 gen
  body ++ leBytes 4 (crc32c (List.replicate 8 0 ++ body))

/-- An initiator's channel select of a page. -/
def selS (i : Initiator) (page n : Nat) (s : State) : State := onD s (fun d => d.wrI (BLK_CHSEL page) i (w32 n))

/-- Bytes stored in memory. -/
def memS (a : Nat) (b : List Byte) (s : State) : State := { s with sys := s.sys.store a b }

/-- An engine's ring of 4 descriptors at 0x08000000 with one job in it; input at 0x08001000, auxiliary at 0x08002000, key at
0x08003000, output at 0x08004000. -/
def jobS (page op inLen outCap auxLen key : Nat) (s : State) : State :=
  memS 0x08000000 (leBytes 2 op ++ [0, 1] ++ leBytes 4 key ++ leBytes 4 0x08001000 ++ leBytes 4 inLen ++
    leBytes 4 0x08004000 ++ leBytes 4 outCap ++ leBytes 4 0x08002000 ++ leBytes 2 auxLen ++ [0, 0])
    (withR s [(engBase page, 0, 0x08000000), (engLen page, 0, 4), (engHead page, 0, 1)])

/-- The job that it holds. -/
def jobOf (op inLen outCap auxLen key : Nat) : Job :=
  { op, slotKey := false, irq := true, key, input := 0x08001000, inLen, out := 0x08004000, outCap, aux := 0x08002000, auxLen }


/-- A state whose frame starts at the instant t. -/
def bnd (t : Nat) (s : State) : State :=
  onD s (fun d => { d with loop := { d.loop with started := true, boundaryAt := t, vAt := 0, distributed := false } })

/-- Context 3 is due, with a set-point, an upper limit and a valid control sample. -/
def evS : State :=
  onD (withR base [(LPE_CTXCFG, 3, 0x80000000), (coefReg 3 0x000, 0, 0x00012345), (coefReg 3 0x00C, 0, 0x00054321),
    (coefReg 3 0x050, 0, 0x00010000), (coefReg 3 0x070, 0, 0x7FFFFF3F), (SDM_CTS, 0, 0x80000123)])
    (fun d => { d with loop := { d.loop with distributed := false, due := [3] } })

/-- A move in slot k. -/
def slotS (k : Nat) (x : MoveRec) (s : State) : State := onD s (fun d => d.setSlot k (some x))

/-- A good T-frame of link 7, and its symbols. -/
def goodT : List Byte := [0, 7] ++ List.replicate 162 1 ++ leBytes 4 (crc32 ([0, 7] ++ List.replicate 162 1))

/-- Its symbols on the link, from running disparity minus. -/
def goodSyms : List Nat := (encFrame false .startFrame goodT).1

/-- Each of these commands names something that no part has, and is refused by the check. -/
theorem test_ill_formed_1 : ([.registerWrite .core0 0x99 0x040 0,
  .registerWrite .core0 0x28 0x042 0,
  .registerWrite .core0 0x28 0x1000 0,
  .busAccessError .core0 false false (2 ^ 32) 4 0,
  .busAccessError .core0 false false 0 3 0,
  .eventSet .core0 0x99 0,
  .pageLock .core0 0x99 0,
  .channelSelect .core0 0x99 0,
  .loReadLatch .core0 0x99 0x040,
  .loReadLatch .core0 0x28 0x042,
  .loReadLatch .core0 0x28 0x1000,
  .stagedWrite .core0 0x99 0x040 0,
  .stagedWrite .core0 0x28 0x042 0,
  .stagedWrite .core0 0x28 0x1000 0,
  .crystalLoss 0 2 0,
  .pllLoss 0 10 0,
  .nvmReadEcc 0 none (2 ^ 32) false,
  .wakeEvent 0 4,
  .islandFailure 0 .control 0 false,
  .islandFailure 0 .control 4 false,
  .stuckDetect 0 40 0 0,
  .stuckClear 0 40 0,
  .settleEnd 0 40,
  .missEscalation 128] : List Instr).all (fun i => !i.wf) = true := by decide

/-- Each of these commands names something that no part has, and is refused by the check. -/
theorem test_ill_formed_2 : ([.saturationLimit 128 0,
  .tFrameReceive 0 8 false [],
  .tFrameCutoff 0 8,
  .sFrameSend 0 8 [],
  .moduleRebuild 0 64,
  .movePhaseAdvance 0 8,
  .movePhaseTimeout 0 8,
  .sequencerTimerExpiry 0 4 0,
  .sequencerTimerExpiry 0 0 4,
  .sequencerCounterLimit 0 4 0,
  .sequencerCounterLimit 0 0 4,
  .podClose 0 4,
  .sequencerArm .core0 4 0,
  .sequencerDisarm .core0 4 0,
  .triggerPinEdge 0 4 false 0 0,
  .reverseEventStart 0 17,
  .reverseEventEnd 0 17,
  .pulseStart 4 0,
  .pulseEnd 4 0,
  .settariff .core0 17 0,
  .settariff .core0 0 8,
  .snapHoldExpiry 4 0,
  .sessionStart .core0 16 [] false,
  .sessionStart .core0 0 (List.replicate 33 0) false] : List Instr).all (fun i => !i.wf) = true := by decide

/-- Each of these commands names something that no part has, and is refused by the check. -/
theorem test_ill_formed_3 : ([.sessionStop .core0 16 false,
  .sessionAck .core0 16 0,
  .sessionAck .core0 0 32,
  .sessionSigned 32 0,
  .cosignTimeout 32 0,
  .testPulse 0 4 false,
  .rampOpen 0 16 0,
  .pinOvertempTrip 0 16 [],
  .reliefWindowExpiry 0 16,
  .readbackFault 0 8 false false none false,
  .darkTest 0 8 none none false,
  .darkTestTimeout 0 8,
  .darkTestOverdue 0 8,
  .telegramSend 0 8,
  .telegramReceive 0 8 0 [],
  .telegramReceive 0 0 2 [],
  .singleCopyAccept 0 8,
  .telegramWatchdogExpiry 0 8,
  .connectionOpenTimeout 0 8,
  .connectionReopen 0 8,
  .graceExpiry 0 8,
  .bandFall 0 32,
  .throttleStep 0 16,
  .turnOnComplete 0 24 []] : List Instr).all (fun i => !i.wf) = true := by decide

/-- Each of these commands names something that no part has, and is refused by the check. -/
theorem test_ill_formed_4 : ([.inrushTimeout 0 24,
  .overcurrent 0 24 [],
  .shortCircuit 0 24 0,
  .retryResetTimeout 0 24,
  .restartDelayExpiry 0 24,
  .openLoadOn 0 24 0 0,
  .offStateTest 0 24 [] [],
  .attenuationDone 0 16 [],
  .vlkFrameReceive 0 16 0 false [],
  .vlkFrameSent 0 16 0 false,
  .pilotWindow 0 16 false false [] [] [] none,
  .pilotStateAccept 0 16,
  .canFrameReceive 0 16 0 { ide := false, id := 0, dlc := 0, data := [] },
  .canTxAttemptEnd 0 16 0 .success,
  .canRecoveryDone 0 16,
  .headTimeout 0 16 false,
  .uartRxChar 0 4 0 false false false,
  .uartIdle 0 4,
  .uartTxDone 0 4,
  .pollRoundStart 0 2,
  .pollAttempt 0 2,
  .respReceive 0 2 false [],
  .responseTimeout 0 2,
  .slaveLost 0 64] : List Instr).all (fun i => !i.wf) = true := by decide

/-- Each of these commands names something that no part has, and is refused by the check. -/
theorem test_ill_formed_5 : ([.zeroCrossEdge 0 3,
  .interruptClaim .core0 8,
  .interruptComplete .core0 8 0,
  .xspiCommand .core0 2 0,
  .xspiCommandDone 0 2 [] [],
  .xspiReadTimeout 0 2,
  .ethFrameReceive 0 4 0 false [],
  .alarmArm .core0 4 0,
  .alarmFire 0 4,
  .mailboxRequest .core0 2 0,
  .mailboxResponse .core0 2,
  .mailboxAck .core0 2 0,
  .mailboxTimeout .core0 2 0,
  .slotDerived 0 256,
  .treeBuilt 0 32769,
  .lcRequestState .core0 0,
  .lcRequestState .core0 6,
  .temperatureRead 0 10 0,
  .supplyDeviation 0 10 0 0,
  .processSpeedCheck 0 10 0,
  .ausalReplay 0 2 0 0,
  .laneDown 0 2 0,
  .laneUp 0 2 0,
  .mirroredWrite 0 0x99 0x040 0 0] : List Instr).all (fun i => !i.wf) = true := by decide

/-- Each of these commands names something that no part has, and is refused by the check. -/
theorem test_ill_formed_6 : ([.mirroredWrite 0 0x28 0x042 0 0,
  .mirroredWrite 0 0x28 0x1000 0 0,
  .mirroredWrite 0 0x28 0x040 256 0,
  .logEntryWrite 0 26,
  .partnerLogEntry 0 10 0 0 0 [],
  .partnerLogEntry 0 0 256 0 0 [],
  .ethLinkChange 0 4 false 0,
  .ethLinkChange 0 0 false 3,
  .ethFrameSent 0 4 0 0,
  .ethFrameSent 0 0 4 0,
  .sramReadEcc none (2 ^ 32) .corrected,
  .safetyInputSample 0 (2 ^ 32),
  .canReceiveError 0 16 .bit false] : List Instr).all (fun i => !i.wf) = true := by decide

/-- The published check value of CRC-32 over the nine digits. -/
theorem test_crc32_check_value : crc32 [0x31, 0x32, 0x33, 0x34, 0x35, 0x36, 0x37, 0x38, 0x39] = 0xCBF43926 := by decide +kernel

/-- The published check value of CRC-32C over the nine digits. -/
theorem test_crc32c_check_value : crc32c [0x31, 0x32, 0x33, 0x34, 0x35, 0x36, 0x37, 0x38, 0x39] = 0xE3069283 := by decide +kernel

/-- The allocation of spec/06_site_power_sharing.md's worked example: outlets 3 and 5 of class 1. -/
theorem test_allocation_example : allocate [0, 0, 0, 1, 0, 1] [0, 0, 0, 3000, 0, 3000] [0, 0, 0, 10500, 0, 9600] 18000 =
    ([0, 0, 0, 9000, 0, 9000], 0) := by decide +kernel

/-- Context 6 as spec/04_loop_engine.md's worked example configures it. -/
def loopCtx : Dev :=
  ({} : Dev).each ([(LPE_CTXCFG, 6, 0x8000000D), (LPE_SRC, 6, 0x000F1003)] ++
    ([(0x000, 0x7D00000C), (0x004, 0x0000000C), (0x008, 0x0004000C), (0x050, 0x4000003F), (0x054, 0x051EB83F),
      (0x058, 0x4B000009), (0x05C, 0xB5000009), (0x070, 0x40000001), (0x074, 0x5DC0000C), (0x078, 0x0000000C),
      (0x07C, 0x00C8000C), (0x080, 0x0190000C)] : List (Nat × Word)).map (fun p => (coefReg 6 p.1, 0, p.2)))
    (fun x e => e.wr x.1 x.2.1 x.2.2)

/-- Frame k of that example: set-point 1,500 A, feedback 1,400.000095 A, Iprev 40 A, yprev 1,545 A. -/
def loopFrameK : Dev :=
  (((loopCtx.setSt 6 0x128 (bfRat 40 1)).setSt 6 0x134 (bfRat 1545 1)).evaluate 6
    { xs := [(loopCtx.coef 6 0 0).mul ⟨2936013, 0⟩, (loopCtx.coef 6 0 1).term], sp := bfRat 1500 1, narrow := none, inj := none, stale := false }).1

/-- The output is 1,566.865 A, and neither UPPER, RATEL nor IHELD is set. -/
theorem test_loop_example : loopFrameK.rd LPE_OUT 6 = (bfRat 1566865 1000).word ∧ loopFrameK.rd LPE_CSTAT 6 = 0x80 := by decide +kernel

/-- The date of spec/15_compute_island.md's worked example. -/
theorem test_time_of_day_example : civilOf (992606400 / daySecs) = (2031, 6, 15) ∧ (992606400 : Int) % daySecs = 43200 := by decide +kernel

/-- The two examples of R734. -/
theorem test_ball_map_examples : Package.ballsOf .fcbga676 "PBS5_RX" = [("P", 22)] ∧ ballAt .px4840 "AG" 24 = some (.signal "LSW23_CSN") := by decide +kernel

/-- The balls of a package that carry no signal: the matrix is fully populated (Table 19.1) and the regions do not overlap. -/
def plainBalls (p : Package) : Nat := p.side * p.side - (p.regions.map (fun g => g.signals.length)).sum

/-- The balls that Table 19.4 lists. -/
def listedBalls (p : Package) : Nat :=
  let x := p.supplies
  x.vsys + x.vcore + x.vaux + 8 * x.vio + 4 * x.cap + x.gnd

/-- The supply, ground and regulator balls of a package are as many as Table 19.4 lists. -/
theorem test_supply_balls : plainBalls .fcbga676 = listedBalls .fcbga676 ∧ plainBalls .fcbga484 = listedBalls .fcbga484 := by decide +kernel

/-- A vehicle link's pair is high impedance until the link is on (R527), and FAULT_N is high without a fault (R678). -/
theorem test_pins : base.dev.pin (.vlk 0) = .highZ ∧ base.dev.pin .faultN = .high := by decide +kernel

/-- SLOTSZ of spec/07_acquisition.md's worked example: two SDM channels and a pilot channel, PRE 256 and POST 768. -/
theorem test_slot_size_example : ({} : Dev).slotSize { d := 0, pre := 256, post := 768, mask := 2 ^ 14 + 2 ^ 15 + 2 ^ 40 } = 5056 := by decide +kernel


theorem witness_StepRunsFrontCommand : ∃ (s : State) (c : Instr) (rest : List Instr), s.pending = c :: rest ∧ ∃ z : State, z.pending = [] := ⟨{ base with pending := [.fence .core0 0] }, .fence .core0 0, [], rfl, base, rfl⟩

theorem witness_EveryCommandLeavesTheQueue : ∃ s t : State, step s = .next t := ⟨base, base, rfl⟩

theorem witness_EveryStepKeepsMemoryCanonical : ∃ s t : State, MemOk s ∧ step s = .next t := ⟨base, base, by unfold MemOk; decide, rfl⟩

theorem witness_ABlownFuseStaysBlown : ∃ s t : State, step s = .next t := ⟨base, base, rfl⟩

theorem witness_AFieldTakesAWriteByItsCode : ∃ (r q : RegRow) (b : Nat), r.rw.getLsbD b = true ∧ r.w1c.getLsbD b = false ∧ r.w1s.getLsbD b = false ∧ q.txn.getLsbD b = true ∧ q.rw.getLsbD b = false := ⟨{ off := 0, rw := 1 }, { off := 0, txn := 1 }, 0, by decide, by decide, by decide, by decide, by decide⟩

theorem witness_AFieldTakesAWriteByItsCode_codes : ∃ (c s l n : RegRow) (b : Nat), c.w1c.getLsbD b = true ∧ s.w1s.getLsbD b = true ∧ l.sealed.getLsbD b = true ∧ n.rw.getLsbD b = false ∧ n.txn.getLsbD b = false := ⟨{ off := 0, w1c := 1 }, { off := 0, w1s := 1 }, { off := 0, sealed := 1 }, { off := 0 }, 0, by decide, by decide, by decide, by decide, by decide⟩

theorem witness_RegisterWritesThroughTheGate_1 : ∃ (s : State) (i : Initiator) (page off n : Nat) (v : Word) (r : RegRow),
    page ∈ [0x28, 0x38, 0x39, 0x3A, 0x3C, 0x58, 0x59] ∧ (page, off) ∉ [(0x38, 0x454), (0x58, 0x04C)] ∧ 0x040 ≤ off ∧ onMap page off = true ∧ s.dev.gateAt i page off (s.dev.instOf i page off) true = .pass n ∧ rowOf s.dev.variant page off = some r ∧ r.banked = false :=
  ⟨base, .core0, 0x28, 0x040, 0, 5, (rowOf .px4840 0x28 0x040).getD { off := 0 }, by decide +kernel, by decide +kernel, by decide +kernel, by decide +kernel⟩

theorem witness_RegisterWritesThroughTheGate_2 : ∃ (s : State) (i : Initiator) (page off n : Nat) (v : Word) (r : RegRow),
    onMap page off = true ∧ PlainAt i page off n v ∧ s.dev.gateAt i page off (s.dev.instOf i page off) true = .pass n ∧ rowOf s.dev.variant page off = some r ∧ r.banked = false ∧ s.dev.blockRefuses page off n v = false ∧ s.dev.ownerFrozen page off = false ∧ s.dev.noOloffen page off v = false ∧ s.dev.taken page off n v = v :=
  ⟨base, .core0, 0x28, 0x040, 0, 5, (rowOf .px4840 0x28 0x040).getD { off := 0 }, by decide +kernel, ⟨by decide, by decide, fun _ => rfl, fun _ => rfl, fun _ _ => rfl⟩, by decide +kernel⟩

theorem witness_RegisterWritesThroughTheGate_3 : ∃ (s : State) (i : Initiator) (page n : Nat) (v : Word),
    page < 0x80 ∧ Passes s i (BLK_EVF page) n :=
  ⟨withR base [(BLK_EVF 0x28, 0, 0xFF)], .core0, 0x28, 0, 5, by decide +kernel⟩

theorem witness_RegisterWritesThroughTheGate_4 : ∃ (s : State) (i : Initiator) (page n : Nat) (v : Word),
    page < 0x80 ∧ Passes s i (BLK_EVE page) n :=
  ⟨base, .core0, 0x28, 0, 0xFFFFFFFF, by decide +kernel⟩

theorem witness_RegisterWritesThroughTheGate_5 : ∃ (s : State) (i : Initiator) (page n : Nat) (v : Word),
    page < 0x80 ∧ Passes s i (BLK_ERR page) n :=
  ⟨withR base [(BLK_ERR 0x28, 0, 0x80000000)], .core0, 0x28, 0, 0, by decide +kernel⟩

theorem witness_RegisterWritesThroughTheGate_7 : ∃ (s : State) (i : Initiator) (page off : Nat) (v : Word),
    onMap page off = true ∧ s.dev.gateAt i page off (s.dev.instOf i page off) true = .absent (s.dev.instOf i page off) :=
  ⟨base, .core0, 0x0C, 0x040, 5, by decide +kernel⟩

theorem witness_RegisterWritesThroughTheGate_8 : ∃ (s : State) (i : Initiator) (page off k : Nat) (v : Word),
    onMap page off = true ∧ s.dev.gateAt i page off (s.dev.instOf i page off) true = .refuse k ∧ s.dev.bit (BLK_ERR (errPage page)) 0 31 = false :=
  ⟨withR base [(BLK_LOCK 0x28, 0, 1)], .core1, 0x28, 0x040, 3, 5, by decide +kernel⟩

theorem witness_RegisterWritesThroughTheGate_9 : ∃ (s : State) (i : Initiator) (page off n : Nat) (v : Word),
    onMap page off = true ∧ s.dev.gateAt i page off (s.dev.instOf i page off) true = .hold n :=
  ⟨withR base [(RST_ISLSTAT, 0, 0x400)], .core0, 0x2C, 0x040, 0, 5, by decide +kernel⟩

theorem witness_RegisterWritesThroughTheGate_10 : ∃ (s : State) (i : Initiator) (page off : Nat) (v : Word),
    onMap page off = true ∧ s.dev.gateAt i page off (s.dev.instOf i page off) true = .busError :=
  ⟨base, .debug, 0x2C, 0x040, 5, by decide +kernel⟩

theorem witness_RegisterWritesThroughTheGate_11 : ∃ (s : State) (i : Initiator) (page off : Nat) (v : Word),
    off < 4096 ∧ off % 4 ≠ 0 ∧ s.dev.reaches i page = true ∧ pagePresent s.dev.variant page = true ∧ page < 0x100 ∧ s.dev.bit (BLK_ERR page) 0 31 = false :=
  ⟨base, .core0, 0x2C, 0x041, 5, by decide +kernel⟩

theorem witness_RegisterWritesThroughTheGate_12 : ∃ (s : State) (i : Initiator) (page off : Nat) (v : Word) (o : OpenTxn),
    onMap page off = true ∧ s.dev.reaches i page = true ∧ stageable page off = true ∧ s.dev.isAbsent page off (s.dev.instOf i page off) = false ∧ s.dev.openTxn i = some o ∧ o.staged.length < 1024 :=
  ⟨onD base (fun d => d.txnBegin .core2 1), .core2, 0x28, 0x400, 7, { init := .core2, slot := 0 }, by decide +kernel⟩

theorem witness_RegisterWritesThroughTheGate_13 : ∃ (s : State) (i : Initiator) (page off : Nat) (v : Word) (o : OpenTxn),
    onMap page off = true ∧ s.dev.reaches i page = true ∧ stageable page off = true ∧ s.dev.isAbsent page off (s.dev.instOf i page off) = false ∧ s.dev.openTxn i = some o ∧ 1024 ≤ o.staged.length :=
  ⟨onD base (fun d => { d with txn := { d.txn with opens := [{ init := .core2, slot := 0, staged := List.replicate 1024 { init := .core2, page := 0x28, off := 0x400, inst := 0, val := 1 } }] } }), .core2, 0x28, 0x400, 7, { init := .core2, slot := 0, staged := List.replicate 1024 { init := .core2, page := 0x28, off := 0x400, inst := 0, val := 1 } }, by decide +kernel⟩

theorem witness_RegisterWritesThroughTheGate_14 : ∃ (s : State) (i : Initiator) (page off : Nat) (v : Word) (o : OpenTxn),
    onMap page off = true ∧ s.dev.reaches i page = true ∧ stageable page off = true ∧ s.dev.isAbsent page off (s.dev.instOf i page off) = true ∧ s.dev.openTxn i = some o :=
  ⟨onD base (fun d => d.txnBegin .core2 1), .core2, 0x0C, 0x040, 7, { init := .core2, slot := 0 }, by decide +kernel⟩

theorem witness_AccessesToMemoryAndOffTheMap_1 : ∃ (s : State) (i : Initiator) (write atomic : Bool) (a n v : Nat),
    0x50080000 ≤ a :=
  ⟨base, .core0, true, false, 0x50080000, 4, 1, by decide +kernel⟩

theorem witness_AccessesToMemoryAndOffTheMap_2 : ∃ (s : State) (i : Initiator) (write atomic : Bool) (a n v : Nat),
    a < 0x10000 ∧ (write = true ∨ atomic = true) :=
  ⟨base, .core0, true, false, 0xFFFF, 4, 1, by decide +kernel, by decide +kernel⟩

theorem witness_AccessesToMemoryAndOffTheMap_3 : ∃ (s : State) (write atomic : Bool) (a n v : Nat),
    s.dev.bit DBG_STAT 0 0 = false ∧ (a < 0x40000000 ∨ 0x50080000 ≤ a) ∧ (a + n ≤ 0x40000000 ∨ 0x50080000 ≤ a) :=
  ⟨base, false, false, 0x08000000, 4, 1, by decide +kernel, by decide +kernel, by decide +kernel⟩

theorem witness_AccessesToMemoryAndOffTheMap_4 : ∃ (s : State) (i : Initiator) (a n v : Nat),
    0x08000000 ≤ a ∧ a + n ≤ 0x09000000 ∧ n ≠ 0 ∧ s.dev.reaches i 0 = true ∧ i ≠ .mirror ∧ s.dev.fenced i = true :=
  ⟨onD base (fun d => d.fence .core0), .core0, 0x08FFFFFC, 4, 0x12345678, by decide +kernel⟩

theorem witness_AccessesToMemoryAndOffTheMap_5 : ∃ (s : State) (i : Initiator) (a n v : Nat),
    0x08000000 ≤ a ∧ a + n ≤ 0x09000000 ∧ n ≠ 0 ∧ s.dev.reaches i 0 = true ∧ i ≠ .mirror ∧ s.dev.fenced i = false :=
  ⟨base, .core0, 0x08FFFFFC, 4, 0x12345678, by decide +kernel⟩

theorem witness_AccessesToMemoryAndOffTheMap_6 : ∃ (s : State) (i : Initiator) (a : Nat),
    0x08000000 ≤ a ∧ a + 4 ≤ 0x09000000 ∧ s.dev.reaches i 0 = true ∧ i ≠ .mirror :=
  ⟨{ base with sys := base.sys.store 0x08000010 [1, 2, 3, 4, 5] }, .core0, 0x08000011, by decide +kernel⟩

theorem witness_CommonRegistersOfAPage_1 : ∃ (s : State) (i : Initiator) (page n : Nat) (v : Word),
    page < 0x80 ∧ Passes s i (BLK_EVS page) n :=
  ⟨base, .core0, 0x28, 0, 0x2A, by decide +kernel, by decide +kernel⟩

theorem witness_CommonRegistersOfAPage_2 : ∃ (s : State) (i : Initiator) (page n : Nat) (v : Word),
    page < 0x80 ∧ Passes s i (BLK_LOCK page) n :=
  ⟨base, .core0, 0x00, 0, 1, by decide +kernel, by decide +kernel⟩

theorem witness_CommonRegistersOfAPage_3 : ∃ (s : State) (i : Initiator) (page n : Nat) (v : Word),
    page < 0x80 ∧ Passes s i (BLK_CHSEL page) n :=
  ⟨base, .core3, 0x28, 0, 0x1FF, by decide +kernel, by decide +kernel⟩

theorem witness_CommonRegistersOfAPage_4 : ∃ (s : State) (i : Initiator) (page k : Nat) (v : Word),
    page < 0x80 ∧ s.dev.gateOf i (BLK_EVS page) = .refuse k ∧ s.dev.bit (BLK_ERR page) 0 31 = false :=
  ⟨withR base [(AUS_STAT, 0, 3), (AUS_MIRMAP1, 0, 0x100)], .core0, 0x28, 7, 5, by decide +kernel⟩

theorem witness_CommonRegistersOfAPage_5 : ∃ (s : State) (i : Initiator) (page k : Nat) (v : Word),
    page < 0x80 ∧ s.dev.gateOf i (BLK_LOCK page) = .refuse k ∧ s.dev.bit (BLK_ERR page) 0 31 = false :=
  ⟨base, .core0, 0x48, 2, 1, by decide +kernel⟩

theorem witness_CommonRegistersOfAPage_6 : ∃ (s : State) (i : Initiator) (page k : Nat) (v : Word),
    page < 0x80 ∧ s.dev.gateOf i (BLK_CHSEL page) = .refuse k ∧ s.dev.bit (BLK_ERR page) 0 31 = false :=
  ⟨withR base [(AUS_STAT, 0, 3), (AUS_MIRMAP1, 0, 0x100)], .core0, 0x28, 7, 5, by decide +kernel⟩

theorem witness_CommonRegistersOfAPage_7 : ∃ (s : State) (i : Initiator) (page off h : Nat),
    onMap page off = true ∧ hiOf page off = some h ∧ hiOf page (off - 4) ≠ some off ∧ s.dev.reaches i page = true ∧ s.dev.isAbsent page off (s.dev.instOf i page off) = false ∧ s.dev.up (pageIsland page) = true ∧ s.dev.holdsWrite i page = false :=
  ⟨onD base (·.at 0x500000007), .core1, 0x09, 0x040, 0x044, by decide +kernel⟩

theorem witness_CommonRegistersOfAPage_8 : ∃ (s : State) (i : Initiator) (page off h : Nat) (w : Word),
    onMap page h = true ∧ onMap page off = true ∧ hiOf page off = some h ∧ hiOf page h = none ∧ s.dev.reaches i page = true ∧ s.dev.isAbsent page h (s.dev.instOf i page h) = false ∧ s.dev.up (pageIsland page) = true ∧ s.dev.holdsWrite i page = false ∧ (s.dev.hi.find? (fun p => decide (p.1 = (regAt s.dev.variant page off).key (s.dev.instOf i page h) i.id))).map Prod.snd = some w :=
  ⟨onD base (fun d => { d with time := 7, hi := [(TMB_TLO.key 0 1, 5)] }), .core1, 0x09, 0x040, 0x044, 5, by decide +kernel⟩

theorem witness_CommonRegistersOfAPage_9 : ∃ (s : State) (i : Initiator),
    s.dev.reaches i 0x09 = true ∧ s.dev.up .compute = true ∧ s.dev.holdsWrite i 0x09 = false :=
  ⟨onD base (·.at 0x500000007), .core1, by decide +kernel⟩

theorem witness_CommonRegistersOfAPage_10 : ∃ (s : State) (i : Initiator) (page off : Nat),
    onMap page off = true ∧ s.dev.reaches i page = true ∧ s.dev.isAbsent page off (s.dev.instOf i page off) = true :=
  ⟨base, .core0, 0x0C, 0x040, by decide +kernel⟩

theorem witness_CommonRegistersOfAPage_11 : ∃ (s : State) (i : Initiator) (page off : Nat),
    onMap page off = true ∧ s.dev.reaches i page = true ∧ s.dev.isAbsent page off (s.dev.instOf i page off) = false ∧ s.dev.holdsWrite i page = true :=
  ⟨onD (withR base [(RST_ISLSTAT, 0, 0x400)]) (fun d => { d with txn := { d.txn with held := [{ init := .core0, page := 0x2C, off := 0x040, inst := 0, val := 5 }] } }), .core0, 0x2C, 0x040, by decide +kernel⟩

theorem witness_TransactionsAndTheirEnds_1 : ∃ (s : State) (i : Initiator) (v : Word) (n k : Nat),
    Passes s i TXN_BEGIN n ∧ bitOf v 0 = true ∧ i ≠ .mirror ∧ s.dev.openTxn i = none ∧ (List.range 4).find? (fun x => !s.dev.usedSlots.contains x) = some k :=
  ⟨base, .core0, 1, 0, 0, by decide +kernel, by decide +kernel, by decide +kernel⟩

theorem witness_TransactionsAndTheirEnds_2 : ∃ (s : State) (i : Initiator) (v : Word) (n : Nat) (o : OpenTxn),
    Passes s i TXN_COMMIT n ∧ bitOf v 0 = true ∧ s.dev.openTxn i = some o :=
  ⟨onD base (fun d => d.txnBegin .core1 1), .core1, 1, 0, { init := .core1, slot := 0 }, by decide +kernel, by decide +kernel⟩

theorem witness_TransactionsAndTheirEnds_3 : ∃ (s : State) (i : Initiator) (v : Word) (n : Nat) (o : OpenTxn),
    Passes s i TXN_ABORT n ∧ bitOf v 0 = true ∧ s.dev.openTxn i = some o ∧ o.slot < 4 :=
  ⟨onD base (fun d => d.txnBegin .core1 1), .core1, 1, 0, { init := .core1, slot := 0 }, by decide +kernel, by decide +kernel⟩

theorem witness_TransactionsAndTheirEnds_4 : ∃ (s : State) (t0 : Nat) (c : Commit),
    s.dev.txn.commits = [c] ∧ c.validAt = none ∧ c.staged = [] ∧ c.overAt = none :=
  ⟨onD base (fun d => (d.txnBegin .core1 1).txnCommit .core1 1), 5, { init := .core1, slot := 0, staged := [], overAt := none, seq := 0 }, by decide +kernel, by decide +kernel⟩

theorem witness_TransactionsAndTheirEnds_5 : ∃ (s : State) (t0 a : Nat) (c : Commit),
    s.dev.txn.commits = [c] ∧ c.validAt = none ∧ c.staged = [] ∧ c.overAt = some a ∧ c.slot < 4 ∧ s.dev.openTxn c.init = none :=
  ⟨onD base (fun d => { d with txn := { d.txn with commits := [{ init := .core1, slot := 3, staged := [], overAt := some 0x40028400, seq := 0 }] } }), 5, 0x40028400, { init := .core1, slot := 3, staged := [], overAt := some 0x40028400, seq := 0 }, by decide +kernel⟩

theorem witness_TransactionsAndTheirEnds_6 : ∃ (s : State) (i : Initiator) (t0 a : Nat) (c : Commit),
    s.dev.txn.commits = [c] ∧ c.init = i ∧ c.validAt = some a ∧ c.needsAck = false ∧ c.ackAt = none ∧ c.slot < 4 ∧ s.dev.openTxn i = none ∧ (a + 1000000 ≤ t0 ∨ s.dev.targetDown c = true) :=
  ⟨onD base (fun d => { d with txn := { d.txn with commits := [{ init := .core1, slot := 0, staged := [], overAt := none, seq := 0, validAt := some 7 }] } }), .core1, 1000007, 7, { init := .core1, slot := 0, staged := [], overAt := none, seq := 0, validAt := some 7 }, by decide +kernel⟩

theorem witness_TransactionsAndTheirEnds_7 : ∃ (s : State) (i : Initiator) (t0 : Nat) (o : OpenTxn),
    s.dev.openTxn i = some o ∧ o.slot < 4 ∧ s.dev.fld TXN_CFG 0 15 0 ≠ 0 ∧ o.since + s.dev.fld TXN_CFG 0 15 0 * 1000000 ≤ t0 :=
  ⟨onD (withR base [(TXN_CFG, 0, 10)]) (fun d => d.txnBegin .core1 1), .core1, 10000000, { init := .core1, slot := 0 }, by decide +kernel, by decide +kernel⟩

theorem witness_TransactionsAndTheirEnds_8 : ∃ (s : State) (i : Initiator) (v : Word) (n : Nat),
    Passes s i TXN_BEGIN n ∧ bitOf v 0 = true ∧ i ≠ .mirror ∧ ((s.dev.openTxn i).isSome = true ∨ (List.range 4).find? (fun x => !s.dev.usedSlots.contains x) = none) :=
  ⟨onD base (fun d => d.txnBegin .core1 1), .core1, 1, 0, by decide +kernel⟩

theorem witness_TransactionsAndTheirEnds_9 : ∃ (s : State) (i : Initiator) (v : Word) (n : Nat),
    Passes s i TXN_COMMIT n ∧ (s.dev.openTxn i = none ∨ bitOf v 0 = false) :=
  ⟨base, .core1, 1, 0, by decide +kernel⟩

theorem witness_TransactionsAndTheirEnds_10 : ∃ (s : State) (i : Initiator) (v : Word) (n : Nat),
    Passes s i TXN_ABORT n ∧ (s.dev.openTxn i = none ∨ bitOf v 0 = false) :=
  ⟨base, .core1, 1, 0, by decide +kernel⟩

theorem witness_TransactionsAndTheirEnds_11 : ∃ (s : State) (t0 : Nat) (c : Commit),
    s.dev.txn.commits.find? (fun x => x.validAt.isNone) = some c ∧ (validate ((s.dev.at t0).overlay ((s.dev.validated c.seq).flatMap Commit.staged)) c).reason = 0 :=
  ⟨onD (withR base [(BLK_LOCK 0x28, 0, 0)]) (fun d => { d with txn := { d.txn with commits := [{ init := .core0, slot := 1, staged := [{ init := .core0, page := 0x28, off := 0x400, inst := 2, val := 0 }], overAt := none, seq := 3, validAt := some 2 }, { init := .core1, slot := 0, staged := [{ init := .core1, page := 0x28, off := 0x400, inst := 1, val := 0 }], overAt := none, seq := 4 }] } }), 5, { init := .core1, slot := 0, staged := [{ init := .core1, page := 0x28, off := 0x400, inst := 1, val := 0 }], overAt := none, seq := 4 }, by decide +kernel⟩

theorem witness_TransactionsAndTheirEnds_12 : ∃ (s : State) (t0 : Nat) (c : Commit),
    s.dev.txn.commits.find? (fun x => x.validAt.isNone) = some c ∧ c.slot < 4 ∧ s.dev.openTxn c.init = none ∧ (∀ x ∈ s.dev.txn.commits, x.init = c.init → x.seq ≤ c.seq) ∧ (validate ((s.dev.at t0).overlay ((s.dev.validated c.seq).flatMap Commit.staged)) c).reason ≠ 0 :=
  ⟨onD (withR base [(BLK_LOCK 0x28, 0, 1)]) (fun d => { d with txn := { d.txn with commits := [{ init := .core1, slot := 2, staged := [{ init := .core1, page := 0x28, off := 0x400, inst := 1, val := 0 }], overAt := none, seq := 4 }] } }), 5, { init := .core1, slot := 2, staged := [{ init := .core1, page := 0x28, off := 0x400, inst := 1, val := 0 }], overAt := none, seq := 4 }, by decide +kernel⟩

theorem witness_TransactionsAndTheirEnds_13 : ∃ (s : State) (t0 : Nat),
    (∀ c ∈ s.dev.txn.commits, c.validAt.isSome = true) :=
  ⟨onD base (fun d => { d with txn := { d.txn with commits := [{ init := .core0, slot := 1, staged := [], overAt := none, seq := 3, validAt := some 2 }] } }), 9, by decide +kernel⟩

theorem witness_TransactionsAndTheirEnds_14 : ∃ (s : State) (i : Initiator) (t0 : Nat) (c : Commit),
    s.dev.txn.commits.find? (fun x => decide (x.init = i) && x.validAt.isSome) = some c ∧ c.slot < 4 ∧ s.dev.openTxn i = none ∧ (∀ x ∈ s.dev.txn.commits, x.init = i → x.seq ≤ c.seq) ∧ ((s.dev.at t0).overdue c = true ∨ s.dev.targetDown c = true) :=
  ⟨onD base (fun d => { d with txn := { d.txn with commits := [{ init := .core0, slot := 1, staged := [], overAt := none, seq := 3, validAt := some 2 }, { init := .core1, slot := 0, staged := [], overAt := none, seq := 4, onTop := [3] }] } }), .core0, 1000002, { init := .core0, slot := 1, staged := [], overAt := none, seq := 3, validAt := some 2 }, by decide +kernel⟩

theorem witness_TransactionsAndTheirEnds_15 : ∃ (s : State) (i : Initiator) (t0 : Nat),
    (∀ c ∈ s.dev.txn.commits, c.init = i → c.validAt.isSome = true → (s.dev.at t0).overdue c = false ∧ s.dev.targetDown c = false) :=
  ⟨onD base (fun d => { d with txn := { d.txn with commits := [{ init := .core0, slot := 1, staged := [], overAt := none, seq := 3, validAt := some 2 }] } }), .core0, 1000001, by decide +kernel⟩

theorem witness_TransactionsAndTheirEnds_16 : ∃ (s : State) (i : Initiator) (t0 : Nat),
    (∀ o ∈ s.dev.openTxn i, s.dev.fld TXN_CFG 0 15 0 = 0 ∨ max s.dev.time t0 < o.since + s.dev.fld TXN_CFG 0 15 0 * 1000000) :=
  ⟨onD (withR base [(TXN_CFG, 0, 10)]) (fun d => d.txnBegin .core1 1), .core1, 9999999, by decide +kernel⟩

theorem witness_TransactionsAndTheirEnds_17 : ∃ (s : State) (i : Initiator) (v : Word) (n : Nat),
    Passes s i TXN_BEGIN n ∧ bitOf v 0 = false :=
  ⟨base, .core0, 2, 0, by decide +kernel⟩

theorem witness_FencesOrderAnInitiatorsWrites_1 : ∃ (s : State) (i : Initiator) (v : Word) (n : Nat),
    Passes s i SYS_FENCE n :=
  ⟨withR base [(BLK_LOCK 0, 0, 1)], .core0, 0, 0, by decide +kernel⟩

theorem witness_FencesOrderAnInitiatorsWrites_2 : ∃ (s : State) (i : Initiator),
    s.dev.fenced i = true ∧ s.dev.outstanding i = false ∧ s.dev.mirrorWaits i = false ∧ NothingWaits s :=
  ⟨onD base (fun d => d.fence .core0), .core0, by decide +kernel, by decide +kernel⟩

theorem witness_FencesOrderAnInitiatorsWrites_3 : ∃ (s : State) (i : Initiator) (t0 f : Nat) (w : PendWrite),
    s.dev.fenceAt i = some f ∧ f + 100000 ≤ t0 ∧ s.dev.txn.held = [w] ∧ w.init = i ∧ w.behind = false ∧ s.dev.txn.stores = [] ∧ s.dev.txn.reads = [] ∧ s.dev.up (pageIsland w.page) = false :=
  ⟨onD (withR base [(RST_ISLSTAT, 0, 0x400)]) (fun d => { d.fence .core0 with txn := { d.txn with fences := [(.core0, 0)], held := [{ init := .core0, page := 0x2C, off := 0x040, inst := 0, val := 5 }] } }), .core0, 100000, 0, { init := .core0, page := 0x2C, off := 0x040, inst := 0, val := 5 }, by decide +kernel⟩

theorem witness_FencesOrderAnInitiatorsWrites_4 : ∃ (s : State) (i : Initiator) (t0 f : Nat),
    s.dev.fenceAt i = some f ∧ f + 100000 ≤ t0 ∧ s.dev.txn.dropped.contains i = true ∧ NothingWaits s :=
  ⟨onD base (fun d => { d with txn := { d.txn with fences := [(.core0, 0)], dropped := [.core0] } }), .core0, 100000, 0, by decide +kernel⟩

theorem witness_FencesOrderAnInitiatorsWrites_5 : ∃ (s : State) (i : Initiator) (t0 : Nat),
    (∀ f, s.dev.fenceAt i = some f → t0 < f + 100000) ∨ (s.dev.outstanding i = false ∧ s.dev.mirrorWaits i = false) :=
  ⟨base, .core0, 5, Or.inr (by decide +kernel)⟩

theorem witness_FencesOrderAnInitiatorsWrites_6 : ∃ (s : State) (i : Initiator) (p : PendStore),
    s.dev.txn.fences.map Prod.fst = [i] ∧ s.dev.outstanding i = false ∧ s.dev.mirrorWaits i = false ∧ s.dev.txn.held = [] ∧ s.dev.txn.stores = [p] ∧ s.dev.txn.reads = [] ∧ p.init = i :=
  ⟨onD base (fun d => { d with txn := { d.txn with fences := [(.core0, 0)], stores := [{ init := .core0, addr := 0x08000000, size := 4, val := 7 }] } }), .core0, { init := .core0, addr := 0x08000000, size := 4, val := 7 }, by decide +kernel⟩

theorem witness_FencesOrderAnInitiatorsWrites_7 : ∃ (s : State) (i : Initiator),
    s.dev.fenced i = false ∨ s.dev.outstanding i = true :=
  ⟨base, .core0, by decide +kernel⟩

theorem witness_LevelRequestsFollowTable114_1 : ∃ (s : State) (i : Initiator) (n : Nat) (h : Bool),
    Passes s i PWR_LEVEL n ∧ s.dev.level = .limp ∧ s.dev.limpCause = false ∧ s.dev.holdCause = false ∧ NothingWaits s :=
  ⟨withR base [(PWR_LEVEL, 0, 1)], .core0, 0, true, by decide +kernel, by decide +kernel, by decide +kernel⟩

theorem witness_LevelRequestsFollowTable114_2 : ∃ (s : State) (i : Initiator) (n : Nat) (h : Bool),
    Passes s i PWR_LEVEL n ∧ (s.dev.level = .hold ∧ (h = false ∨ s.dev.limpCause = true ∨ s.dev.holdCause = true)) ∧ NothingWaits s :=
  ⟨withR base [(PWR_LEVEL, 0, 2)], .core0, 0, false, by decide +kernel, by decide +kernel, by decide +kernel⟩

theorem witness_LevelRequestsFollowTable114_3 : ∃ (s : State) (i : Initiator) (n : Nat),
    Passes s i PWR_LEVEL n ∧ s.dev.level = .hold ∧ s.dev.limpCause = false ∧ s.dev.holdCause = false ∧ NothingWaits s :=
  ⟨withR base [(PWR_LEVEL, 0, 2)], .core0, 0, by decide +kernel⟩

theorem witness_LevelRequestsFollowTable114_4 : ∃ (s : State) (i : Initiator) (n : Nat) (h : Bool),
    Passes s i PWR_LEVEL n ∧ s.dev.level = .standby ∧ NothingWaits s :=
  ⟨withR base [(PWR_LEVEL, 0, 3)], .core0, 0, true, by decide +kernel⟩

theorem witness_LevelRequestsFollowTable114_5 : ∃ (s : State) (i : Initiator) (n : Nat) (h : Bool),
    Passes s i PWR_LEVEL n ∧ s.dev.level = .normal ∧ NothingWaits s :=
  ⟨base, .core1, 0, false, by decide +kernel⟩

theorem witness_LevelRequestsFollowTable114_6 : ∃ (s : State) (i : Initiator) (n : Nat) (h : Bool),
    Passes s i PWR_LEVEL n ∧ s.dev.level = .limp :=
  ⟨withR base [(PWR_LEVEL, 0, 1)], .core1, 0, false, by decide +kernel⟩

theorem witness_LevelRequestsFollowTable114_7 : ∃ (s : State) (i : Initiator) (n : Nat),
    Passes s i PWR_LEVEL n ∧ s.dev.level = .hold ∧ NothingWaits s :=
  ⟨withR base [(PWR_LEVEL, 0, 2)], .core1, 0, by decide +kernel⟩

theorem witness_LevelRequestsFollowTable114_8 : ∃ (s : State) (i : Initiator) (n : Nat) (h : Bool),
    Passes s i PWR_LEVEL n ∧ s.dev.level = .normal :=
  ⟨base, .core1, 0, false, by decide +kernel⟩

theorem witness_LevelRequestsFollowTable114_9 : ∃ (s : State) (i : Initiator) (n : Nat),
    Passes s i PWR_LEVEL n ∧ s.dev.level = .hold ∧ s.dev.holdCause = false :=
  ⟨withR base [(PWR_LEVEL, 0, 2)], .core0, 0, by decide +kernel⟩

theorem witness_LevelRequestsFollowTable114_10 : ∃ (s : State) (i : Initiator) (n : Nat) (h : Bool),
    Passes s i PWR_LEVEL n ∧ (s.dev.level = .standby ∨ (s.dev.level = .hold ∧ (h = false ∨ s.dev.holdCause = true))) :=
  ⟨withR base [(PWR_LEVEL, 0, 3)], .core0, 0, true, by decide +kernel⟩

theorem witness_LevelRequestsFollowTable114_11 : ∃ (s : State) (i : Initiator) (n : Nat),
    Passes s i PWR_LEVEL n ∧ s.dev.level ≠ .hold ∧ s.dev.up .safety = true ∧ NothingWaits s :=
  ⟨base, .core0, 0, by decide +kernel⟩

theorem witness_LevelRequestsFollowTable114_12 : ∃ (s : State) (i : Initiator) (n : Nat),
    Passes s i PWR_LEVEL n ∧ s.dev.standbyOk = true :=
  ⟨base, .core0, 0, by decide +kernel⟩

theorem witness_LevelRequestsFollowTable114_13 : ∃ (s : State) (i : Initiator) (n : Nat),
    Passes s i PWR_LEVEL n ∧ s.dev.standbyOk = false ∧ s.dev.level ≠ .standby :=
  ⟨withR base [(SOUT_ONSUM, 0, 1)], .core0, 0, by decide +kernel⟩

theorem witness_StandbyWakeHoldPinAndCauses_1 : ∃ (s : State) (t0 : Nat),
    s.dev.pwr.standbyEntry = true :=
  ⟨{ onD base (fun d => d.askStandby) with sys := (onD base (fun d => d.askStandby)).sys.store 0x10000000 [1, 2] }, 5, by decide +kernel⟩

theorem witness_StandbyWakeHoldPinAndCauses_2 : ∃ (s : State) (t0 src : Nat),
    src < 4 ∧ s.dev.bit PWR_WAKECFG 0 src = true ∧ s.dev.level = .standby ∧ NothingWaits s :=
  ⟨withR base [(PWR_LEVEL, 0, 3), (PWR_WAKECFG, 0, 8), (RST_ISLSTAT, 0, 0xCF00)], 5, 3, by decide +kernel, by decide +kernel⟩

theorem witness_StandbyWakeHoldPinAndCauses_3 : ∃ (s : State) (t0 n : Nat),
    1000000 ≤ n ∧ NothingWaits s :=
  ⟨base, 5, 1000000, by decide +kernel, by decide +kernel⟩

theorem witness_StandbyWakeHoldPinAndCauses_4 : ∃ (s : State) (i : Initiator) (v : Word) (h : Bool) (n : Nat),
    Passes s i PWR_CAUSE n :=
  ⟨withR base [(PWR_CAUSE, 0, 0x1FF)], .core0, 0x1FF, true, 0, by decide +kernel⟩

theorem witness_StandbyWakeHoldPinAndCauses_5 : ∃ (s : State) (t0 : Nat),
    s.dev.pwr.standbyEntry = false :=
  ⟨base, 5, by decide +kernel⟩

theorem witness_StandbyWakeHoldPinAndCauses_6 : ∃ (s : State) (t0 src : Nat),
    src < 4 ∧ s.dev.bit PWR_WAKECFG 0 src = true ∧ s.dev.level = .normal ∧ s.dev.pwr.standbyEntry = true ∧ NothingWaits s :=
  ⟨onD (withR base [(PWR_WAKECFG, 0, 8)]) (fun d => d.askStandby), 5, 3, by decide +kernel⟩

theorem witness_StandbyWakeHoldPinAndCauses_7 : ∃ (s : State) (t0 src : Nat),
    (4 ≤ src ∨ s.dev.bit PWR_WAKECFG 0 src = false ∨ (s.dev.level ≠ .standby ∧ s.dev.pwr.standbyEntry = false)) ∧ NothingWaits s :=
  ⟨withR base [(PWR_WAKECFG, 0, 8)], 5, 3, by decide +kernel⟩

theorem witness_StandbyWakeHoldPinAndCauses_8 : ∃ (s : State) (t0 n : Nat),
    n < 1000000 ∧ NothingWaits s :=
  ⟨base, 5, 999999, by decide +kernel⟩

theorem witness_IslandsFailAndRecover_1 : ∃ (s : State) (t0 : Nat) (x : Island) (c : Nat) (a : Bool),
    x ∈ [Island.compute, .control, .acquisition, .link, .pstage] ∧ s.dev.pwr.phase = .running ∧ s.dev.islStat x < 2 ∧ WindowOpen s t0 x = false ∧ c < 16 :=
  ⟨base, 5, .compute, 1, false, by decide +kernel⟩

theorem witness_IslandsFailAndRecover_2 : ∃ (s : State) (t0 f : Nat),
    (s.dev.islRec .control).faultAt = some f ∧ f + 10000000 ≤ t0 ∧ s.dev.islStat .control = 1 ∧ NothingWaits s :=
  ⟨onD (withR base [(RST_ISLSTAT, 0, 0x400)]) (fun d => d.setIslRec .control { faultAt := some 7 }), 10000007, 7, by decide +kernel, by decide +kernel, by decide +kernel⟩

theorem witness_IslandsFailAndRecover_3 : ∃ (s : State) (t0 f : Nat),
    s.dev.pwr.vreqFrozenAt = some f ∧ f + min 2000 (s.dev.fld PWR_LIMPCFG 0 10 0) * 1000000 ≤ t0 :=
  ⟨onD base (fun d => { d with pwr := { d.pwr with vreqFrozenAt := some 3 } }), 2000000003, 3, by decide +kernel, by decide +kernel⟩

theorem witness_IslandsFailAndRecover_4 : ∃ (s : State) (t0 f : Nat),
    s.dev.pwr.gridLostAt = some f ∧ f + 100000000 ≤ t0 :=
  ⟨onD base (fun d => { d with pwr := { d.pwr with gridLostAt := some 3 } }), 100000003, 3, by decide +kernel⟩

theorem witness_IslandsFailAndRecover_5 : ∃ (s : State) (t0 : Nat) (x : Island) (c : Nat) (a : Bool),
    (x = .metrology ∨ x = .key) ∧ s.dev.pwr.phase = .running ∧ s.dev.islStat x < 2 ∧ WindowOpen s t0 x = false ∧ c < 16 :=
  ⟨base, 5, .metrology, 1, false, by decide +kernel⟩

theorem witness_IslandsFailAndRecover_6 : ∃ (s : State) (t0 c : Nat) (a : Bool),
    s.dev.up .safety = true :=
  ⟨base, 5, 1, false, by decide +kernel⟩

theorem witness_IslandsFailAndRecover_7 : ∃ (s : State) (t0 f n : Nat) (x : Island) (c : Nat) (a : Bool),
    s.dev.pwr.phase = .running ∧ s.dev.islStat x < 2 ∧ islandCause x = some n ∧ (s.dev.islRec x).faultAt = some f ∧ (s.dev.islRec x).asked = false ∧ max s.dev.time t0 < f + 10000000 :=
  ⟨onD (withR base [(RST_ISLSTAT, 0, 0x400)]) (fun d => d.setIslRec .control { faultAt := some 7 }), 10000006, 7, 2, .control, 1, false, by decide +kernel⟩

theorem witness_IslandsFailAndRecover_8 : ∃ (s : State) (t0 : Nat) (x : Island) (c : Nat) (a : Bool),
    s.dev.pwr.phase ≠ .running ∨ x = .aon ∨ x = .iface ∨ 2 ≤ s.dev.islStat x ∨ (x = .safety ∧ s.dev.up .safety = false) :=
  ⟨base, 5, .iface, 1, false, by decide +kernel⟩

theorem witness_IslandsFailAndRecover_9 : ∃ (s : State) (t0 f n : Nat) (x : Island),
    (s.dev.islRec x).faultAt = some f ∧ f + 10000000 ≤ t0 ∧ s.dev.islStat x = 1 ∧ islandCause x = some n ∧ NothingWaits s :=
  ⟨onD (withR base [(RST_ISLSTAT, 0, 0x100)]) (fun d => d.setIslRec .compute { faultAt := some 7 }), 10000007, 7, 0, .compute, by decide +kernel⟩

theorem witness_IslandsFailAndRecover_10 : ∃ (s : State) (t0 f : Nat) (x : Island),
    (s.dev.islRec x).faultAt = some f ∧ f + 10000000 ≤ t0 ∧ (s.dev.islStat x ≠ 1 ∨ islandCause x = none) ∧ NothingWaits s :=
  ⟨onD base (fun d => d.setIslRec .compute { faultAt := some 7 }), 10000007, 7, .compute, by decide +kernel⟩

theorem witness_IslandsFailAndRecover_11 : ∃ (s : State) (t0 : Nat) (x : Island),
    (∀ f ∈ (s.dev.islRec x).faultAt, t0 < f + 10000000) ∧ NothingWaits s :=
  ⟨onD (withR base [(RST_ISLSTAT, 0, 0x100)]) (fun d => d.setIslRec .compute { faultAt := some 7 }), 10000006, .compute, by decide +kernel⟩

theorem witness_IslandsFailAndRecover_13 : ∃ (s : State) (t0 : Nat),
    (∀ f ∈ s.dev.pwr.gridLostAt, t0 < f + 100000000) :=
  ⟨onD base (fun d => { d with pwr := { d.pwr with gridLostAt := some 3 } }), 100000002, by decide +kernel⟩

theorem witness_ClocksNvmAndDebugPort_1 : ∃ (s : State) (t0 q : Nat),
    10000 ≤ q :=
  ⟨base, 5, 10000, by decide +kernel⟩

theorem witness_ClocksNvmAndDebugPort_2 : ∃ (s : State) (t0 n : Nat),
    1000 ≤ n ∧ s.dev.pwr.phase = .running ∧ s.dev.islStat .pstage < 2 ∧ WindowOpen s t0 .pstage = false :=
  ⟨base, 5, 1000, by decide +kernel⟩

theorem witness_ClocksNvmAndDebugPort_3 : ∃ (s : State) (t0 n : Nat),
    1000 ≤ n ∧ s.dev.pwr.phase = .running :=
  ⟨base, 5, 1000, by decide +kernel⟩

theorem witness_ClocksNvmAndDebugPort_4 : ∃ (s : State) (t0 a : Nat),
    0x14000000 ≤ a ∧ a < 0x14400000 :=
  ⟨base, 5, 0x143FFFFF, by decide +kernel⟩

theorem witness_ClocksNvmAndDebugPort_5 : ∃ (s : State) (t0 a : Nat) (i : Initiator),
    0x14000000 ≤ a ∧ a < 0x14400000 ∧ s.dev.reaches i 0 = true ∧ i ≠ .mirror ∧ (s.dev.at t0).nvmOk i false (a / 4 * 4) = true :=
  ⟨base, 5, 0x14000007, .core0, by decide +kernel⟩

theorem witness_ClocksNvmAndDebugPort_6 : ∃ (s : State) (t0 a : Nat) (i : Initiator),
    0x14000000 ≤ a ∧ a < 0x14400000 ∧ s.dev.reaches i 0 = true ∧ i ≠ .mirror ∧ (s.dev.at t0).nvmOk i false (a / 4 * 4) = true :=
  ⟨base, 5, 0x14000007, .core0, by decide +kernel⟩

theorem witness_ClocksNvmAndDebugPort_7 : ∃ (s : State) (t0 a : Nat) (i : Initiator) (b : Bool),
    0x14000000 ≤ a ∧ a < 0x14400000 ∧ (s.dev.reaches i 0 = false ∨ i = .mirror ∨ (s.dev.at t0).nvmOk i false (a / 4 * 4) = false) :=
  ⟨base, 5, 0x14080007, .core0, true, by decide +kernel⟩

theorem witness_ClocksNvmAndDebugPort_8 : ∃ (s : State) (t0 : Nat),
    s.dev.sys.refreshFrom + 365 * 86400 * 1000000000 ≤ t0 :=
  ⟨base, 31536000000000000, by decide +kernel⟩

theorem witness_ClocksNvmAndDebugPort_9 : ∃ (s : State) (i : Initiator) (v : Word) (n : Nat),
    Passes s i DBG_SWOTX n ∧ s.dev.bit DBG_SWOCFG 0 31 = false ∧ s.dev.sys.swo.length < 64 :=
  ⟨base, .core0, 0x141, 0, by decide +kernel⟩

theorem witness_ClocksNvmAndDebugPort_10 : ∃ (s : State) (i : Initiator) (v : Word) (n : Nat),
    Passes s i DBG_SWOTX n ∧ s.dev.bit DBG_SWOCFG 0 31 = false ∧ 64 ≤ s.dev.sys.swo.length :=
  ⟨onD base (fun d => { d with sys := { d.sys with swo := List.replicate 64 0 } }), .core0, 1, 0, by decide +kernel⟩

theorem witness_ClocksNvmAndDebugPort_11 : ∃ (s : State) (t0 : Nat) (a : DbgAsk),
    s.dev.bankOff 1 = true ∨ s.dev.bit DBG_STAT 0 0 = false :=
  ⟨base, 5, .access, by decide +kernel⟩

theorem witness_ClocksNvmAndDebugPort_12 : ∃ (s : State) (t0 h : Nat),
    s.dev.bankOff 1 = false ∧ s.dev.bit DBG_STAT 0 0 = true ∧ s.dev.bit DBG_STAT 0 1 = true ∧ h < 4 ∧ s.dev.up .compute = true :=
  ⟨withR base [(DBG_STAT, 0, 3)], 5, 3, by decide +kernel⟩

theorem witness_ClocksNvmAndDebugPort_13 : ∃ (s : State) (t0 h : Nat),
    s.dev.bankOff 1 = false ∧ s.dev.bit DBG_STAT 0 0 = true ∧ s.dev.bit DBG_STAT 0 1 = true ∧ h < 4 :=
  ⟨withR base [(DBG_STAT, 0, 0xF03)], 5, 3, by decide +kernel⟩

theorem witness_ClocksNvmAndDebugPort_14 : ∃ (s : State) (t0 : Nat),
    s.dev.bankOff 1 = false ∧ s.dev.bit DBG_STAT 0 0 = true ∧ s.dev.bit DBG_STAT 0 1 = false :=
  ⟨withR base [(DBG_STAT, 0, 1)], 5, by decide +kernel⟩

theorem witness_ClocksNvmAndDebugPort_15 : ∃ (s : State) (i : Initiator) (v : Word) (n : Nat),
    Passes s i PWR_PROFILE n ∧ s.dev.bit PWR_STAT 0 0 = false ∧ bits v 1 0 ≠ 3 ∧ bits v 1 0 ≠ s.dev.profile ∧ s.dev.profileBreach (bits v 1 0) = false :=
  ⟨base, .core0, 0, 0, by decide +kernel⟩

theorem witness_ClocksNvmAndDebugPort_16 : ∃ (s : State) (i : Initiator) (v : Word) (n : Nat),
    Passes s i PWR_PROFILE n ∧ (s.dev.bit PWR_STAT 0 0 = true ∨ bits v 1 0 = 3) :=
  ⟨base, .core0, 3, 0, by decide +kernel⟩

theorem witness_ClocksNvmAndDebugPort_17 : ∃ (s : State) (t0 q : Nat),
    10000 ≤ q ∧ s.dev.up .safety = true :=
  ⟨base, 5, 10000, by decide +kernel⟩

theorem witness_ClocksNvmAndDebugPort_18 : ∃ (s : State) (t0 k q : Nat),
    2 ≤ k ∨ q < 10000 :=
  ⟨base, 5, 0, 9999, by decide +kernel⟩

theorem witness_ClocksNvmAndDebugPort_19 : ∃ (s : State) (t0 k n : Nat),
    1 ≤ k ∧ k < 10 ∧ 1000 ≤ n :=
  ⟨base, 5, 4, 1000, by decide +kernel⟩

theorem witness_ClocksNvmAndDebugPort_20 : ∃ (s : State) (t0 k n : Nat),
    10 ≤ k ∨ n < 1000 :=
  ⟨base, 5, 4, 999, by decide +kernel⟩

theorem witness_ClocksNvmAndDebugPort_21 : ∃ (s : State) (t0 a : Nat),
    0x14000000 ≤ a ∧ a < 0x14400000 :=
  ⟨base, 5, 0x14000007, by decide +kernel⟩

theorem witness_ClocksNvmAndDebugPort_22 : ∃ (s : State) (t0 a : Nat) (i : Option Initiator) (b : Bool),
    a < 0x14000000 ∨ 0x14400000 ≤ a :=
  ⟨base, 5, 0x14400000, some .core0, true, by decide +kernel⟩

theorem witness_ClocksNvmAndDebugPort_23 : ∃ (s : State) (t0 : Nat),
    t0 < s.dev.sys.refreshFrom + 365 * 86400 * 1000000000 :=
  ⟨base, 31535999999999999, by decide +kernel⟩

theorem witness_ClocksNvmAndDebugPort_24 : ∃ (s : State) (i : Initiator) (v : Word) (n : Nat),
    Passes s i DBG_SWOTX n :=
  ⟨onD (withR base [(DBG_SWOCFG, 0, 0x8001C200), (DBG_STAT, 0, 1)]) (fun d => { d with time := 1000000, sys := { d.sys with swo := List.replicate 64 0 } }), .core0, 1, 0, by decide +kernel⟩

theorem witness_ClocksNvmAndDebugPort_25 : ∃ (s : State) (t0 : Nat) (a : DbgAsk),
    s.dev.bankOff 1 = false ∧ s.dev.bit DBG_STAT 0 0 = true :=
  ⟨withR base [(DBG_STAT, 0, 1)], 5, .step 2, by decide +kernel⟩

theorem witness_ClocksNvmAndDebugPort_26 : ∃ (s : State) (i : Initiator) (v : Word) (n : Nat),
    Passes s i PWR_PROFILE n ∧ s.dev.bit PWR_STAT 0 0 = false ∧ bits v 1 0 ≠ 3 ∧ (bits v 1 0 = s.dev.profile ∨ s.dev.profileBreach (bits v 1 0) = true) :=
  ⟨withR base [(LPE_FRAMECFG, 0, 999), (PWR_PROFILE, 0, 0)], .core0, 1, 0, by decide +kernel⟩

theorem witness_TheFrameCountsAndSchedules_1 : ∃ (s : State) (t0 : Nat) (xs : List (Option Nat)),
    (s.dev.at t0).up .control = true ∧ s.dev.txn.commits = [] ∧ s.dev.pair.commitsIn = [] ∧ s.dev.pair.copyIn = none :=
  ⟨base, 5, [some 1, none], by decide +kernel⟩

theorem witness_TheFrameCountsAndSchedules_2 : ∃ (s : State) (t0 n : Nat),
    s.dev.engineRuns = true ∧ s.dev.loop.distributed = false ∧ s.dev.level = .normal ∧ s.dev.loop.due = [n] ∧ n < 128 ∧ (s.dev.ctxR n).badGroups ≠ 0 :=
  ⟨onD base (fun d => { (d.setCtxR 3 { badGroups := 1 }) with loop := { (d.setCtxR 3 { badGroups := 1 }).loop with distributed := false, due := [3] } }), 5, 3, by decide +kernel, by decide +kernel⟩

theorem witness_TheFrameCountsAndSchedules_3 : ∃ (s : State) (t0 n : Nat),
    s.dev.engineRuns = true ∧ s.dev.loop.vAt + 6000 ≤ t0 ∧ s.dev.loop.inLane = [n] ∧ s.dev.loop.notIn = [] ∧ n < 128 :=
  ⟨onD base (fun d => { d with loop := { d.loop with inLane := [127] } }), 6000, 127, by decide +kernel, by decide +kernel⟩

theorem witness_TheFrameCountsAndSchedules_4 : ∃ (s : State) (t0 : Nat),
    s.dev.up .control = true ∧ s.dev.loop.distributed = false ∧ s.dev.loop.inLane = [] ∧ s.dev.loop.notIn = [] ∧ s.dev.loop.due = [] :=
  ⟨onD base (fun d => { d with loop := { d.loop with distributed := false } }), 7, by decide +kernel, by decide +kernel⟩

theorem witness_TheFrameCountsAndSchedules_5 : ∃ (s : State) (n : Nat),
    s.dev.escalates n = true ∧ s.dev.fld LPE_MISSCFG n 9 8 = 1 ∧ NothingWaits s ∧ s.dev.level = .normal :=
  ⟨withR base [(LPE_MISSCFG, 127, 0x103), (LPE_MISSCNT, 127, 3)], 127, by decide +kernel, by decide +kernel⟩

theorem witness_TheFrameCountsAndSchedules_6 : ∃ (s : State) (n t0 : Nat),
    (s.dev.at t0).saturates n = true ∧ s.dev.bit LPE_SATCFG n 20 = true ∧ NothingWaits s ∧ s.dev.level = .normal :=
  ⟨onD (withR base [(LPE_SATCFG, 0, 0x100001)]) (fun d => d.setCtxR 0 { satFrom := some 5 }), 0, 1000005, by decide +kernel, by decide +kernel⟩

theorem witness_TheFrameCountsAndSchedules_7 : ∃ (s : State) (t0 : Nat) (xs : List (Option Nat)),
    s.dev.up .control = false :=
  ⟨withR base [(RST_ISLSTAT, 0, 0x400)], 5, [some 1], by decide +kernel⟩

theorem witness_TheFrameCountsAndSchedules_8 : ∃ (s : State) (t0 : Nat) (xs : List (Option Nat)),
    s.dev.up .control = true ∧ s.dev.pair.copyIn = none :=
  ⟨onD base (fun d => { d with txn := { d.txn with commits := [{ init := .core1, slot := 2, staged := [], overAt := none, seq := 4, validAt := some 0 }] } }), 1000, [], by decide +kernel⟩

theorem witness_TheFrameCountsAndSchedules_9 : ∃ (s : State) (t0 : Nat) (xs : List (Option Nat)),
    s.dev.up .control = true ∧ s.dev.level ≠ .hold ∧ s.dev.level ≠ .standby ∧ s.dev.txn.commits = [] ∧ s.dev.pair.commitsIn = [] ∧ s.dev.pair.copyIn = none :=
  ⟨withR base [(SDM_CHCFG, 0, 1), (SDM_CLKCFG, 0, 0xF)], 5, [some 1, none], by decide +kernel⟩

theorem witness_TheFrameCountsAndSchedules_10 : ∃ (s : State) (t0 a : Nat) (xs : List (Option Nat)) (c : Commit),
    s.dev.up .control = true ∧ s.dev.pair.commitsIn = [] ∧ s.dev.pair.copyIn = none ∧ s.dev.pwr.profPending = none ∧ s.dev.txn.commits = [c] ∧ c.validAt = some a ∧ c.needsAck = false ∧ c.ackAt = none ∧ c.slot < 4 ∧ s.dev.openTxn c.init = none ∧ a + 2000 ≤ max s.dev.time t0 ∧ max s.dev.time t0 ≤ a + 1000000 ∧ s.dev.targetDown c = false ∧ c.doomed = true :=
  ⟨onD base (fun d => { d with txn := { d.txn with commits := [{ init := .core1, slot := 2, staged := [{ init := .core1, page := 0x100, off := 0x050, inst := 0, val := 0x12345678 }], overAt := none, seq := 4, validAt := some 0, doomed := true }] } }), 2000, 0, [], { init := .core1, slot := 2, staged := [{ init := .core1, page := 0x100, off := 0x050, inst := 0, val := 0x12345678 }], overAt := none, seq := 4, validAt := some 0, doomed := true }, by decide +kernel⟩

theorem witness_TheFrameCountsAndSchedules_11 : ∃ (s : State) (t0 a n : Nat) (xs : List (Option Nat)) (c : Commit) (w : PendWrite),
    s.dev.up .control = true ∧ s.dev.pair.commitsIn = [] ∧ s.dev.pair.copyIn = none ∧ s.dev.pwr.profPending = none ∧ s.dev.checkPeriod = none ∧ s.dev.txn.commits = [c] ∧ c.validAt = some a ∧ c.needsAck = false ∧ c.ackAt = none ∧ c.slot < 4 ∧ s.dev.openTxn c.init = none ∧ a + 2000 ≤ max s.dev.time t0 ∧ max s.dev.time t0 ≤ a + 1000000 ∧ c.doomed = false ∧ c.staged = [w] ∧ w.page = 0x100 + n ∧ n < s.dev.variant.contexts ∧ w.inst = 0 ∧ w.off ∈ groupOffs 3 ∧ s.dev.recheck w = 0 :=
  ⟨onD base (fun d => { d with txn := { d.txn with commits := [{ init := .core1, slot := 2, staged := [{ init := .core1, page := 0x100, off := 0x050, inst := 0, val := 0x12345678 }], overAt := none, seq := 4, validAt := some 0 }] } }), 2000, 0, 0, [], { init := .core1, slot := 2, staged := [{ init := .core1, page := 0x100, off := 0x050, inst := 0, val := 0x12345678 }], overAt := none, seq := 4, validAt := some 0 }, { init := .core1, page := 0x100, off := 0x050, inst := 0, val := 0x12345678 }, by decide +kernel⟩

theorem witness_TheFrameCountsAndSchedules_12 : ∃ (s : State) (t0 n : Nat) (hits : List (Nat × Nat)) (xs : List Acc),
    s.dev.engineRuns = true ∧ s.dev.loop.distributed = false ∧ s.dev.level ≠ .hold ∧ s.dev.level ≠ .standby ∧ s.dev.loop.due = [n] ∧ n < 128 ∧ rankIn s.dev.ranks n < 4 ∧ (s.dev.ctxR n).badGroups = 0 ∧ (∀ h ∈ hits, h.1 ≠ n) ∧ ((s.dev.at t0).decideUpTo s.dev.ranks (rankIn s.dev.ranks n)).feedback n = some xs :=
  ⟨evS, 5, 3, [(4, 0)], ((evS.dev.at 5).decideUpTo evS.dev.ranks 0).feedback 3 |>.getD [], by decide +kernel⟩

theorem witness_TheFrameCountsAndSchedules_13 : ∃ (s : State) (t0 n : Nat),
    s.dev.engineRuns = true ∧ s.dev.loop.distributed = false ∧ s.dev.level ≠ .hold ∧ s.dev.level ≠ .standby ∧ s.dev.loop.due = [n] ∧ n < 128 ∧ rankIn s.dev.ranks n < 4 ∧ (s.dev.ctxR n).badGroups = 0 ∧ ((s.dev.at t0).decideUpTo s.dev.ranks (rankIn s.dev.ranks n)).feedback n = none :=
  ⟨onD (withR base [(LPE_CTXCFG, 3, 0x80000000), (LPE_SRC, 3, 0x10000000)]) (fun d => { d with loop := { d.loop with distributed := false, due := [3] } }), 5, 3, by decide +kernel⟩

theorem witness_TheFrameCountsAndSchedules_14 : ∃ (s : State) (t0 : Nat) (hits : List (Nat × Nat)),
    s.dev.engineRuns = false ∨ s.dev.loop.distributed = true ∨ s.dev.level = .hold ∨ s.dev.level = .standby :=
  ⟨onD base (fun d => { d with loop := { d.loop with distributed := true, due := [3] } }), 5, [], by decide +kernel⟩

theorem witness_TheFrameCountsAndSchedules_15 : ∃ (s : State) (t0 : Nat),
    s.dev.engineRuns = true ∧ s.dev.loop.vAt + 6000 ≤ max s.dev.time t0 ∧ (s.dev.loop.inLane ++ s.dev.loop.notIn).Nodup ∧ (∀ n ∈ s.dev.loop.inLane ++ s.dev.loop.notIn, n < 128) :=
  ⟨onD base (fun d => { d with loop := { d.loop with inLane := [127, 3], notIn := [5, 0] } }), 6000, by decide +kernel⟩

theorem witness_TheFrameCountsAndSchedules_16 : ∃ (s : State) (t0 : Nat),
    s.dev.engineRuns = false ∨ max s.dev.time t0 < s.dev.loop.vAt + 6000 :=
  ⟨onD base (fun d => { d with loop := { d.loop with inLane := [127] } }), 5999, by decide +kernel⟩

theorem witness_TheFrameCountsAndSchedules_17 : ∃ (s : State) (t0 : Nat),
    s.dev.up .control = true ∧ s.dev.loop.distributed = false ∧ s.dev.loop.inLane = [] ∧ s.dev.loop.notIn = [] ∧ s.dev.loop.due = [] :=
  ⟨onD (withR base [(CAB_LSTAT, 2, 2), (CAB_LCFG, 2, 0xFF01)]) (fun d => { d.setLink 2 { stg := [1, 2] } with loop := { d.loop with distributed := false } }), 7, by decide +kernel⟩

theorem witness_TheFrameCountsAndSchedules_18 : ∃ (s : State) (t0 : Nat),
    s.dev.up .control = false ∨ s.dev.loop.distributed = true ∨ s.dev.loop.inLane ≠ [] ∨ s.dev.loop.notIn ≠ [] ∨ s.dev.loop.due ≠ [] :=
  ⟨onD base (fun d => { d with loop := { d.loop with distributed := false, due := [3] } }), 5, by decide +kernel⟩

theorem witness_TheFrameCountsAndSchedules_19 : ∃ (s : State) (n : Nat),
    s.dev.escalates n = true ∧ s.dev.fld LPE_MISSCFG n 9 8 ≠ 1 ∧ NothingWaits s :=
  ⟨withR base [(LPE_MISSCFG, 127, 0x203), (LPE_MISSCNT, 127, 3), (LPE_OUT, 127, 5), (coefReg 127 0x128, 0, 9)], 127, by decide +kernel⟩

theorem witness_TheFrameCountsAndSchedules_20 : ∃ (s : State) (n : Nat),
    s.dev.escalates n = false ∧ NothingWaits s :=
  ⟨withR base [(LPE_MISSCFG, 127, 0x103), (LPE_MISSCNT, 127, 2)], 127, by decide +kernel⟩

theorem witness_TheFrameCountsAndSchedules_21 : ∃ (s : State) (n t0 : Nat),
    (s.dev.at t0).saturates n = true ∧ s.dev.bit LPE_SATCFG n 20 = false ∧ NothingWaits s :=
  ⟨onD (withR base [(LPE_SATCFG, 0, 1)]) (fun d => d.setCtxR 0 { satFrom := some 5 }), 0, 1000005, by decide +kernel⟩

theorem witness_TheFrameCountsAndSchedules_22 : ∃ (s : State) (n t0 : Nat),
    (s.dev.at t0).saturates n = false ∧ NothingWaits s :=
  ⟨onD (withR base [(LPE_SATCFG, 0, 1)]) (fun d => d.setCtxR 0 { satFrom := some 5 }), 0, 1000004, by decide +kernel⟩

theorem witness_BitstreamsAreSupervised_1 : ∃ (s : State) (t0 : Nat) (xs : List (Option Nat)),
    NothingWaits s :=
  ⟨withR base [(SDM_CHCFG, 0, 1), (SDM_CLKCFG, 0, 0xF), (SDM_CHCFG, 39, 1)], 5, [some 5, none], by decide +kernel⟩

theorem witness_BitstreamsAreSupervised_2 : ∃ (s : State) (t0 c q k : Nat),
    c < s.dev.variant.sdInputs ∧ s.dev.up .control = true ∧ max 1 (s.dev.fld SDM_CHCFG c 15 12) * 32 ≤ q :=
  ⟨base, 5, 39, 256, 0, by decide +kernel, by decide +kernel⟩

theorem witness_BitstreamsAreSupervised_3 : ∃ (s : State) (t0 c g : Nat),
    1024 ≤ g ∧ c < s.dev.variant.sdInputs :=
  ⟨withR base [(SDM_CHSTAT, 0, 1)], 5, 0, 1024, by decide +kernel⟩

theorem witness_BitstreamsAreSupervised_4 : ∃ (s : State) (t0 c f m : Nat),
    (s.dev.sdmC c).settleFast = some f ∧ (s.dev.sdmC c).settleMtr = some m ∧ f + 60000 ≤ t0 ∧ m + 1000000 ≤ t0 :=
  ⟨onD base (fun d => d.startSettle 5), 1000000, 5, 0, 0, by decide +kernel, by decide +kernel⟩

theorem witness_BitstreamsAreSupervised_5 : ∃ (s : State) (i : Initiator) (v : Word) (n : Nat),
    Passes s i SDM_CALCTL n ∧ bitOf v 16 = true :=
  ⟨base, .core0, 0x10203, 0, by decide +kernel, by decide +kernel⟩

theorem witness_BitstreamsAreSupervised_6 : ∃ (s : State) (t0 f r m : Nat) (x : Int),
    s.dev.sdm.calFrom = some f ∧ f + 52428800 ≤ t0 ∧ -32768 ≤ x ∧ x ≤ 32767 :=
  ⟨onD base (fun d => { d with sdm := { d.sdm with calFrom := some 7 } }), 52428807, 7, 10, 10, -32768, by decide +kernel, by decide +kernel⟩

theorem witness_BitstreamsAreSupervised_7 : ∃ (s : State) (i : Initiator) (v : Word) (n : Nat),
    Passes s i SDM_SNAPCTL n ∧ bitOf v 0 = true :=
  ⟨base, .core0, 1, 0, by decide +kernel, by decide +kernel⟩

theorem witness_BitstreamsAreSupervised_8 : ∃ (s : State) (t0 q : Nat),
    s.dev.bit SDM_CLKCFG 0 8 = true ∧ 50 ≤ q :=
  ⟨withR base [(SDM_CLKCFG, 0, 0x10F)], 5, 50, by decide +kernel⟩

theorem witness_BitstreamsAreSupervised_9 : ∃ (s : State) (t0 c q k : Nat),
    c < s.dev.variant.sdInputs ∧ s.dev.up .control = true ∧ s.dev.bit SDM_CLKCFG 0 (8 + sdmGroup c) = true ∧ 200 ≤ k :=
  ⟨withR base [(SDM_CLKCFG, 0, 0xF0F), (SDM_CLKSTAT, 0, 0xF)], 5, 39, 0, 200, by decide +kernel⟩

theorem witness_BitstreamsAreSupervised_10 : ∃ (s : State) (t0 c q k : Nat),
    s.dev.variant.sdInputs ≤ c ∨ s.dev.up .control = false ∨ (q < max 1 (s.dev.fld SDM_CHCFG c 15 12) * 32 ∧ (s.dev.bit SDM_CLKCFG 0 (8 + sdmGroup c) = false ∨ k < 200)) :=
  ⟨withR base [(SDM_CLKCFG, 0, 0xF0F), (SDM_CHCFG, 39, 0x1001)], 5, 39, 31, 199, by decide +kernel⟩

theorem witness_BitstreamsAreSupervised_11 : ∃ (s : State) (t0 c g : Nat),
    g < 1024 :=
  ⟨withR base [(SDM_CHSTAT, 0, 1)], 5, 0, 1023, by decide +kernel⟩

theorem witness_BitstreamsAreSupervised_12 : ∃ (s : State) (t0 c : Nat),
    c < s.dev.variant.sdInputs :=
  ⟨onD base (fun d => d.startSettle 5), 60000, 5, by decide +kernel⟩

theorem witness_BitstreamsAreSupervised_13 : ∃ (s : State) (i : Initiator) (v : Word) (n : Nat),
    Passes s i SDM_CALCTL n ∧ bitOf v 16 = false :=
  ⟨base, .core0, 0x0203, 0, by decide +kernel⟩

theorem witness_BitstreamsAreSupervised_14 : ∃ (s : State) (t0 r m : Nat) (x : Int),
    (∀ f ∈ s.dev.sdm.calFrom, max s.dev.time t0 < f + 52428800) :=
  ⟨onD base (fun d => { d with sdm := { d.sdm with calFrom := some 7 } }), 52428806, 10, 10, 5, by decide +kernel⟩

theorem witness_BitstreamsAreSupervised_15 : ∃ (s : State) (i : Initiator) (v : Word) (n : Nat),
    Passes s i SDM_SNAPCTL n ∧ bitOf v 0 = false :=
  ⟨base, .core0, 2, 0, by decide +kernel⟩

theorem witness_BitstreamsAreSupervised_16 : ∃ (s : State) (t0 q : Nat),
    s.dev.bit SDM_CLKCFG 0 8 = false ∨ q < 50 :=
  ⟨withR base [(SDM_CLKCFG, 0, 0x10F)], 5, 49, by decide +kernel⟩

theorem witness_CabinetLinksAndVehicleRequests_1 : ∃ (s : State) (t0 l : Nat) (rd : Bool) (syms : List Nat) (bs : List Byte),
    l < s.dev.variant.cabinets ∧ s.dev.up .control = true ∧ s.dev.bankOff 5 = false ∧ frameOf rd syms = some bs ∧ frameGood l 168 bs = true :=
  ⟨base, 5, 7, false, goodSyms, goodT, by decide +kernel⟩

theorem witness_CabinetLinksAndVehicleRequests_2 : ∃ (s : State) (t0 l : Nat) (rd : Bool) (syms : List Nat),
    l < s.dev.variant.cabinets ∧ s.dev.up .control = true ∧ s.dev.bankOff 5 = false ∧ ((frameOf rd syms).map (frameGood l 168)).getD false = false :=
  ⟨base, 5, 7, true, [1, 2], by decide +kernel⟩

theorem witness_CabinetLinksAndVehicleRequests_3 : ∃ (s : State) (t0 l : Nat) (rd : Bool) (syms : List Nat),
    s.dev.variant.cabinets ≤ l ∨ s.dev.up .control = false ∨ s.dev.bankOff 5 = true :=
  ⟨base, 5, 8, true, [1, 2], by decide +kernel⟩

theorem witness_CabinetLinksAndVehicleRequests_4 : ∃ (s : State) (t0 l : Nat),
    l < s.dev.variant.cabinets ∧ s.dev.up .control = true ∧ s.dev.loop.boundaryAt + s.dev.periodNs ≤ max s.dev.time t0 + 1000 ∧ s.dev.linkState l = 2 ∧ (s.dev.link l).got = false ∧ (s.dev.link l).cut = false :=
  ⟨withR base [(CAB_LSTAT, 7, 0x32)], 2000000, 7, by decide +kernel⟩

theorem witness_CabinetLinksAndVehicleRequests_5 : ∃ (s : State) (t0 l : Nat),
    (s.dev.link l).cut = true ∨ max s.dev.time t0 + 1000 < s.dev.loop.boundaryAt + s.dev.periodNs ∨ (s.dev.link l).got = true :=
  ⟨base, 5, 7, by decide +kernel⟩

theorem witness_CabinetLinksAndVehicleRequests_6 : ∃ (s : State) (t0 l : Nat) (tel : List Byte),
    l < s.dev.variant.cabinets ∧ s.dev.pwr.phase = .running :=
  ⟨base, 5, 0, [1, 2, 3], by decide +kernel⟩

theorem witness_CabinetLinksAndVehicleRequests_7 : ∃ (s : State) (i : Initiator) (v : Word) (n : Nat),
    Passes s i CAB_LCFG n :=
  ⟨withR base [(CAB_LSTAT, 0, 3)], .core0, 0, 0, by decide +kernel⟩

theorem witness_CabinetLinksAndVehicleRequests_8 : ∃ (s : State) (i : Initiator) (v : Word) (n : Nat),
    Passes s i ARB_VREQ n :=
  ⟨base, .core0, 0xFFFFFFFF, 0, by decide +kernel⟩

theorem witness_CabinetLinksAndVehicleRequests_9 : ∃ (s : State) (t0 l : Nat),
    l < s.dev.variant.cabinets ∧ s.dev.up .control = true ∧ s.dev.loop.boundaryAt + s.dev.periodNs ≤ max s.dev.time t0 + 1000 ∧ (s.dev.link l).got = false ∧ (s.dev.link l).cut = false :=
  ⟨onD (withR base [(CAB_LSTAT, 2, 1)]) (fun d => d.setLink 2 { good := 3 }), 100000, 2, by decide +kernel⟩

theorem witness_CabinetLinksAndVehicleRequests_10 : ∃ (s : State) (t0 l : Nat),
    s.dev.variant.cabinets ≤ l ∨ s.dev.up .control = false :=
  ⟨base, 5, 8, by decide +kernel⟩

theorem witness_CabinetLinksAndVehicleRequests_11 : ∃ (s : State) (t0 l : Nat) (tel : List Byte),
    s.dev.variant.cabinets ≤ l ∨ s.dev.pwr.phase ≠ .running :=
  ⟨base, 5, 8, [1], by decide +kernel⟩

theorem witness_TuningSessionsStartStopAndStep_1 : ∃ (s : State) (i : Initiator) (v : Word) (n : Nat),
    Passes s i LPE_TUNCTL n ∧ bitOf v 1 = false ∧ s.dev.tunState ≠ 1 :=
  ⟨base, .core0, 0, 0, by decide +kernel, by decide +kernel⟩

theorem witness_TuningSessionsStartStopAndStep_2 : ∃ (s : State) (i : Initiator) (v : Word) (n : Nat),
    Passes s i LPE_TUNCTL n ∧ s.dev.tunState = 1 :=
  ⟨withR base [(LPE_TUNSTAT, 0, 1)], .core0, 0, 0, by decide +kernel, by decide +kernel⟩

theorem witness_TuningSessionsStartStopAndStep_3 : ∃ (s : State) (t0 : Nat),
    s.dev.tunState = 1 ∧ s.dev.arb.tun.ready = true ∧ s.dev.tunPrbs = false ∧ s.dev.fld LPE_TUNCTL 0 28 24 ≤ s.dev.tunPoint :=
  ⟨onD (withR base [(LPE_TUNSTAT, 0, 1)]) (fun d => d.setTun { ready := true }), 5, by decide +kernel, by decide +kernel⟩

theorem witness_TuningSessionsStartStopAndStep_4 : ∃ (s : State) (i : Initiator) (v : Word) (n : Nat),
    Passes s i LPE_TUNCTL n ∧ bitOf v 1 = false ∧ s.dev.tunState ≠ 1 ∧ (s.dev.fieldsWrite i 0x29 0x040 0 false (v ||| 1)).tunRefusal = 0 :=
  ⟨withR base [(LPE_TUNAMP, 0, 0x00010000), (LPE_CTXCFG, 5, 0x80000000), (LPE_TPT, 0, 0x00010100)], .core0, 0x500, 0, by decide +kernel⟩

theorem witness_TuningSessionsStartStopAndStep_5 : ∃ (s : State) (i : Initiator) (v : Word) (n : Nat),
    Passes s i LPE_TUNCTL n ∧ bitOf v 1 = false ∧ s.dev.tunState ≠ 1 ∧ (s.dev.fieldsWrite i 0x29 0x040 0 false (v ||| 1)).tunRefusal ≠ 0 :=
  ⟨base, .core0, 0, 0, by decide +kernel⟩

theorem witness_TuningSessionsStartStopAndStep_6 : ∃ (s : State) (i : Initiator) (v : Word) (n : Nat),
    Passes s i LPE_TUNCTL n ∧ bitOf v 1 = false ∧ s.dev.tunState = 1 :=
  ⟨withR base [(LPE_TUNSTAT, 0, 1)], .core0, 0, 0, by decide +kernel⟩

theorem witness_TuningSessionsStartStopAndStep_7 : ∃ (s : State) (i : Initiator) (v : Word) (n : Nat),
    Passes s i LPE_TUNCTL n ∧ bitOf v 1 = true ∧ (s.dev.tunState = 1 ∨ s.dev.arb.tun.pending = true) :=
  ⟨withR base [(LPE_TUNSTAT, 0, 1)], .core0, 2, 0, by decide +kernel⟩

theorem witness_TuningSessionsStartStopAndStep_8 : ∃ (s : State) (i : Initiator) (v : Word) (n : Nat),
    Passes s i LPE_TUNCTL n ∧ bitOf v 1 = true ∧ s.dev.tunState ≠ 1 ∧ s.dev.arb.tun.pending = false :=
  ⟨base, .core0, 0x502, 0, by decide +kernel⟩

theorem witness_TuningSessionsStartStopAndStep_9 : ∃ (s : State) (i : Initiator) (v : Word) (n : Nat),
    Passes s i LPE_TUNCTL n ∧ s.dev.tunState ≠ 1 ∧ s.dev.arb.tun.pending = true :=
  ⟨onD base (fun d => d.setTun { pending := true }), .core0, 2, 0, by decide +kernel⟩

theorem witness_TuningSessionsStartStopAndStep_10 : ∃ (s : State) (i : Initiator) (v : Word) (n : Nat),
    Passes s i LPE_TUNCTL n ∧ s.dev.tunState ≠ 1 ∧ s.dev.arb.tun.pending = false :=
  ⟨base, .core0, 0x502, 0, by decide +kernel⟩

theorem witness_TuningSessionsStartStopAndStep_11 : ∃ (s : State) (t0 : Nat),
    s.dev.tunState = 1 ∧ s.dev.arb.tun.ready = true ∧ s.dev.tunPrbs = false ∧ s.dev.tunPoint < s.dev.fld LPE_TUNCTL 0 28 24 :=
  ⟨onD (withR base [(LPE_TUNSTAT, 0, 0x101), (LPE_TUNCTL, 0, 0x03000000), (LPE_TPT, 1, 0x00010100)]) (fun d => d.setTun { ready := true, sums := [(4, (12345, -8)), (5, (-77, -8)), (6, (999, -8))] }), 5, by decide +kernel⟩

theorem witness_TuningSessionsStartStopAndStep_12 : ∃ (s : State) (t0 : Nat),
    s.dev.tunState = 1 ∧ s.dev.arb.tun.ready = true ∧ (s.dev.tunPrbs = true ∨ s.dev.fld LPE_TUNCTL 0 28 24 ≤ s.dev.tunPoint) :=
  ⟨onD (withR base [(LPE_TUNSTAT, 0, 1), (LPE_TUNCTL, 0, 0x02010000), (LPE_TUNPRBS, 0, 0x10107)]) (fun d => d.setTun { ready := true, sums := [(4, (12345, -8)), (5, (-77, -8)), (6, (999, -8))] }), 5, by decide +kernel⟩

theorem witness_TuningSessionsStartStopAndStep_13 : ∃ (s : State) (t0 : Nat),
    s.dev.tunState ≠ 1 ∨ s.dev.arb.tun.ready = false :=
  ⟨withR base [(LPE_TUNSTAT, 0, 1)], 5, by decide +kernel⟩

theorem witness_HeadroomIsSharedAndModulesMoveOnRequest_1 : ∃ (s : State) (t0 : Nat) (p : Option Word),
    s.dev.engineRuns = true ∧ s.dev.bit SHR_CTL 0 0 = true ∧ s.dev.level = .normal ∧ s.dev.frame % s.dev.shareK = 0 ∧ s.dev.share.prevSite = p :=
  ⟨withR base [(SHR_CTL, 0, 1), (LPE_FRAMELO, 0, 40)], 5, none, by decide +kernel, by decide +kernel⟩

theorem witness_HeadroomIsSharedAndModulesMoveOnRequest_2 : ∃ (s : State) (t0 m : Nat),
    (s.dev.at t0).atBoundary = true ∧ s.dev.modEn m = true ∧ (kvGet s.dev.share.modu m {}).rebuild = 2 :=
  ⟨bnd 5 (onD (withR base [(RGP_MODCFG, 63, 0x80000000), (RGP_REACH, 63, 0x8F000000)]) (fun d => { d with share := { d.share with modu := [(63, { rebuild := 2, contst := 8 })] } })), 5, 63, by decide +kernel⟩

theorem witness_HeadroomIsSharedAndModulesMoveOnRequest_3 : ∃ (s : State) (t0 m : Nat),
    (s.dev.at t0).atBoundary = false ∨ s.dev.modEn m = false ∨ (kvGet s.dev.share.modu m {}).rebuild ≠ 2 :=
  ⟨base, 5, 63, by decide +kernel⟩

theorem witness_HeadroomIsSharedAndModulesMoveOnRequest_4 : ∃ (s : State) (i : Initiator) (v : Word) (m o : Nat),
    Passes s i RGP_MODCTL m ∧ bitOf v 0 = false ∧ bitOf v 12 = false ∧ s.dev.bit RGP_CTL 0 1 = false ∧ s.dev.reachAt m (bits v 9 8) = some o ∧ s.dev.candidate m o = true ∧ s.dev.inFlight < s.dev.maxMov ∧ s.dev.rebuilt = true ∧ s.dev.bit RGP_CTL 0 0 = true ∧ s.dev.level = .normal :=
  ⟨withR base [(RGP_CTL, 0, 0x801), (RGP_MODCFG, 0, 0x80000000), (RGP_REACH, 0, 0x8500), (RGP_MODSTAT, 0, 0x1F01), (CAB_LSTAT, 0, 2)], .core0, 0x100, 0, 5, by decide +kernel⟩

theorem witness_HeadroomIsSharedAndModulesMoveOnRequest_5 : ∃ (s : State) (i : Initiator) (v : Word) (m : Nat),
    Passes s i RGP_MODCTL m ∧ bitOf v 0 = false ∧ bitOf v 12 = false ∧ s.dev.bit RGP_CTL 0 1 = false ∧ ((∀ o : Nat, o < 32 → s.dev.reachAt m (bits v 9 8) = some o → s.dev.candidate m o = false) ∨ s.dev.maxMov ≤ s.dev.inFlight ∨ s.dev.rebuilt = false ∨ s.dev.bit RGP_CTL 0 0 = false ∨ s.dev.level ≠ .normal) :=
  ⟨withR base [(RGP_CTL, 0, 0x801)], .core0, 0x100, 0, by decide +kernel⟩

theorem witness_HeadroomIsSharedAndModulesMoveOnRequest_6 : ∃ (s : State) (i : Initiator) (v : Word) (m : Nat),
    Passes s i RGP_MODCTL m ∧ bitOf v 0 = false ∧ bitOf v 12 = false ∧ s.dev.bit RGP_CTL 0 1 = true ∧ s.dev.bit (BLK_ERR 0x3E) 0 31 = false :=
  ⟨base, .core0, 0x100, 0, by decide +kernel⟩

theorem witness_HeadroomIsSharedAndModulesMoveOnRequest_7 : ∃ (s : State) (i : Initiator) (v : Word) (m : Nat),
    Passes s i RGP_MODCTL m ∧ bitOf v 0 = false ∧ bitOf v 4 = false ∧ s.dev.bit RGP_CTL 0 1 = false ∧ s.dev.modEn m = true ∧ s.dev.modState m = 2 ∧ s.dev.linkState (m / 8) = 2 ∧ s.dev.mayLeave m = true ∧ s.dev.moving m = false ∧ s.dev.inFlight < s.dev.maxMov ∧ s.dev.rebuilt = true ∧ s.dev.bit RGP_CTL 0 0 = true ∧ s.dev.level = .normal :=
  ⟨withR base [(RGP_CTL, 0, 0x801), (RGP_MODCFG, 0, 0x80000000), (RGP_MODSTAT, 0, 0x502), (CAB_LSTAT, 0, 2)], .core0, 0, 0, by decide +kernel⟩

theorem witness_HeadroomIsSharedAndModulesMoveOnRequest_8 : ∃ (s : State) (i : Initiator) (v : Word) (m : Nat),
    Passes s i RGP_MODCTL m ∧ bitOf v 0 = false ∧ bitOf v 4 = false ∧ s.dev.bit RGP_CTL 0 1 = false ∧ (s.dev.modEn m = false ∨ s.dev.modState m ≠ 2 ∨ s.dev.linkState (m / 8) ≠ 2 ∨ s.dev.mayLeave m = false ∨ s.dev.moving m = true ∨ s.dev.maxMov ≤ s.dev.inFlight ∨ s.dev.rebuilt = false ∨ s.dev.bit RGP_CTL 0 0 = false ∨ s.dev.level ≠ .normal) :=
  ⟨withR base [(RGP_CTL, 0, 0x801)], .core0, 0, 0, by decide +kernel⟩

theorem witness_HeadroomIsSharedAndModulesMoveOnRequest_9 : ∃ (s : State) (i : Initiator) (v : Word) (m : Nat),
    Passes s i RGP_MODCTL m ∧ bitOf v 0 = false ∧ bitOf v 4 = false ∧ s.dev.bit RGP_CTL 0 1 = true ∧ s.dev.bit (BLK_ERR 0x3E) 0 31 = false :=
  ⟨base, .core0, 0, 0, by decide +kernel⟩

theorem witness_HeadroomIsSharedAndModulesMoveOnRequest_10 : ∃ (s : State) (i : Initiator) (v : Word) (m : Nat),
    Passes s i RGP_MODCTL m ∧ bitOf v 4 = false ∧ bitOf v 12 = false :=
  ⟨withR base [(RGP_MODSTAT, 63, 4)], .core0, 0, 0, by decide +kernel⟩

theorem witness_HeadroomIsSharedAndModulesMoveOnRequest_11 : ∃ (s : State) (i : Initiator) (v : Word) (m : Nat) (c : Instr),
    Passes s i RGP_MODCTL m ∧ (c = .moduleMoveRequest i v ∨ c = .moduleParkRequest i v ∨ c = .moduleRelease i v) :=
  ⟨withR base [(RGP_CTL, 0, 0x801)], .core0, 0x1001, 0, .moduleMoveRequest .core0 0x1001, by decide +kernel⟩

theorem witness_MovePhasesAdvanceAndTimeOut_1 : ∃ (s : State) (t0 k : Nat) (x : MoveRec),
    (s.dev.at t0).atBoundary = true ∧ s.dev.slot k = some x ∧ x.phase = 1 ∧ 2 ≤ x.okRun :=
  ⟨bnd 5 (slotS 7 { modu := 3, src := some (0, 1), dst := none, phase := 1, okRun := 2 } base), 5, 7, { modu := 3, src := some (0, 1), dst := none, phase := 1, okRun := 2 }, by decide +kernel⟩

theorem witness_MovePhasesAdvanceAndTimeOut_2 : ∃ (s : State) (t0 k : Nat) (x : MoveRec),
    (s.dev.at t0).atBoundary = true ∧ s.dev.slot k = some x ∧ x.phase = 2 ∧ s.dev.verifyN ≤ x.okRun ∧ x.toPark = false ∧ x.dst = none ∧ k < 8 ∧ x.modu < 64 :=
  ⟨bnd 5 (slotS 7 { modu := 3, src := some (0, 1), dst := none, phase := 2, okRun := 4 } base), 5, 7, { modu := 3, src := some (0, 1), dst := none, phase := 2, okRun := 4 }, by decide +kernel⟩

theorem witness_MovePhasesAdvanceAndTimeOut_3 : ∃ (s : State) (t0 k : Nat) (x : MoveRec),
    (s.dev.at t0).atBoundary = true ∧ s.dev.slot k = some x ∧ x.phase = 2 ∧ s.dev.verifyN ≤ x.okRun ∧ (x.toPark = true ∨ x.dst.isSome = true) :=
  ⟨bnd 5 (slotS 7 { modu := 3, src := some (0, 1), dst := some (1, 2), phase := 2, okRun := 4 } base), 5, 7, { modu := 3, src := some (0, 1), dst := some (1, 2), phase := 2, okRun := 4 }, by decide +kernel⟩

theorem witness_MovePhasesAdvanceAndTimeOut_4 : ∃ (s : State) (t0 k i o : Nat) (x : MoveRec),
    (s.dev.at t0).atBoundary = true ∧ s.dev.slot k = some x ∧ x.phase = 3 ∧ 2 ≤ x.okRun ∧ x.dst = some (i, o) ∧ s.dev.tripped o = false ∧ s.dev.contst x.modu = 0 ∧ s.dev.reachAt x.modu i = some o :=
  ⟨bnd 5 (slotS 0 { modu := 3, src := none, dst := some (1, 0), phase := 3, okRun := 2 } (withR base [(SAF_OSTAT, 0, 0), (RGP_REACH, 3, 0x8000)])), 5, 0, 1, 0, { modu := 3, src := none, dst := some (1, 0), phase := 3, okRun := 2 }, by decide +kernel⟩

theorem witness_MovePhasesAdvanceAndTimeOut_5 : ∃ (s : State) (t0 k i o : Nat) (x : MoveRec),
    (s.dev.at t0).atBoundary = true ∧ s.dev.slot k = some x ∧ x.phase = 4 ∧ s.dev.verifyN ≤ x.okRun ∧ x.dst = some (i, o) ∧ k < 8 ∧ x.modu < 64 ∧ i < 4 ∧ o < 32 :=
  ⟨bnd 5 (slotS 0 { modu := 3, src := none, dst := some (3, 15), phase := 4, okRun := 4 } base), 5, 0, 3, 15, { modu := 3, src := none, dst := some (3, 15), phase := 4, okRun := 4 }, by decide +kernel⟩

theorem witness_MovePhasesAdvanceAndTimeOut_6 : ∃ (s : State) (t0 k : Nat) (x : MoveRec),
    (s.dev.at t0).atBoundary = true ∧ s.dev.slot k = some x ∧ (x.phase = 5 ∨ x.phase = 6) ∧ x.reached = true :=
  ⟨bnd 5 (slotS 0 { modu := 3, src := none, dst := some (3, 15), phase := 6, reached := true } base), 5, 0, { modu := 3, src := none, dst := some (3, 15), phase := 6, reached := true }, by decide +kernel⟩

theorem witness_MovePhasesAdvanceAndTimeOut_7 : ∃ (s : State) (t0 k : Nat) (x : MoveRec),
    (s.dev.at t0).atBoundary = true ∧ s.dev.slot k = some x ∧ x.phase = 7 ∧ s.dev.verifyN ≤ x.okRun ∧ k < 8 ∧ x.modu < 64 ∧ x.parkRes < 16 :=
  ⟨bnd 5 (slotS 0 { modu := 3, src := none, dst := some (3, 15), phase := 7, okRun := 4, parkRes := 3 } base), 5, 0, { modu := 3, src := none, dst := some (3, 15), phase := 7, okRun := 4, parkRes := 3 }, by decide +kernel⟩

theorem witness_MovePhasesAdvanceAndTimeOut_8 : ∃ (s : State) (t0 k : Nat),
    (s.dev.at t0).atBoundary = false ∨ s.dev.slot k = none ∨ (s.dev.slot k).any (fun x => if x.phase = 5 ∨ x.phase = 6 then !x.reached else decide (x.okRun < min 2 s.dev.verifyN)) = true :=
  ⟨base, 5, 7, by decide +kernel⟩

theorem witness_MovePhasesAdvanceAndTimeOut_9 : ∃ (s : State) (t0 k i o : Nat) (x : MoveRec),
    (s.dev.at t0).atBoundary = true ∧ s.dev.slot k = some x ∧ x.phase = 1 ∧ x.src = some (i, o) ∧ s.dev.tripped o = false ∧ x.phaseAt + s.dev.fld RGP_TMO 0 7 0 * 1000000 ≤ max s.dev.time t0 ∧ k < 8 ∧ x.modu < 64 ∧ i < 4 ∧ o < 32 :=
  ⟨bnd 10000000 (slotS 0 { modu := 3, src := some (3, 15), dst := none, phase := 1 } (withR base [(SAF_OSTAT, 15, 0)])), 10000000, 0, 3, 15, { modu := 3, src := some (3, 15), dst := none, phase := 1 }, by decide +kernel⟩

theorem witness_MovePhasesAdvanceAndTimeOut_10 : ∃ (s : State) (t0 k : Nat) (x : MoveRec),
    (s.dev.at t0).atBoundary = true ∧ s.dev.slot k = some x ∧ (x.phase = 2 ∨ x.phase = 7) ∧ x.phaseAt + s.dev.fld RGP_TMO 0 15 8 * 1000000 ≤ max s.dev.time t0 ∧ k < 8 ∧ x.modu < 64 :=
  ⟨bnd 50000000 (slotS 0 { modu := 3, src := some (3, 15), dst := none, phase := 7 } base), 50000000, 0, { modu := 3, src := some (3, 15), dst := none, phase := 7 }, by decide +kernel⟩

theorem witness_MovePhasesAdvanceAndTimeOut_11 : ∃ (s : State) (t0 k : Nat) (x : MoveRec),
    (s.dev.at t0).atBoundary = true ∧ s.dev.slot k = some x ∧ (x.phase = 3 ∨ x.phase = 4) ∧ x.matchAt + s.dev.fld RGP_TMO 0 23 16 * 1000000 ≤ max s.dev.time t0 :=
  ⟨bnd 50000000 (slotS 0 { modu := 3, src := some (3, 15), dst := none, phase := 4 } base), 50000000, 0, { modu := 3, src := some (3, 15), dst := none, phase := 4 }, by decide +kernel⟩

theorem witness_MovePhasesAdvanceAndTimeOut_12 : ∃ (s : State) (t0 k : Nat) (x : MoveRec),
    (s.dev.at t0).atBoundary = true ∧ s.dev.slot k = some x ∧ (x.phase = 5 ∨ x.phase = 6) ∧ x.phaseAt + s.dev.fld RGP_TMO 0 31 24 * 1000000 ≤ max s.dev.time t0 :=
  ⟨bnd 40000000 (slotS 0 { modu := 3, src := some (3, 15), dst := none, phase := 5 } base), 40000000, 0, { modu := 3, src := some (3, 15), dst := none, phase := 5 }, by decide +kernel⟩

theorem witness_MovePhasesAdvanceAndTimeOut_13 : ∃ (s : State) (t0 k : Nat),
    (s.dev.at t0).atBoundary = false ∨ s.dev.slot k = none ∨ (s.dev.slot k).any (fun x => decide (max s.dev.time t0 < x.phaseAt ∧ max s.dev.time t0 < x.matchAt)) = true :=
  ⟨base, 5, 7, by decide +kernel⟩

theorem witness_SequencersArmAndTakeTriggers_1 : ∃ (s : State) (i : Initiator) (u : Nat) (v : Word),
    u < 4 ∧ Passes s i (ACQ_SQCTL u) 0 ∧ s.dev.simple = false ∧ s.dev.faultHolds u = false ∧ s.dev.unitActive u = false ∧ (s.dev.setFld (ACQ_SQCTL u) 0 10 8 (bits v 10 8)).armError u = 0 :=
  ⟨withR base [(ACQ_RGSIZE, 2, 16), (ACQ_SQCHM0 2, 0, 1), (ACQ_SQWIN 2, 0, 0x10001)], .core0, 2, 0x201, by decide +kernel, by decide +kernel, by decide +kernel⟩

theorem witness_SequencersArmAndTakeTriggers_2 : ∃ (s : State) (i : Initiator) (u e : Nat) (v : Word),
    u < 4 ∧ Passes s i (ACQ_SQCTL u) 0 ∧ s.dev.simple = false ∧ s.dev.faultHolds u = false ∧ s.dev.unitActive u = false ∧ (s.dev.setFld (ACQ_SQCTL u) 0 10 8 (bits v 10 8)).armError u = e ∧ e ≠ 0 :=
  ⟨base, .core0, 0, 3, 1, by decide +kernel, by decide +kernel, by decide +kernel⟩

theorem witness_SequencersArmAndTakeTriggers_3 : ∃ (s : State) (i : Initiator) (u : Nat) (v : Word),
    u < 4 ∧ Passes s i (ACQ_SQCTL u) 0 ∧ s.dev.simple = false ∧ s.dev.faultHolds u = false ∧ (s.dev.unit u).armed = true ∧ (s.dev.unit u).arming = false :=
  ⟨onD base (fun d => d.setUnit 0 { armed := true }), .core0, 0, 1, by decide +kernel, by decide +kernel⟩

theorem witness_SequencersArmAndTakeTriggers_4 : ∃ (s : State) (t0 u n : Nat),
    (s.dev.unit u).armed = true ∧ s.dev.simple = false ∧ kvGet (s.dev.unit u).tmr n 0 + (s.dev.rd (ACQ_TMRLIM u n) 0).toNat * 1000 ≤ t0 :=
  ⟨onD (withR base [(ACQ_TMRLIM 3 3, 0, 5)]) (fun d => d.setUnit 3 { armed := true }), 5000, 3, 3, by decide +kernel, by decide +kernel⟩

theorem witness_SequencersArmAndTakeTriggers_5 : ∃ (s : State) (t0 u n : Nat),
    (s.dev.unit u).armed = true ∧ s.dev.simple = false ∧ (s.dev.rd (ACQ_CNTLIM u n) 0).toNat ≤ (s.dev.rd (ACQ_CNT u n) 0).toNat :=
  ⟨onD (withR base [(ACQ_CNTLIM 3 3, 0, 5), (ACQ_CNT 3 3, 0, 5)]) (fun d => d.setUnit 3 { armed := true }), 5000, 3, 3, by decide +kernel, by decide +kernel⟩

theorem witness_SequencersArmAndTakeTriggers_6 : ∃ (s : State) (i : Initiator) (v : Word) (n : Nat),
    Passes s i ACQ_SWTRG n :=
  ⟨onD base (fun d => { d with acq := { d.acq with sw := 8 } }), .core0, 0xF2, 0, by decide +kernel⟩

theorem witness_SequencersArmAndTakeTriggers_7 : ∃ (s : State) (t0 p st w : Nat) (r : Bool),
    s.dev.up .acquisition = true ∧ s.dev.bankOff 1 = false ∧ p < 4 ∧ 10000 ≤ w ∧ (s.dev.fld ACQ_PINCFG 0 (2 * p + 1) (2 * p)).testBit (if r then 0 else 1) = true :=
  ⟨base, 5, 3, 79, 10000, true, by decide +kernel⟩

theorem witness_SequencersArmAndTakeTriggers_8 : ∃ (s : State) (t0 p st w : Nat) (r : Bool),
    (w < 10000 ∨ (s.dev.fld ACQ_PINCFG 0 (2 * p + 1) (2 * p)).testBit (if r then 0 else 1) = false) :=
  ⟨base, 5, 3, 79, 9999, true, by decide +kernel⟩

theorem witness_SequencersArmAndTakeTriggers_9 : ∃ (s : State) (i : Initiator) (v : Word) (n : Nat),
    Passes s i ACQ_STCFG n ∧ s.dev.simple = true ∧ s.dev.faultHolds 0 = false ∧ s.dev.unitActive 0 = false ∧ bitOf v 0 = true ∧ (s.dev.wr ACQ_STCFG 0 (putBit (v &&& 0x77F03) 0 false)).armError 0 = 0 :=
  ⟨onD (withR base [(ACQ_FLTCFG, 0, 0), (ACQ_RGSIZE, 0, 16), (ACQ_STCHM, 0, 1), (ACQ_STWIN, 0, 0x10001)]) (fun d => { d with variant := .px4812 }), .core0, 0xA01, 0, by decide +kernel, by decide +kernel, by decide +kernel⟩

theorem witness_SequencersArmAndTakeTriggers_10 : ∃ (s : State) (i : Initiator) (v : Word) (n e : Nat),
    Passes s i ACQ_STCFG n ∧ s.dev.simple = true ∧ s.dev.faultHolds 0 = false ∧ s.dev.unitActive 0 = false ∧ bitOf v 0 = true ∧ (s.dev.wr ACQ_STCFG 0 (putBit (v &&& 0x77F03) 0 false)).armError 0 = e ∧ e ≠ 0 :=
  ⟨onD (withR base [(ACQ_FLTCFG, 0, 0)]) (fun d => { d with variant := .px4812 }), .core0, 0x3F01, 0, 3, by decide +kernel, by decide +kernel, by decide +kernel⟩

theorem witness_CaptureTicksAndPodsInCaptureRam_1 : ∃ (s : State) (t0 : Nat) (sd : List (Option Nat)) (pi : List (Nat × Nat × Option Int)),
    s.dev.up .acquisition = true ∧ (s.dev.acq.ticks = 0 ∨ s.dev.acq.lastTick + 3200 ≤ t0) :=
  ⟨onD base (fun d => { d with acq := { d.acq with events := [(0x0A, 5), (0x0A, 3200001)], sw := 3 } }), 3200, [], [], by decide +kernel⟩

theorem witness_CaptureTicksAndPodsInCaptureRam_2 : ∃ (s : State) (t0 : Nat) (sd : List (Option Nat)) (pi : List (Nat × Nat × Option Int)),
    (s.dev.up .acquisition = false ∨ (s.dev.acq.ticks ≠ 0 ∧ t0 < s.dev.acq.lastTick + 3200)) ∧ (∀ u : Nat, u < 4 → (s.dev.unit u).pods = []) :=
  ⟨onD base (fun d => { d with acq := { d.acq with ticks := 5, lastTick := 100 } }), 3200, [], [], by decide +kernel⟩

theorem witness_CaptureTicksAndPodsInCaptureRam_3 : ∃ (s : State) (t0 u : Nat) (sd : List (Option Nat)) (pi : List (Nat × Nat × Option Int)),
    s.dev.up .acquisition = true ∧ (s.dev.acq.ticks = 0 ∨ s.dev.acq.lastTick + 3200 ≤ t0) ∧ u < 4 ∧ s.dev.simple = false ∧ (s.dev.unit u).arming = true ∧ s.dev.faultHolds u = false ∧ (s.dev.unit u).disarming = false ∧ s.dev.acq.left = false ∧ s.dev.level = .normal :=
  ⟨onD (withR base [(ACQ_CNT 2 2, 0, 9)]) (fun d => d.setUnit 2 { arming := true }), 3200, 2, [], [], by decide +kernel⟩

theorem witness_CaptureTicksAndPodsInCaptureRam_4 : ∃ (s : State) (t0 u : Nat) (sd : List (Option Nat)) (pi : List (Nat × Nat × Option Int)),
    s.dev.up .acquisition = true ∧ (s.dev.acq.ticks = 0 ∨ s.dev.acq.lastTick + 3200 ≤ t0) ∧ u < 4 ∧ s.dev.simple = false ∧ (s.dev.unit u).armed = true ∧ s.dev.faultHolds u = false ∧ ((s.dev.unit u).disarming = true ∨ s.dev.acq.left = true ∨ s.dev.level ≠ .normal) :=
  ⟨onD (withR base [((ACQ_SQCTL 2), 0, 1)]) (fun d => d.setUnit 2 { armed := true, disarming := true }), 3200, 2, [], [], by decide +kernel⟩

theorem witness_CaptureTicksAndPodsInCaptureRam_5 : ∃ (s : State) (t0 u : Nat) (p : PodRec),
    (s.dev.at t0).podDue u = some p ∧ u < 4 ∧ s.dev.regionFull u = false :=
  ⟨onD (withR base [(ACQ_RGCFG, 0, 0), (ACQ_NSLOT, 0, 4), (ACQ_SLOTSZ, 0, 64), (ACQ_WRCNT, 0, 5)]) (fun d => (d.setUnit 0 { armed := true, pods := [{ ttrig := 5000, tsrc := 1, st := 0, aborted := true }] })), 9, 0, { ttrig := 5000, tsrc := 1, st := 0, aborted := true }, by decide +kernel⟩

theorem witness_CaptureTicksAndPodsInCaptureRam_6 : ∃ (s : State) (t0 u : Nat) (p : PodRec),
    (s.dev.at t0).podDue u = some p ∧ u < 4 ∧ s.dev.regionFull u = true :=
  ⟨onD (withR base [(ACQ_RGCFG, 0, 1), (ACQ_NSLOT, 0, 4), (ACQ_SLOTSZ, 0, 64), (ACQ_WRCNT, 0, 5)]) (fun d => (d.setUnit 0 { armed := true, pods := [{ ttrig := 5000, tsrc := 1, st := 0, aborted := true }] })), 9, 0, { ttrig := 5000, tsrc := 1, st := 0, aborted := true }, by decide +kernel⟩

theorem witness_CaptureTicksAndPodsInCaptureRam_7 : ∃ (s : State) (i : Initiator) (v : Word) (n : Nat),
    Passes s i ACQ_RDCNT n :=
  ⟨base, .core0, 0xFFFFFFFF, 0, by decide +kernel⟩

theorem witness_ASampleRegistersItsEnergyOrAGap_1 : ∃ (s : State) (t0 c : Nat) (xs : List Int) (v i : Int),
    (s.dev.at t0).up .metrology = true ∧ s.dev.mtr.lastStamp = none ∧ t0 % 100000 = 0 ∧ s.dev.mtr.live = [] ∧ 1 ≤ c ∧ c < s.dev.variant.mtrChannels ∧ s.dev.rd MTR_IRATED c = 0 ∧ (s.dev.meterSamples xs).phases c t0 = some [(v, i)] :=
  ⟨withR base [(SDM_CHCFG, 38, 1), (SDM_CHCFG, 39, 1), (SDM_CLKCFG, 0, 0xF), (MTR_CHCFG, 16, 1), (MTR_VSCL 0, 16, 1000000), (MTR_ISCL 0, 16, 500000)], 100000, 16, (List.replicate 38 0 ++ [4000000, 2000000]), 1024000000000000000000000, 256000000000000000000000, by decide +kernel, by decide +kernel, by decide +kernel⟩

theorem witness_ASampleRegistersItsEnergyOrAGap_2 : ∃ (s : State) (t0 c : Nat) (xs : List Int),
    (s.dev.at t0).up .metrology = true ∧ s.dev.mtr.lastStamp = none ∧ t0 % 100000 = 0 ∧ s.dev.mtr.live = [] ∧ c < s.dev.variant.mtrChannels ∧ s.dev.mtrEn c = false :=
  ⟨withR base [(MTR_CHCFG, 0, 0)], 100000, 0, [], by decide +kernel, by decide +kernel⟩

theorem witness_ASampleRegistersItsEnergyOrAGap_3 : ∃ (s : State) (t0 c : Nat) (xs : List Int) (l : List (Int × Int)),
    (s.dev.at t0).up .metrology = true ∧ t0 % 100000 = 0 ∧ c < s.dev.variant.mtrChannels ∧ (∀ k ∈ s.dev.mtr.lastStamp, k < t0) ∧ (s.dev.sampleReady t0 xs).phases c t0 = some l ∧ (s.dev.sampleReady t0 xs).gateOpen c (pushWins c ((s.dev.sampleReady t0 xs).mtrC c).win (some l)) = true :=
  ⟨onD (withR base [(SDM_CHCFG, 38, 1), (SDM_CHCFG, 39, 1), (SDM_CLKCFG, 0, 0xF), (MTR_CHCFG, 16, 0x9601), (MTR_IRATED, 16, 1000), (MTR_VSCL 0, 16, 1000000), (MTR_ISCL 0, 16, 500000)]) (fun d => { d with mtr := { d.mtr with lastStamp := some 0, lastTick := some 0 } }), 300000, 16, (List.replicate 38 0 ++ [4000000, 2000000]), [(1024000000000000000000000, 256000000000000000000000)], by decide +kernel⟩

theorem witness_ASampleRegistersItsEnergyOrAGap_4 : ∃ (s : State) (t0 c : Nat) (xs : List Int),
    (s.dev.at t0).up .metrology = true ∧ t0 % 100000 = 0 ∧ c < s.dev.variant.mtrChannels ∧ (∀ k ∈ s.dev.mtr.lastStamp, k < t0) ∧ (s.dev.sampleReady t0 xs).phases c t0 = none :=
  ⟨onD (withR base [(SDM_CHCFG, 39, 0)]) (fun d => { d with mtr := { d.mtr with lastStamp := some 0 } }), 300000, 16, [], by decide +kernel⟩

theorem witness_ASampleRegistersItsEnergyOrAGap_5 : ∃ (s : State) (t0 : Nat) (xs : List Int),
    s.dev.up .metrology = false ∨ t0 % 100000 ≠ 0 ∨ (s.dev.mtr.lastStamp.map (fun k => decide (t0 ≤ k))).getD false = true :=
  ⟨onD base (fun d => { d with mtr := { d.mtr with lastStamp := some 100000 } }), 100000, [], by decide +kernel⟩

theorem witness_AClosedGateRegistersNothing_1 : ∃ (s : State) (t0 c : Nat) (xs : List Int) (l : List (Int × Int)),
    (s.dev.at t0).up .metrology = true ∧ s.dev.mtr.lastStamp.getD (t0 - 100000) + 100000 = t0 ∧ t0 % 100000 = 0 ∧ s.dev.mtr.live = [] ∧ c < s.dev.variant.mtrChannels ∧ (s.dev.meterSamples xs).phases c t0 = some l ∧ s.dev.gateOpen c (pushWins c (s.dev.mtrC c).win (some l)) = false :=
  ⟨withR base [(SDM_CHCFG, 38, 1), (SDM_CHCFG, 39, 1), (SDM_CLKCFG, 0, 0xF), (MTR_CHCFG, 16, 0x9601), (MTR_IRATED, 16, 4000000000), (MTR_VSCL 0, 16, 1000000), (MTR_ISCL 0, 16, 500000), (MTR_CREEPCNT, 16, 0xFFFFFFFF)], 100000, 16, (List.replicate 38 0 ++ [4000000, 2]), [(1024000000000000000000000, 256000000000000000)], by decide +kernel, by decide +kernel, by decide +kernel, by decide +kernel⟩

theorem witness_LatchesShowAClosedPeriod_1 : ∃ (s : State) (t0 k l : Nat),
    (s.dev.at t0).up .metrology = true ∧ s.dev.inFallback = false ∧ s.dev.mtr.lastTick = some k ∧ s.dev.mtr.lastStamp = some l ∧ k + 25000000 ≤ min t0 (l + 100000) ∧ s.dev.fld MTR_LATCHSTAT 0 26 16 + 1 < s.dev.latchN :=
  ⟨onD base (fun d => { d with mtr := { d.mtr with lastTick := some 7, lastStamp := some 24900007 } }), 25000007, 7, 24900007, by decide +kernel, by decide +kernel, by decide +kernel⟩

theorem witness_LatchesShowAClosedPeriod_2 : ∃ (s : State) (t0 : Nat) (cl : Closing) (r : List Closing),
    (s.dev.at t0).up .metrology = true ∧ s.dev.pwr.pfw = none ∧ s.dev.mtr.closing = cl :: r ∧ cl.tick ≤ t0 ∧ ((∀ k : Nat, k < 32 → ((kvGet s.dev.bil.sess k none).map (fun x => decide (x.outlet < 16))).getD true = true)) :=
  ⟨onD base (fun d => { d with mtr := { d.mtr with closing := [{ tick := 2 ^ 40, flags := 0, ticks := 50, chans := List.replicate 17 (2 ^ 96 - 1, 5 * 2 ^ 41, 0, false) }] } }), 2 ^ 40, { tick := 2 ^ 40, flags := 0, ticks := 50, chans := List.replicate 17 (2 ^ 96 - 1, 5 * 2 ^ 41, 0, false) }, [], by decide +kernel, by decide +kernel, by decide +kernel⟩

theorem witness_LatchesShowAClosedPeriod_3 : ∃ (s : State) (t0 u : Nat),
    (s.dev.at t0).up .metrology = true ∧ s.dev.fallbackDue = some u ∧ u ≤ t0 ∧ t0 < u + 20000000 ∧ (∀ l ∈ s.dev.mtr.lastStamp, u ≤ l + 100000) ∧ s.dev.fld MTR_LATCHSTAT 0 26 16 + 1 < s.dev.latchN :=
  ⟨onD (withR base [(MTR_LATCHSTAT, 0, 0x10001)]) (fun d => { d with mtr := { d.mtr with lastTick := some 5, lastStamp := some 20000000 } }), 21000005, 20000005, by decide +kernel⟩

theorem witness_LatchesShowAClosedPeriod_4 : ∃ (s : State) (t0 u c : Nat),
    (s.dev.at t0).up .metrology = true ∧ s.dev.fallbackDue = some u ∧ u ≤ t0 ∧ t0 < u + 20000000 ∧ (∀ l ∈ s.dev.mtr.lastStamp, u ≤ l + 100000) ∧ s.dev.latchN ≤ s.dev.fld MTR_LATCHSTAT 0 26 16 + 1 ∧ c < s.dev.variant.mtrChannels :=
  ⟨onD (withR base [(MTR_LATCHCFG, 0, 0xA0001)]) (fun d => { (d.setMtrC 16 { imp := 7, exp := 2 ^ 95, gaps := 3, rev := true }) with mtr := { (d.setMtrC 16 { imp := 7, exp := 2 ^ 95, gaps := 3, rev := true }).mtr with lastTick := some 5, lastStamp := some 25000000 } }), 25000005, 25000005, 16, by decide +kernel⟩

theorem witness_LatchesShowAClosedPeriod_5 : ∃ (s : State) (t0 : Nat),
    (s.dev.at t0).up .metrology = true :=
  ⟨onD base (fun d => { d with mtr := { d.mtr with started := some 5, lastStamp := some 5 } }), 90000005, by decide +kernel⟩

theorem witness_LatchesShowAClosedPeriod_6 : ∃ (s : State) (t0 : Nat),
    s.dev.up .metrology = false ∨ (s.dev.fallbackDue.map (fun u => decide (t0 < u))).getD true = true :=
  ⟨onD base (fun d => { d with mtr := { d.mtr with started := some 5, lastStamp := some 5 } }), 25000004, by decide +kernel⟩

theorem witness_LatchesShowAClosedPeriod_7 : ∃ (s : State) (t0 c w : Nat) (cl : Closing) (r : List Closing),
    (s.dev.at t0).up .metrology = true ∧ s.dev.pwr.pfw = none ∧ s.dev.mtr.closing = cl :: r ∧ cl.tick ≤ t0 ∧ (∀ k : Nat, k < 32 → ((kvGet s.dev.bil.sess k none).map (fun x => decide (x.outlet < 16))).getD true = true) ∧ c < s.dev.variant.mtrChannels ∧ w < 8 :=
  ⟨onD (withR base [(BIL_TARCTL, 3, 0x600), (BIL_TIMPLO 6, 3, 0xFFFFFFFF), (BIL_TIMPHI 6, 3, 0xFFFFFFFF), (BIL_SNAPSTAT, 0, 3)]) (fun d => { d with mtr := { d.mtr with closing := [{ tick := 2 ^ 40, flags := 0, ticks := 50, chans := List.replicate 17 (2 ^ 96 - 1, 5 * 2 ^ 41, 0, false) }] }, bil := { d.bil with base := List.replicate 17 (5, 2 ^ 63), snap := some { target := 2 ^ 40, epoch := 9, pairAt := none, confirmed := true } } }), 2 ^ 40, 3, 6, { tick := 2 ^ 40, flags := 0, ticks := 50, chans := List.replicate 17 (2 ^ 96 - 1, 5 * 2 ^ 41, 0, false) }, [], by decide +kernel⟩

theorem witness_LatchesShowAClosedPeriod_8 : ∃ (s : State) (t0 c : Nat) (cl : Closing) (r : List Closing) (x : Snap),
    (s.dev.at t0).up .metrology = true ∧ s.dev.pwr.pfw = none ∧ s.dev.mtr.closing = cl :: r ∧ cl.tick ≤ t0 ∧ (∀ k : Nat, k < 32 → ((kvGet s.dev.bil.sess k none).map (fun x => decide (x.outlet < 16))).getD true = true) ∧ s.dev.bil.snap = some x ∧ x.target ≤ cl.tick ∧ c < s.dev.variant.mtrChannels :=
  ⟨onD (withR base [(BIL_TARCTL, 3, 0x600), (BIL_TIMPLO 6, 3, 0xFFFFFFFF), (BIL_TIMPHI 6, 3, 0xFFFFFFFF), (BIL_SNAPSTAT, 0, 3)]) (fun d => { d with mtr := { d.mtr with closing := [{ tick := 2 ^ 40, flags := 0, ticks := 50, chans := List.replicate 17 (2 ^ 96 - 1, 5 * 2 ^ 41, 0, false) }] }, bil := { d.bil with base := List.replicate 17 (5, 2 ^ 63), snap := some { target := 2 ^ 40, epoch := 9, pairAt := none, confirmed := true } } }), 2 ^ 40, 3, { tick := 2 ^ 40, flags := 0, ticks := 50, chans := List.replicate 17 (2 ^ 96 - 1, 5 * 2 ^ 41, 0, false) }, [], { target := 2 ^ 40, epoch := 9, pairAt := none, confirmed := true }, by decide +kernel⟩

theorem witness_LatchesShowAClosedPeriod_9 : ∃ (s : State) (t0 : Nat),
    s.dev.up .metrology = false ∨ s.dev.pwr.pfw ≠ none ∨ (s.dev.mtr.closing.head?.map (fun x => decide (t0 < x.tick))).getD true = true :=
  ⟨onD (withR base [(BIL_TARCTL, 3, 0x600), (BIL_TIMPLO 6, 3, 0xFFFFFFFF), (BIL_TIMPHI 6, 3, 0xFFFFFFFF), (BIL_SNAPSTAT, 0, 3)]) (fun d => { d with mtr := { d.mtr with closing := [{ tick := 2 ^ 40, flags := 0, ticks := 50, chans := List.replicate 17 (2 ^ 96 - 1, 5 * 2 ^ 41, 0, false) }] }, bil := { d.bil with base := List.replicate 17 (5, 2 ^ 63), snap := some { target := 2 ^ 40, epoch := 9, pairAt := none, confirmed := true } } }), 2 ^ 40 - 1, by decide +kernel⟩

theorem witness_ReverseEventsAndPulses_1 : ∃ (s : State) (t0 c : Nat),
    s.dev.up .metrology = true ∧ c < s.dev.variant.mtrChannels ∧ (s.dev.mtrC c).startDue = true ∧ s.dev.bit MTR_CHSTAT c 2 = false :=
  ⟨onD base (fun d => d.setMtrC 16 { startDue := true, runAt := 5, runE := 9 }), 5, 16, by decide +kernel⟩

theorem witness_ReverseEventsAndPulses_2 : ∃ (s : State) (t0 c : Nat),
    s.dev.up .metrology = true ∧ c < s.dev.variant.mtrChannels ∧ (s.dev.mtrC c).endDue = true ∧ s.dev.bit MTR_CHSTAT c 2 = true :=
  ⟨onD (withR base [(MTR_CHSTAT, 0, 4)]) (fun d => d.setMtrC 0 { endDue := true, evAt := 2 ^ 40 + 5, evE := 2 ^ 70, endAt := 9 }), 5, 0, by decide +kernel⟩

theorem witness_ReverseEventsAndPulses_3 : ∃ (s : State) (n t0 : Nat),
    s.dev.up .metrology = true ∧ n < 4 ∧ bitOf (s.dev.pulseCfg n) 31 = true ∧ t0 % 100000 = 0 ∧ 0 < s.dev.fld MTR_PLSSTAT n 15 0 ∧ s.dev.bit MTR_PLSSTAT n 17 = false ∧ ((kvGet s.dev.mtr.pulse n {}).startAt.map (fun x => decide (x + max 4000000 (2 * s.dev.pulseWidth n) ≤ t0))).getD true = true :=
  ⟨onD (withR base [(MTR_PLSCFG, 3, 0x80000114), (MTR_PLSSTAT, 3, 65535)]) (fun d => { d with mtr := { d.mtr with pulse := [(3, { startAt := some 0 })] } }), 3, 40000000, by decide +kernel, by decide +kernel, by decide +kernel⟩

theorem witness_ReverseEventsAndPulses_4 : ∃ (s : State) (n t0 k : Nat),
    n < 4 ∧ s.dev.bit MTR_PLSSTAT n 17 = true ∧ (kvGet s.dev.mtr.pulse n {}).startAt = some k ∧ k + s.dev.pulseWidth n ≤ t0 :=
  ⟨onD (withR base [(MTR_PLSSTAT, 0, 0x20000)]) (fun d => { d with mtr := { d.mtr with pulse := [(0, { startAt := some 0 })] } }), 0, 20000000, 0, by decide +kernel⟩

theorem witness_ReverseEventsAndPulses_5 : ∃ (s : State) (t0 c : Nat),
    s.dev.up .metrology = false ∨ s.dev.variant.mtrChannels ≤ c ∨ (s.dev.mtrC c).startDue = false ∨ s.dev.bit MTR_CHSTAT c 2 = true :=
  ⟨base, 5, 16, by decide +kernel⟩

theorem witness_ReverseEventsAndPulses_6 : ∃ (s : State) (t0 c : Nat),
    s.dev.up .metrology = false ∨ s.dev.variant.mtrChannels ≤ c ∨ (s.dev.mtrC c).endDue = false ∨ s.dev.bit MTR_CHSTAT c 2 = false :=
  ⟨onD base (fun d => d.setMtrC 16 { endDue := true }), 5, 16, by decide +kernel⟩

theorem witness_ReverseEventsAndPulses_7 : ∃ (s : State) (n t0 : Nat),
    s.dev.up .metrology = false ∨ 4 ≤ n ∨ bitOf (s.dev.pulseCfg n) 31 = false ∨ t0 % 100000 ≠ 0 ∨ s.dev.fld MTR_PLSSTAT n 15 0 = 0 ∨ s.dev.bit MTR_PLSSTAT n 17 = true ∨ ((kvGet s.dev.mtr.pulse n {}).startAt.map (fun x => decide (t0 < x + max 4000000 (2 * s.dev.pulseWidth n)))).getD false = true :=
  ⟨onD (withR base [(MTR_PLSCFG, 3, 0x80000114), (MTR_PLSSTAT, 3, 65535)]) (fun d => { d with mtr := { d.mtr with pulse := [(3, { startAt := some 0 })] } }), 3, 39900000, by decide +kernel⟩

theorem witness_ReverseEventsAndPulses_8 : ∃ (s : State) (n t0 : Nat),
    4 ≤ n ∨ s.dev.bit MTR_PLSSTAT n 17 = false ∨ ((kvGet s.dev.mtr.pulse n {}).startAt.map (fun x => decide (t0 < x + s.dev.pulseWidth n))).getD true = true :=
  ⟨onD (withR base [(MTR_PLSSTAT, 0, 0x20000)]) (fun d => { d with mtr := { d.mtr with pulse := [(0, { startAt := some 0 })] } }), 0, 19999999, by decide +kernel⟩

theorem witness_TheStandbyComparesAndAdopts_1 : ∃ (s : State) (t0 q : Nat) (ws : List Word) (incs : List (Nat × Nat)),
    s.dev.up .metrology = true ∧ s.dev.variant = .px4840 ∧ s.dev.fld MTR_ROLE 0 1 0 = 2 ∧ s.dev.pstate ≠ 1 ∧ s.dev.mtr.adopted = true ∧ ws ≠ s.dev.pairSettings :=
  ⟨onD (withR base [(MTR_ROLE, 0, 2)]) (fun d => { d with mtr := { d.mtr with adopted := true } }), 5, 7, [], [], by decide +kernel, by decide +kernel⟩

theorem witness_TheStandbyComparesAndAdopts_2 : ∃ (s : State) (t0 q : Nat) (ws : List Word) (incs : List (Nat × Nat)),
    s.dev.up .metrology = true ∧ s.dev.variant = .px4840 ∧ s.dev.fld MTR_ROLE 0 1 0 = 2 ∧ s.dev.pstate ≠ 1 ∧ s.dev.mtr.adopted = true ∧ ws = s.dev.pairSettings ∧ incs = s.dev.mtr.inc :=
  ⟨onD (withR base [(MTR_ROLE, 0, 2)]) (fun d => { d with mtr := { d.mtr with adopted := true, inc := [(5, 5)] } }), 5, 7, (onD (withR base [(MTR_ROLE, 0, 2)]) (fun d => { d with mtr := { d.mtr with adopted := true, inc := [(5, 5)] } })).dev.pairSettings, [(5, 5)], by decide +kernel, by decide +kernel, by decide +kernel⟩

theorem witness_TheStandbyComparesAndAdopts_3 : ∃ (s : State) (t0 q c : Nat) (ws : List Word) (incs : List (Nat × Nat)),
    s.dev.up .metrology = true ∧ s.dev.variant = .px4840 ∧ s.dev.fld MTR_ROLE 0 1 0 = 2 ∧ s.dev.pstate ≠ 1 ∧ s.dev.mtr.adopted = true ∧ ws = s.dev.pairSettings ∧ c < 17 ∧ cmpMismatch (bits (s.dev.inForce MTR_CMPCFG 0) 11 0) (bits (s.dev.inForce MTR_CMPCFG 0) 23 12) (s.dev.mtr.inc.getD c (0, 0)).1 (incs.getD c (0, 0)).1 = true :=
  ⟨onD (withR base [(MTR_ROLE, 0, 2), (MTR_PAIRSTAT, 0, 0x200)]) (fun d => { d with mtr := { d.mtr with adopted := true, inc := [(5000, 5)] } }), 5, 7, 0, (onD (withR base [(MTR_ROLE, 0, 2), (MTR_PAIRSTAT, 0, 0x200)]) (fun d => { d with mtr := { d.mtr with adopted := true, inc := [(5, 5)] } })).dev.pairSettings, [], by decide +kernel, by decide +kernel, by decide +kernel⟩

theorem witness_TheStandbyComparesAndAdopts_4 : ∃ (s : State) (t0 : Nat) (a : Adoption),
    s.dev.up .metrology = true ∧ s.dev.fld MTR_ROLE 0 1 0 = 2 ∧ s.dev.pstate = 3 ∧ s.dev.mtr.adoptDue = true :=
  ⟨onD (withR base [(MTR_ROLE, 0, 2), (AUS_STAT, 0, 3)]) (fun d => { d with mtr := { d.mtr with adoptDue := true } }), 5, { accs := [(2 ^ 96 + 7, 9)], ticks := 5, banks := [], bil := {}, bpnum := 3, lastbp := 4, jseq := 5, sessNext := 6, time := 99 }, by decide +kernel⟩

theorem witness_TheStandbyComparesAndAdopts_5 : ∃ (s : State) (t0 q c : Nat) (ws : List Word) (incs : List (Nat × Nat)),
    s.dev.up .metrology = true ∧ s.dev.variant = .px4840 ∧ s.dev.fld MTR_ROLE 0 1 0 = 2 ∧ s.dev.pstate ≠ 1 ∧ s.dev.mtr.adopted = true ∧ ws = s.dev.pairSettings ∧ c < 17 ∧ cmpMismatch (bits (s.dev.inForce MTR_CMPCFG 0) 11 0) (bits (s.dev.inForce MTR_CMPCFG 0) 23 12) (s.dev.mtr.inc.getD c (0, 0)).2 (incs.getD c (0, 0)).2 = true :=
  ⟨(onD (withR base [(MTR_ROLE, 0, 2), (MTR_PAIRSTAT, 0, 0x200)]) (fun d => { d with mtr := { d.mtr with adopted := true, inc := [(5, 5000)] } })), 5, 7, 0, (onD (withR base [(MTR_ROLE, 0, 2), (MTR_PAIRSTAT, 0, 0x200)]) (fun d => { d with mtr := { d.mtr with adopted := true, inc := [(5, 5000)] } })).dev.pairSettings, [(5, 5)], by decide +kernel⟩

theorem witness_TheStandbyComparesAndAdopts_6 : ∃ (s : State) (t0 q : Nat) (ws : List Word) (incs : List (Nat × Nat)),
    s.dev.up .metrology = true ∧ s.dev.variant = .px4840 ∧ s.dev.fld MTR_ROLE 0 1 0 = 2 ∧ s.dev.pstate ≠ 1 ∧ s.dev.mtr.adopted = true ∧ ws = s.dev.pairSettings ∧ (∀ c : Nat, c < 17 → cmpMismatch (bits (s.dev.inForce MTR_CMPCFG 0) 11 0) (bits (s.dev.inForce MTR_CMPCFG 0) 23 12) (s.dev.mtr.inc.getD c (0, 0)).1 (incs.getD c (0, 0)).1 = false ∧ cmpMismatch (bits (s.dev.inForce MTR_CMPCFG 0) 11 0) (bits (s.dev.inForce MTR_CMPCFG 0) 23 12) (s.dev.mtr.inc.getD c (0, 0)).2 (incs.getD c (0, 0)).2 = false) :=
  ⟨(onD (withR base [(MTR_ROLE, 0, 2), (MTR_PAIRSTAT, 0, 0x200)]) (fun d => { d with mtr := { d.mtr with adopted := true, inc := [(5, 5000)] } })), 5, 7, (onD (withR base [(MTR_ROLE, 0, 2), (MTR_PAIRSTAT, 0, 0x200)]) (fun d => { d with mtr := { d.mtr with adopted := true, inc := [(5, 5000)] } })).dev.pairSettings, [(5, 5001)], by decide +kernel⟩

theorem witness_TheStandbyComparesAndAdopts_7 : ∃ (s : State) (t0 q : Nat) (ws : List Word) (incs : List (Nat × Nat)),
    s.dev.up .metrology = false ∨ s.dev.variant ≠ .px4840 ∨ s.dev.fld MTR_ROLE 0 1 0 ≠ 2 ∨ s.dev.pstate = 1 ∨ s.dev.mtr.adopted = false :=
  ⟨base, 5, 7, [], [], by decide +kernel⟩

theorem witness_TheStandbyComparesAndAdopts_8 : ∃ (s : State) (t0 : Nat) (a : Adoption),
    s.dev.up .metrology = true ∧ s.dev.fld MTR_ROLE 0 1 0 = 2 ∧ s.dev.pstate = 2 ∧ s.dev.mtr.adoptDue = true :=
  ⟨onD (withR base [(MTR_ROLE, 0, 2), (AUS_STAT, 0, 2)]) (fun d => { d with mtr := { d.mtr with adoptDue := true }, pair := { d.pair with copied := true } }), 5, { accs := [(2 ^ 96 + 7, 9)], ticks := 5, banks := [], bil := {}, bpnum := 3, lastbp := 4, jseq := 5, sessNext := 6, time := 99 }, by decide +kernel⟩

theorem witness_TheStandbyComparesAndAdopts_9 : ∃ (s : State) (t0 : Nat) (a : Adoption),
    (s.dev.up .metrology = false ∨ s.dev.fld MTR_ROLE 0 1 0 ≠ 2 ∨ s.dev.mtr.adoptDue = false ∨ s.dev.pstate < 2 ∨ s.dev.pstate = 4) ∧ (s.dev.pstate = 2 → s.dev.pair.copied = true → s.dev.mtr.adopted = false) :=
  ⟨onD (withR base [(MTR_ROLE, 0, 2), (AUS_STAT, 0, 3)]) (fun d => { d with mtr := { d.mtr with adopted := true } }), 5, { accs := [(2 ^ 96 + 7, 9)], ticks := 5, banks := [], bil := {}, bpnum := 3, lastbp := 4, jseq := 5, sessNext := 6, time := 99 }, by decide +kernel⟩

theorem witness_BillingRequestsAreServed_1 : ∃ (s : State) (i : Initiator) (q : BilReq) (x : BilObj) (b : List Byte),
    s.dev.bilReq i = some q ∧ q.op = 1 ∧ q.obj = some x ∧ mayRead x q.role = true ∧ (s.dev.bilAuth i q).1 = none ∧ s.sys.objValue x q.data = some b :=
  ⟨bilS (bq 1 1 [0,0,96,1,0,255] [] []) base, .core0, bq 1 1 [0,0,96,1,0,255] [] [], .identity, List.replicate 16 0, by decide +kernel, by decide +kernel, by decide +kernel⟩

theorem witness_BillingRequestsAreServed_2 : ∃ (s : State) (i : Initiator) (q : BilReq),
    s.dev.bilReq i = some q ∧ q.op = 1 ∧ q.obj = none ∧ (s.dev.bilAuth i q).1 = none :=
  ⟨bilS (bq 1 2 [0,0,97,1,0,255] [] []) base, .core0, bq 1 2 [0,0,97,1,0,255] [] [], by decide +kernel⟩

theorem witness_BillingRequestsAreServed_3 : ∃ (s : State) (i : Initiator) (q : BilReq) (x : BilSet),
    s.dev.bilReq i = some q ∧ q.op = 2 ∧ s.dev.fld MTR_ROLE 0 1 0 = 2 :=
  ⟨bilS (bq 2 1 [0,0,128,5,0,255] [] []) (withR base [(MTR_ROLE, 0, 2)]), .core0, bq 2 1 [0,0,128,5,0,255] [] [], .roleKey 5 [1], by decide +kernel⟩

theorem witness_BillingRequestsAreServed_4 : ∃ (s : State) (i : Initiator) (q : BilReq) (r : Nat) (k : List Byte),
    s.dev.bilReq i = some q ∧ q.op = 2 ∧ q.obj = some .roleKeys ∧ s.dev.fld MTR_ROLE 0 1 0 ≠ 2 ∧ (s.dev.bilAuth i q).1 = none ∧ s.dev.bil.roleKeys.any (fun k => decide (k.1 = 5)) = false ∧ 3 ≤ r ∧ r ≤ 5 :=
  ⟨bilS (bq 2 1 [0,0,128,5,0,255] [] []) base, .core0, bq 2 1 [0,0,128,5,0,255] [] [], 5, [1, 2], by decide +kernel, by decide +kernel⟩

theorem witness_BillingRequestsAreServed_5 : ∃ (s : State) (i : Initiator) (q : BilReq) (v : Word),
    (s.dev.bilReq i = some q ∧ q.op = 2 ∧ q.obj = some .schedule ∧ s.dev.fld MTR_ROLE 0 1 0 ≠ 2 ∧ (q.role = 3 ∨ q.role = 5)) ∧ (s.dev.bilAuth i q).1 = none :=
  ⟨authS (bq 2 3 [0,0,15,0,0,255] [] zeroSig) base, .core0, bq 2 3 [0,0,15,0,0,255] [] zeroSig, 0x170302, by decide +kernel, authS_ok _ _ (by decide +kernel) (by decide +kernel) (by decide +kernel) rfl⟩

theorem witness_BillingRequestsAreServed_6 : ∃ (s : State) (i : Initiator) (q : BilReq),
    s.dev.bilReq i = some q ∧ q.op = 4 :=
  ⟨bilS (bq 4 1 [0,0,0,0,0,0] [] []) base, .core0, bq 4 1 [0,0,0,0,0,0] [] [], by decide +kernel⟩

theorem witness_BillingRequestsAreServed_7 : ∃ (s : State) (t0 n a : Nat),
    s.dev.bil.openCh = some (n, a) ∧ a + 60000000000 ≤ t0 :=
  ⟨onD base (fun d => { d with bil := { d.bil with openCh := some (1, 0) } }), 60000000000, 1, 0, by decide +kernel⟩

theorem witness_BillingRequestsAreServed_8 : ∃ (s : State) (i : Initiator) (q : BilReq) (x : BilObj),
    s.dev.bilReq i = some q ∧ q.op = 1 ∧ q.obj = some x ∧ (s.dev.bilAuth i q).1 = none ∧ mayRead x q.role = false :=
  ⟨bilS (bq 1 1 [0,0,128,4,0,255] [] []) (base), .core0, bq 1 1 [0,0,128,4,0,255] [] [], .journal, by decide +kernel⟩

theorem witness_BillingRequestsAreServed_9 : ∃ (s : State) (i : Initiator) (q : BilReq) (x : BilObj),
    s.dev.bilReq i = some q ∧ q.op = 1 ∧ q.obj = some x ∧ (s.dev.bilAuth i q).1 = none ∧ mayRead x q.role = true ∧ s.sys.objValue x q.data = none :=
  ⟨bilS (bq 1 2 [0,0,128,4,0,255] [] []) (base), .core0, bq 1 2 [0,0,128,4,0,255] [] [], .journal, by decide +kernel⟩

theorem witness_BillingRequestsAreServed_10 : ∃ (s : State) (i : Initiator) (q : BilReq) (r : Nat),
    s.dev.bilReq i = some q ∧ q.op = 1 ∧ (s.dev.bilAuth i q).1 = some r :=
  ⟨bilS (bq 1 3 [0,0,96,1,0,255] [] []) (base), .core0, bq 1 3 [0,0,96,1,0,255] [] [], 4, by decide +kernel⟩

theorem witness_BillingRequestsAreServed_11 : ∃ (s : State) (i : Initiator),
    (∀ q ∈ s.dev.bilReq i, q.op ≠ 1) :=
  ⟨bilS (bq 2 1 [0,0,96,1,0,255] [] []) (base), .core0, by decide +kernel⟩

theorem witness_BillingRequestsAreServed_12 : ∃ (s : State) (i : Initiator) (x : BilSet),
    (∀ q ∈ s.dev.bilReq i, q.op ≠ 2) :=
  ⟨bilS (bq 1 1 [0,0,96,1,0,255] [] []) (base), .core0, .regs [], by decide +kernel⟩

theorem witness_BillingRequestsAreServed_13 : ∃ (s : State) (i : Initiator) (q : BilReq) (x : BilSet),
    s.dev.bilReq i = some q ∧ q.op = 2 ∧ s.dev.fld MTR_ROLE 0 1 0 ≠ 2 ∧ q.obj = none ∧ (s.dev.bilAuth i q).1 = none :=
  ⟨bilS (bq 2 1 [0,0,97,1,0,255] [] []) (base), .core0, bq 2 1 [0,0,97,1,0,255] [] [], .regs [], by decide +kernel⟩

theorem witness_BillingRequestsAreServed_14 : ∃ (s : State) (i : Initiator) (q : BilReq) (o : BilObj) (x : BilSet),
    s.dev.bilReq i = some q ∧ q.op = 2 ∧ s.dev.fld MTR_ROLE 0 1 0 ≠ 2 ∧ q.obj = some o ∧ (s.dev.bilAuth i q).1 = none ∧ mayWrite o q.role = 0 ∧ (o = .roleKeys → s.dev.bil.roleKeys.any (fun k => decide (k.1 = 5)) = true) :=
  ⟨bilS (bq 2 1 [0,0,128,5,0,255] [] []) (onD base (fun d => { d with bil := { d.bil with roleKeys := [(5, [1])] } })), .core0, bq 2 1 [0,0,128,5,0,255] [] [], .roleKeys, .roleKey 5 [2], by decide +kernel⟩

theorem witness_BillingRequestsAreServed_15 : ∃ (s : State) (i : Initiator) (q : BilReq) (o : BilObj) (x : BilSet),
    s.dev.bilReq i = some q ∧ q.op = 2 ∧ s.dev.fld MTR_ROLE 0 1 0 ≠ 2 ∧ q.obj = some o ∧ (s.dev.bilAuth i q).1 = none ∧ mayWrite o q.role = 2 ∧ s.dev.sealOpen .metrology = false ∧ (o = .roleKeys → s.dev.bil.roleKeys.any (fun k => decide (k.1 = 5)) = true) :=
  ⟨authS (bq 2 5 [0,0,128,1,0,255] [] zeroSig) (withR base [(BIL_SEALSTAT, 0, 1)]), .core0, bq 2 5 [0,0,128,1,0,255] [] zeroSig, .bilCfg, .regs [], by decide +kernel, rfl, by decide +kernel, rfl, authS_ok _ _ (by decide +kernel) (by decide +kernel) (by decide +kernel) rfl, by decide +kernel⟩

theorem witness_BillingRequestsAreServed_16 : ∃ (s : State) (i : Initiator) (q : BilReq) (r : Nat) (k : List Byte),
    s.dev.bilReq i = some q ∧ q.op = 2 ∧ q.obj = some .roleKeys ∧ s.dev.fld MTR_ROLE 0 1 0 ≠ 2 ∧ (s.dev.bilAuth i q).1 = none ∧ (s.dev.bil.roleKeys.any (fun k => decide (k.1 = 5)) = false ∨ q.role = 5 ∧ s.dev.sealOpen .metrology = true) :=
  ⟨authS (bq 2 5 [0,0,128,5,0,255] [] zeroSig) (base), .core0, bq 2 5 [0,0,128,5,0,255] [] zeroSig, 3, [7], by decide +kernel, rfl, rfl, by decide +kernel, authS_ok _ _ (by decide +kernel) (by decide +kernel) (by decide +kernel) rfl, by decide +kernel⟩

theorem witness_BillingRequestsAreServed_17 : ∃ (s : State) (i : Initiator) (q : BilReq) (o : BilObj) (w : RegVal),
    s.dev.bilReq i = some q ∧ q.op = 2 ∧ q.obj = some o ∧ s.dev.fld MTR_ROLE 0 1 0 ≠ 2 ∧ (s.dev.bilAuth i q).1 = none ∧ (mayWrite o q.role = 1 ∨ mayWrite o q.role = 2 ∧ s.dev.sealOpen .metrology = true) ∧ o ≠ .roleKeys ∧ s.dev.setInRange o w = true ∧ w.page ≠ 0x20 :=
  ⟨authS (bq 2 5 [1,3,128,0,0,255] [] zeroSig) (base), .core0, bq 2 5 [1,3,128,0,0,255] [] zeroSig, .calib 3, ⟨0x48, 0x400, 3, 0x1201⟩, by decide +kernel, rfl, rfl, by decide +kernel, authS_ok _ _ (by decide +kernel) (by decide +kernel) (by decide +kernel) rfl, by decide +kernel, by decide +kernel⟩

theorem witness_BillingRequestsAreServed_18 : ∃ (s : State) (i : Initiator) (q : BilReq) (o : BilObj) (ws : List RegVal),
    s.dev.bilReq i = some q ∧ q.op = 2 ∧ q.obj = some o ∧ s.dev.fld MTR_ROLE 0 1 0 ≠ 2 ∧ (s.dev.bilAuth i q).1 = none ∧ (mayWrite o q.role = 1 ∨ mayWrite o q.role = 2 ∧ s.dev.sealOpen .metrology = true) ∧ o ≠ .roleKeys :=
  ⟨authS (bq 2 3 [0,0,1,0,0,255] [] zeroSig) (base), .core0, bq 2 3 [0,0,1,0,0,255] [] zeroSig, .clock, [⟨0x50, 0x048, 0, 1⟩], by decide +kernel, rfl, rfl, by decide +kernel, authS_ok _ _ (by decide +kernel) (by decide +kernel) (by decide +kernel) rfl, by decide +kernel, by decide +kernel⟩

theorem witness_BillingRequestsAreServed_19 : ∃ (s : State) (i : Initiator) (q : BilReq) (r : Nat) (x : BilSet),
    s.dev.bilReq i = some q ∧ q.op = 2 ∧ s.dev.fld MTR_ROLE 0 1 0 ≠ 2 ∧ (s.dev.bilAuth i q).1 = some r :=
  ⟨bilS (bq 2 4 [0,0,96,1,0,255] [] []) (base), .core0, bq 2 4 [0,0,96,1,0,255] [] [], 4, .regs [], by decide +kernel⟩

theorem witness_BillingRequestsAreServed_20 : ∃ (s : State) (i : Initiator),
    (∀ q ∈ s.dev.bilReq i, q.op ≠ 4) :=
  ⟨bilS (bq 1 1 [0,0,96,1,0,255] [] []) (base), .core0, by decide +kernel⟩

theorem witness_BillingRequestsAreServed_21 : ∃ (s : State) (t0 : Nat),
    (s.dev.bil.openCh.map (fun x => decide (t0 < x.2 + 60000000000))).getD true = true :=
  ⟨onD base (fun d => { d with bil := { d.bil with openCh := some (1, 0) } }), 59999999999, by decide +kernel⟩

theorem witness_BillingMethodsAct_1 : ∃ (s : State) (i : Initiator) (q : BilReq) (c tr : Nat),
    BilAction s i q (.tariffMode c) ∧ mayRun .settariff q.role = true ∧ tr < 8 ∧ bitOf (s.dev.bilF BIL_TARCTL c) 0 = true :=
  ⟨authS (bq 3 5 [1,16,128,1,0,255] [] zeroSig) (withR base [(BIL_TARCTL, 16, 1)]), .core0, bq 3 5 [1,16,128,1,0,255] [] zeroSig, 16, 7, ⟨by decide +kernel, rfl, rfl, by decide +kernel, authS_ok _ _ (by decide +kernel) (by decide +kernel) (by decide +kernel) rfl⟩, by decide +kernel⟩

theorem witness_BillingMethodsAct_2 : ∃ (s : State) (i : Initiator) (q : BilReq) (c tr : Nat),
    BilAction s i q (.tariffMode c) ∧ mayRun .settariff q.role = true ∧ tr < 8 ∧ bitOf (s.dev.bilF BIL_TARCTL c) 0 = false :=
  ⟨authS (bq 3 3 [1,0,128,1,0,255] [] zeroSig) base, .core0, bq 3 3 [1,0,128,1,0,255] [] zeroSig, 0, 0, ⟨by decide +kernel, rfl, rfl, by decide +kernel, authS_ok _ _ (by decide +kernel) (by decide +kernel) (by decide +kernel) rfl⟩, by decide +kernel⟩

theorem witness_BillingMethodsAct_3 : ∃ (s : State) (i : Initiator) (q : BilReq),
    BilAction s i q .schedule ∧ mayRun .closebp q.role = true :=
  ⟨authS (bq 3 5 [0,0,15,0,0,255] [] zeroSig) base, .core0, bq 3 5 [0,0,15,0,0,255] [] zeroSig, ⟨by decide +kernel, rfl, rfl, by decide +kernel, authS_ok _ _ (by decide +kernel) (by decide +kernel) (by decide +kernel) rfl⟩, by decide +kernel⟩

theorem witness_BillingMethodsAct_4 : ∃ (s : State) (i : Initiator) (q : BilReq),
    BilAction s i q .snapBanks ∧ mayRun .snap q.role = true ∧ s.dev.bil.snap = none ∧ s.dev.bit BIL_SNAPCTL 0 (1 - s.dev.fld BIL_SNAPSTAT 0 0 0) = false :=
  ⟨bilS (bq 3 2 [0,0,128,2,0,255] [] []) (onD base (fun d => { d with bil := { d.bil with epoch := 0xFFFFFFFF } })), .core0, bq 3 2 [0,0,128,2,0,255] [] [], ⟨by decide +kernel, rfl, rfl, by decide +kernel, by decide +kernel⟩, by decide +kernel⟩

theorem witness_BillingMethodsAct_5 : ∃ (s : State) (i : Initiator) (q : BilReq),
    BilAction s i q .snapBanks ∧ mayRun .snap q.role = true ∧ s.dev.bil.snap = none ∧ s.dev.bit BIL_SNAPCTL 0 (1 - s.dev.fld BIL_SNAPSTAT 0 0 0) = true :=
  ⟨bilS (bq 3 2 [0,0,128,2,0,255] [] []) (withR base [(BIL_SNAPCTL, 0, 2)]), .core0, bq 3 2 [0,0,128,2,0,255] [] [], ⟨by decide +kernel, rfl, rfl, by decide +kernel, by decide +kernel⟩, by decide +kernel⟩

theorem witness_BillingMethodsAct_6 : ∃ (s : State) (i : Initiator) (p : Bool) (g ep : Nat),
    s.dev.fld MTR_ROLE 0 1 0 = 2 ∧ s.dev.up .metrology = true :=
  ⟨withR base [(MTR_ROLE, 0, 2)], .mirror, true, 5, 7, by decide +kernel⟩

theorem witness_BillingMethodsAct_7 : ∃ (s : State) (t0 a : Nat) (x : Snap),
    s.dev.bil.snap = some x ∧ x.pairAt = some a ∧ a + 1000000 ≤ t0 :=
  ⟨onD base (fun d => { d with bil := { d.bil with snap := some { target := 9, epoch := 1, pairAt := some 0, confirmed := false } } }), 1000000, 0, { target := 9, epoch := 1, pairAt := some 0, confirmed := false }, by decide +kernel⟩

theorem witness_BillingMethodsAct_8 : ∃ (s : State) (t0 b a : Nat),
    s.dev.bil.holdAt.find? (fun p => decide (p.1 = b)) = some (b, a) ∧ b < 2 ∧ a + 60000000000 ≤ t0 :=
  ⟨onD (withR base [(BIL_SNAPCTL, 0, 3)]) (fun d => { d with bil := { d.bil with holdAt := [(1, 0)] } }), 60000000000, 1, 0, by decide +kernel⟩

theorem witness_BillingMethodsAct_9 : ∃ (s : State) (i : Initiator) (q : BilReq) (c tr : Nat),
    BilAction s i q (.tariffMode c) ∧ mayRun .settariff q.role = false :=
  ⟨bilS (bq 3 1 [1,3,128,1,0,255] [] []) (base), .core0, bq 3 1 [1,3,128,1,0,255] [] [], 3, 2, ⟨by decide +kernel, rfl, rfl, by decide +kernel, by decide +kernel⟩, by decide +kernel⟩

theorem witness_BillingMethodsAct_10 : ∃ (s : State) (i : Initiator) (q : BilReq) (c tr : Nat),
    s.dev.bilReq i = some q ∧ q.op = 3 ∧ q.obj = some (.tariffMode c) ∧ s.dev.fld MTR_ROLE 0 1 0 = 2 :=
  ⟨bilS (bq 3 2 [1,3,128,1,0,255] [] []) (withR base [(MTR_ROLE, 0, 2)]), .core0, bq 3 2 [1,3,128,1,0,255] [] [], 3, 2, by decide +kernel⟩

theorem witness_BillingMethodsAct_11 : ∃ (s : State) (i : Initiator) (q : BilReq) (c tr : Nat) (r : Nat),
    s.dev.bilReq i = some q ∧ q.op = 3 ∧ q.obj = some (.tariffMode c) ∧ s.dev.fld MTR_ROLE 0 1 0 ≠ 2 ∧ (s.dev.bilAuth i q).1 = some r :=
  ⟨bilS (bq 3 7 [1,3,128,1,0,255] [] []) (base), .core0, bq 3 7 [1,3,128,1,0,255] [] [], 3, 2, 2, by decide +kernel⟩

theorem witness_BillingMethodsAct_12 : ∃ (s : State) (i : Initiator) (c tr : Nat),
    (∀ q ∈ s.dev.bilReq i, q.op = 3 → q.obj ≠ some (.tariffMode c)) :=
  ⟨bilS (bq 3 1 [0,0,96,1,0,255] [] []) (base), .core0, 3, 2, by decide +kernel⟩

theorem witness_BillingMethodsAct_13 : ∃ (s : State) (i : Initiator) (q : BilReq),
    BilAction s i q .schedule ∧ mayRun .closebp q.role = false :=
  ⟨bilS (bq 3 1 [0,0,15,0,0,255] [] []) (base), .core0, bq 3 1 [0,0,15,0,0,255] [] [], ⟨by decide +kernel, rfl, rfl, by decide +kernel, by decide +kernel⟩, by decide +kernel⟩

theorem witness_BillingMethodsAct_14 : ∃ (s : State) (i : Initiator) (q : BilReq),
    s.dev.bilReq i = some q ∧ q.op = 3 ∧ q.obj = some .schedule ∧ s.dev.fld MTR_ROLE 0 1 0 = 2 :=
  ⟨bilS (bq 3 2 [0,0,15,0,0,255] [] []) (withR base [(MTR_ROLE, 0, 2)]), .core0, bq 3 2 [0,0,15,0,0,255] [] [], by decide +kernel⟩

theorem witness_BillingMethodsAct_15 : ∃ (s : State) (i : Initiator) (q : BilReq) (r : Nat),
    s.dev.bilReq i = some q ∧ q.op = 3 ∧ q.obj = some .schedule ∧ s.dev.fld MTR_ROLE 0 1 0 ≠ 2 ∧ (s.dev.bilAuth i q).1 = some r :=
  ⟨bilS (bq 3 7 [0,0,15,0,0,255] [] []) (base), .core0, bq 3 7 [0,0,15,0,0,255] [] [], 2, by decide +kernel⟩

theorem witness_BillingMethodsAct_16 : ∃ (s : State) (i : Initiator),
    (∀ q ∈ s.dev.bilReq i, q.op = 3 → q.obj ≠ some .schedule) :=
  ⟨bilS (bq 3 1 [0,0,96,1,0,255] [] []) (base), .core0, by decide +kernel⟩

theorem witness_BillingMethodsAct_17 : ∃ (s : State) (i : Initiator) (q : BilReq) (p : Bool),
    BilAction s i q .snapBanks ∧ mayRun .snap q.role = false :=
  ⟨bilS (bq 3 1 [0,0,128,2,0,255] [] []) (base), .core0, bq 3 1 [0,0,128,2,0,255] [] [], true, ⟨by decide +kernel, rfl, rfl, by decide +kernel, by decide +kernel⟩, by decide +kernel⟩

theorem witness_BillingMethodsAct_18 : ∃ (s : State) (i : Initiator) (q : BilReq) (p : Bool),
    s.dev.bilReq i = some q ∧ q.op = 3 ∧ q.obj = some .snapBanks ∧ s.dev.fld MTR_ROLE 0 1 0 = 2 :=
  ⟨bilS (bq 3 2 [0,0,128,2,0,255] [] []) (withR base [(MTR_ROLE, 0, 2)]), .core0, bq 3 2 [0,0,128,2,0,255] [] [], true, by decide +kernel⟩

theorem witness_BillingMethodsAct_19 : ∃ (s : State) (i : Initiator) (q : BilReq) (p : Bool) (r : Nat),
    s.dev.bilReq i = some q ∧ q.op = 3 ∧ q.obj = some .snapBanks ∧ s.dev.fld MTR_ROLE 0 1 0 ≠ 2 ∧ (s.dev.bilAuth i q).1 = some r :=
  ⟨bilS (bq 3 7 [0,0,128,2,0,255] [] []) (base), .core0, bq 3 7 [0,0,128,2,0,255] [] [], true, 2, by decide +kernel⟩

theorem witness_BillingMethodsAct_20 : ∃ (s : State) (i : Initiator) (p : Bool),
    (∀ q ∈ s.dev.bilReq i, q.op = 3 → q.obj ≠ some .snapBanks) :=
  ⟨bilS (bq 3 1 [0,0,96,1,0,255] [] []) (base), .core0, true, by decide +kernel⟩

theorem witness_BillingMethodsAct_21 : ∃ (s : State) (i : Initiator) (q : BilReq) (c tr : Nat),
    BilAction s i q (.tariffMode c) ∧ mayRun .settariff q.role = true ∧ 8 ≤ tr :=
  ⟨authS (bq 3 5 [1,16,128,1,0,255] [] zeroSig) (base), .core0, bq 3 5 [1,16,128,1,0,255] [] zeroSig, 16, 8, ⟨by decide +kernel, rfl, rfl, by decide +kernel, authS_ok _ _ (by decide +kernel) (by decide +kernel) (by decide +kernel) rfl⟩, by decide +kernel⟩

theorem witness_BillingMethodsAct_22 : ∃ (s : State) (i : Initiator) (q : BilReq) (p : Bool) (x : Snap),
    BilAction s i q .snapBanks ∧ mayRun .snap q.role = true ∧ s.dev.bil.snap = some x :=
  ⟨bilS (bq 3 2 [0,0,128,2,0,255] [] []) (onD base (fun d => { d with bil := { d.bil with snap := some { target := 9, epoch := 1, pairAt := some 0, confirmed := false } } })), .core0, bq 3 2 [0,0,128,2,0,255] [] [], false, { target := 9, epoch := 1, pairAt := some 0, confirmed := false }, ⟨by decide +kernel, rfl, rfl, by decide +kernel, by decide +kernel⟩, by decide +kernel⟩

theorem witness_BillingMethodsAct_23 : ∃ (s : State) (i : Initiator) (q : BilReq),
    BilAction s i q .snapBanks ∧ mayRun .snap q.role = true ∧ s.dev.bil.snap = none ∧ s.dev.fld MTR_ROLE 0 1 0 ≠ 1 :=
  ⟨bilS (bq 3 2 [0,0,128,2,0,255] [] []) (base), .core0, bq 3 2 [0,0,128,2,0,255] [] [], ⟨by decide +kernel, rfl, rfl, by decide +kernel, by decide +kernel⟩, by decide +kernel⟩

theorem witness_BillingMethodsAct_24 : ∃ (s : State) (i : Initiator) (q : BilReq),
    BilAction s i q .snapBanks ∧ mayRun .snap q.role = true ∧ s.dev.bil.snap = none ∧ s.dev.fld MTR_ROLE 0 1 0 = 1 :=
  ⟨bilS (bq 3 2 [0,0,128,2,0,255] [] []) (withR base [(MTR_ROLE, 0, 1)]), .core0, bq 3 2 [0,0,128,2,0,255] [] [], ⟨by decide +kernel, rfl, rfl, by decide +kernel, by decide +kernel⟩, by decide +kernel⟩

theorem witness_BillingMethodsAct_25 : ∃ (s : State) (i : Initiator) (p : Bool) (x : Nat × Nat),
    s.dev.fld MTR_ROLE 0 1 0 ≠ 2 ∨ s.dev.up .metrology = false :=
  ⟨base, .mirror, true, (5, 7), by decide +kernel⟩

theorem witness_BillingMethodsAct_26 : ∃ (s : State) (t0 : Nat),
    ((s.dev.bil.snap.bind (fun x => x.pairAt)).map (fun a => decide (t0 < a + 1000000))).getD true = true :=
  ⟨onD base (fun d => { d with bil := { d.bil with snap := some { target := 9, epoch := 1, pairAt := some 0, confirmed := false } } }), 999999, by decide +kernel⟩

theorem witness_BillingMethodsAct_27 : ∃ (s : State) (t0 b : Nat),
    2 ≤ b ∨ ((s.dev.bil.holdAt.find? (fun p => decide (p.1 = b))).map (fun p => decide (t0 < p.2 + 60000000000))).getD true = true :=
  ⟨onD (withR base [(BIL_SNAPCTL, 0, 3)]) (fun d => { d with bil := { d.bil with holdAt := [(1, 0)] } }), 59999999999, 1, by decide +kernel⟩

theorem witness_SessionsStartStopAndAreSigned_1 : ∃ (s : State) (i : Initiator) (q : BilReq) (o k : Nat) (tag : List Byte),
    BilAction s i q (.session o) ∧ mayRun .start q.role = true ∧ s.dev.startCheck o = (0, k) ∧ o < 16 ∧ k < 32 :=
  ⟨bilS (bq 3 2 [1,16,128,2,0,255] [] []) (withR base [(BIL_SESSCNT, 0, 0xFFFFFFFF)]), .core0, bq 3 2 [1,16,128,2,0,255] [] [], 15, 0, [1, 2], ⟨by decide +kernel, rfl, rfl, by decide +kernel, by decide +kernel⟩, by decide +kernel⟩

theorem witness_SessionsStartStopAndAreSigned_2 : ∃ (s : State) (o k : Nat) (tag : List Byte),
    s.dev.fld MTR_ROLE 0 1 0 = 2 ∧ s.dev.startCheck o = (0, k) ∧ o < s.dev.variant.outlets ∧ k < 32 :=
  ⟨withR base [(MTR_ROLE, 0, 2)], 0, 0, [], by decide +kernel⟩

theorem witness_SessionsStartStopAndAreSigned_3 : ∃ (s : State) (i : Initiator) (q : BilReq) (o : Nat),
    BilAction s i q (.session o) ∧ mayRun .stop q.role = true ∧ s.dev.fld BIL_SESSTAT o 1 0 = 2 :=
  ⟨bilS (bq 3 2 [1,1,128,2,0,255] [] []) (withR base [(BIL_SESSTAT, 0, 2)]), .core0, bq 3 2 [1,1,128,2,0,255] [] [], 0, ⟨by decide +kernel, rfl, rfl, by decide +kernel, by decide +kernel⟩, by decide +kernel⟩

theorem witness_SessionsStartStopAndAreSigned_4 : ∃ (s : State) (k t0 : Nat) (x : Sess) (sig : List Byte),
    kvGet s.dev.bil.sess k none = some x ∧ x.state = 2 ∧ x.signAsked = true ∧ s.dev.up .metrology = true ∧ k < 32 ∧ kvGet s.dev.key.done (k + 1) [] = sig ∧ sig ≠ [] :=
  ⟨onD base (fun d => { d with bil := { d.bil with sess := [(31, some { outlet := 0, num := 5, tag := [], state := 2, signAsked := true })] }, key := { d.key with done := [(32, [1, 0, 3])] } }), 31, 5, { outlet := 0, num := 5, tag := [], state := 2, signAsked := true }, [1, 0, 3], by decide +kernel, by decide +kernel⟩

theorem witness_SessionsStartStopAndAreSigned_5 : ∃ (s : State) (k t0 co : Nat) (x : Sess),
    kvGet s.dev.bil.sess k none = some x ∧ x.state = 6 ∧ x.cosigFrom.isSome = true ∧ s.dev.up .metrology = true ∧ s.dev.up .compute = true ∧ s.dev.up .key = true ∧ s.dev.fld ATT_COSIG 0 7 0 = co ∧ co ≠ 0 ∧ s.dev.slotUse co = 2 ∧ s.dev.derived co = true :=
  ⟨onD (withR base [(ATT_COSIG, 0, 16), (KEY_NCFG, 16, 0x82000000)]) (fun d => { d with bil := { d.bil with sess := [(0, some { outlet := 0, num := 5, tag := [], state := 6, cosigFrom := some 0 })] }, key := { d.key with slots := [(16, { key := List.replicate 32 7 })] } }), 0, 5, 16, { outlet := 0, num := 5, tag := [], state := 6, cosigFrom := some 0 }, by decide +kernel, by decide +kernel⟩

theorem witness_SessionsStartStopAndAreSigned_6 : ∃ (s : State) (k t0 a : Nat) (x : Sess),
    kvGet s.dev.bil.sess k none = some x ∧ x.cosigFrom = some a ∧ a + 10000000000 ≤ t0 :=
  ⟨onD base (fun d => { d with bil := { d.bil with sess := [(0, some { outlet := 0, num := 5, tag := [], state := 6, cosigFrom := some 0 })] } }), 0, 10000000000, 0, { outlet := 0, num := 5, tag := [], state := 6, cosigFrom := some 0 }, by decide +kernel⟩

theorem witness_SessionsStartStopAndAreSigned_7 : ∃ (s : State) (i : Initiator) (q : BilReq) (o : Nat) (tag : List Byte),
    BilAction s i q (.session o) ∧ mayRun .start q.role = false :=
  ⟨bilS (bq 3 1 [1,1,128,2,0,255] [] []) (base), .core0, bq 3 1 [1,1,128,2,0,255] [] [], 0, [], ⟨by decide +kernel, rfl, rfl, by decide +kernel, by decide +kernel⟩, by decide +kernel⟩

theorem witness_SessionsStartStopAndAreSigned_8 : ∃ (s : State) (i : Initiator) (q : BilReq) (o : Nat) (tag : List Byte),
    s.dev.bilReq i = some q ∧ q.op = 3 ∧ q.obj = some (.session o) ∧ s.dev.fld MTR_ROLE 0 1 0 = 2 :=
  ⟨bilS (bq 3 2 [1,1,128,2,0,255] [] []) (withR base [(MTR_ROLE, 0, 2)]), .core0, bq 3 2 [1,1,128,2,0,255] [] [], 0, [], by decide +kernel⟩

theorem witness_SessionsStartStopAndAreSigned_9 : ∃ (s : State) (i : Initiator) (q : BilReq) (o : Nat) (tag : List Byte) (r : Nat),
    s.dev.bilReq i = some q ∧ q.op = 3 ∧ q.obj = some (.session o) ∧ s.dev.fld MTR_ROLE 0 1 0 ≠ 2 ∧ (s.dev.bilAuth i q).1 = some r :=
  ⟨bilS (bq 3 7 [1,1,128,2,0,255] [] []) (base), .core0, bq 3 7 [1,1,128,2,0,255] [] [], 0, [], 2, by decide +kernel⟩

theorem witness_SessionsStartStopAndAreSigned_10 : ∃ (s : State) (i : Initiator) (o : Nat) (tag : List Byte),
    (∀ q ∈ s.dev.bilReq i, q.op = 3 → q.obj ≠ some (.session o)) :=
  ⟨bilS (bq 3 1 [0,0,96,1,0,255] [] []) (base), .core0, 0, [], by decide +kernel⟩

theorem witness_SessionsStartStopAndAreSigned_11 : ∃ (s : State) (i : Initiator) (q : BilReq) (o : Nat),
    BilAction s i q (.session o) ∧ mayRun .stop q.role = false :=
  ⟨bilS (bq 3 1 [1,1,128,2,0,255] [] []) (base), .core0, bq 3 1 [1,1,128,2,0,255] [] [], 0, ⟨by decide +kernel, rfl, rfl, by decide +kernel, by decide +kernel⟩, by decide +kernel⟩

theorem witness_SessionsStartStopAndAreSigned_12 : ∃ (s : State) (i : Initiator) (q : BilReq) (o : Nat),
    s.dev.bilReq i = some q ∧ q.op = 3 ∧ q.obj = some (.session o) ∧ s.dev.fld MTR_ROLE 0 1 0 = 2 :=
  ⟨bilS (bq 3 2 [1,1,128,2,0,255] [] []) (withR base [(MTR_ROLE, 0, 2)]), .core0, bq 3 2 [1,1,128,2,0,255] [] [], 0, by decide +kernel⟩

theorem witness_SessionsStartStopAndAreSigned_13 : ∃ (s : State) (i : Initiator) (q : BilReq) (o : Nat) (r : Nat),
    s.dev.bilReq i = some q ∧ q.op = 3 ∧ q.obj = some (.session o) ∧ s.dev.fld MTR_ROLE 0 1 0 ≠ 2 ∧ (s.dev.bilAuth i q).1 = some r :=
  ⟨bilS (bq 3 7 [1,1,128,2,0,255] [] []) (base), .core0, bq 3 7 [1,1,128,2,0,255] [] [], 0, 2, by decide +kernel⟩

theorem witness_SessionsStartStopAndAreSigned_14 : ∃ (s : State) (i : Initiator) (o : Nat),
    (∀ q ∈ s.dev.bilReq i, q.op = 3 → q.obj ≠ some (.session o)) :=
  ⟨bilS (bq 3 1 [0,0,96,1,0,255] [] []) (base), .core0, 0, by decide +kernel⟩

theorem witness_SessionsStartStopAndAreSigned_15 : ∃ (s : State) (i : Initiator) (q : BilReq) (o : Nat) (tag : List Byte),
    BilAction s i q (.session o) ∧ mayRun .start q.role = true ∧ (s.dev.mtrEn (o + 1) = false ∨ s.dev.fld BIL_SESSTAT o 1 0 ≠ 0) :=
  ⟨bilS (bq 3 2 [1,1,128,2,0,255] [] []) (withR base [(BIL_SESSTAT, 0, 2)]), .core0, bq 3 2 [1,1,128,2,0,255] [] [], 0, [], ⟨by decide +kernel, rfl, rfl, by decide +kernel, by decide +kernel⟩, by decide +kernel, by decide +kernel⟩

theorem witness_SessionsStartStopAndAreSigned_16 : ∃ (s : State) (i : Initiator) (q : BilReq) (o : Nat),
    BilAction s i q (.session o) ∧ mayRun .stop q.role = true ∧ s.dev.fld BIL_SESSTAT o 1 0 ≠ 2 :=
  ⟨bilS (bq 3 2 [1,1,128,2,0,255] [] []) (base), .core0, bq 3 2 [1,1,128,2,0,255] [] [], 0, ⟨by decide +kernel, rfl, rfl, by decide +kernel, by decide +kernel⟩, by decide +kernel⟩

theorem witness_SessionsStartStopAndAreSigned_17 : ∃ (s : State) (o : Nat),
    s.dev.fld MTR_ROLE 0 1 0 = 2 ∧ s.dev.fld BIL_SESSTAT o 1 0 = 2 :=
  ⟨withR base [(MTR_ROLE, 0, 2), (BIL_SESSTAT, 15, 0x102)], 15, by decide +kernel⟩

theorem witness_SessionsStartStopAndAreSigned_18 : ∃ (s : State) (i : Initiator) (o : Nat) (tag : List Byte),
    s.dev.fld MTR_ROLE 0 1 0 ≠ 2 ∨ i ≠ .mirror ∨ s.dev.variant.outlets ≤ o ∨ (s.dev.startCheck o).1 ≠ 0 :=
  ⟨withR base [(MTR_ROLE, 0, 2), (BIL_SESSTAT, 15, 0x102)], .mirror, 15, [], by decide +kernel⟩

theorem witness_SessionsStartStopAndAreSigned_19 : ∃ (s : State) (i : Initiator) (o : Nat),
    s.dev.fld MTR_ROLE 0 1 0 ≠ 2 ∨ i ≠ .mirror ∨ s.dev.fld BIL_SESSTAT o 1 0 ≠ 2 :=
  ⟨withR base [(MTR_ROLE, 0, 2)], .mirror, 15, by decide +kernel⟩

theorem witness_SessionsStartStopAndAreSigned_20 : ∃ (s : State) (k t0 : Nat),
    s.dev.up .metrology = false ∨ ((kvGet s.dev.bil.sess k none).map (fun x => decide (x.state ≠ 2 ∧ x.state ≠ 6) || decide (x.state = 2 ∧ x.signAsked = false) || decide (x.state = 2 ∧ kvGet s.dev.key.done (k + 1) [] = []) || decide (x.state = 6 ∧ x.cosigFrom = none) || decide (x.state = 6 ∧ (s.dev.fld ATT_COSIG 0 7 0 = 0 ∨ s.dev.up .compute = false ∨ s.dev.up .key = false)))).getD true = true :=
  ⟨onD base (fun d => { d with bil := { d.bil with sess := [(31, some { outlet := 0, num := 5, tag := [], state := 2, signAsked := true })] } }), 31, 5, by decide +kernel⟩

theorem witness_SessionsStartStopAndAreSigned_21 : ∃ (s : State) (k t0 : Nat),
    (((kvGet s.dev.bil.sess k none).bind (fun x => x.cosigFrom)).map (fun a => decide (t0 < a + 10000000000))).getD true = true :=
  ⟨onD base (fun d => { d with bil := { d.bil with sess := [(0, some { outlet := 0, num := 5, tag := [], state := 6, cosigFrom := some 0 })] } }), 0, 9999999999, by decide +kernel⟩

theorem witness_AcknowledgementFreesASignedSlot_1 : ∃ (s : State) (i : Initiator) (q : BilReq) (o k : Nat) (x : Sess),
    s.dev.bilReq i = some q ∧ q.op = 3 ∧ q.obj = some (.session o) ∧ (s.dev.bilAuth i q).1 = none ∧ mayRun .ack q.role = true ∧ kvGet s.dev.bil.sess k none = some x ∧ x.outlet = o ∧ x.state.testBit 2 = true ∧ k < 32 :=
  ⟨bilS (bq 3 2 [1,1,128,2,0,255] [] []) (onD (withR base [(BIL_SLOTUSE, 0, 1)]) (fun d => { d with bil := { d.bil with sess := [(0, some { outlet := 0, num := 5, tag := [], state := 6 })] } })), .core0, bq 3 2 [1,1,128,2,0,255] [] [], 0, 0, { outlet := 0, num := 5, tag := [], state := 6 }, by decide +kernel, by decide +kernel, by decide +kernel⟩

theorem witness_AcknowledgementFreesASignedSlot_2 : ∃ (s : State) (i : Initiator) (q : BilReq) (o k : Nat),
    s.dev.bilReq i = some q ∧ q.op = 3 ∧ q.obj = some (.session o) ∧ (s.dev.bilAuth i q).1 = none ∧ mayRun .ack q.role = true ∧ ((kvGet s.dev.bil.sess k none).map (fun x => decide (x.outlet = o) && x.state.testBit 2)).getD false = false :=
  ⟨bilS (bq 3 2 [1,1,128,2,0,255] [] []) base, .core0, bq 3 2 [1,1,128,2,0,255] [] [], 0, 0, by decide +kernel, by decide +kernel, by decide +kernel⟩

theorem witness_AcknowledgementFreesASignedSlot_3 : ∃ (s : State) (i : Initiator) (q : BilReq) (o : Nat) (tag : List Byte),
    BilAction s i q (.session o) ∧ mayRun .start q.role = true ∧ s.dev.mtrEn (o + 1) = true ∧ s.dev.fld BIL_SESSTAT o 1 0 = 0 ∧ ((∀ k : Nat, k < 32 → (kvGet s.dev.bil.sess k none).isSome = true)) :=
  ⟨bilS (bq 3 2 [1,1,128,2,0,255] [] []) (onD base (fun d => { d with bil := { d.bil with sess := (List.range 32).map (fun k => (k, some { outlet := 1, num := k, tag := [] })) } })), .core0, bq 3 2 [1,1,128,2,0,255] [] [], 0, [], ⟨by decide +kernel, rfl, rfl, by decide +kernel, by decide +kernel⟩, by decide +kernel, by decide +kernel⟩

theorem witness_AcknowledgementFreesASignedSlot_4 : ∃ (s : State) (i : Initiator) (q : BilReq) (o k : Nat),
    s.dev.bilReq i = some q ∧ q.op = 3 ∧ q.obj = some (.session o) ∧ (s.dev.bilAuth i q).1 = none ∧ mayRun .ack q.role = false :=
  ⟨bilS (bq 3 1 [1,1,128,2,0,255] [] []) (base), .core0, bq 3 1 [1,1,128,2,0,255] [] [], 0, 3, by decide +kernel⟩

theorem witness_AcknowledgementFreesASignedSlot_5 : ∃ (s : State) (i : Initiator) (q : BilReq) (o k : Nat) (r : Nat),
    s.dev.bilReq i = some q ∧ q.op = 3 ∧ q.obj = some (.session o) ∧ (s.dev.bilAuth i q).1 = some r :=
  ⟨bilS (bq 3 7 [1,1,128,2,0,255] [] []) (base), .core0, bq 3 7 [1,1,128,2,0,255] [] [], 0, 3, 2, by decide +kernel⟩

theorem witness_AcknowledgementFreesASignedSlot_6 : ∃ (s : State) (i : Initiator) (o k : Nat),
    (∀ q ∈ s.dev.bilReq i, q.op = 3 → q.obj ≠ some (.session o)) :=
  ⟨bilS (bq 3 1 [0,0,96,1,0,255] [] []) (base), .core0, 0, 3, by decide +kernel⟩

theorem witness_TheSealFollowsTheJumperAndItsMethods_1 : ∃ (s : State) (i : Initiator) (q : BilReq),
    BilAction s i q .sealObj ∧ mayRun .lock q.role = true ∧ s.dev.sealState = 0 ∧ s.dev.bit BIL_SEALSTAT 0 5 = true :=
  ⟨authS (bq 3 5 [0,0,128,3,0,255] [] zeroSig) (withR base [(BIL_SEALSTAT, 0, 0x20)]), .core0, bq 3 5 [0,0,128,3,0,255] [] zeroSig, ⟨by decide +kernel, rfl, rfl, by decide +kernel, authS_ok _ _ (by decide +kernel) (by decide +kernel) (by decide +kernel) rfl⟩, by decide +kernel⟩

theorem witness_TheSealFollowsTheJumperAndItsMethods_2 : ∃ (s : State) (i : Initiator) (q : BilReq),
    BilAction s i q .sealObj ∧ mayRun .lock q.role = true ∧ (s.dev.sealState ≠ 0 ∨ s.dev.bit BIL_SEALSTAT 0 5 = false) :=
  ⟨authS (bq 3 5 [0,0,128,3,0,255] [] zeroSig) base, .core0, bq 3 5 [0,0,128,3,0,255] [] zeroSig, ⟨by decide +kernel, rfl, rfl, by decide +kernel, authS_ok _ _ (by decide +kernel) (by decide +kernel) (by decide +kernel) rfl⟩, by decide +kernel, by decide +kernel⟩

theorem witness_TheSealFollowsTheJumperAndItsMethods_3 : ∃ (s : State) (i : Initiator) (q : BilReq),
    BilAction s i q .sealObj ∧ mayRun .reseal q.role = true ∧ s.dev.sealState = 2 :=
  ⟨authS (bq 3 5 [0,0,128,3,0,255] [] zeroSig) (withR base [(BIL_SEALSTAT, 0, 2)]), .core0, bq 3 5 [0,0,128,3,0,255] [] zeroSig, ⟨by decide +kernel, rfl, rfl, by decide +kernel, authS_ok _ _ (by decide +kernel) (by decide +kernel) (by decide +kernel) rfl⟩, by decide +kernel⟩

theorem witness_TheSealFollowsTheJumperAndItsMethods_4 : ∃ (s : State) (n : Nat),
    s.dev.up .metrology = true ∧ 3 ≤ n :=
  ⟨withR base [(BIL_SEALSTAT, 0, 0x31), (BIL_SEALBRK, 0, 0xFFFFFFFF)], 3, by decide +kernel⟩

theorem witness_TheSealFollowsTheJumperAndItsMethods_5 : ∃ (s : State) (n : Nat),
    s.dev.up .metrology = true ∧ s.dev.bankOff 7 = false ∧ 1000 ≤ n :=
  ⟨withR base [(BIL_SEALSTAT, 0, 0x52)], 1000, by decide +kernel⟩

theorem witness_TheSealFollowsTheJumperAndItsMethods_6 : ∃ (s : State) (i : Initiator) (q : BilReq),
    BilAction s i q .sealObj ∧ mayRun .lock q.role = false :=
  ⟨bilS (bq 3 1 [0,0,128,3,0,255] [] []) (base), .core0, bq 3 1 [0,0,128,3,0,255] [] [], ⟨by decide +kernel, rfl, rfl, by decide +kernel, by decide +kernel⟩, by decide +kernel⟩

theorem witness_TheSealFollowsTheJumperAndItsMethods_7 : ∃ (s : State) (i : Initiator) (q : BilReq),
    s.dev.bilReq i = some q ∧ q.op = 3 ∧ q.obj = some .sealObj ∧ s.dev.fld MTR_ROLE 0 1 0 = 2 :=
  ⟨bilS (bq 3 2 [0,0,128,3,0,255] [] []) (withR base [(MTR_ROLE, 0, 2)]), .core0, bq 3 2 [0,0,128,3,0,255] [] [], by decide +kernel⟩

theorem witness_TheSealFollowsTheJumperAndItsMethods_8 : ∃ (s : State) (i : Initiator) (q : BilReq) (r : Nat),
    s.dev.bilReq i = some q ∧ q.op = 3 ∧ q.obj = some .sealObj ∧ s.dev.fld MTR_ROLE 0 1 0 ≠ 2 ∧ (s.dev.bilAuth i q).1 = some r :=
  ⟨bilS (bq 3 7 [0,0,128,3,0,255] [] []) (base), .core0, bq 3 7 [0,0,128,3,0,255] [] [], 2, by decide +kernel⟩

theorem witness_TheSealFollowsTheJumperAndItsMethods_9 : ∃ (s : State) (i : Initiator),
    (∀ q ∈ s.dev.bilReq i, q.op = 3 → q.obj ≠ some .sealObj) :=
  ⟨bilS (bq 3 1 [0,0,96,1,0,255] [] []) (base), .core0, by decide +kernel⟩

theorem witness_TheSealFollowsTheJumperAndItsMethods_10 : ∃ (s : State) (i : Initiator) (q : BilReq),
    BilAction s i q .sealObj ∧ mayRun .reseal q.role = false :=
  ⟨bilS (bq 3 1 [0,0,128,3,0,255] [] []) (base), .core0, bq 3 1 [0,0,128,3,0,255] [] [], ⟨by decide +kernel, rfl, rfl, by decide +kernel, by decide +kernel⟩, by decide +kernel⟩

theorem witness_TheSealFollowsTheJumperAndItsMethods_11 : ∃ (s : State) (i : Initiator) (q : BilReq),
    s.dev.bilReq i = some q ∧ q.op = 3 ∧ q.obj = some .sealObj ∧ s.dev.fld MTR_ROLE 0 1 0 = 2 :=
  ⟨bilS (bq 3 2 [0,0,128,3,0,255] [] []) (withR base [(MTR_ROLE, 0, 2)]), .core0, bq 3 2 [0,0,128,3,0,255] [] [], by decide +kernel⟩

theorem witness_TheSealFollowsTheJumperAndItsMethods_12 : ∃ (s : State) (i : Initiator) (q : BilReq) (r : Nat),
    s.dev.bilReq i = some q ∧ q.op = 3 ∧ q.obj = some .sealObj ∧ s.dev.fld MTR_ROLE 0 1 0 ≠ 2 ∧ (s.dev.bilAuth i q).1 = some r :=
  ⟨bilS (bq 3 7 [0,0,128,3,0,255] [] []) (base), .core0, bq 3 7 [0,0,128,3,0,255] [] [], 2, by decide +kernel⟩

theorem witness_TheSealFollowsTheJumperAndItsMethods_13 : ∃ (s : State) (i : Initiator),
    (∀ q ∈ s.dev.bilReq i, q.op = 3 → q.obj ≠ some .sealObj) :=
  ⟨bilS (bq 3 1 [0,0,96,1,0,255] [] []) (base), .core0, by decide +kernel⟩

theorem witness_TheSealFollowsTheJumperAndItsMethods_14 : ∃ (s : State) (i : Initiator) (q : BilReq),
    BilAction s i q .sealObj ∧ mayRun .reseal q.role = true ∧ s.dev.sealState ≠ 2 :=
  ⟨authS (bq 3 5 [0,0,128,3,0,255] [] zeroSig) (base), .core0, bq 3 5 [0,0,128,3,0,255] [] zeroSig, ⟨by decide +kernel, rfl, rfl, by decide +kernel, authS_ok _ _ (by decide +kernel) (by decide +kernel) (by decide +kernel) rfl⟩, by decide +kernel⟩

theorem witness_TheSealFollowsTheJumperAndItsMethods_15 : ∃ (s : State) (n : Nat),
    s.dev.up .metrology = false ∨ n < 3 :=
  ⟨withR base [(BIL_SEALSTAT, 0, 0x31)], 2, by decide +kernel⟩

theorem witness_TheSealFollowsTheJumperAndItsMethods_16 : ∃ (s : State) (n : Nat),
    s.dev.up .metrology = false ∨ s.dev.bankOff 7 = true ∨ n < 1000 :=
  ⟨onD (withR base [(BIL_SEALSTAT, 0, 0x52)]) (fun d => { d with pwr := { d.pwr with vioLow := 0x80 } }), 1000, by decide +kernel⟩

theorem witness_DemandPrevailsWithinASample_1 : ∃ (s : State) (t0 f m p : Nat),
    s.dev.up .safety = true ∧ t0 % 1000000 = 0 ∧ s.dev.saf.confirmed = none ∧ NothingWaits s ∧ p < s.dev.variant.inPairs ∧ s.dev.pairUsed p = true ∧ s.dev.pairState p = 4 ∧ s.dev.fld SIN_PSTAT p 26 16 = 0 ∧ ((s.dev.contactVals p).1 = false ∨ (s.dev.contactVals p).2 = false) :=
  ⟨withR base [(SIN_PCFG, 15, 0x80001000), (SIN_PSTAT, 15, 0x34), (SIN_FILT, 0, 0x8000)], 1000000, 0, 0, 15, by decide +kernel⟩

theorem witness_DemandPrevailsWithinASample_2 : ∃ (s : State) (t0 f m p : Nat),
    s.dev.up .safety = true ∧ t0 % 1000000 = 0 ∧ s.dev.saf.confirmed = none ∧ NothingWaits s ∧ p < s.dev.variant.inPairs ∧ s.dev.pairUsed p = true ∧ s.dev.saf.prst = 2 ^ p ∧ ((s.dev.bit SIN_PSTAT p 4 = true ∧ (s.dev.contactVals p).1 = false) ∨ (s.dev.bit SIN_PSTAT p 5 = true ∧ (s.dev.contactVals p).2 = false)) :=
  ⟨onD (withR base [(SIN_PCFG, 0, 0x82001000), (SIN_PSTAT, 0, 0x35), (SIN_FILT, 0, 0x1)]) (fun d => { d with saf := { d.saf with prst := 1 } }), 1000000, 0, 0, 0, by decide +kernel⟩

theorem witness_InputsArePulsedSampledAndReset_1 : ∃ (s : State) (t0 j : Nat),
    j < 4 ∧ s.dev.up .safety = true ∧ s.dev.pwr.ifaceReset = false ∧ ((∀ k : Nat, k < 4 → k ≠ j → (s.dev.at t0).pulseOn k t0 = false)) :=
  ⟨base, 5, 3, by decide +kernel, by decide +kernel⟩

theorem witness_InputsArePulsedSampledAndReset_2 : ∃ (s : State) (t0 j : Nat),
    j < 4 ∧ s.dev.up .safety = true ∧ s.dev.pwr.ifaceReset = false ∧ ((∀ k : Nat, k < 4 → k ≠ j → (s.dev.at t0).pulseOn k t0 = false)) :=
  ⟨withR base [(SIN_PCFG, 15, 0x80001000), (SIN_PSTAT, 15, 4), (SIN_PCFG, 0, 0x80002000), (SIN_PSTAT, 0, 4)], 5, 1, by decide +kernel, by decide +kernel⟩

theorem witness_InputsArePulsedSampledAndReset_3 : ∃ (s : State) (t0 c p : Nat),
    s.dev.pwr.ifaceReset = false ∧ s.dev.saf.tpAt = [] ∧ p < s.dev.variant.inPairs ∧ (s.dev.pairIn p).a.raw = c.testBit p ∧ (s.dev.pairIn p).b.raw = c.testBit (16 + p) ∧ clampN (s.dev.fld SIN_PCFG p 20 16) 1 20 * 20 ≤ min ((s.dev.pairIn p).a.run + 1) 400 ∧ clampN (s.dev.fld SIN_PCFG p 20 16) 1 20 * 20 ≤ min ((s.dev.pairIn p).b.run + 1) 400 :=
  ⟨onD base (fun d => d.setPairIn 15 { a := { raw := true, run := 399 }, b := { raw := false, run := 399 } }), 5, 0x8000, 15, by decide +kernel, by decide +kernel, by decide +kernel⟩

theorem witness_InputsArePulsedSampledAndReset_4 : ∃ (s : State) (t0 c p : Nat),
    s.dev.pwr.ifaceReset = false ∧ s.dev.saf.tpAt = [] ∧ p < s.dev.variant.inPairs ∧ (s.dev.pairIn p).a.raw ≠ c.testBit p ∧ (s.dev.pairIn p).b.raw ≠ c.testBit (16 + p) :=
  ⟨withR base [(SIN_FILT, 0, 1)], 5, 0x10001, 0, by decide +kernel, by decide +kernel⟩

theorem witness_InputsArePulsedSampledAndReset_5 : ∃ (s : State) (i : Initiator) (v : Word) (p : Nat),
    Passes s i SIN_PRST p :=
  ⟨base, .safety, 1, 0, by decide +kernel⟩

theorem witness_InputsArePulsedSampledAndReset_6 : ∃ (s : State) (t0 f m p : Nat),
    s.dev.up .safety = true ∧ t0 % 1000000 = 0 ∧ s.dev.saf.confirmed = none ∧ NothingWaits s ∧ p < s.dev.variant.inPairs ∧ s.dev.pairUsed p = true ∧ s.dev.pairState p = 3 ∧ s.dev.bit SIN_PCFG p 25 = true ∧ s.dev.contactVals p = (true, true) :=
  ⟨onD (withR base [(SIN_PCFG, 0, 0x82001000), (SIN_PSTAT, 0, 3), (SIN_FILT, 0, 0x10001)]) (fun d => { d with saf := { d.saf with prst := 1 } }), 1000000, 0, 0, 0, by decide +kernel⟩

theorem witness_InputsArePulsedSampledAndReset_7 : ∃ (s : State) (t0 f m p : Nat),
    s.dev.up .safety = true ∧ t0 % 1000000 = 0 ∧ s.dev.saf.confirmed = none ∧ NothingWaits s ∧ p < s.dev.variant.inPairs ∧ s.dev.pairUsed p = true ∧ s.dev.pairState p = 5 ∧ s.dev.contactVals p = (false, false) ∧ s.dev.bit SIN_PSTAT p 4 = false ∧ s.dev.bit SIN_PSTAT p 5 = false :=
  ⟨onD (withR base [(SIN_PCFG, 0, 0x80001000), (SIN_PSTAT, 0, 0x105)]) (fun d => { d with saf := { d.saf with prst := 1 } }), 1000000, 0, 0, 0, by decide +kernel⟩

theorem witness_InputsArePulsedSampledAndReset_8 : ∃ (s : State) (t0 j : Nat) (b : Bool),
    4 ≤ j ∨ s.dev.up .safety = false ∨ s.dev.pwr.ifaceReset = true ∨ (List.range 4).any (fun k => decide (k ≠ j) && s.dev.pulseOn k t0) = true :=
  ⟨onD base (fun d => { d with saf := { d.saf with tpAt := [(2, 5)] } }), 5, 3, true, by decide +kernel⟩

theorem witness_InputsArePulsedSampledAndReset_9 : ∃ (s : State) (t0 c p : Nat),
    s.dev.pwr.ifaceReset = true ∧ s.dev.saf.tpAt = [] ∧ p < s.dev.variant.inPairs ∧ (s.dev.pairIn p).a.raw = false ∧ (s.dev.pairIn p).b.raw = false ∧ clampN (s.dev.fld SIN_PCFG p 20 16) 1 20 * 20 ≤ min ((s.dev.pairIn p).a.run + 1) 400 ∧ clampN (s.dev.fld SIN_PCFG p 20 16) 1 20 * 20 ≤ min ((s.dev.pairIn p).b.run + 1) 400 :=
  ⟨onD (withR base [(SIN_FILT, 0, 0x80008000)]) (fun d => { d.setPairIn 15 { a := { run := 399 }, b := { run := 399 } } with pwr := { d.pwr with ifaceReset := true } }), 5, 0x80008000, 15, by decide +kernel⟩

theorem witness_InputsArePulsedSampledAndReset_10 : ∃ (s : State) (t0 c p : Nat),
    s.dev.pwr.ifaceReset = false ∧ s.dev.saf.tpAt = [] ∧ p < s.dev.variant.inPairs ∧ (s.dev.pairIn p).a.run = 0 ∧ (s.dev.pairIn p).b.run = 0 :=
  ⟨base, 5, 0x80008000, 15, by decide +kernel⟩

theorem witness_AnOutputPairIsOnOnlyWhileItMay_1 : ∃ (s : State) (t0 f m : Nat),
    s.dev.up .safety = true ∧ t0 % 1000000 = 0 ∧ s.dev.saf.confirmed = none ∧ NothingWaits s :=
  ⟨withR base [(SOUT_PCFG, 0, 0x80000000), (SOUT_PCTL, 0, 1), (SAF_OCAUSES, 3, 0x30), (SAF_ICLAIM, 3, 5)], 1000000, 0, 0, by decide +kernel⟩

theorem witness_AnOutputPairIsOnOnlyWhileItMay_2 : ∃ (s : State) (t0 f m : Nat) (b : List Byte),
    s.dev.up .safety = true ∧ t0 % 1000000 = 0 ∧ s.dev.saf.confirmed = some b ∧ NothingWaits s :=
  ⟨onD (withR base [(SAF_STAT, 0, 5), (SOUT_ONSUM, 0, 0xFF)]) (fun d => { d with saf := { d.saf with confirmed := some imgBytes } }), 1000000, 0, 0, imgBytes, by decide +kernel⟩

theorem witness_AnOutputPairIsOnOnlyWhileItMay_3 : ∃ (s : State) (t0 f m : Nat),
    (s.dev.up .safety = false ∨ t0 % 1000000 ≠ 0) ∧ NothingWaits s :=
  ⟨base, 999999, 0, 0, by decide +kernel⟩

theorem witness_OutputPairsOpenAndFault_1 : ∃ (s : State) (t0 o w : Nat),
    (s.dev.at t0).ramping o 1 = true ∧ 1000000 ≤ w :=
  ⟨onD (withR base [(SAF_OCAUSES, 15, 2), (SOUT_PCFG, 7, 0x80008000), (SOUT_ONSUM, 0, 0x80)]) (fun d => { d with saf := { d.saf with opened := 0 } }), 5, 15, 1000000, by decide +kernel⟩

theorem witness_OutputPairsOpenAndFault_2 : ∃ (s : State) (t0 o w : Nat),
    (s.dev.at t0).ramping o 1 = true ∧ w < 1000000 ∧ kvGet s.dev.saf.since (o * 16 + 1) 0 + clampN (s.dev.fld SAF_SOTH o 31 16) 1 1000 * 1000000 ≤ t0 :=
  ⟨onD (withR base [(SAF_OCAUSES, 0, 2), (SOUT_PCFG, 0, 0x80000001), (SOUT_ONSUM, 0, 1)]) (fun d => { d with saf := { d.saf with opened := 0 } }), 1000000000, 0, 999999, by decide +kernel, by decide +kernel⟩

theorem witness_OutputPairsOpenAndFault_3 : ∃ (s : State) (t0 o : Nat),
    (s.dev.at t0).ramping o 7 = true ∧ s.dev.bit SAF_OSTAT o 17 = false ∧ kvGet s.dev.saf.since (o * 16 + 7) 0 + 995000000 ≤ t0 :=
  ⟨onD (withR base [(SAF_OCAUSES, 0, 0x80), (SOUT_PCFG, 0, 0x80000001), (SOUT_ONSUM, 0, 1)]) (fun d => { d with saf := { d.saf with opened := 0 } }), 995000000, 0, by decide +kernel⟩

theorem witness_OutputPairsOpenAndFault_4 : ∃ (s : State) (t0 o k x : Nat),
    o < s.dev.variant.outlets ∧ s.dev.up .safety = true ∧ NothingWaits s ∧ s.dev.latched o 7 = false ∧ k ∈ s.dev.tpInputs o ∧ 2 ≤ kvGet s.dev.saf.hot (o * 32 + k) 0 ∧ kvGet s.dev.saf.hot (o * 32 + k) 0 ≤ 3 ∧ s.dev.fld SAF_TPLIM o 15 0 * 10 < x :=
  ⟨onD (withR base [(SAF_TPMASK, 15, 0x80000000)]) (fun d => { d with saf := { d.saf with hot := [(15 * 32 + 31, 2)] } }), 5, 15, 31, 655351, by decide +kernel, by decide +kernel⟩

theorem witness_OutputPairsOpenAndFault_5 : ∃ (s : State) (t0 o k x : Nat),
    s.dev.tpInputs o = [k] ∧ (s.dev.at t0).ramping o 7 = true ∧ NothingWaits s ∧ kvGet s.dev.saf.cool (o * 32 + k) 0 = 2 ∧ x < s.dev.fld SAF_TPLIM o 15 0 * 10 - s.dev.fld SAF_TPLIM o 23 16 * 10 ∧ t0 ≤ kvGet s.dev.saf.since (o * 16 + 7) 0 + 995000000 :=
  ⟨onD (withR base [(SAF_TPMASK, 0, 1), (SAF_OCAUSES, 0, 0x80)]) (fun d => { d with saf := { d.saf with opened := 0, cool := [(0, 2)] } }), 995000000, 0, 0, 0, by decide +kernel, by decide +kernel, by decide +kernel⟩

theorem witness_OutputPairsOpenAndFault_6 : ∃ (s : State) (t0 p code : Nat) (hs ls po : Bool) (g : Option Nat),
    p < s.dev.variant.outPairs ∧ s.dev.up .safety = true ∧ s.dev.pwr.ifaceReset = false ∧ s.dev.bit SOUT_PCFG p 31 = true ∧ s.dev.outFault p = 0 ∧ (s.dev.pairOut p).dark = none ∧ (g.map (fun x => min (x + 200000) ((s.dev.pairOut p).changedAt + 1000000))).getD ((s.dev.pairOut p).changedAt + 1000000) + 100000 ≤ t0 ∧ readbackCode (s.dev.pairOn p || (s.dev.bit SOUT_PCFG p 24 && po)) hs ls = code ∧ code ≠ 0 :=
  ⟨withR base [(SOUT_PCFG, 7, 0x80008001)], 1100000, 7, 1, true, true, false, none, by decide +kernel, by decide +kernel, by decide +kernel, by decide +kernel⟩

theorem witness_OutputPairsOpenAndFault_7 : ∃ (s : State) (t0 p : Nat) (hs ls po : Bool) (g : Option Nat),
    p < s.dev.variant.outPairs ∧ s.dev.up .safety = true ∧ s.dev.pwr.ifaceReset = false ∧ readbackCode (s.dev.pairOn p || (s.dev.bit SOUT_PCFG p 24 && po)) hs ls = 0 :=
  ⟨base, 5, 0, false, false, false, none, by decide +kernel, by decide +kernel⟩

theorem witness_OutputPairsOpenAndFault_8 : ∃ (s : State) (t0 p h l : Nat) (ph : Bool),
    p < s.dev.variant.outPairs ∧ s.dev.up .safety = true ∧ s.dev.bit SOUT_PCFG p 25 = true ∧ s.dev.bit SOUT_PCFG p 24 = false ∧ s.dev.pairOn p = true ∧ (s.dev.pairOut p).dark = none ∧ (s.dev.pairOut p).darkAt + s.dev.dtper ≤ t0 ∧ h ≤ s.dev.dtw ∧ l ≤ s.dev.dtw :=
  ⟨withR base [(SOUT_PCFG, 7, 0x82000000), (SOUT_ONSUM, 0, 0x80), (SOUT_PSTAT, 7, 0xFFFE0001)], 3600000000000, 7, 50, 50, false, by decide +kernel, by decide +kernel⟩

theorem witness_OutputPairsOpenAndFault_9 : ∃ (s : State) (t0 p : Nat) (h l : Option Nat) (ph : Bool),
    p < s.dev.variant.outPairs ∧ s.dev.up .safety = true ∧ s.dev.bit SOUT_PCFG p 25 = true ∧ s.dev.bit SOUT_PCFG p 24 = true ∧ s.dev.ausalUp = false ∧ s.dev.pairOn p = true ∧ (s.dev.pairOut p).dark = none ∧ (s.dev.pairOut p).darkAt + s.dev.dtper ≤ t0 :=
  ⟨withR base [(SOUT_PCFG, 7, 0x83000000), (SOUT_ONSUM, 0, 0x80)], 3600000000000, 7, none, none, false, by decide +kernel, by decide +kernel⟩

theorem witness_OutputPairsOpenAndFault_10 : ∃ (s : State) (t0 p a : Nat) (ls : Bool),
    p < s.dev.variant.outPairs ∧ (s.dev.pairOut p).dark = some (a, ls) ∧ a + s.dev.dtw * 1000 ≤ t0 :=
  ⟨onD (withR base [(SOUT_ONSUM, 0, 1)]) (fun d => d.setPairOut 0 { dark := some (0, true) }), 300000, 0, 0, true, by decide +kernel⟩

theorem witness_OutputPairsOpenAndFault_11 : ∃ (s : State) (t0 p : Nat),
    p < s.dev.variant.outPairs ∧ s.dev.up .safety = true ∧ s.dev.fld SOUT_PCFG p 25 24 = 3 ∧ s.dev.bit SOUT_PCFG p 31 = true ∧ s.dev.outFault p = 0 ∧ (s.dev.pairOut p).darkDone + 86400000000000 ≤ t0 :=
  ⟨withR base [(SOUT_PCFG, 7, 0x83000001), (SOUT_ONSUM, 0, 0x80)], 86400000000000, 7, by decide +kernel, by decide +kernel⟩

theorem witness_OutputPairsOpenAndFault_13 : ∃ (s : State) (i : Initiator) (v : Word) (p n : Nat),
    Passes s i SOUT_PCTL p ∧ bitOf v 8 = true ∧ s.dev.outFault p ≠ 0 ∧ s.dev.pairOn p = false ∧ 10000000 ≤ n :=
  ⟨withR base [(SOUT_PSTAT, 0, 0x803)], .safety, 0x101, 0, 10000000, by decide +kernel, by decide +kernel⟩

theorem witness_OutputPairsOpenAndFault_14 : ∃ (s : State) (t0 o w : Nat),
    s.dev.ramping o 1 = false ∨ w < 1000000 ∧ t0 < kvGet s.dev.saf.since (o * 16 + 1) 0 + clampN (s.dev.fld SAF_SOTH o 31 16) 1 1000 * 1000000 :=
  ⟨onD (withR base [(SAF_OCAUSES, 0, 2)]) (fun d => { d with saf := { d.saf with opened := 0 } }), 999999, 0, 999999, by decide +kernel⟩

theorem witness_OutputPairsOpenAndFault_15 : ∃ (s : State) (t0 o : Nat),
    s.dev.ramping o 7 = false ∨ s.dev.bit SAF_OSTAT o 17 = true ∨ t0 < kvGet s.dev.saf.since (o * 16 + 7) 0 + 995000000 :=
  ⟨onD (withR base [(SAF_OCAUSES, 0, 0x80)]) (fun d => { d with saf := { d.saf with opened := 0 } }), 994999999, 0, by decide +kernel⟩

theorem witness_OutputPairsOpenAndFault_16 : ∃ (s : State) (t0 o k : Nat) (x : Option Nat),
    o < s.dev.variant.outlets ∧ s.dev.up .safety = true ∧ NothingWaits s ∧ s.dev.latched o 7 = false ∧ k ∈ s.dev.tpInputs o :=
  ⟨withR base [(SAF_TPMASK, 15, 0x80000000)], 5, 15, 31, none, by decide +kernel⟩

theorem witness_OutputPairsOpenAndFault_17 : ∃ (s : State) (t0 o k : Nat),
    o < s.dev.variant.outlets ∧ s.dev.up .safety = true ∧ NothingWaits s ∧ s.dev.latched o 7 = false ∧ k ∈ s.dev.tpInputs o ∧ 2 ≤ kvGet s.dev.saf.hot (o * 32 + k) 0 ∧ kvGet s.dev.saf.hot (o * 32 + k) 0 ≤ 3 :=
  ⟨onD (withR base [(SAF_TPMASK, 15, 0x80000000)]) (fun d => { d with saf := { d.saf with hot := [(15 * 32 + 31, 2)] } }), 5, 15, 31, by decide +kernel⟩

theorem witness_OutputPairsOpenAndFault_18 : ∃ (s : State) (t0 o k x : Nat),
    o < s.dev.variant.outlets ∧ s.dev.up .safety = true ∧ NothingWaits s ∧ s.dev.ramping o 7 = false ∧ s.dev.tpInputs o = [k] ∧ (x ≤ s.dev.fld SAF_TPLIM o 15 0 * 10 ∨ kvGet s.dev.saf.hot (o * 32 + k) 0 < 2) :=
  ⟨onD (withR base [(SAF_TPMASK, 15, 0x80000000)]) (fun d => { d with saf := { d.saf with hot := [(15 * 32 + 31, 1)] } }), 5, 15, 31, 655351, by decide +kernel⟩

theorem witness_OutputPairsOpenAndFault_19 : ∃ (s : State) (t0 o : Nat) (rs : List (Nat × Option Nat × Bool)),
    (s.dev.variant.outlets ≤ o ∨ s.dev.up .safety = false) ∧ NothingWaits s :=
  ⟨base, 5, 16, [], by decide +kernel⟩

theorem witness_OutputPairsOpenAndFault_20 : ∃ (s : State) (t0 p : Nat) (hs ls po : Bool) (g : Option Nat),
    p < s.dev.variant.outPairs ∧ s.dev.up .safety = true ∧ s.dev.pwr.ifaceReset = false ∧ (s.dev.bit SOUT_PCFG p 31 = false ∨ s.dev.outFault p ≠ 0 ∨ (s.dev.pairOut p).dark ≠ none ∨ t0 < (g.map (fun x => min (x + 200000) ((s.dev.pairOut p).changedAt + 1000000))).getD ((s.dev.pairOut p).changedAt + 1000000) + 100000) :=
  ⟨withR base [(SOUT_PCFG, 7, 0x80008001)], 1099999, 7, true, true, false, none, by decide +kernel⟩

theorem witness_OutputPairsOpenAndFault_21 : ∃ (s : State) (t0 p : Nat) (hs ls po : Bool) (g : Option Nat),
    s.dev.variant.outPairs ≤ p ∨ s.dev.up .safety = false ∨ s.dev.pwr.ifaceReset = true :=
  ⟨onD base (fun d => { d with pwr := { d.pwr with ifaceReset := true } }), 1100000, 7, true, true, false, none, by decide +kernel⟩

theorem witness_OutputPairsOpenAndFault_22 : ∃ (s : State) (t0 p h l : Nat) (ph : Bool),
    p < s.dev.variant.outPairs ∧ s.dev.up .safety = true ∧ s.dev.bit SOUT_PCFG p 25 = true ∧ (s.dev.bit SOUT_PCFG p 24 = true → s.dev.ausalUp = true ∧ ph = true) ∧ s.dev.pairOn p = true ∧ (s.dev.pairOut p).dark = none ∧ (s.dev.pairOut p).darkAt + s.dev.dtper ≤ t0 ∧ h ≤ s.dev.dtw ∧ l ≤ s.dev.dtw :=
  ⟨withR base [(SOUT_PCFG, 7, 0x83000000), (SOUT_ONSUM, 0, 0x80), (SOUT_PSTAT, 7, 0xFFFE1001), (AUS_STAT, 0, 0x100)], 3600000000000, 7, 50, 50, true, by decide +kernel⟩

theorem witness_OutputPairsOpenAndFault_23 : ∃ (s : State) (t0 p : Nat) (h l : Option Nat) (ph : Bool),
    p < s.dev.variant.outPairs ∧ s.dev.up .safety = true ∧ s.dev.bit SOUT_PCFG p 25 = true ∧ (s.dev.bit SOUT_PCFG p 24 = true → s.dev.ausalUp = true ∧ ph = true) ∧ s.dev.pairOn p = true ∧ (s.dev.pairOut p).dark = none ∧ (s.dev.pairOut p).darkAt + s.dev.dtper ≤ t0 ∧ (∀ n ∈ h, s.dev.dtw < n) :=
  ⟨withR base [(SOUT_PCFG, 7, 0x82000000), (SOUT_ONSUM, 0, 0x80)], 3600000000000, 7, some 301, none, false, by decide +kernel⟩

theorem witness_OutputPairsOpenAndFault_24 : ∃ (s : State) (t0 p h : Nat) (l : Option Nat) (ph : Bool),
    p < s.dev.variant.outPairs ∧ s.dev.up .safety = true ∧ s.dev.bit SOUT_PCFG p 25 = true ∧ (s.dev.bit SOUT_PCFG p 24 = true → s.dev.ausalUp = true ∧ ph = true) ∧ s.dev.pairOn p = true ∧ (s.dev.pairOut p).dark = none ∧ (s.dev.pairOut p).darkAt + s.dev.dtper ≤ t0 ∧ h ≤ s.dev.dtw ∧ (∀ n ∈ l, s.dev.dtw < n) :=
  ⟨withR base [(SOUT_PCFG, 7, 0x82000000), (SOUT_ONSUM, 0, 0x80)], 3600000000000, 7, 50, none, false, by decide +kernel⟩

theorem witness_OutputPairsOpenAndFault_25 : ∃ (s : State) (t0 p : Nat) (h l : Option Nat) (ph : Bool),
    s.dev.variant.outPairs ≤ p ∨ s.dev.up .safety = false ∨ s.dev.bit SOUT_PCFG p 25 = false ∨ s.dev.pairOn p = false ∨ (s.dev.pairOut p).dark ≠ none ∨ t0 < (s.dev.pairOut p).darkAt + s.dev.dtper ∨ s.dev.bit SOUT_PCFG p 24 = true ∧ s.dev.ausalUp = true ∧ ph = false :=
  ⟨withR base [(SOUT_PCFG, 7, 0x83000000), (SOUT_ONSUM, 0, 0x80), (AUS_STAT, 0, 0x200)], 3600000000000, 7, some 50, some 50, false, by decide +kernel⟩

theorem witness_OutputPairsOpenAndFault_26 : ∃ (s : State) (t0 p : Nat),
    ((s.dev.pairOut p).dark.map (fun x => decide (t0 < x.1 + s.dev.dtw * 1000))).getD true = true :=
  ⟨onD (withR base [(SOUT_ONSUM, 0, 1)]) (fun d => d.setPairOut 0 { dark := some (0, true) }), 49999, 0, by decide +kernel⟩

theorem witness_OutputPairsOpenAndFault_27 : ∃ (s : State) (t0 p : Nat),
    s.dev.variant.outPairs ≤ p ∨ s.dev.up .safety = false ∨ s.dev.fld SOUT_PCFG p 25 24 ≠ 3 ∨ s.dev.bit SOUT_PCFG p 31 = false ∨ s.dev.outFault p ≠ 0 ∨ t0 < (s.dev.pairOut p).darkDone + 86400000000000 :=
  ⟨withR base [(SOUT_PCFG, 7, 0x83000001), (SOUT_ONSUM, 0, 0x80)], 86399999999999, 7, by decide +kernel⟩

theorem witness_OutputPairsOpenAndFault_28 : ∃ (s : State) (i : Initiator) (v : Word) (p n : Nat),
    Passes s i SOUT_PCTL p ∧ (bitOf v 8 = false ∨ s.dev.outFault p = 0 ∨ s.dev.pairOn p = true ∨ n < 10000000) :=
  ⟨withR base [(SOUT_PSTAT, 0, 0x803)], .safety, 0x101, 0, 9999999, by decide +kernel⟩

theorem witness_TripsOfTheSiteAndItsLine_1 : ∃ (s : State) (t0 n : Nat) (hi : Bool),
    s.dev.up .safety = true ∧ s.dev.bankOff 7 = false ∧ 50000 ≤ n ∧ s.dev.bit SAF_SITECFG 0 17 = true ∧ s.dev.latched 16 0xB = false ∧ NothingWaits s :=
  ⟨withR base [(SAF_SITECFG, 0, 0x4020000)], 5, 50000, false, by decide +kernel⟩

theorem witness_TripsOfTheSiteAndItsLine_2 : ∃ (s : State) (t0 n : Nat),
    n < 20000 ∧ s.dev.bankOff 7 = false ∧ NothingWaits s :=
  ⟨base, 5, 19999, by decide +kernel⟩

theorem witness_TripsOfTheSiteAndItsLine_3 : ∃ (s : State) (t0 : Nat),
    s.dev.up .safety = true ∧ s.dev.bit SAF_XSTAT 0 1 = false ∧ s.dev.saf.xPulseAt + 100000000 ≤ t0 :=
  ⟨base, 100000000, by decide +kernel⟩

theorem witness_TripsOfTheSiteAndItsLine_4 : ∃ (s : State) (t0 : Nat),
    s.dev.up .safety = true ∧ s.dev.bit SAF_SITECFG 0 17 = true ∧ s.dev.saf.xConf + 300000000 ≤ t0 :=
  ⟨withR base [(SAF_SITECFG, 0, 0x4020000)], 300000000, by decide +kernel⟩

theorem witness_TripsOfTheSiteAndItsLine_5 : ∃ (s : State) (i : Initiator) (v : Word) (n : Nat),
    Passes s i SAF_RST n :=
  ⟨base, .safety, 0xFFFFFFFF, 0, by decide +kernel⟩

theorem witness_TripsOfTheSiteAndItsLine_6 : ∃ (s : State) (t0 a b : Nat) (o : BootObs),
    s.dev.pwr.phase = .running ∧ s.dev.pwr.safetyResets = [a, b] ∧ t0 ≤ a + 600000000000 ∧ t0 ≤ b + 600000000000 :=
  ⟨onD base (fun d => { d with pwr := { d.pwr with safetyResets := [1, 2] } }), 5, 1, 2, {}, by decide +kernel⟩

theorem witness_TripsOfTheSiteAndItsLine_7 : ∃ (s : State) (t0 : Nat) (o : BootObs),
    s.dev.pwr.phase = .running ∧ s.dev.pwr.safetyResets = [] :=
  ⟨base, 5, {}, by decide +kernel⟩

theorem witness_TripsOfTheSiteAndItsLine_8 : ∃ (s : State) (t0 n : Nat) (hi : Bool),
    s.dev.bankOff 7 = false ∧ NothingWaits s ∧ (20000 ≤ n ∨ hi = false) ∧ (n < 50000 ∨ s.dev.bit SAF_SITECFG 0 17 = false ∨ s.dev.up .safety = false ∨ s.dev.latched 16 0xB = true) :=
  ⟨withR base [(SAF_SITECFG, 0, 0x4020000)], 5, 49999, false, by decide +kernel⟩

theorem witness_TripsOfTheSiteAndItsLine_9 : ∃ (s : State) (t0 n : Nat) (hi : Bool),
    s.dev.bankOff 7 = true :=
  ⟨onD (withR base [(SAF_SITECFG, 0, 0x4020000)]) (fun d => { d with pwr := { d.pwr with vioLow := 0x80 } }), 5, 50000, false, by decide +kernel⟩

theorem witness_TripsOfTheSiteAndItsLine_10 : ∃ (s : State) (t0 : Nat),
    s.dev.up .safety = false ∨ s.dev.bit SAF_XSTAT 0 1 = true ∨ t0 < s.dev.saf.xPulseAt + 100000000 :=
  ⟨base, 99999999, by decide +kernel⟩

theorem witness_TripsOfTheSiteAndItsLine_11 : ∃ (s : State) (t0 : Nat),
    s.dev.up .safety = false ∨ s.dev.bit SAF_SITECFG 0 17 = false ∨ t0 < s.dev.saf.xConf + 300000000 :=
  ⟨withR base [(SAF_SITECFG, 0, 0x4020000)], 299999999, by decide +kernel⟩

theorem witness_TripsOfTheSiteAndItsLine_12 : ∃ (s : State) (t0 : Nat) (o : BootObs) (l : List Nat),
    s.dev.pwr.phase = .running ∧ s.dev.pwr.safetyResets.filter (fun x => decide (t0 ≤ x + 600000000000)) = l :=
  ⟨onD base (fun d => { d with pwr := { d.pwr with safetyResets := [1, 600000000000] } }), 600000000002, {}, [600000000000], by decide +kernel⟩

theorem witness_TripsOfTheSiteAndItsLine_13 : ∃ (s : State) (t0 : Nat) (o : BootObs),
    s.dev.pwr.phase ≠ .running :=
  ⟨onD base (fun d => { d with pwr := { d.pwr with phase := .heldSafety } }), 5, {}, by decide +kernel⟩

theorem witness_TheSafetyMailboxLoadsAndAsks_1 : ∃ (s : State) (i : Initiator) (b : List Byte),
    s.dev.mbxService 0 i 1 = some b ∧ imageOk s.dev.variant b = true :=
  ⟨mbxS 0 .core0 ([1, 0, 0, 0] ++ imgBytes) base, .core0, imgBytes, by decide +kernel⟩

theorem witness_TheSafetyMailboxLoadsAndAsks_2 : ∃ (s : State) (i : Initiator) (b : List Byte),
    s.dev.mbxService 0 i 1 = some b ∧ imageOk s.dev.variant b = false :=
  ⟨mbxS 0 .core0 ([1, 0, 0, 0] ++ List.replicate 20 0) base, .core0, List.replicate 20 0, by decide +kernel⟩

theorem witness_TheSafetyMailboxLoadsAndAsks_3 : ∃ (s : State) (i : Initiator) (b : List Byte),
    s.dev.mbxService 0 i 2 = some b ∧ s.dev.saf.loaded ≠ [] ∧ leAt b 0 4 = leAt s.dev.saf.loaded (s.dev.saf.loaded.length - 4) 4 ∧ (s.dev.rd SOUT_ONSUM 0 = 0 ∧ (∀ p : Nat, p < s.dev.variant.outPairs → s.dev.fld SOUT_PSTAT p 1 0 ≠ 2)) :=
  ⟨mbxS 0 .core0 [2, 0, 0, 0, 1, 2, 3, 4] (onD base (fun d => { d with saf := { d.saf with loaded := [9, 1, 2, 3, 4] } })), .core0, [1, 2, 3, 4], by decide +kernel, by decide +kernel⟩

theorem witness_TheSafetyMailboxLoadsAndAsks_4 : ∃ (s : State) (i : Initiator) (b : List Byte),
    s.dev.mbxService 0 i 2 = some b ∧ (leAt b 0 4 ≠ leAt s.dev.saf.loaded (s.dev.saf.loaded.length - 4) 4 ∨ s.dev.rd SOUT_ONSUM 0 ≠ 0) :=
  ⟨mbxS 0 .core0 [2, 0, 0, 0, 1, 2, 3, 4] base, .core0, [1, 2, 3, 4], by decide +kernel, by decide +kernel⟩

theorem witness_TheSafetyMailboxLoadsAndAsks_5 : ∃ (s : State) (i : Initiator) (b : List Byte),
    s.dev.mbxService 0 i 3 = some b :=
  ⟨mbxS 0 .core0 [3, 0, 0, 0, 1, 0, 1, 0, 2, 0, 7] base, .core0, [1, 0, 1, 0, 2, 0, 7], by decide +kernel⟩

theorem witness_TheSafetyMailboxLoadsAndAsks_6 : ∃ (s : State) (i : Initiator) (b : List Byte),
    s.dev.mbxService 0 i 4 = some b :=
  ⟨mbxS 0 .core0 [4, 0, 0, 0, 0x81] base, .core0, [0x81], by decide +kernel⟩

theorem witness_TheSafetyMailboxLoadsAndAsks_7 : ∃ (s : State) (i : Initiator) (b : List Byte),
    s.dev.mbxService 0 i 2 = some b ∧ (s.dev.saf.loaded = [] ∨ (List.range s.dev.variant.outPairs).any (fun p => decide (s.dev.fld SOUT_PSTAT p 1 0 = 2)) = true) :=
  ⟨mbxS 0 .core0 [2, 0, 0, 0, 1, 2, 3, 4] (onD (withR base [(SOUT_PSTAT, 7, 2)]) (fun d => { d with saf := { d.saf with loaded := [9, 1, 2, 3, 4] } })), .core0, [1, 2, 3, 4], by decide +kernel⟩

theorem witness_TheSafetyMailboxLoadsAndAsks_8 : ∃ (s : State) (i : Initiator),
    s.dev.mbxService 0 i 1 = none :=
  ⟨base, .core3, by decide +kernel⟩

theorem witness_TheSafetyMailboxLoadsAndAsks_9 : ∃ (s : State) (i : Initiator),
    s.dev.mbxService 0 i 2 = none :=
  ⟨base, .core3, by decide +kernel⟩

theorem witness_TheSafetyMailboxLoadsAndAsks_10 : ∃ (s : State) (i : Initiator),
    s.dev.mbxService 0 i 3 = none :=
  ⟨base, .core3, by decide +kernel⟩

theorem witness_TheSafetyMailboxLoadsAndAsks_11 : ∃ (s : State) (i : Initiator),
    s.dev.mbxService 0 i 4 = none :=
  ⟨base, .core3, by decide +kernel⟩

theorem witness_TelegramConnectionsFollowTable109_1 : ∃ (s : State) (t0 c : Nat),
    c < s.dev.variant.cabinets ∧ s.dev.up .safety = true ∧ (s.dev.connState c = 1 ∨ s.dev.connLive c = true) ∧ ((s.dev.conn c).txOpen = false ∨ (s.dev.rd STG_TXSEQ c = 0xFFFFFFFF ∧ (s.dev.saf.extra.testBit c = true ∨ ∀ a ∈ (s.dev.conn c).sentAt, a + s.dev.telPer c ≤ t0))) :=
  ⟨withR base [(STG_CSTAT, 7, 1), (STG_TXGEN, 7, 0xFFFFFFFF)], 5, 7, by decide +kernel⟩

theorem witness_TelegramConnectionsFollowTable109_2 : ∃ (s : State) (t0 c : Nat),
    c < s.dev.variant.cabinets ∧ s.dev.up .safety = true ∧ (s.dev.connState c = 1 ∨ s.dev.connLive c = true) ∧ (s.dev.conn c).txOpen = true ∧ s.dev.rd STG_TXSEQ c ≠ 0xFFFFFFFF ∧ (s.dev.saf.extra.testBit c = true ∨ (∀ a ∈ (s.dev.conn c).sentAt, a + s.dev.telPer c ≤ t0)) :=
  ⟨onD (withR base [(STG_CSTAT, 0, 2)]) (fun d => { d.setConnR 0 { txOpen := true, sentAt := some 0 } with saf := { (d.setConnR 0 { txOpen := true, sentAt := some 0 }).saf with extra := 0xFE } }), 50000000, 0, by decide +kernel⟩

theorem witness_TelegramConnectionsFollowTable109_3 : ∃ (s : State) (t0 c p : Nat) (bs : List Byte),
    c < s.dev.variant.cabinets ∧ s.dev.up .safety = true ∧ (s.dev.connState c = 1 ∨ s.dev.connLive c = true) ∧ (s.dev.conn c).wait = [] ∧ (s.dev.at t0).telBad c (bs.take (22 + leAt bs 1 1)) = 0 :=
  ⟨onD (withR base [(STG_CSTAT, 0, 2), (STG_LOSSMASK, 0, 0x8001), (STG_CFG, 0, 0), (STG_CCFG, 0, 0)]) (fun d => d.setConnR 0 { rxHave := true }), 5, 0, 0, statTel 1, by decide +kernel⟩

theorem witness_TelegramConnectionsFollowTable109_4 : ∃ (s : State) (t0 c a p q : Nat) (b : List Byte),
    c < s.dev.variant.cabinets ∧ s.dev.up .safety = true ∧ s.dev.connState c = 2 ∧ (s.dev.conn c).wait = [(q, b, a)] ∧ q ≠ p ∧ t0 ≤ a + 2000000 ∧ (s.dev.at t0).telBad c b = 0 ∧ telType b = 3 ∧ b.length = 30 ∧ bitOf (w32 (leAt b 20 1)) 0 = false :=
  ⟨onD (withR base [(STG_CSTAT, 0, 2), (STG_CFG, 0, 0), (STG_CCFG, 0, 0)]) (fun d => d.setConnR 0 { rxHave := true, wait := [(0, statTel 0, 5)] }), 2000005, 0, 5, 1, 0, statTel 0, by decide +kernel, by decide +kernel⟩

theorem witness_TelegramConnectionsFollowTable109_5 : ∃ (s : State) (t0 c p : Nat) (b : List Byte),
    c < s.dev.variant.cabinets ∧ s.dev.up .safety = true ∧ (s.dev.connState c = 1 ∨ s.dev.connLive c = true) ∧ (s.dev.conn c).wait = [] ∧ (s.dev.at t0).telBad c (b.take (22 + leAt b 1 1)) ≠ 0 :=
  ⟨withR base [(STG_CSTAT, 0, 2), (STG_CFG, 0, 0), (STG_CCFG, 0, 0), (STG_ERRCNT, 0, 255)], 5, 0, 0, statTel 0, by decide +kernel⟩

theorem witness_TelegramConnectionsFollowTable109_6 : ∃ (s : State) (t0 c a p : Nat) (b : List Byte),
    c < s.dev.variant.cabinets ∧ s.dev.connState c = 3 ∧ (s.dev.conn c).wait = [(p, b, a)] ∧ a + 2000000 ≤ t0 ∧ (s.dev.at t0).telBad c b = 0 ∧ telType b = 3 :=
  ⟨onD (withR base [(STG_CSTAT, 0, 3), (STG_CFG, 0, 0), (STG_CCFG, 0, 0)]) (fun d => d.setConnR 0 { rxHave := true, wait := [(1, statTel 0, 5)] }), 2000005, 0, 5, 1, statTel 0, by decide +kernel, by decide +kernel⟩

theorem witness_TelegramConnectionsFollowTable109_7 : ∃ (s : State) (t0 c : Nat),
    c < s.dev.variant.cabinets ∧ s.dev.up .safety = true ∧ s.dev.connLive c = true ∧ (s.dev.conn c).fedAt + clampN (s.dev.fld STG_TCFG c 9 0) 5 500 * 1000000 ≤ t0 :=
  ⟨withR base [(STG_CSTAT, 7, 3), (STG_LOSSMASK, 7, 0x8001)], 500000000, 7, by decide +kernel⟩

theorem witness_TelegramConnectionsFollowTable109_8 : ∃ (s : State) (t0 c : Nat),
    c < s.dev.variant.cabinets ∧ s.dev.up .safety = true ∧ s.dev.connState c = 1 ∧ (s.dev.conn c).since + 1000000000 ≤ t0 :=
  ⟨withR base [(STG_CSTAT, 7, 1), (STG_LOSSMASK, 7, 0x8001)], 1000000000, 7, by decide +kernel⟩

theorem witness_TelegramConnectionsFollowTable109_9 : ∃ (s : State) (t0 c : Nat),
    c < s.dev.variant.cabinets ∧ s.dev.up .safety = true ∧ s.dev.connState c = 4 ∧ (s.dev.conn c).since + 100000000 ≤ t0 :=
  ⟨withR base [(STG_CSTAT, 7, 4)], 100000000, 7, by decide +kernel⟩

theorem witness_TelegramConnectionsFollowTable109_10 : ∃ (s : State) (t0 c : Nat),
    c < s.dev.variant.cabinets ∧ s.dev.up .safety = true ∧ s.dev.connState c = 3 ∧ (s.dev.conn c).since + min 600 (s.dev.fld STG_TCFG c 25 16) * 1000000000 ≤ t0 :=
  ⟨withR base [(STG_CSTAT, 7, 3)], 600000000000, 7, by decide +kernel⟩

theorem witness_TelegramConnectionsFollowTable109_11 : ∃ (s : State) (t0 c : Nat),
    s.dev.variant.cabinets ≤ c ∨ s.dev.up .safety = false ∨ (s.dev.connState c ≠ 1 ∧ s.dev.connLive c = false) ∨ ((s.dev.conn c).txOpen = true ∧ s.dev.saf.extra.testBit c = false ∧ ∃ a ∈ (s.dev.conn c).sentAt, t0 < a + s.dev.telPer c) :=
  ⟨onD (withR base [(STG_CSTAT, 0, 2)]) (fun d => { d.setConnR 0 { txOpen := true, sentAt := some 7 } with saf := { (d.setConnR 0 { txOpen := true, sentAt := some 7 }).saf with extra := 0xFE } }), 1000006, 0, by decide +kernel⟩

theorem witness_TelegramConnectionsFollowTable109_12 : ∃ (s : State) (t0 c a p q : Nat) (b : List Byte),
    c < s.dev.variant.cabinets ∧ s.dev.up .safety = true ∧ s.dev.connState c = 1 ∧ (s.dev.conn c).rxOpened = true ∧ (s.dev.conn c).wait = [(q, b, a)] ∧ q ≠ p ∧ t0 ≤ a + 2000000 ∧ (s.dev.at t0).telBad c b = 0 ∧ telType b = 3 ∧ b.length = 30 ∧ bitOf (w32 (leAt b 20 1)) 0 = false :=
  ⟨onD (withR base [(STG_CSTAT, 0, 1), (STG_CFG, 0, 0), (STG_CCFG, 0, 0)]) (fun d => d.setConnR 0 { rxHave := true, rxOpened := true, wait := [(0, statTel 0, 5)] }), 2000005, 0, 5, 1, 0, statTel 0, by decide +kernel⟩

theorem witness_TelegramConnectionsFollowTable109_13 : ∃ (s : State) (t0 c a p q : Nat) (b : List Byte),
    c < s.dev.variant.cabinets ∧ s.dev.up .safety = true ∧ (s.dev.connState c = 1 ∨ s.dev.connState c = 2) ∧ (s.dev.conn c).wait = [(q, b, a)] ∧ q ≠ p ∧ t0 ≤ a + 2000000 ∧ (s.dev.at t0).telBad c b = 0 ∧ telType b = 1 ∧ b.length = 26 :=
  ⟨onD (withR base [(STG_CSTAT, 0, 1), (STG_CFG, 0, 0), (STG_CCFG, 0, 0)]) (fun d => d.setConnR 0 { wait := [(0, openTel 9, 5)] }), 2000005, 0, 5, 1, 0, openTel 9, by decide +kernel⟩

theorem witness_TelegramConnectionsFollowTable109_14 : ∃ (s : State) (t0 c a p q : Nat) (b x : List Byte),
    c < s.dev.variant.cabinets ∧ s.dev.up .safety = true ∧ (s.dev.connState c = 1 ∨ s.dev.connLive c = true) ∧ (s.dev.conn c).wait = [(q, x, a)] ∧ q ≠ p ∧ t0 ≤ a + 2000000 ∧ (s.dev.at t0).telBad c (b.take (22 + leAt b 1 1)) = 0 ∧ telType x = telType (b.take (22 + leAt b 1 1)) ∧ telSeq x = telSeq (b.take (22 + leAt b 1 1)) ∧ x ≠ b.take (22 + leAt b 1 1) :=
  ⟨onD (withR base [(STG_CSTAT, 0, 2), (STG_CFG, 0, 0), (STG_CCFG, 0, 0)]) (fun d => d.setConnR 0 { rxHave := true, wait := [(0, statTel 1, 5)] }), 2000005, 0, 5, 1, 0, statTel 0, statTel 1, by decide +kernel⟩

theorem witness_TelegramConnectionsFollowTable109_15 : ∃ (s : State) (t0 c p : Nat) (b : List Byte),
    (s.dev.conn c).wait = [] ∧ (s.dev.variant.cabinets ≤ c ∨ s.dev.up .safety = false ∨ (s.dev.connState c ≠ 1 ∧ s.dev.connLive c = false)) :=
  ⟨base, 5, 0, 0, statTel 0, by decide +kernel⟩

theorem witness_TelegramConnectionsFollowTable109_16 : ∃ (s : State) (t0 c a p : Nat) (b : List Byte),
    c < s.dev.variant.cabinets ∧ s.dev.connState c = 2 ∧ (s.dev.conn c).wait = [(p, b, a)] ∧ a + 2000000 ≤ t0 :=
  ⟨onD (withR base [(STG_CSTAT, 0, 2), (STG_CFG, 0, 0), (STG_CCFG, 0, 0)]) (fun d => d.setConnR 0 { rxHave := true, single := 2, wait := [(1, statTel 0, 5)] }), 2000005, 0, 5, 1, statTel 0, by decide +kernel⟩

theorem witness_TelegramConnectionsFollowTable109_17 : ∃ (s : State) (t0 c : Nat),
    (∀ w ∈ (s.dev.conn c).wait, t0 < w.2.2 + 2000000) :=
  ⟨onD (withR base [(STG_CSTAT, 0, 2), (STG_CFG, 0, 0), (STG_CCFG, 0, 0)]) (fun d => d.setConnR 0 { rxHave := true, wait := [(1, statTel 0, 5)] }), 2000004, 0, by decide +kernel⟩

theorem witness_TelegramConnectionsFollowTable109_18 : ∃ (s : State) (t0 c : Nat),
    s.dev.up .safety = false ∨ s.dev.connLive c = false ∨ t0 < (s.dev.conn c).fedAt + clampN (s.dev.fld STG_TCFG c 9 0) 5 500 * 1000000 :=
  ⟨withR base [(STG_CSTAT, 7, 3)], 4999999, 7, by decide +kernel⟩

theorem witness_TelegramConnectionsFollowTable109_19 : ∃ (s : State) (t0 c : Nat),
    s.dev.up .safety = false ∨ s.dev.connState c ≠ 1 ∨ t0 < (s.dev.conn c).since + 1000000000 :=
  ⟨withR base [(STG_CSTAT, 7, 1)], 999999999, 7, by decide +kernel⟩

theorem witness_TelegramConnectionsFollowTable109_20 : ∃ (s : State) (t0 c : Nat),
    s.dev.up .safety = false ∨ s.dev.connState c ≠ 4 ∨ t0 < (s.dev.conn c).since + 100000000 :=
  ⟨withR base [(STG_CSTAT, 7, 4)], 99999999, 7, by decide +kernel⟩

theorem witness_TelegramConnectionsFollowTable109_21 : ∃ (s : State) (t0 c : Nat),
    s.dev.up .safety = false ∨ s.dev.connState c ≠ 3 ∨ t0 < (s.dev.conn c).since + min 600 (s.dev.fld STG_TCFG c 25 16) * 1000000000 :=
  ⟨withR base [(STG_CSTAT, 7, 3), (STG_TCFG, 7, 0x00010000)], 999999999, 7, by decide +kernel⟩

theorem witness_ThermalFramesConvertThrottleAndShutDown_1 : ∃ (s : State) (t0 : Nat) (codes : List (Nat × Nat)) (a b : Bool),
    s.dev.up .pstage = true ∧ t0 % 1000000 = 0 ∧ s.dev.thm.first = false :=
  ⟨onD (withR base [(THM_FRAME, 0, 0xFFFFFFFF)]) (fun d => { d with thm := { d.thm with first := false } }), 7000000, [(3, 5)], true, false, by decide +kernel⟩

theorem witness_ThermalFramesConvertThrottleAndShutDown_2 : ∃ (s : State) (t0 k c : Nat) (a b : Bool),
    s.dev.up .pstage = true ∧ t0 % 1000000 = 0 ∧ s.dev.thm.first = true ∧ s.dev.pwr.ifaceReset = false ∧ k < s.dev.variant.thermals ∧ s.dev.bit THM_ICFG k 31 = true ∧ s.dev.fld THM_ICFG k 25 24 = 0 ∧ c < 65536 :=
  ⟨withR base [(THM_ICFG, 31, 0x801F0D6B)], 0, 31, 16384, true, true, by decide +kernel, by decide +kernel⟩

theorem witness_ThermalFramesConvertThrottleAndShutDown_3 : ∃ (s : State) (t0 k o x : Nat) (a b : Bool),
    s.dev.up .pstage = true ∧ t0 % 1000000 = 0 ∧ o < s.dev.variant.outlets ∧ s.dev.omask o = [k] ∧ (s.dev.thmI k).en = true ∧ (s.dev.thmI k).own = some x ∧ s.dev.limitsOk k = true ∧ s.dev.thmFlag k 4 = false ∧ s.dev.thmFlag k 5 = false ∧ s.dev.thmFlag k 6 = false ∧ s.dev.throt k ≤ x ∧ x < s.dev.shut k ∧ s.dev.inShutdown o = false ∧ (s.dev.thmO o).hot = false ∧ s.dev.fld THM_OSTAT o 15 8 < s.dev.kmax o :=
  ⟨onD (withR base [(THM_ICFG, 5, 0x801F0D6B), (THM_OMASK, 1, 0x20), (THM_OCMAX, 1, 0x4030D400), (THM_OSTEP, 1, 0x30D400)]) (fun d => d.setThmI 5 { en := true, own := some 35000 }), 1000000, 5, 1, 35000, true, true, by decide +kernel, by decide +kernel, by decide +kernel⟩

theorem witness_ThermalFramesConvertThrottleAndShutDown_4 : ∃ (s : State) (t0 k o x : Nat) (codes : List (Nat × Nat)) (a b : Bool),
    s.dev.up .pstage = true ∧ t0 % 1000000 = 0 ∧ o < s.dev.variant.outlets ∧ k ∈ s.dev.omask o ∧ (s.dev.thmI k).en = true ∧ (s.dev.thmI k).own = some x ∧ s.dev.limitsOk k = false ∧ s.dev.inShutdown o = false :=
  ⟨onD (withR base [(THM_ICFG, 5, 0x801F0D6B), (THM_OMASK, 1, 0x20), (THM_ILIM2, 5, 0xFFFF)]) (fun d => d.setThmI 5 { en := true, own := some 30000 }), 1000000, 5, 1, 30000, [], true, false, by decide +kernel, by decide +kernel⟩

theorem witness_ThermalFramesConvertThrottleAndShutDown_5 : ∃ (s : State) (t0 k a : Nat),
    s.dev.up .pstage = true ∧ (s.dev.thmI k).lowSince = some a ∧ a + 1000000000 ≤ t0 ∧ s.dev.fld THM_ISTAT k 1 0 ≠ 0 :=
  ⟨onD (withR base [(THM_ISTAT, 31, 2)]) (fun d => d.setThmI 31 { lowSince := some 5 }), 1000000005, 31, 5, by decide +kernel⟩

theorem witness_ThermalFramesConvertThrottleAndShutDown_6 : ∃ (s : State) (t0 o : Nat),
    s.dev.up .pstage = true ∧ o < s.dev.variant.outlets ∧ s.dev.inShutdown o = false ∧ (s.dev.thmO o).hot = true ∧ (s.dev.thmO o).dwellFrom + max 1 (s.dev.fld THM_ODWELL o 15 0) * 1000000 ≤ t0 ∧ s.dev.fld THM_OSTAT o 15 8 < s.dev.kmax o :=
  ⟨onD (withR base [(THM_OCMAX, 1, 0x4030D400), (THM_OSTEP, 1, 0x30D400)]) (fun d => d.setThmO 1 { hot := true }), 2000000000, 1, by decide +kernel, by decide +kernel⟩

theorem witness_ThermalFramesConvertThrottleAndShutDown_7 : ∃ (s : State) (t0 o a : Nat),
    s.dev.up .pstage = true ∧ o < s.dev.variant.outlets ∧ s.dev.inShutdown o = false ∧ (s.dev.thmO o).hot = false ∧ (s.dev.thmO o).coolFrom = some a ∧ a + max 1 (s.dev.fld THM_ODWELL o 31 16) * 1000000 ≤ t0 :=
  ⟨onD (withR base [(THM_OCMAX, 1, 0x4030D400), (THM_OSTEP, 1, 0x30D400), (THM_OSTAT, 1, 0x1F000101)]) (fun d => d.setThmO 1 { coolFrom := some 0 }), 10000000000, 1, 0, by decide +kernel, by decide +kernel⟩

theorem witness_ThermalFramesConvertThrottleAndShutDown_8 : ∃ (s : State) (t0 : Nat) (i : Initiator) (ack : Bool) (rest : BitVec 31) (o : Nat),
    Passes s i THM_OCTL o :=
  ⟨base, 5, .core1, true, 0, 0, by decide +kernel⟩

theorem witness_ThermalFramesConvertThrottleAndShutDown_9 : ∃ (s : State) (t0 k o x : Nat) (a b : Bool),
    s.dev.up .pstage = true ∧ t0 % 1000000 = 0 ∧ o < s.dev.variant.outlets ∧ s.dev.omask o = [k] ∧ (s.dev.thmI k).en = true ∧ (s.dev.thmI k).own = some x ∧ s.dev.limitsOk k = true ∧ s.dev.thmFlag k 4 = false ∧ s.dev.thmFlag k 5 = false ∧ s.dev.thmFlag k 6 = false ∧ x < s.dev.throt k ∧ x ≤ s.dev.rst k ∧ s.dev.inShutdown o = true ∧ s.dev.thm.ack = 2 ^ o :=
  ⟨onD (withR base [(THM_ICFG, 0, 0x80000000), (THM_OMASK, 3, 1), (THM_ILIM0, 0, 0x00C80064), (THM_ILIM1, 0, 0x012C0064), (THM_ILIM2, 0, 50), (THM_OSTAT, 3, 0x1F000002), (THM_OCMAX, 3, 0x4030D400), (THM_OSTEP, 3, 0x30D400)]) (fun d => { (d.setThmI 0 { en := true, own := some 40 }) with thm := { (d.setThmI 0 { en := true, own := some 40 }).thm with latched := 9, ack := 8, first := false } }), 1000000, 0, 3, 40, true, true, by decide +kernel⟩

theorem witness_ThermalFramesConvertThrottleAndShutDown_10 : ∃ (s : State) (t0 k o x : Nat) (a b : Bool),
    s.dev.up .pstage = true ∧ t0 % 1000000 = 0 ∧ o < s.dev.variant.outlets ∧ s.dev.omask o = [k] ∧ (s.dev.thmI k).en = true ∧ (s.dev.thmI k).own = some x ∧ s.dev.limitsOk k = true ∧ s.dev.thmFlag k 4 = false ∧ s.dev.thmFlag k 5 = false ∧ s.dev.thmFlag k 6 = false ∧ s.dev.rst k < x ∧ s.dev.inShutdown o = true ∧ s.dev.thm.ack = 2 ^ o :=
  ⟨onD (withR base [(THM_ICFG, 0, 0x80000000), (THM_OMASK, 3, 1), (THM_ILIM0, 0, 0x00C80064), (THM_ILIM1, 0, 0x012C0064), (THM_ILIM2, 0, 50), (THM_OSTAT, 3, 0x1F000002), (THM_OCMAX, 3, 0x4030D400), (THM_OSTEP, 3, 0x30D400)]) (fun d => { (d.setThmI 0 { en := true, own := some 60 }) with thm := { (d.setThmI 0 { en := true, own := some 60 }).thm with latched := 9, ack := 8, first := false } }), 1000000, 0, 3, 60, true, true, by decide +kernel⟩

theorem witness_ThermalFramesConvertThrottleAndShutDown_11 : ∃ (s : State) (i : Initiator) (v : Word) (c : Nat),
    Passes s i THM_CCTL c ∧ bitOf v 0 = true ∧ s.dev.lswLatched (s.dev.fld THM_CCFG c 28 24) = false ∧ s.dev.fld LSW_CSTAT (s.dev.fld THM_CCFG c 28 24) 12 10 = 0 :=
  ⟨withR (selS .core0 0x63 7 base) [(THM_CSTAT, 7, 0x200)], .core0, 1, 7, by decide +kernel⟩

theorem witness_ThermalFramesConvertThrottleAndShutDown_12 : ∃ (s : State) (t0 : Nat) (codes : List (Nat × Nat)) (a b : Bool),
    s.dev.up .pstage = false ∨ t0 % 1000000 ≠ 0 :=
  ⟨base, 1000001, [(3, 5)], true, true, by decide +kernel⟩

theorem witness_ThermalFramesConvertThrottleAndShutDown_13 : ∃ (s : State) (t0 k : Nat),
    s.dev.up .pstage = false ∨ s.dev.fld THM_ISTAT k 1 0 = 0 ∨ (∀ a ∈ (s.dev.thmI k).lowSince, t0 < a + 1000000000) :=
  ⟨onD (withR base [(THM_ISTAT, 31, 2)]) (fun d => d.setThmI 31 { lowSince := some 5 }), 1000000004, 31, by decide +kernel⟩

theorem witness_ThermalFramesConvertThrottleAndShutDown_14 : ∃ (s : State) (t0 o : Nat),
    s.dev.up .pstage = true ∧ o < s.dev.variant.outlets ∧ s.dev.inShutdown o = false ∧ (s.dev.thmO o).hot = true ∧ (s.dev.thmO o).dwellFrom + max 1 (s.dev.fld THM_ODWELL o 15 0) * 1000000 ≤ t0 ∧ s.dev.kmax o ≤ s.dev.fld THM_OSTAT o 15 8 :=
  ⟨onD (withR base [(THM_OSTAT, 1, 0x1F000101), (THM_OCMAX, 1, 0x4030D400), (THM_OSTEP, 1, 0x4030D400)]) (fun d => d.setThmO 1 { hot := true }), 2000000000, 1, by decide +kernel⟩

theorem witness_ThermalFramesConvertThrottleAndShutDown_15 : ∃ (s : State) (t0 o : Nat),
    s.dev.up .pstage = false ∨ s.dev.variant.outlets ≤ o ∨ s.dev.inShutdown o = true ∨ ((s.dev.thmO o).hot = true ∧ t0 < (s.dev.thmO o).dwellFrom + max 1 (s.dev.fld THM_ODWELL o 15 0) * 1000000) ∨ ((s.dev.thmO o).hot = false ∧ ∀ a ∈ (s.dev.thmO o).coolFrom, t0 < a + max 1 (s.dev.fld THM_ODWELL o 31 16) * 1000000) :=
  ⟨onD base (fun d => d.setThmO 1 { hot := true }), 1999999999, 1, by decide +kernel⟩

theorem witness_ThermalFramesConvertThrottleAndShutDown_16 : ∃ (s : State) (i : Initiator) (v : Word) (c : Nat),
    Passes s i THM_CCTL c ∧ (bitOf v 0 = false ∨ s.dev.lswLatched (s.dev.fld THM_CCFG c 28 24) = true ∨ s.dev.fld LSW_CSTAT (s.dev.fld THM_CCFG c 28 24) 12 10 ≠ 0) :=
  ⟨withR (selS .core0 0x63 7 base) [(THM_CSTAT, 7, 0x200), (LSW_CSTAT, 0, 0x400)], .core0, 1, 7, by decide +kernel⟩

theorem witness_LoadSwitchesDriveAndLatch_1 : ∃ (s : State) (i : Initiator) (v : Word) (n : Nat),
    Passes s i LSW_CCTL n ∧ s.dev.lsw.linkLost = false ∧ s.dev.lswOwners n = [] ∧ s.dev.lswLatched n = false ∧ s.dev.retryBlocks n = false ∧ s.dev.bit LSW_CSTAT n 13 = false ∧ s.dev.bit LSW_CCFG n 31 = true ∧ s.dev.pwr.ifaceReset = false ∧ s.dev.lswSt n = 0 ∧ bitOf v 0 = true ∧ bits v 14 8 ≠ 0 :=
  ⟨withR (selS .core0 0x64 5 base) [(LSW_CCFG, 5, 0x80070432)], .core0, 0x6401, 5, by decide +kernel⟩

theorem witness_LoadSwitchesDriveAndLatch_2 : ∃ (s : State) (i : Initiator) (v : Word) (n : Nat),
    Passes s i LSW_CCTL n ∧ s.dev.lsw.linkLost = false ∧ s.dev.lswOwners n = [] ∧ s.dev.lswLatched n = false ∧ s.dev.retryBlocks n = false ∧ s.dev.bit LSW_CSTAT n 13 = false ∧ (bitOf v 0 = false ∨ bits v 14 8 = 0) :=
  ⟨withR base [(LSW_CSTAT, 0, 2), (LSW_ONSUM, 0, 1)], .core0, 0x1, 0, by decide +kernel⟩

theorem witness_LoadSwitchesDriveAndLatch_3 : ∃ (s : State) (t0 n a b c : Nat) (l : List Nat),
    n < s.dev.variant.loadSwitches ∧ s.dev.pwr.ifaceReset = false ∧ s.dev.lswSt n = 1 ∧ a ≤ 50 ∧ b ≤ 50 ∧ c ≤ 50 ∧ s.dev.lswLatched n = false ∧ s.dev.retryBlocks n = false ∧ s.dev.bit LSW_CSTAT n 13 = false ∧ s.dev.bit LSW_CCFG n 31 = true ∧ s.dev.lswCmd n = true ∧ s.dev.lsw.linkLost = false :=
  ⟨withR base [(LSW_CCFG, 23, 0x80070432), (LSW_CCTL, 23, 0x6401), (LSW_CSTAT, 23, 1)], 5, 23, 50, 0, 50, [999], by decide +kernel, by decide +kernel⟩

theorem witness_LoadSwitchesDriveAndLatch_4 : ∃ (s : State) (t0 n : Nat),
    n < s.dev.variant.loadSwitches ∧ s.dev.pwr.ifaceReset = false ∧ s.dev.lswSt n = 1 ∧ (s.dev.lswC n).startAt + max 1 (s.dev.fld LSW_CCFG n 7 0) * 1000000 ≤ t0 :=
  ⟨withR base [(LSW_CSTAT, 3, 1), (THM_CCFG, 2, 0x83000064)], 50000000, 3, by decide +kernel⟩

theorem witness_LoadSwitchesDriveAndLatch_5 : ∃ (s : State) (t0 n : Nat) (l : List Nat),
    n < s.dev.variant.loadSwitches ∧ s.dev.pwr.ifaceReset = false ∧ s.dev.lswSt n = 2 ∧ max 1 (s.dev.fld LSW_COC n 31 24) ≤ l.length ∧ (l.take (max 1 (s.dev.fld LSW_COC n 31 24))).all (fun x => decide (s.dev.fld LSW_COC n 15 0 * s.dev.rshunt n < x * 1000)) = true :=
  ⟨withR base [(LSW_CSTAT, 3, 2), (LSW_COC, 3, 0x020A03E8)], 5, 3, [5001, 5001, 0], by decide +kernel, by decide +kernel⟩

theorem witness_LoadSwitchesDriveAndLatch_6 : ∃ (s : State) (t0 n x : Nat),
    (n < s.dev.variant.loadSwitches ∧ s.dev.pwr.ifaceReset = false ∧ (s.dev.lswSt n = 1 ∨ s.dev.lswSt n = 2)) ∧ clampN (s.dev.fld LSW_COC n 20 16) 1 25 * 1000 < x :=
  ⟨withR base [(LSW_CSTAT, 3, 2)], 5, 3, 10001, by decide +kernel, by decide +kernel⟩

theorem witness_LoadSwitchesDriveAndLatch_7 : ∃ (s : State) (t0 n v : Nat) (cur outs : List Nat),
    (s.dev.up .pstage = true ∧ n < s.dev.variant.loadSwitches ∧ (s.dev.lswSt n = 1 ∨ s.dev.lswSt n = 2)) ∧ s.dev.fld LSW_CI2T n 31 16 * 1000000 ≤ (s.dev.lswC n).acc + cur.getD n 0 * cur.getD n 0 - s.dev.fld LSW_CI2T n 15 0 * s.dev.fld LSW_CI2T n 15 0 :=
  ⟨withR base [(LSW_CSTAT, 1, 2), (LSW_CI2T, 1, 0x00010320)], 5, 1, 1200, [0, 2000], [7, 8], by decide +kernel, by decide +kernel⟩

theorem witness_LoadSwitchesDriveAndLatch_8 : ∃ (s : State) (i : Initiator) (v : Word) (n : Nat),
    Passes s i LSW_CCTL n ∧ s.dev.lsw.linkLost = false ∧ s.dev.lswOwners n = [] ∧ bits v 31 29 = 1 :=
  ⟨withR base [(LSW_CSTAT, 0, 0x010001E4)], .core0, 0x20000000, 0, by decide +kernel⟩

theorem witness_LoadSwitchesDriveAndLatch_9 : ∃ (s : State) (i : Initiator) (v : Word) (n : Nat),
    Passes s i LSW_CCTL n ∧ s.dev.lsw.linkLost = false ∧ s.dev.lswOwners n = [] ∧ bits v 31 29 = 2 ∧ (s.dev.lswC n).acc * 2 ≤ s.dev.fld LSW_CI2T n 31 16 * 1000000 ∧ (s.dev.lswC n).tfet + 2000 * 2 ^ 32 ≤ s.dev.fld LSW_CTLIM n 15 0 * 2 ^ 32 :=
  ⟨onD (withR base [(LSW_CSTAT, 0, 0x010001E4)]) (fun d => d.setLswC 0 { acc := 200000000 }), .core0, 0x40000000, 0, by decide +kernel⟩

theorem witness_LoadSwitchesDriveAndLatch_10 : ∃ (s : State) (i : Initiator) (v : Word) (n : Nat),
    Passes s i LSW_CCTL n ∧ s.dev.lsw.linkLost = false ∧ s.dev.lswOwners n = [] ∧ bits v 31 29 = 2 ∧ (s.dev.fld LSW_CI2T n 31 16 * 1000000 < (s.dev.lswC n).acc * 2 ∨ s.dev.fld LSW_CTLIM n 15 0 * 2 ^ 32 < (s.dev.lswC n).tfet + 2000 * 2 ^ 32) :=
  ⟨onD (withR base [(LSW_CSTAT, 0, 0x010001E4)]) (fun d => d.setLswC 0 { acc := 200000001 }), .core0, 0x40000000, 0, by decide +kernel⟩

theorem witness_LoadSwitchesDriveAndLatch_11 : ∃ (s : State) (i : Initiator) (v : Word) (n : Nat),
    Passes s i LSW_CCTL n ∧ s.dev.lsw.linkLost = false ∧ s.dev.lswOwners n = [] ∧ bits v 31 29 = 4 :=
  ⟨withR base [(LSW_CSTAT, 0, 0x05000204), (LSW_CRETRY, 0, 0x0501)], .core0, 0x80000000, 0, by decide +kernel⟩

theorem witness_LoadSwitchesDriveAndLatch_12 : ∃ (s : State) (i : Initiator) (v : Word) (n : Nat),
    Passes s i LSW_CCTL n ∧ s.dev.lsw.linkLost = false ∧ s.dev.lswOwners n = [] :=
  ⟨withR base [(LSW_CSTAT, 0, 0x22), (LSW_ONSUM, 0, 1)], .core0, 0x6401, 0, by decide +kernel⟩

theorem witness_LoadSwitchesDriveAndLatch_13 : ∃ (s : State) (i : Initiator) (v : Word) (n : Nat),
    Passes s i LSW_CCTL n ∧ s.dev.lsw.linkLost = false ∧ s.dev.lswOwners n ≠ [] :=
  ⟨withR base [(THM_CCFG, 2, 0x80000000)], .core0, 0x6401, 0, by decide +kernel⟩

theorem witness_LoadSwitchesDriveAndLatch_14 : ∃ (s : State) (i : Initiator) (v : Word) (n : Nat),
    Passes s i LSW_CCTL n ∧ s.dev.lsw.linkLost = true ∧ s.dev.lswOwners n = [] :=
  ⟨onD (withR base [(LSW_CCFG, 23, 0x80070432), (LSW_CCTL, 23, 0x6401)]) (fun d => { d with lsw := { d.lsw with linkLost := true } }), .core0, 0, 0, by decide +kernel⟩

theorem witness_LoadSwitchesDriveAndLatch_15 : ∃ (s : State) (i : Initiator) (v : Word) (n : Nat),
    Passes s i LSW_CCTL n ∧ s.dev.lsw.linkLost = false :=
  ⟨withR base [(THM_CCFG, 2, 0x80000000), (LSW_CSTAT, 0, 0x010001E4)], .core0, 0, 0, by decide +kernel⟩

theorem witness_LoadSwitchesDriveAndLatch_16 : ∃ (s : State) (i : Initiator) (v : Word) (n : Nat),
    Passes s i LSW_CCTL n ∧ s.dev.lsw.linkLost = false :=
  ⟨onD (withR base [(THM_CCFG, 2, 0x80000000), (LSW_CSTAT, 0, 0x010001E4)]) (fun d => d.setLswC 0 { acc := 200000000 }), .core0, 0, 0, by decide +kernel⟩

theorem witness_LoadSwitchesDriveAndLatch_17 : ∃ (s : State) (i : Initiator) (v : Word) (n : Nat),
    Passes s i LSW_CCTL n ∧ s.dev.lsw.linkLost = false :=
  ⟨withR base [(THM_CCFG, 2, 0x80000000), (LSW_CSTAT, 0, 0x05000204), (LSW_CRETRY, 0, 0x0501)], .core0, 0, 0, by decide +kernel⟩

theorem witness_LoadSwitchesDriveAndLatch_18 : ∃ (s : State) (t0 n : Nat) (l : List Nat),
    s.dev.variant.loadSwitches ≤ n ∨ s.dev.pwr.ifaceReset = true ∨ s.dev.lswSt n ≠ 1 ∨ l.length < 3 ∨ (l.take 3).any (fun x => decide (50 < x)) = true :=
  ⟨withR base [(LSW_CCFG, 23, 0x80070432), (LSW_CCTL, 23, 0x6401), (LSW_CSTAT, 23, 1)], 5, 23, [50, 0, 51], by decide +kernel⟩

theorem witness_LoadSwitchesDriveAndLatch_19 : ∃ (s : State) (t0 n : Nat),
    s.dev.variant.loadSwitches ≤ n ∨ s.dev.pwr.ifaceReset = true ∨ s.dev.lswSt n ≠ 1 ∨ t0 < (s.dev.lswC n).startAt + max 1 (s.dev.fld LSW_CCFG n 7 0) * 1000000 :=
  ⟨withR base [(LSW_CSTAT, 3, 1)], 49999999, 3, by decide +kernel⟩

theorem witness_LoadSwitchesDriveAndLatch_20 : ∃ (s : State) (t0 n : Nat) (l : List Nat),
    s.dev.variant.loadSwitches ≤ n ∨ s.dev.pwr.ifaceReset = true ∨ s.dev.lswSt n ≠ 2 ∨ l.length < max 1 (s.dev.fld LSW_COC n 31 24) ∨ (l.take (max 1 (s.dev.fld LSW_COC n 31 24))).all (fun x => decide (s.dev.fld LSW_COC n 15 0 * s.dev.rshunt n < x * 1000)) = false :=
  ⟨withR base [(LSW_CSTAT, 3, 2), (LSW_COC, 3, 0x020A03E8)], 5, 3, [5001, 5000, 9999], by decide +kernel⟩

theorem witness_LoadSwitchesDriveAndLatch_21 : ∃ (s : State) (t0 n x : Nat),
    s.dev.variant.loadSwitches ≤ n ∨ s.dev.pwr.ifaceReset = true ∨ s.dev.lswSt n ≠ 1 ∧ s.dev.lswSt n ≠ 2 ∨ x ≤ clampN (s.dev.fld LSW_COC n 20 16) 1 25 * 1000 :=
  ⟨withR base [(LSW_CSTAT, 3, 2)], 5, 3, 10000, by decide +kernel⟩

theorem witness_LoadSwitchesDriveAndLatch_22 : ∃ (s : State) (t0 n v : Nat) (cur outs : List Nat),
    s.dev.up .pstage = true ∧ n < s.dev.variant.loadSwitches :=
  ⟨onD (withR base [(LSW_CSTAT, 1, 2), (LSW_CI2T, 1, 0x00010320), (LSW_CTLIM, 1, 0x0100)]) (fun d => d.setLswC 1 { tfet := 2 ^ 41 }), 5, 1, 1200, [0, 800], [7, 8], by decide +kernel⟩

theorem witness_LoadSwitchesDriveAndLatch_23 : ∃ (s : State) (t0 v : Nat) (cur outs : List Nat),
    s.dev.up .pstage = false :=
  ⟨withR base [(RST_ISLSTAT, 0, 0x10000)], 5, 1200, [], [], by decide +kernel⟩

theorem witness_LoadSwitchesAndTheirSupply_1 : ∃ (s : State) (t0 v : Nat),
    v < 720 ∧ s.dev.bit LSW_VAUX 0 16 = false :=
  ⟨withR base [(LSW_CSTAT, 23, 2), (LSW_CSTAT, 0, 0x24), (LSW_ONSUM, 0, 0x800000), (LSW_UVCNT, 0, 0xFFFFFFFF)], 5, 719, by decide +kernel⟩

theorem witness_LoadSwitchesAndTheirSupply_2 : ∃ (s : State) (t0 v : Nat),
    770 < v ∧ s.dev.bit LSW_VAUX 0 16 = true :=
  ⟨withR base [(LSW_VAUX, 0, 0x10000)], 5, 771, by decide +kernel⟩

theorem witness_LoadSwitchesAndTheirSupply_3 : ∃ (s : State) (t0 n a : Nat),
    n < s.dev.variant.loadSwitches ∧ s.dev.pwr.ifaceReset = false ∧ (s.dev.lswC n).rdlyFrom = some a ∧ a + max 1 (s.dev.fld LSW_CRETRY n 7 0) * 1000000 ≤ t0 ∧ s.dev.lswCmd n = true ∧ s.dev.fld LSW_CSTAT n 31 24 < 255 ∧ s.dev.lswLatched n = false ∧ s.dev.bit LSW_CCFG n 31 = true ∧ s.dev.lsw.linkLost = false ∧ s.dev.lswSt n = 3 ∧ (s.dev.fld LSW_CRETRY n 15 8 = 0 ∨ s.dev.fld LSW_CSTAT n 31 24 + 1 < s.dev.fld LSW_CRETRY n 15 8) :=
  ⟨onD (withR base [(LSW_CCFG, 2, 0x80070432), (LSW_CCTL, 2, 0x6401), (LSW_CSTAT, 2, 0x2003), (LSW_CRETRY, 2, 0x0201)]) (fun d => d.setLswC 2 { rdlyFrom := some 3 }), 1000003, 2, 3, by decide +kernel, by decide +kernel, by decide +kernel⟩

theorem witness_LoadSwitchesAndTheirSupply_4 : ∃ (s : State) (t0 n a : Nat),
    n < s.dev.variant.loadSwitches ∧ s.dev.pwr.ifaceReset = false ∧ (s.dev.lswC n).rdlyFrom = some a ∧ a + max 1 (s.dev.fld LSW_CRETRY n 7 0) * 1000000 ≤ t0 ∧ s.dev.lswCmd n = true ∧ s.dev.fld LSW_CSTAT n 31 24 + 1 = s.dev.fld LSW_CRETRY n 15 8 ∧ (s.dev.lswC n).limitHit = false :=
  ⟨onD (withR base [(LSW_CCFG, 2, 0x80070432), (LSW_CCTL, 2, 0x6401), (LSW_CSTAT, 2, 0x01002003), (LSW_CRETRY, 2, 0x0201)]) (fun d => d.setLswC 2 { rdlyFrom := some 3 }), 1000003, 2, 3, by decide +kernel⟩

theorem witness_LoadSwitchesAndTheirSupply_5 : ∃ (s : State) (t0 n a : Nat),
    n < s.dev.variant.loadSwitches ∧ s.dev.pwr.ifaceReset = false ∧ (s.dev.lswC n).onAt = some a ∧ s.dev.lswSt n = 2 ∧ a + 10000000000 ≤ t0 :=
  ⟨onD (withR base [(LSW_CCFG, 2, 0x80070432), (LSW_CCTL, 2, 0x6401), (LSW_CSTAT, 2, 0x05000002), (LSW_CRETRY, 2, 0x0001)]) (fun d => d.setLswC 2 { onAt := some 3 }), 10000000003, 2, 3, by decide +kernel⟩

theorem witness_LoadSwitchesAndTheirSupply_6 : ∃ (s : State) (t0 n ma low : Nat),
    n < s.dev.variant.loadSwitches ∧ s.dev.pwr.ifaceReset = false ∧ s.dev.lswSt n = 2 ∧ ma < s.dev.fld LSW_COL n 31 16 ∧ max 1 (s.dev.fld LSW_COL n 15 8) * 1000000 ≤ low :=
  ⟨withR base [(LSW_CSTAT, 2, 2), (LSW_COL, 2, 0x00050A00)], 5, 2, 4, 10000000, by decide +kernel⟩

theorem witness_LoadSwitchesAndTheirSupply_7 : ∃ (s : State) (t0 n : Nat) (fl pu : List Nat),
    s.dev.variant = .px4840 ∧ n < s.dev.variant.loadSwitches ∧ s.dev.pwr.ifaceReset = false ∧ s.dev.bit LSW_CCFG n 24 = true ∧ s.dev.lswSt n = 0 ∧ 100 ≤ s.dev.fld LSW_CCTL n 14 8 ∧ s.dev.bit LSW_VAUX 0 16 = false ∧ s.dev.bit LSW_CSTAT n 13 = false ∧ (s.dev.lswC n).testAt + 100000000 ≤ t0 :=
  ⟨withR base [(LSW_CCFG, 2, 0x81070432), (LSW_CCTL, 2, 0x6400), (LSW_COL, 2, 0x00050A0A)], 100000000, 2, [1, 200], [100], by decide +kernel, by decide +kernel⟩

theorem witness_LoadSwitchesAndTheirSupply_8 : ∃ (s : State) (t0 q : Nat),
    100000 ≤ q :=
  ⟨withR base [(LSW_CSTAT, 23, 2), (LSW_CSTAT, 0, 0x24), (LSW_ONSUM, 0, 0x800000)], 5, 100000, by decide +kernel⟩

theorem witness_LoadSwitchesAndTheirSupply_9 : ∃ (s : State) (t0 v : Nat),
    720 ≤ v ∨ s.dev.bit LSW_VAUX 0 16 = true :=
  ⟨base, 5, 720, by decide +kernel⟩

theorem witness_LoadSwitchesAndTheirSupply_10 : ∃ (s : State) (t0 v : Nat),
    v ≤ 770 ∨ s.dev.bit LSW_VAUX 0 16 = false :=
  ⟨withR base [(LSW_VAUX, 0, 0x10000)], 5, 770, by decide +kernel⟩

theorem witness_LoadSwitchesAndTheirSupply_11 : ∃ (s : State) (t0 n a : Nat),
    n < s.dev.variant.loadSwitches ∧ s.dev.pwr.ifaceReset = false ∧ (s.dev.lswC n).rdlyFrom = some a ∧ a + max 1 (s.dev.fld LSW_CRETRY n 7 0) * 1000000 ≤ t0 ∧ s.dev.lswCmd n = true :=
  ⟨onD (withR base [(LSW_CCTL, 2, 0x6401), (LSW_CSTAT, 2, 0xFF002003), (LSW_CRETRY, 2, 0x0301)]) (fun d => d.setLswC 2 { rdlyFrom := some 3 }), 1000003, 2, 3, by decide +kernel⟩

theorem witness_LoadSwitchesAndTheirSupply_12 : ∃ (s : State) (t0 n a : Nat),
    n < s.dev.variant.loadSwitches ∧ s.dev.pwr.ifaceReset = false ∧ (s.dev.lswC n).rdlyFrom = some a ∧ a + max 1 (s.dev.fld LSW_CRETRY n 7 0) * 1000000 ≤ t0 ∧ s.dev.lswCmd n = false ∧ s.dev.lswLatched n = false ∧ s.dev.retryBlocks n = false :=
  ⟨onD (withR base [(LSW_CCTL, 2, 0x6400), (LSW_CSTAT, 2, 0x01002003), (LSW_CRETRY, 2, 1)]) (fun d => d.setLswC 2 { rdlyFrom := some 3 }), 1000003, 2, 3, by decide +kernel⟩

theorem witness_LoadSwitchesAndTheirSupply_13 : ∃ (s : State) (t0 n : Nat),
    s.dev.variant.loadSwitches ≤ n ∨ s.dev.pwr.ifaceReset = true ∨ ((s.dev.lswC n).rdlyFrom.map (fun a => decide (t0 < a + max 1 (s.dev.fld LSW_CRETRY n 7 0) * 1000000))).getD true = true :=
  ⟨onD (withR base [(LSW_CCTL, 2, 0x6400), (LSW_CSTAT, 2, 0x01002003), (LSW_CRETRY, 2, 1)]) (fun d => d.setLswC 2 { rdlyFrom := some 3 }), 1000002, 2, by decide +kernel⟩

theorem witness_LoadSwitchesAndTheirSupply_14 : ∃ (s : State) (t0 n : Nat),
    s.dev.variant.loadSwitches ≤ n ∨ s.dev.pwr.ifaceReset = true ∨ s.dev.lswSt n ≠ 2 ∨ ((s.dev.lswC n).onAt.map (fun a => decide (t0 < a + 10000000000))).getD true = true :=
  ⟨onD (withR base [(LSW_CSTAT, 2, 0x05000002)]) (fun d => d.setLswC 2 { onAt := some 3 }), 10000000002, 2, by decide +kernel⟩

theorem witness_LoadSwitchesAndTheirSupply_15 : ∃ (s : State) (t0 n ma low : Nat),
    s.dev.variant.loadSwitches ≤ n ∨ s.dev.pwr.ifaceReset = true ∨ s.dev.lswSt n ≠ 2 ∨ s.dev.fld LSW_COL n 31 16 ≤ ma ∨ low < max 1 (s.dev.fld LSW_COL n 15 8) * 1000000 :=
  ⟨withR base [(LSW_CSTAT, 2, 2), (LSW_COL, 2, 0x00050A00)], 5, 2, 4, 9999999, by decide +kernel⟩

theorem witness_LoadSwitchesAndTheirSupply_16 : ∃ (s : State) (t0 n : Nat) (fl pu : List Nat),
    s.dev.variant ≠ .px4840 ∨ s.dev.variant.loadSwitches ≤ n ∨ s.dev.pwr.ifaceReset = true ∨ s.dev.bit LSW_CCFG n 24 = false ∨ s.dev.lswSt n ≠ 0 ∨ s.dev.fld LSW_CCTL n 14 8 < 100 ∨ s.dev.bit LSW_VAUX 0 16 = true ∨ s.dev.bit LSW_CSTAT n 13 = true ∨ t0 < (s.dev.lswC n).testAt + 100000000 :=
  ⟨withR base [(LSW_CCFG, 2, 0x81070432), (LSW_CCTL, 2, 0x6400), (LSW_COL, 2, 0x00050A0A)], 99999999, 2, [1, 200], [100], by decide +kernel⟩

theorem witness_LoadSwitchesAndTheirSupply_17 : ∃ (s : State) (t0 q : Nat),
    q < 100000 :=
  ⟨base, 5, 99999, by decide +kernel⟩

theorem witness_VehicleLinksAndPilots_1 : ∃ (s : State) (i : Initiator) (v : Word) (n : Nat),
    Passes s i VLK_ATTCTL n ∧ s.dev.greenPhy n = true ∧ bitOf v 0 = true :=
  ⟨withR (selS .core0 0x68 3 base) [(VLK_LCFG, 3, 0x80000002), (VLK_LSTAT, 3, 0xFF10)], .core0, 0x0A01, 3, by decide +kernel⟩

theorem witness_VehicleLinksAndPilots_2 : ∃ (s : State) (t0 n a k g : Nat) (l : List (List (Option Nat))),
    (s.dev.vlk n).att = some (a, k) ∧ s.dev.greenPhy n = true ∧ k ≤ l.length ∧ k < 256 ∧ g < 60 :=
  ⟨onD (withR base [(VLK_LCFG, 3, 0x80000002)]) (fun d => d.setVlk 3 { att := some (5, 2) }), 9, 3, 5, 2, 1, [[none, some 10, some 3], [some 4, some 13], [some 7, some 99]], by decide +kernel⟩

theorem witness_VehicleLinksAndPilots_3 : ∃ (s : State) (i : Initiator) (v : Word) (n a : Nat) (x : Desc),
    Passes s i VLK_KICK n ∧ bitOf v 0 = true ∧ s.dev.vlkRings n = true ∧ (s.dev.vlk n).ring.busy = false ∧ s.sys.take (s.dev.vlkCfg n).txBase (s.dev.vlkCfg n).txLen (s.dev.vlk n).ring.txPos = .own a x :=
  ⟨{ withR base [(VLK_LCFG, 0, 0x80000001), (VLK_TXRING, 0, 0x08000000), (VLK_RINGLEN, 0, 2)] with sys := (withR base [(VLK_LCFG, 0, 0x80000001), (VLK_TXRING, 0, 0x08000000), (VLK_RINGLEN, 0, 2)]).sys.store 0x08000000 [0, 1, 0, 8, 60, 0, 0, 0x80] }, .core0, 1, 0, 0x08000000, ⟨0x08000100, 60, 0x8000⟩, by decide +kernel, by decide +kernel⟩

theorem witness_VehicleLinksAndPilots_4 : ∃ (s : State) (i : Initiator) (v : Word) (n : Nat),
    Passes s i VLK_KICK n ∧ bitOf v 0 = true ∧ s.dev.vlkRings n = true ∧ (s.dev.vlk n).ring.busy = false ∧ s.sys.take (s.dev.vlkCfg n).txBase (s.dev.vlkCfg n).txLen (s.dev.vlk n).ring.txPos = .bad :=
  ⟨withR base [(VLK_LCFG, 0, 0x80000001), (VLK_TXRING, 0, 0x08FFFFF0), (VLK_RINGLEN, 0, 2)], .core0, 1, 0, by decide +kernel, by decide +kernel⟩

theorem witness_VehicleLinksAndPilots_5 : ∃ (s : State) (t0 n stamp a : Nat) (x : Desc),
    s.dev.vlkRings n = true ∧ (s.dev.vlk n).ring.busy = true ∧ s.sys.take (s.dev.vlkCfg n).txBase (s.dev.vlkCfg n).txLen (s.dev.vlk n).ring.txPos = .own a x :=
  ⟨onD { withR base [(VLK_LCFG, 0, 0x80000001), (VLK_TXRING, 0, 0x08000000), (VLK_RINGLEN, 0, 2)] with sys := (withR base [(VLK_LCFG, 0, 0x80000001), (VLK_TXRING, 0, 0x08000000), (VLK_RINGLEN, 0, 2)]).sys.store 0x08000000 [0, 1, 0, 8, 0xEB, 5, 0, 0x80] } (fun d => d.setVlk 0 { ring := { busy := true } }), 7, 0, 0x0102030405, 0x08000000, ⟨0x08000100, 1515, 0x8000⟩, by decide +kernel, by decide +kernel⟩

theorem witness_VehicleLinksAndPilots_6 : ∃ (s : State) (t0 n stamp a : Nat) (x : Desc) (b : List Byte),
    s.dev.bankOff 6 = false ∧ s.dev.vlkRings n = true ∧ (x.addr + x.len ≤ a + 4 ∨ a + 16 ≤ x.addr) ∧ s.sys.take (s.dev.vlkCfg n).rxBase (s.dev.vlkCfg n).rxLen (s.dev.vlk n).ring.rxPos = .own a x :=
  ⟨{ withR base [(VLK_LCFG, 0, 0x80000001), (VLK_RXRING, 0, 0x08000000), (VLK_RINGLEN, 0, 0x10000)] with sys := (withR base [(VLK_LCFG, 0, 0x80000001), (VLK_RXRING, 0, 0x08000000), (VLK_RINGLEN, 0, 0x10000)]).sys.store 0x08000000 [0, 1, 0, 8, 3, 0, 0, 0x80] }, 7, 0, 0x0102030405, 0x08000000, ⟨0x08000100, 3, 0x8000⟩, [9, 8, 7, 6], by decide +kernel⟩

theorem witness_VehicleLinksAndPilots_7 : ∃ (s : State) (t0 n stamp : Nat) (b : List Byte),
    s.dev.bankOff 6 = false ∧ s.dev.vlkOn n = true :=
  ⟨withR base [(VLK_LCFG, 15, 0x80000001), (VLK_ERRCNT, 15, 0xFFFF)], 7, 15, 6, [1], by decide +kernel⟩

theorem witness_VehicleLinksAndPilots_8 : ∃ (s : State) (t0 n : Nat) (hi lo al : List Int),
    s.dev.pilRuns n = true ∧ t0 % 1000000 = 0 ∧ (s.dev.pil n).lastEnd < t0 ∧ hi ≠ [] ∧ lo ≠ [] ∧ inBand (s.dev.rd (PIL_BANDLOW (b2n (s.dev.bit PIL_PCFG n 4))) 0) (rneDiv lo.sum lo.length) = true :=
  ⟨withR base [(PIL_PCFG, 1, 0x80030001)], 5000000, 1, [9000, 8999], [-12000], [], by decide +kernel⟩

theorem witness_VehicleLinksAndPilots_9 : ∃ (s : State) (t0 n : Nat),
    s.dev.pilRuns n = true ∧ 0 < (s.dev.pil n).runLen ∧ max 1 (s.dev.fld PIL_PCFG n 23 16) ≤ (s.dev.pil n).runLen ∧ (s.dev.pil n).cls ≠ s.dev.fld PIL_PSTAT n 2 0 ∧ (s.dev.pil n).cls < 8 ∧ s.dev.level ≠ .standby ∧ s.dev.pwr.standbyEntry = false :=
  ⟨onD (withR base [(PIL_PCFG, 1, 0x80030001)]) (fun d => d.setPil 1 { cls := 2, runLen := 3, runFrom := 0x100000007 }), 5000000, 1, by decide +kernel, by decide +kernel⟩

theorem witness_VehicleLinksAndPilots_10 : ∃ (s : State) (i : Initiator) (v : Word) (n : Nat),
    Passes s i PIL_PCTL n :=
  ⟨base, .core0, 0xFFFFFFFF, 0, by decide +kernel⟩

theorem witness_VehicleLinksAndPilots_11 : ∃ (s : State) (i : Initiator) (v : Word) (n : Nat),
    Passes s i VLK_ATTCTL n ∧ (s.dev.greenPhy n = false ∨ bitOf v 0 = false) :=
  ⟨withR base [(VLK_LCFG, 0, 0x80000001)], .core0, 1, 0, by decide +kernel⟩

theorem witness_VehicleLinksAndPilots_12 : ∃ (s : State) (t0 n a k g : Nat) (l : List (List (Option Nat))),
    (s.dev.vlk n).att = some (a, k) ∧ s.dev.greenPhy n = true ∧ k < 256 ∧ g < 60 ∧ (k ≤ l.length ∨ a + 600000000 ≤ t0) :=
  ⟨onD (withR base [(VLK_LCFG, 3, 0x80000002)]) (fun d => d.setVlk 3 { att := some (5, 200) }), 600000005, 3, 5, 200, 1, [[none, some 10, some 3], [some 4, some 13]], by decide +kernel⟩

theorem witness_VehicleLinksAndPilots_13 : ∃ (s : State) (t0 n : Nat) (l : List (List (Option Nat))),
    s.dev.greenPhy n = false ∨ ((s.dev.vlk n).att.map (fun x => decide (l.length < x.2 ∧ t0 < x.1 + 600000000))).getD true = true :=
  ⟨onD (withR base [(VLK_LCFG, 3, 0x80000002)]) (fun d => d.setVlk 3 { att := some (5, 2) }), 600000004, 3, [[]], by decide +kernel⟩

theorem witness_VehicleLinksAndPilots_14 : ∃ (s : State) (i : Initiator) (v : Word) (n : Nat),
    Passes s i VLK_KICK n ∧ bitOf v 0 = true ∧ s.dev.vlkRings n = true ∧ (s.dev.vlk n).ring.busy = false ∧ s.sys.take (s.dev.vlkCfg n).txBase (s.dev.vlkCfg n).txLen (s.dev.vlk n).ring.txPos = .none :=
  ⟨withR base [(VLK_LCFG, 0, 0x80000001), (VLK_TXRING, 0, 0x08000000), (VLK_RINGLEN, 0, 2)], .core0, 1, 0, by decide +kernel⟩

theorem witness_VehicleLinksAndPilots_15 : ∃ (s : State) (i : Initiator) (v : Word) (n : Nat),
    Passes s i VLK_KICK n ∧ (bitOf v 0 = false ∨ s.dev.vlkRings n = false ∨ (s.dev.vlk n).ring.busy = true) :=
  ⟨base, .core0, 1, 0, by decide +kernel⟩

theorem witness_VehicleLinksAndPilots_16 : ∃ (s : State) (t0 n stamp a : Nat) (x : Desc),
    s.dev.vlkRings n = true ∧ (s.dev.vlk n).ring.busy = true ∧ s.sys.take (s.dev.vlkCfg n).txBase (s.dev.vlkCfg n).txLen (s.dev.vlk n).ring.txPos = .own a x :=
  ⟨onD (memS 0x08000000 [0, 1, 0, 8, 60, 0, 0, 0x80] (withR base [(VLK_LCFG, 0, 0x80000001), (VLK_TXRING, 0, 0x08000000), (VLK_RINGLEN, 0, 2)])) (fun d => d.setVlk 0 { ring := { busy := true } }), 7, 0, 0x0102030405, 0x08000000, ⟨0x08000100, 60, 0x8000⟩, by decide +kernel⟩

theorem witness_VehicleLinksAndPilots_17 : ∃ (s : State) (t0 n stamp : Nat) (ok : Bool),
    s.dev.vlkRings n = false ∨ (s.dev.vlk n).ring.busy = false :=
  ⟨base, 7, 0, 5, true, by decide +kernel⟩

theorem witness_VehicleLinksAndPilots_18 : ∃ (s : State) (t0 n stamp : Nat) (b : List Byte),
    s.dev.bankOff 6 = false ∧ s.dev.vlkOn n = true ∧ (s.dev.vlkRings n = false ∨ s.sys.take (s.dev.vlkCfg n).rxBase (s.dev.vlkCfg n).rxLen (s.dev.vlk n).ring.rxPos = .none) :=
  ⟨withR base [(VLK_LCFG, 0, 0x80000001), (VLK_RXRING, 0, 0x08000000), (VLK_RINGLEN, 0, 0x10000)], 7, 0, 6, [1], by decide +kernel⟩

theorem witness_VehicleLinksAndPilots_19 : ∃ (s : State) (t0 n stamp : Nat) (b : List Byte),
    s.dev.bankOff 6 = false ∧ s.dev.vlkRings n = true ∧ s.sys.take (s.dev.vlkCfg n).rxBase (s.dev.vlkCfg n).rxLen (s.dev.vlk n).ring.rxPos = .bad :=
  ⟨withR base [(VLK_LCFG, 0, 0x80000001), (VLK_RXRING, 0, 0x09000000), (VLK_RINGLEN, 0, 0x10000)], 7, 0, 6, [1], by decide +kernel⟩

theorem witness_VehicleLinksAndPilots_20 : ∃ (s : State) (t0 n stamp : Nat) (ok : Bool) (b : List Byte),
    s.dev.bankOff 6 = true ∨ s.dev.vlkOn n = false :=
  ⟨onD base (fun d => { d with pwr := { d.pwr with vioLow := 64 } }), 7, 0, 6, true, [1], by decide +kernel⟩

theorem witness_VehicleLinksAndPilots_21 : ∃ (s : State) (t0 n : Nat) (rise fall : Bool) (hi lo al : List Int) (per : Option (Nat × Nat)),
    s.dev.pilRuns n = true ∧ t0 % 1000000 = 0 ∧ (s.dev.pil n).lastEnd < t0 ∧ (rise && fall) = false ∧ al ≠ [] :=
  ⟨onD (withR base [(PIL_PCFG, 1, 0x80030001)]) (fun d => d.setPil 1 { cls := 1, runLen := 3, lastEnd := 4000000 }), 5000000, 1, true, false, [], [], [9000, 8999], none, by decide +kernel⟩

theorem witness_VehicleLinksAndPilots_22 : ∃ (s : State) (t0 n : Nat) (hi lo al : List Int) (per : Option (Nat × Nat)),
    s.dev.pilRuns n = true ∧ t0 % 1000000 = 0 ∧ (s.dev.pil n).lastEnd < t0 ∧ hi ≠ [] ∧ lo ≠ [] ∧ inBand (s.dev.rd (PIL_BANDLOW (b2n (s.dev.bit PIL_PCFG n 4))) 0) (rneDiv lo.sum lo.length) = false :=
  ⟨withR base [(PIL_PCFG, 1, 0x80030001)], 5000000, 1, [9000, 8999], [0], [], none, by decide +kernel⟩

theorem witness_VehicleLinksAndPilots_23 : ∃ (s : State) (t0 n p h : Nat) (hi lo al : List Int),
    s.dev.pilRuns n = true ∧ t0 % 1000000 = 0 ∧ (s.dev.pil n).lastEnd < t0 ∧ hi ≠ [] ∧ lo ≠ [] ∧ p ≠ 0 :=
  ⟨withR base [(PIL_PCFG, 1, 0x80030001)], 5000000, 1, 1000000, 533000, [9000, 8999], [-12000], [], by decide +kernel⟩

theorem witness_VehicleLinksAndPilots_24 : ∃ (s : State) (t0 n : Nat) (rise fall : Bool) (hi lo al : List Int) (per : Option (Nat × Nat)),
    s.dev.pilRuns n = true ∧ t0 % 1000000 = 0 ∧ (s.dev.pil n).lastEnd < t0 :=
  ⟨withR base [(PIL_PCFG, 1, 0x80030001)], 5000000, 1, true, true, [], [], [], none, by decide +kernel⟩

theorem witness_VehicleLinksAndPilots_25 : ∃ (s : State) (t0 n : Nat) (rise fall : Bool) (hi lo al : List Int) (per : Option (Nat × Nat)),
    s.dev.pilRuns n = false ∨ t0 % 1000000 ≠ 0 ∨ t0 ≤ (s.dev.pil n).lastEnd :=
  ⟨withR base [(PIL_PCFG, 1, 0x80030001)], 5000001, 1, true, true, [], [], [], none, by decide +kernel⟩

theorem witness_VehicleLinksAndPilots_26 : ∃ (s : State) (t0 n : Nat),
    s.dev.pilRuns n = true ∧ 0 < (s.dev.pil n).runLen ∧ max 1 (s.dev.fld PIL_PCFG n 23 16) ≤ (s.dev.pil n).runLen ∧ (s.dev.pil n).cls ≠ s.dev.fld PIL_PSTAT n 2 0 ∧ (s.dev.pil n).cls < 8 ∧ s.dev.bit PWR_WAKECFG 0 0 = false :=
  ⟨onD (withR base [(PIL_PCFG, 1, 0x80030001), (PWR_WAKECFG, 0, 0), (PWR_LEVEL, 0, 3)]) (fun d => d.setPil 1 { cls := 2, runLen := 3, runFrom := 0x100000007 }), 5000000, 1, by decide +kernel⟩

theorem witness_VehicleLinksAndPilots_27 : ∃ (s : State) (t0 n : Nat),
    s.dev.pilRuns n = true ∧ 0 < (s.dev.pil n).runLen ∧ max 1 (s.dev.fld PIL_PCFG n 23 16) ≤ (s.dev.pil n).runLen ∧ (s.dev.pil n).cls ≠ s.dev.fld PIL_PSTAT n 2 0 ∧ (s.dev.pil n).cls < 8 ∧ s.dev.bit PWR_WAKECFG 0 0 = true ∧ s.dev.level = .standby :=
  ⟨onD (withR base [(PIL_PCFG, 1, 0x80030001), (PWR_WAKECFG, 0, 1), (PWR_LEVEL, 0, 3)]) (fun d => d.setPil 1 { cls := 2, runLen := 3, runFrom := 0x100000007 }), 5000000, 1, by decide +kernel⟩

theorem witness_VehicleLinksAndPilots_28 : ∃ (s : State) (t0 n : Nat),
    s.dev.pilRuns n = false ∨ (s.dev.pil n).runLen < max 1 (s.dev.fld PIL_PCFG n 23 16) ∨ (s.dev.pil n).cls = s.dev.fld PIL_PSTAT n 2 0 :=
  ⟨onD (withR base [(PIL_PCFG, 1, 0x80030001)]) (fun d => d.setPil 1 { cls := 2, runLen := 2, runFrom := 0x100000007 }), 5000000, 1, by decide +kernel⟩

theorem witness_VehicleLinksAndPilots_29 : ∃ (s : State) (i : Initiator) (v : Word) (n : Nat),
    Passes s i PIL_PCTL n ∧ bits v 31 30 ≠ 3 :=
  ⟨base, .core0, 0x40000000, 0, by decide +kernel⟩

theorem witness_CanControllersQueueSendAndReceive_1 : ∃ (s : State) (i : Initiator) (v : Word) (n : Nat),
    Passes s i PBS_TXPUSH n ∧ bitOf v 1 = false ∧ (s.dev.can n).norm.length < 32 :=
  ⟨base, .core0, 0, 0, by decide +kernel⟩

theorem witness_CanControllersQueueSendAndReceive_2 : ∃ (s : State) (i : Initiator) (v : Word) (n : Nat),
    Passes s i PBS_TXPUSH n ∧ bitOf v 0 = false ∧ (s.dev.can n).urg.length < 32 :=
  ⟨base, .core1, 0, 0, by decide +kernel⟩

theorem witness_CanControllersQueueSendAndReceive_3 : ∃ (s : State) (i : Initiator) (v : Word) (n : Nat),
    Passes s i PBS_TXPUSH n ∧ bitOf v 0 = false ∧ 32 ≤ (s.dev.can n).urg.length :=
  ⟨onD base (fun d => d.setCan 0 { urg := List.replicate 32 { frame := { ide := false, id := 1, dlc := 0, data := [] }, pushedAt := 0 } }), .core1, 0, 0, by decide +kernel⟩

theorem witness_CanControllersQueueSendAndReceive_4 : ∃ (s : State) (t0 n start : Nat) (u : Bool) (q : CanQueued),
    s.dev.canOn n = true ∧ s.dev.bit PBS_CCFG n 28 = false ∧ (s.dev.can n).offered start = some (u, q) ∧ s.dev.tec n ≤ 255 :=
  ⟨onD (withR base [(PBS_CCFG, 2, 0x80000000)]) (fun d => d.setCan 2 { urg := [{ frame := { ide := false, id := 1, dlc := 0, data := [] }, pushedAt := 9 }], norm := [{ frame := { ide := false, id := 2, dlc := 0, data := [] }, pushedAt := 3 }] }), 20, 2, 5, false, { frame := { ide := false, id := 2, dlc := 0, data := [] }, pushedAt := 3 }, by decide +kernel⟩

theorem witness_CanControllersQueueSendAndReceive_5 : ∃ (s : State) (i : Initiator) (n : Nat) (b : Bool),
    Passes s i PBS_CCTL n ∧ (s.dev.can n).norm ≠ [] :=
  ⟨onD (withR base [(PBS_CCFG, 0, 0x80000000)]) (fun d => d.setCan 0 { norm := [{ frame := { ide := false, id := 2, dlc := 0, data := [] }, pushedAt := 3 }] }), .core0, 0, true, by decide +kernel⟩

theorem witness_CanControllersQueueSendAndReceive_6 : ∃ (s : State) (i : Initiator) (n : Nat) (b : Bool),
    Passes s i PBS_CCTL n ∧ (s.dev.can n).urg ≠ [] :=
  ⟨onD (withR base [(PBS_CCFG, 0, 0x80000000)]) (fun d => d.setCan 0 { urg := [{ frame := { ide := false, id := 2, dlc := 0, data := [] }, pushedAt := 3 }] }), .core0, 0, true, by decide +kernel⟩

theorem witness_CanControllersQueueSendAndReceive_7 : ∃ (s : State) (i : Initiator) (n : Nat) (b : Bool),
    Passes s i PBS_CCTL n ∧ (s.dev.can n).norm ≠ [] :=
  ⟨onD (withR base [(PBS_CCFG, 0, 0x80000000)]) (fun d => d.setCan 0 { norm := List.replicate 3 { frame := { ide := false, id := 2, dlc := 0, data := [] }, pushedAt := 3 } }), .core0, 0, true, by decide +kernel⟩

theorem witness_CanControllersQueueSendAndReceive_8 : ∃ (s : State) (i : Initiator) (n : Nat) (b : Bool),
    Passes s i PBS_CCTL n ∧ (s.dev.can n).urg ≠ [] :=
  ⟨onD (withR base [(PBS_CCFG, 0, 0x80000000)]) (fun d => d.setCan 0 { urg := List.replicate 3 { frame := { ide := false, id := 2, dlc := 0, data := [] }, pushedAt := 3 } }), .core0, 0, false, by decide +kernel⟩

theorem witness_CanControllersQueueSendAndReceive_9 : ∃ (s : State) (t0 n : Nat),
    n < s.dev.variant.canCtls ∧ s.dev.up .link = true ∧ s.dev.fld PBS_CCFG n 15 0 ≠ 0 ∧ (s.dev.can n).urg ≠ [] ∧ (s.dev.can n).headU + s.dev.fld PBS_CCFG n 15 0 * 100000 ≤ t0 ∧ s.dev.bit PBS_TXSTAT n 17 = false :=
  ⟨onD (withR base [(PBS_CCFG, 0, 0x80000001)]) (fun d => d.setCan 0 { urg := List.replicate 3 { frame := { ide := false, id := 2, dlc := 0, data := [] }, pushedAt := 3 } }), 100000, 0, by decide +kernel⟩

theorem witness_CanControllersQueueSendAndReceive_10 : ∃ (s : State) (i : Initiator) (n : Nat),
    Passes s i PBS_CCTL n ∧ s.dev.canMode n = 2 ∧ (s.dev.can n).recover = none :=
  ⟨withR base [(PBS_CSTAT, 0, 2)], .core0, 0, by decide +kernel⟩

theorem witness_CanControllersQueueSendAndReceive_11 : ∃ (s : State) (i : Initiator) (n : Nat),
    Passes s i PBS_CCTL n ∧ s.dev.canMode n ≠ 2 ∧ s.dev.bit (BLK_ERR 0x6E) 0 31 = false :=
  ⟨base, .core0, 0, by decide +kernel⟩

theorem witness_CanControllersQueueSendAndReceive_12 : ∃ (s : State) (t0 n a : Nat),
    n < s.dev.variant.canCtls ∧ s.dev.up .link = true ∧ s.dev.canMode n = 2 ∧ (s.dev.can n).recover = some a ∧ a * 2 + 128 * 11 * s.dev.canBit n * 25 ≤ t0 * 2 :=
  ⟨onD (withR base [(PBS_CSTAT, 0, 0xFF8802), (PBS_BOSUM, 0, 1)]) (fun d => d.setCan 0 { recover := some 0 }), 2816000, 0, 0, by decide +kernel⟩

theorem witness_CanControllersQueueSendAndReceive_13 : ∃ (s : State) (t0 n k stamp : Nat) (f : CanFrame),
    s.dev.bankOff 2 = false ∧ s.dev.canOn n = true ∧ s.dev.recCnt n ≤ 127 ∧ s.dev.tec n ≤ 255 ∧ f.remote = false ∧ (List.range 64).find? (fun k => s.dev.objMatches n k f) = some k :=
  ⟨withR base [(PBS_CCFG, 3, 0x80000000), (PBS_CSTAT, 3, 0x500), (PBS_ROFILT 17, 3, 0xA0000123), (PBS_ROMASK 17, 3, 0x7FF), (PBS_ROSTAT 1, 13, 1)], 7, 3, 17, 5, { ide := false, id := 0x123, dlc := 2, data := [1, 2] }, by decide +kernel⟩

theorem witness_CanControllersQueueSendAndReceive_14 : ∃ (s : State) (t0 n stamp : Nat) (f : CanFrame),
    s.dev.bankOff 2 = false ∧ s.dev.canOn n = true ∧ s.dev.recCnt n ≤ 127 ∧ s.dev.tec n ≤ 255 ∧ (f.remote = true ∨ (List.range 64).find? (fun k => s.dev.objMatches n k f) = none) :=
  ⟨withR base [(PBS_CCFG, 3, 0x80000000)], 7, 3, 5, { ide := false, id := 0x123, dlc := 2, data := [1, 2] }, by decide +kernel⟩

theorem witness_CanControllersQueueSendAndReceive_15 : ∃ (s : State) (t0 n : Nat) (dom : Bool),
    s.dev.canOn n = true ∧ s.dev.tec n ≤ 255 ∧ s.dev.recCnt n + 8 ≤ 255 :=
  ⟨withR base [(PBS_CCFG, 3, 0x80000000), (PBS_CSTAT, 3, 0x7F00)], 7, 3, false, by decide +kernel⟩

theorem witness_CanControllersQueueSendAndReceive_16 : ∃ (s : State) (t0 n start : Nat) (u : Bool) (q : CanQueued),
    s.dev.canOn n = true ∧ s.dev.bit PBS_CCFG n 28 = false ∧ (s.dev.can n).offered start = some (u, q) ∧ s.dev.tec n + 8 ≤ 255 :=
  ⟨onD (withR base [(PBS_CCFG, 2, 0x80000000), (PBS_CSTAT, 2, 0x780000)]) (fun d => d.setCan 2 { norm := [{ frame := { ide := false, id := 2, dlc := 0, data := [] }, pushedAt := 3 }], dropN := true }), 20, 2, 5, false, { frame := { ide := false, id := 2, dlc := 0, data := [] }, pushedAt := 3 }, by decide +kernel⟩

theorem witness_CanControllersQueueSendAndReceive_17 : ∃ (s : State) (t0 n start : Nat) (u : Bool) (q : CanQueued),
    s.dev.canOn n = true ∧ s.dev.bit PBS_CCFG n 28 = false ∧ (s.dev.can n).offered start = some (u, q) ∧ s.dev.tec n + 8 ≤ 255 :=
  ⟨onD (withR base [(PBS_CCFG, 2, 0x80000000), (PBS_CSTAT, 2, 0x780000)]) (fun d => d.setCan 2 { norm := [{ frame := { ide := false, id := 2, dlc := 0, data := [] }, pushedAt := 3 }], dropN := true }), 20, 2, 5, false, { frame := { ide := false, id := 2, dlc := 0, data := [] }, pushedAt := 3 }, by decide +kernel⟩

theorem witness_CanControllersQueueSendAndReceive_18 : ∃ (s : State) (t0 n start : Nat) (u : Bool) (q : CanQueued),
    s.dev.canOn n = true ∧ s.dev.bit PBS_CCFG n 28 = false ∧ (s.dev.can n).offered start = some (u, q) ∧ s.dev.tec n + 8 ≤ 255 :=
  ⟨onD (withR base [(PBS_CCFG, 2, 0x80000000), (PBS_CSTAT, 2, 0x780000)]) (fun d => d.setCan 2 { norm := [{ frame := { ide := false, id := 2, dlc := 0, data := [] }, pushedAt := 3 }], dropN := true }), 20, 2, 5, false, { frame := { ide := false, id := 2, dlc := 0, data := [] }, pushedAt := 3 }, by decide +kernel⟩

theorem witness_CanControllersQueueSendAndReceive_19 : ∃ (s : State) (t0 n start : Nat) (u : Bool) (q : CanQueued),
    s.dev.canOn n = true ∧ s.dev.bit PBS_CCFG n 28 = false ∧ (s.dev.can n).offered start = some (u, q) :=
  ⟨onD (withR base [(PBS_CCFG, 2, 0x80000000)]) (fun d => d.setCan 2 { norm := [{ frame := { ide := false, id := 2, dlc := 0, data := [] }, pushedAt := 3 }] }), 20, 2, 5, false, { frame := { ide := false, id := 2, dlc := 0, data := [] }, pushedAt := 3 }, by decide +kernel⟩

theorem witness_CanControllersQueueSendAndReceive_20 : ∃ (s : State) (t0 n start : Nat) (u quiet : Bool) (q : CanQueued),
    s.dev.canOn n = true ∧ s.dev.bit PBS_CCFG n 28 = false ∧ (s.dev.can n).offered start = some (u, q) ∧ s.dev.tec n + 8 ≤ 255 :=
  ⟨onD (withR base [(PBS_CCFG, 2, 0x80000000), (PBS_CSTAT, 2, 0x800001)]) (fun d => d.setCan 2 { norm := [{ frame := { ide := false, id := 2, dlc := 0, data := [] }, pushedAt := 3 }] }), 20, 2, 5, false, true, { frame := { ide := false, id := 2, dlc := 0, data := [] }, pushedAt := 3 }, by decide +kernel⟩

theorem witness_CanControllersQueueSendAndReceive_21 : ∃ (s : State) (t0 n start : Nat) (u : Bool) (q : CanQueued),
    s.dev.canOn n = true ∧ s.dev.bit PBS_CCFG n 28 = false ∧ (s.dev.can n).offered start = some (u, q) ∧ s.dev.tec n + 8 ≤ 255 ∧ kvGet (s.dev.can n).coll (collKey q.frame) 0 < 2 :=
  ⟨onD (withR base [(PBS_CCFG, 2, 0x80000000)]) (fun d => d.setCan 2 { norm := [{ frame := { ide := false, id := 2, dlc := 0, data := [] }, pushedAt := 3 }] }), 20, 2, 5, false, { frame := { ide := false, id := 2, dlc := 0, data := [] }, pushedAt := 3 }, by decide +kernel⟩

theorem witness_CanControllersQueueSendAndReceive_22 : ∃ (s : State) (t0 n start : Nat) (u : Bool) (q : CanQueued),
    s.dev.canOn n = true ∧ s.dev.bit PBS_CCFG n 28 = false ∧ (s.dev.can n).offered start = some (u, q) ∧ s.dev.tec n + 8 ≤ 255 ∧ 2 ≤ kvGet (s.dev.can n).coll (collKey q.frame) 0 :=
  ⟨onD (withR base [(PBS_CCFG, 2, 0x80000000), (PBS_CCFG, 2, 0x80100000)]) (fun d => d.setCan 2 { norm := [{ frame := { ide := false, id := 2, dlc := 0, data := [] }, pushedAt := 3 }], coll := [(2, 2)] }), 20, 2, 5, false, { frame := { ide := false, id := 2, dlc := 0, data := [] }, pushedAt := 3 }, by decide +kernel⟩

theorem witness_CanControllersQueueSendAndReceive_23 : ∃ (s : State) (t0 n start : Nat) (u : Bool) (q : CanQueued),
    s.dev.canOn n = true ∧ s.dev.bit PBS_CCFG n 28 = false ∧ (s.dev.can n).offered start = some (u, q) ∧ 255 < s.dev.tec n + 8 :=
  ⟨onD (withR base [(PBS_CCFG, 2, 0x80000000), (PBS_CCFG, 2, 0x81000000), (PBS_CSTAT, 2, 0xF80001)]) (fun d => d.setCan 2 { norm := [{ frame := { ide := false, id := 2, dlc := 0, data := [] }, pushedAt := 3 }] }), 20, 2, 5, false, { frame := { ide := false, id := 2, dlc := 0, data := [] }, pushedAt := 3 }, by decide +kernel⟩

theorem witness_CanControllersQueueSendAndReceive_24 : ∃ (s : State) (t0 n start : Nat) (how : CanEnd),
    s.dev.canOn n = false ∨ s.dev.bit PBS_CCFG n 28 = true ∨ (s.dev.can n).offered start = none :=
  ⟨onD (withR base [(PBS_CCFG, 2, 0x80000000)]) (fun d => d.setCan 2 { norm := [{ frame := { ide := false, id := 2, dlc := 0, data := [] }, pushedAt := 3 }] }), 20, 2, 2, .success, by decide +kernel⟩

theorem witness_CanControllersQueueSendAndReceive_25 : ∃ (s : State) (i : Initiator) (v : Word) (n : Nat),
    Passes s i PBS_TXPUSH n ∧ bitOf v 1 = false ∧ 32 ≤ (s.dev.can n).norm.length :=
  ⟨onD base (fun d => d.setCan 0 { norm := List.replicate 32 { frame := { ide := false, id := 2, dlc := 0, data := [] }, pushedAt := 3 } }), .core1, 0, 0, by decide +kernel⟩

theorem witness_CanControllersQueueSendAndReceive_26 : ∃ (s : State) (i : Initiator) (v : Word) (n : Nat),
    Passes s i PBS_TXPUSH n ∧ bitOf v 1 = true :=
  ⟨base, .core1, 2, 0, by decide +kernel⟩

theorem witness_CanControllersQueueSendAndReceive_27 : ∃ (s : State) (i : Initiator) (v : Word) (n : Nat),
    Passes s i PBS_TXPUSH n ∧ bitOf v 0 = true :=
  ⟨base, .core1, 1, 0, by decide +kernel⟩

theorem witness_CanControllersQueueSendAndReceive_28 : ∃ (s : State) (i : Initiator) (n : Nat) (b : Bool),
    Passes s i PBS_CCTL n ∧ (s.dev.can n).norm = [] :=
  ⟨base, .core1, 0, true, by decide +kernel⟩

theorem witness_CanControllersQueueSendAndReceive_29 : ∃ (s : State) (i : Initiator) (n : Nat) (b : Bool),
    Passes s i PBS_CCTL n ∧ (s.dev.can n).urg = [] :=
  ⟨base, .core1, 0, true, by decide +kernel⟩

theorem witness_CanControllersQueueSendAndReceive_30 : ∃ (s : State) (i : Initiator) (n : Nat) (b : Bool),
    Passes s i PBS_CCTL n ∧ (s.dev.can n).norm = [] :=
  ⟨base, .core1, 0, true, by decide +kernel⟩

theorem witness_CanControllersQueueSendAndReceive_31 : ∃ (s : State) (i : Initiator) (n : Nat) (b : Bool),
    Passes s i PBS_CCTL n ∧ (s.dev.can n).urg = [] :=
  ⟨base, .core1, 0, true, by decide +kernel⟩

theorem witness_CanControllersQueueSendAndReceive_32 : ∃ (s : State) (t0 n : Nat),
    n < s.dev.variant.canCtls ∧ s.dev.up .link = true ∧ s.dev.fld PBS_CCFG n 15 0 ≠ 0 ∧ (s.dev.can n).norm ≠ [] ∧ (s.dev.can n).headN + s.dev.fld PBS_CCFG n 15 0 * 100000 ≤ t0 ∧ s.dev.bit PBS_TXSTAT n 16 = false :=
  ⟨onD (withR base [(PBS_CCFG, 0, 0x80000001)]) (fun d => d.setCan 0 { norm := [{ frame := { ide := false, id := 2, dlc := 0, data := [] }, pushedAt := 3 }] }), 100000, 0, by decide +kernel⟩

theorem witness_CanControllersQueueSendAndReceive_33 : ∃ (s : State) (t0 n : Nat) (u : Bool),
    s.dev.variant.canCtls ≤ n ∨ s.dev.up .link = false ∨ s.dev.fld PBS_CCFG n 15 0 = 0 ∨ (s.dev.can n).fifo u = [] ∨ t0 < (if u then (s.dev.can n).headU else (s.dev.can n).headN) + s.dev.fld PBS_CCFG n 15 0 * 100000 ∨ s.dev.bit PBS_TXSTAT n (16 + b2n u) = true :=
  ⟨onD (withR base [(PBS_CCFG, 0, 0x80000001)]) (fun d => d.setCan 0 { norm := [{ frame := { ide := false, id := 2, dlc := 0, data := [] }, pushedAt := 3 }] }), 99999, 0, false, by decide +kernel⟩

theorem witness_CanControllersQueueSendAndReceive_34 : ∃ (s : State) (i : Initiator) (n a : Nat),
    Passes s i PBS_CCTL n ∧ s.dev.canMode n = 2 ∧ (s.dev.can n).recover = some a :=
  ⟨onD (withR base [(PBS_CSTAT, 0, 2)]) (fun d => d.setCan 0 { recover := some 1 }), .core0, 0, 1, by decide +kernel⟩

theorem witness_CanControllersQueueSendAndReceive_35 : ∃ (s : State) (i : Initiator) (n : Nat),
    Passes s i PBS_CCTL n ∧ s.dev.canMode n ≠ 2 :=
  ⟨withR base [(BLK_ERR 0x6E, 0, 0x80000000)], .core0, 0, by decide +kernel⟩

theorem witness_CanControllersQueueSendAndReceive_36 : ∃ (s : State) (t0 n : Nat),
    s.dev.variant.canCtls ≤ n ∨ s.dev.up .link = false ∨ s.dev.canMode n ≠ 2 ∨ ((s.dev.can n).recover.map (fun a => decide (t0 * 2 < a * 2 + 128 * 11 * s.dev.canBit n * 25))).getD true = true :=
  ⟨onD (withR base [(PBS_CSTAT, 0, 0xFF8802), (PBS_BOSUM, 0, 1)]) (fun d => d.setCan 0 { recover := some 0 }), 2815999, 0, by decide +kernel⟩

theorem witness_CanControllersQueueSendAndReceive_37 : ∃ (s : State) (t0 n stamp : Nat) (f : CanFrame),
    s.dev.bankOff 2 = true ∨ s.dev.canOn n = false :=
  ⟨onD base (fun d => { d with pwr := { d.pwr with vioLow := 4 } }), 7, 0, 6, { ide := false, id := 2, dlc := 0, data := [] }, by decide +kernel⟩

theorem witness_CanControllersQueueSendAndReceive_38 : ∃ (s : State) (t0 n stamp : Nat) (f : CanFrame),
    s.dev.bankOff 2 = false ∧ s.dev.canOn n = true ∧ 127 < s.dev.recCnt n :=
  ⟨withR base [(PBS_CCFG, 3, 0x80000000), (PBS_CSTAT, 3, 0x8001)], 7, 3, 5, { ide := false, id := 2, dlc := 0, data := [] }, by decide +kernel⟩

theorem witness_CanControllersQueueSendAndReceive_39 : ∃ (s : State) (t0 n : Nat) (dom : Bool),
    s.dev.canOn n = true :=
  ⟨withR base [(PBS_CCFG, 3, 0x80000000), (PBS_CSTAT, 3, 0xFF01)], 7, 3, true, by decide +kernel⟩

theorem witness_CanControllersQueueSendAndReceive_40 : ∃ (s : State) (t0 n : Nat) (dom : Bool),
    s.dev.canOn n = true :=
  ⟨withR base [(PBS_CCFG, 3, 0x80000000), (PBS_CSTAT, 3, 0xFF01)], 7, 3, true, by decide +kernel⟩

theorem witness_CanControllersQueueSendAndReceive_41 : ∃ (s : State) (t0 n : Nat) (dom : Bool),
    s.dev.canOn n = true :=
  ⟨withR base [(PBS_CCFG, 3, 0x80000000), (PBS_CSTAT, 3, 0xFF01)], 7, 3, true, by decide +kernel⟩

theorem witness_CanControllersQueueSendAndReceive_42 : ∃ (s : State) (t0 n : Nat) (dom : Bool),
    s.dev.canOn n = true :=
  ⟨withR base [(PBS_CCFG, 3, 0x80000000), (PBS_CSTAT, 3, 0xFF01)], 7, 3, true, by decide +kernel⟩

theorem witness_CanControllersQueueSendAndReceive_43 : ∃ (s : State) (t0 n : Nat) (kd : CanRxErr) (dom : Bool),
    s.dev.canOn n = false :=
  ⟨base, 7, 3, .crc, true, by decide +kernel⟩

theorem witness_SerialPortsMoveCharacters_1 : ∃ (s : State) (i : Initiator) (v : Word) (n : Nat),
    Passes s i SER_TX n ∧ s.dev.serOn n = true ∧ (s.dev.ser n).tx = [] ∧ (s.dev.ser n).de = false :=
  ⟨withR (selS .core0 0x74 1 base) [(SER_CFG, 1, 0x80000000)], .core0, 0x1AB, 1, by decide +kernel⟩

theorem witness_SerialPortsMoveCharacters_2 : ∃ (s : State) (i : Initiator) (v : Word) (n : Nat),
    Passes s i SER_TX n ∧ s.dev.serOn n = false ∧ (s.dev.ser n).tx.length = 64 :=
  ⟨onD base (fun d => d.setSer 0 { tx := List.replicate 64 7 }), .core0, 0x1AB, 0, by decide +kernel⟩

theorem witness_SerialPortsMoveCharacters_3 : ∃ (s : State) (t0 n : Nat),
    s.dev.serOn n = true ∧ (s.dev.ser n).tx = [] ∧ (s.dev.ser n).de = true ∧ (s.dev.ser n).txAt + s.dev.serBits n (s.dev.fld SER_DE n 7 0) ≤ t0 :=
  ⟨onD (withR base [(SER_CFG, 1, 0x80000000)]) (fun d => d.setSer 1 { de := true, txAt := 5 }), 104171, 1, by decide +kernel⟩

theorem witness_SerialPortsMoveCharacters_4 : ∃ (s : State) (t0 n : Nat) (c : Byte) (p f b : Bool),
    s.dev.bankOff 2 = false ∧ s.dev.serOn n = true ∧ (s.dev.ser n).de = false ∧ (s.dev.ser n).rx.length < 64 :=
  ⟨onD (withR base [(SER_CFG, 1, 0x80000100)]) (fun d => d.setSer 1 { rx := List.replicate 63 1 }), 7, 1, 0xFF, true, false, true, by decide +kernel⟩

theorem witness_SerialPortsMoveCharacters_5 : ∃ (s : State) (t0 n : Nat) (c : Byte) (p f b : Bool),
    s.dev.bankOff 2 = false ∧ s.dev.serOn n = true ∧ (s.dev.ser n).de = false ∧ (s.dev.ser n).rx.length = 64 :=
  ⟨onD (withR base [(SER_CFG, 1, 0x80000100)]) (fun d => d.setSer 1 { rx := List.replicate 64 1 }), 7, 1, 0xFF, true, false, true, by decide +kernel⟩

theorem witness_SerialPortsMoveCharacters_6 : ∃ (s : State) (i : Initiator) (n : Nat),
    s.dev.reaches i 0x74 = true ∧ s.dev.up .link = true ∧ NothingWaits s ∧ n = s.dev.instOf i 0x74 0x414 ∧ n < s.dev.variant.uarts :=
  ⟨onD base (fun d => d.setSer 0 { rx := [0x8041, 0x8142] }), .core0, 0, by decide +kernel⟩

theorem witness_SerialPortsMoveCharacters_7 : ∃ (s : State) (t0 n a : Nat),
    s.dev.serOn n = true ∧ (s.dev.ser n).de = false ∧ (s.dev.ser n).rxAt = some a ∧ s.dev.fld SER_TMO n 7 0 ≠ 0 ∧ a * 2 + s.dev.serBits n (s.dev.fld SER_TMO n 7 0 * s.dev.serChar n) ≤ t0 * 2 :=
  ⟨onD (withR base [(SER_CFG, 1, 0x80000000)]) (fun d => d.setSer 1 { rxAt := some 0 }), 3645833, 1, 0, by decide +kernel⟩

theorem witness_SerialPortsMoveCharacters_8 : ∃ (s : State) (i : Initiator) (v : Word) (n : Nat),
    Passes s i SER_TX n ∧ s.dev.serOn n = false ∧ (s.dev.ser n).tx.length < 64 :=
  ⟨base, .core0, 0x1AB, 0, by decide +kernel⟩

theorem witness_SerialPortsMoveCharacters_9 : ∃ (s : State) (i : Initiator) (v : Word) (n : Nat),
    Passes s i SER_TX n ∧ s.dev.serOn n = true ∧ (s.dev.ser n).de = true ∧ s.dev.time < (s.dev.ser n).txAt :=
  ⟨onD (withR base [(SER_CFG, 0, 0x80000000)]) (fun d => d.setSer 0 { tx := [5], de := true, txAt := 9 }), .core0, 0x1AB, 0, by decide +kernel⟩

theorem witness_SerialPortsMoveCharacters_10 : ∃ (s : State) (t0 n : Nat),
    s.dev.serOn n = false ∨ (s.dev.ser n).de = false ∨ (s.dev.ser n).tx = [] ∧ t0 < (s.dev.ser n).txAt + s.dev.serBits n (s.dev.fld SER_DE n 7 0) :=
  ⟨onD (withR base [(SER_CFG, 1, 0x80000000)]) (fun d => d.setSer 1 { de := true, txAt := 5 }), 4, 1, by decide +kernel⟩

theorem witness_SerialPortsMoveCharacters_11 : ∃ (s : State) (t0 n : Nat) (c : Byte) (p f b : Bool),
    s.dev.bankOff 2 = false ∧ s.dev.serOn n = true ∧ (s.dev.ser n).de = true ∧ (s.dev.ser n).tx = [] ∧ s.dev.bit SER_CFG n 24 = true ∧ (s.dev.ser n).rx.length < 64 :=
  ⟨onD (withR base [(SER_CFG, 1, 0x81000000)]) (fun d => d.setSer 1 { de := true, txAt := 5 }), 7, 1, 0xFF, true, false, true, by decide +kernel⟩

theorem witness_SerialPortsMoveCharacters_12 : ∃ (s : State) (t0 n : Nat) (c : Byte) (p f b : Bool),
    s.dev.bankOff 2 = true ∨ s.dev.serOn n = false ∨ (s.dev.ser n).de = true ∧ (s.dev.ser n).tx = [] ∧ s.dev.bit SER_CFG n 24 = false :=
  ⟨onD base (fun d => { d with pwr := { d.pwr with vioLow := 4 } }), 7, 1, 0xFF, true, false, true, by decide +kernel⟩

theorem witness_SerialPortsMoveCharacters_13 : ∃ (s : State) (t0 n : Nat),
    (s.dev.ser n).tx = [] ∧ (s.dev.serOn n = false ∨ s.dev.fld SER_TMO n 7 0 = 0 ∨ ((s.dev.ser n).rxAt.map (fun a => decide (t0 * 2 < a * 2 + s.dev.serBits n (s.dev.fld SER_TMO n 7 0 * s.dev.serChar n)))).getD true = true) :=
  ⟨onD (withR base [(SER_CFG, 1, 0x80000000)]) (fun d => d.setSer 1 { rxAt := some 0 }), 3645832, 1, by decide +kernel⟩

theorem witness_PowerLinePollsFollowTheirRounds_1 : ∃ (s : State) (t0 m x : Nat),
    s.dev.plmOn m = true ∧ (s.dev.plm m).inRound = false ∧ (s.dev.plm m).roundAt = none ∧ s.dev.nextSlave m (32 * m) = some x :=
  ⟨withR base [(PLM_MCFG, 1, 0x80000007), (PLM_SCFG, 40, 0x80050001)], 7, 1, 40, by decide +kernel⟩

theorem witness_PowerLinePollsFollowTheirRounds_2 : ∃ (s : State) (t0 m : Nat),
    s.dev.plmOn m = true ∧ (s.dev.plm m).inRound = true ∧ (s.dev.plm m).attempt = none ∧ (s.dev.plm m).freeAt ≤ t0 ∧ s.dev.plcEn (s.dev.plm m).cur = true ∧ (s.dev.plm m).tries = 0 ∧ (s.dev.pls (s.dev.plm m).cur).frame = none :=
  ⟨onD (withR base [(PLM_MCFG, 1, 0x80000007), (PLM_SCFG, 40, 0x80050001)]) (fun d => (d.setPlm 1 { inRound := true, cur := 40 }).setPls 40 { pushed := some [1, 2] }), 7, 1, by decide +kernel⟩

theorem witness_PowerLinePollsFollowTheirRounds_3 : ∃ (s : State) (t0 m : Nat) (a : PlcAttempt) (f : List Byte),
    s.dev.plmOn m = true ∧ (s.dev.plm m).attempt = some a ∧ a.txEnd ≤ t0 ∧ s.dev.plcGood m true f = true ∧ f.length = 16 ∧ leAt f 5 1 = 0 ∧ a.slave / 32 = m ∧ leAt f 0 1 = 2 ∧ leAt f 1 1 = leAt (s.dev.pls a.slave).bytes 1 1 ∧ leAt f 4 1 = leAt (s.dev.pls a.slave).bytes 4 1 ∧ s.dev.plcEn a.slave = true :=
  ⟨onD (withR base [(PLM_MCFG, 1, 0x80000007), (PLM_SCFG, 40, 0x80050001)]) (fun d => (d.setPlm 1 { inRound := true, cur := 40, tries := 1, attempt := some ⟨40, 0, 5⟩ }).setPls 40 { bytes := [1, 5, 7, 0, 0] }), 7, 1, ⟨40, 0, 5⟩, [2, 5, 7, 0, 0, 0, 0, 0, 0, 0, 0, 0] ++ leBytes 4 (crc32 [2, 5, 7, 0, 0, 0, 0, 0, 0, 0, 0, 0]), by decide +kernel, by decide +kernel⟩

theorem witness_PowerLinePollsFollowTheirRounds_4 : ∃ (s : State) (t0 m : Nat) (a : PlcAttempt),
    s.dev.plmOn m = true ∧ (s.dev.plm m).attempt = some a ∧ a.txEnd + 4500000 ≤ t0 ∧ s.dev.plcEn a.slave = true ∧ (s.dev.plm m).tries ≤ s.dev.fld PLM_MSTEP m 11 8 ∧ a.slave / 32 = m :=
  ⟨onD (withR base [(PLM_MCFG, 1, 0x80000007), (PLM_SCFG, 40, 0x80050001)]) (fun d => d.setPlm 1 { inRound := true, cur := 40, tries := 3, attempt := some ⟨40, 0, 5⟩ }), 4500005, 1, ⟨40, 0, 5⟩, by decide +kernel⟩

theorem witness_PowerLinePollsFollowTheirRounds_5 : ∃ (s : State) (t0 x : Nat),
    s.dev.plmOn (x / 32) = true ∧ s.dev.plcEn x = true ∧ s.dev.fld PLM_SSTAT x 3 2 = 1 ∧ (s.dev.pls x).since + clampN (s.dev.fld PLM_MTIM (x / 32) 13 0) 1000 10000 * 1000000 ≤ t0 :=
  ⟨withR base [(PLM_MCFG, 1, 0x80000007), (PLM_SCFG, 40, 0x80050001), (PLM_SSTAT, 40, 4)], 3000000000, 40, by decide +kernel⟩

theorem witness_PowerLinePollsFollowTheirRounds_6 : ∃ (s : State) (i : Initiator) (v : Word) (x : Nat),
    Passes s i PLM_SCTL x ∧ bitOf v 0 = false :=
  ⟨withR base [(PLM_SDL 15, 0, 0x01020304)], .core0, 0x400000, 0, by decide +kernel⟩

theorem witness_PowerLinePollsFollowTheirRounds_7 : ∃ (s : State) (i : Initiator) (v : Word) (x : Nat),
    Passes s i PLM_SCTL x ∧ bitOf v 4 = false :=
  ⟨withR base [(PLM_SCFG, 0, 3), (PLM_SSTAT, 0, 0x020300)], .core0, 0, 0, by decide +kernel⟩

theorem witness_PowerLinePollsFollowTheirRounds_8 : ∃ (s : State) (t0 p : Nat),
    s.dev.bankOff 3 = false ∧ p < 3 ∧ s.dev.variant ≠ .px4812 ∧ s.dev.up .link = true ∧ s.dev.level ≠ .standby ∧ s.dev.bit PLM_ZCCFG 0 p = true ∧ kvGet s.dev.plc.edge p none = none :=
  ⟨withR base [(PLM_ZCDLY 2, 0, 0x10)], 0x100000000, 2, by decide +kernel⟩

theorem witness_PowerLinePollsFollowTheirRounds_9 : ∃ (s : State) (t0 m x r : Nat),
    s.dev.plmOn m = true ∧ (s.dev.plm m).inRound = false ∧ (s.dev.plm m).roundAt = some r ∧ r + clampN (s.dev.fld PLM_MTIM m 26 16) 50 2000 * 1000000 ≤ t0 ∧ s.dev.nextSlave m (32 * m) = some x :=
  ⟨onD (withR base [(PLM_MCFG, 1, 0x80000007), (PLM_SCFG, 40, 0x80050001), (PLM_SCFG, 45, 0x80060001)]) (fun d => { ((d.setPlm 1 { roundAt := some 5 }).setPls 40 {}) with time := 3 }), 2000000005, 1, 40, 5, by decide +kernel⟩

theorem witness_PowerLinePollsFollowTheirRounds_10 : ∃ (s : State) (t0 m : Nat),
    s.dev.plmOn m = true ∧ (s.dev.plm m).inRound = false ∧ s.dev.nextSlave m (32 * m) = none ∧ (∀ r ∈ (s.dev.plm m).roundAt, r + clampN (s.dev.fld PLM_MTIM m 26 16) 50 2000 * 1000000 ≤ t0) :=
  ⟨onD (withR base [(PLM_MCFG, 1, 0x80000007), (PLM_SCFG, 40, 0x80050001), (PLM_SCFG, 45, 0x80060001), (PLM_SCFG, 40, 1), (PLM_SCFG, 45, 1)]) (fun d => { ((d.setPlm 1 { roundAt := some 5 }).setPls 40 {}) with time := 3 }), 2000000005, 1, by decide +kernel⟩

theorem witness_PowerLinePollsFollowTheirRounds_11 : ∃ (s : State) (t0 m : Nat),
    s.dev.plmOn m = false ∨ (s.dev.plm m).inRound = true ∨ ((s.dev.plm m).roundAt.map (fun r => decide (t0 < r + clampN (s.dev.fld PLM_MTIM m 26 16) 50 2000 * 1000000))).getD false = true :=
  ⟨onD (withR base [(PLM_MCFG, 1, 0x80000007), (PLM_SCFG, 40, 0x80050001), (PLM_SCFG, 45, 0x80060001)]) (fun d => { ((d.setPlm 1 { roundAt := some 5 }).setPls 40 {}) with time := 3 }), 50000004, 1, by decide +kernel⟩

theorem witness_PowerLinePollsFollowTheirRounds_12 : ∃ (s : State) (t0 m : Nat) (p : Bool × List Byte),
    s.dev.plmOn m = true ∧ (s.dev.plm m).inRound = true ∧ (s.dev.plm m).attempt = none ∧ (s.dev.plm m).freeAt ≤ t0 ∧ s.dev.plcEn (s.dev.plm m).cur = true ∧ (s.dev.plm m).tries = 0 ∧ (s.dev.pls (s.dev.plm m).cur).frame = some p :=
  ⟨onD (withR base [(PLM_MCFG, 1, 0x80000007), (PLM_SCFG, 40, 0x80050001), (PLM_SCFG, 45, 0x80060001)]) (fun d => { ((d.setPlm 1 { inRound := true, cur := 40 }).setPls 40 { pushed := some [1, 2], frame := some (true, [9]), bytes := [1] }) with time := 3 }), 7, 1, (true, [9]), by decide +kernel⟩

theorem witness_PowerLinePollsFollowTheirRounds_13 : ∃ (s : State) (t0 m : Nat) (p : Bool × List Byte),
    s.dev.plmOn m = true ∧ (s.dev.plm m).inRound = true ∧ (s.dev.plm m).attempt = none ∧ (s.dev.plm m).freeAt ≤ t0 ∧ s.dev.plcEn (s.dev.plm m).cur = true ∧ (s.dev.plm m).tries ≠ 0 ∧ (s.dev.pls (s.dev.plm m).cur).frame = some p :=
  ⟨onD (withR base [(PLM_MCFG, 1, 0x80000007), (PLM_SCFG, 40, 0x80050001), (PLM_SCFG, 45, 0x80060001)]) (fun d => { ((d.setPlm 1 { inRound := true, cur := 40, tries := 1 }).setPls 40 { pushed := some [1, 2], frame := some (true, [9]), bytes := List.replicate 17 1 }) with time := 3 }), 7, 1, (true, [9]), by decide +kernel⟩

theorem witness_PowerLinePollsFollowTheirRounds_14 : ∃ (s : State) (t0 m y : Nat),
    s.dev.plmOn m = true ∧ (s.dev.plm m).inRound = true ∧ (s.dev.plm m).attempt = none ∧ (s.dev.plm m).freeAt ≤ t0 ∧ s.dev.plcEn (s.dev.plm m).cur = false ∧ s.dev.nextSlave m ((s.dev.plm m).cur + 1) = some y ∧ (s.dev.pls y).frame = none :=
  ⟨onD (withR base [(PLM_MCFG, 1, 0x80000007), (PLM_SCFG, 40, 0x80050001), (PLM_SCFG, 45, 0x80060001), (PLM_SCFG, 40, 1)]) (fun d => { ((d.setPlm 1 { inRound := true, cur := 40 }).setPls 40 {}) with time := 3 } |>.setPls 45 { pushed := some [1, 2] }), 7, 1, 45, by decide +kernel⟩

theorem witness_PowerLinePollsFollowTheirRounds_15 : ∃ (s : State) (t0 m : Nat),
    s.dev.plmOn m = true ∧ (s.dev.plm m).inRound = true ∧ (s.dev.plm m).attempt = none ∧ (s.dev.plm m).freeAt ≤ t0 ∧ s.dev.plcEn (s.dev.plm m).cur = false ∧ s.dev.nextSlave m ((s.dev.plm m).cur + 1) = none :=
  ⟨onD (withR base [(PLM_MCFG, 1, 0x80000007), (PLM_SCFG, 40, 0x80050001), (PLM_SCFG, 45, 0x80060001), (PLM_SCFG, 40, 1), (PLM_SCFG, 45, 1)]) (fun d => { ((d.setPlm 1 { inRound := true, cur := 40 }).setPls 40 {}) with time := 3 }), 7, 1, by decide +kernel⟩

theorem witness_PowerLinePollsFollowTheirRounds_16 : ∃ (s : State) (t0 m : Nat),
    s.dev.plmOn m = false ∨ (s.dev.plm m).inRound = false ∨ (s.dev.plm m).attempt.isSome = true ∨ (s.dev.plcEn (s.dev.plm m).cur = true ∧ t0 < (s.dev.plm m).freeAt) :=
  ⟨onD (withR base [(PLM_MCFG, 1, 0x80000007), (PLM_SCFG, 40, 0x80050001), (PLM_SCFG, 45, 0x80060001)]) (fun d => { ((d.setPlm 1 { inRound := true, cur := 40, freeAt := 8 }).setPls 40 {}) with time := 3 }), 7, 1, by decide +kernel⟩

theorem witness_PowerLinePollsFollowTheirRounds_17 : ∃ (s : State) (t0 m : Nat) (a : PlcAttempt) (ok : Bool) (f : List Byte),
    s.dev.plmOn m = true ∧ (s.dev.plm m).attempt = some a ∧ a.txEnd ≤ t0 ∧ a.slave / 32 = m ∧ s.dev.plcGood m ok f = true ∧ leAt f 0 1 = 2 ∧ leAt f 1 1 = leAt (s.dev.pls a.slave).bytes 1 1 ∧ leAt f 4 1 = leAt (s.dev.pls a.slave).bytes 4 1 :=
  ⟨onD (withR base [(PLM_MCFG, 1, 0x80000007), (PLM_SCFG, 40, 0x80050001), (PLM_SCFG, 45, 0x80060001)]) (fun d => { ((d.setPlm 1 { inRound := true, cur := 40, tries := 1, attempt := some ⟨40, 0, 5⟩ }).setPls 40 { bytes := [1, 5, 7, 0, 0], frame := some (true, [9]), phase := 2, run := 3 }) with time := 3 }), 7, 1, ⟨40, 0, 5⟩, true, [2, 5, 7, 0, 0, 3, 5, 0, 52, 18, 0, 0, 1, 2, 3, 4, 5] ++ leBytes 4 (crc32 [2, 5, 7, 0, 0, 3, 5, 0, 52, 18, 0, 0, 1, 2, 3, 4, 5]), by decide +kernel, by decide +kernel⟩

theorem witness_PowerLinePollsFollowTheirRounds_18 : ∃ (s : State) (t0 m : Nat) (a : PlcAttempt) (ok : Bool) (f : List Byte),
    s.dev.plmOn m = true ∧ (s.dev.plm m).attempt = some a ∧ a.txEnd ≤ t0 ∧ a.slave / 32 = m ∧ s.dev.plcGood m ok f = true ∧ leAt f 0 1 = 2 ∧ leAt f 1 1 = leAt (s.dev.pls a.slave).bytes 1 1 ∧ leAt f 4 1 = leAt (s.dev.pls a.slave).bytes 4 1 :=
  ⟨onD (withR base [(PLM_MCFG, 1, 0x80000007), (PLM_SCFG, 40, 0x80050001), (PLM_SCFG, 45, 0x80060001), (PLM_SSTAT, 40, 0xF0002)]) (fun d => { ((d.setPlm 1 { inRound := true, cur := 40, tries := 1, attempt := some ⟨40, 0, 5⟩ }).setPls 40 { bytes := [1, 5, 7, 0, 0], frame := some (true, [9]), phase := 2, run := 3 }) with time := 3 }), 7, 1, ⟨40, 0, 5⟩, true, [2, 5, 7, 0, 0, 0, 0, 0, 0, 0, 0, 0] ++ leBytes 4 (crc32 [2, 5, 7, 0, 0, 0, 0, 0, 0, 0, 0, 0]), by decide +kernel, by decide +kernel⟩

theorem witness_PowerLinePollsFollowTheirRounds_19 : ∃ (s : State) (t0 m : Nat) (a : PlcAttempt) (ok : Bool) (f : List Byte),
    s.dev.plmOn m = true ∧ (s.dev.plm m).attempt = some a ∧ a.txEnd ≤ t0 ∧ a.slave / 32 = m ∧ s.dev.plcEn a.slave = true ∧ (s.dev.plm m).tries ≤ s.dev.fld PLM_MSTEP m 11 8 ∧ (s.dev.plcGood m ok f = false ∨ leAt f 0 1 ≠ 2 ∨ leAt f 1 1 ≠ leAt (s.dev.pls a.slave).bytes 1 1 ∨ leAt f 4 1 ≠ leAt (s.dev.pls a.slave).bytes 4 1) :=
  ⟨onD (withR base [(PLM_MCFG, 1, 0x80000007), (PLM_SCFG, 40, 0x80050001), (PLM_SCFG, 45, 0x80060001)]) (fun d => { ((d.setPlm 1 { inRound := true, cur := 40, tries := 1, attempt := some ⟨40, 0, 5⟩ }).setPls 40 { bytes := [1, 5, 7, 0, 0], frame := some (true, [9]), phase := 2, run := 3 }) with time := 3 }), 7, 1, ⟨40, 0, 5⟩, true, [1, 2], by decide +kernel, by decide +kernel⟩

theorem witness_PowerLinePollsFollowTheirRounds_20 : ∃ (s : State) (t0 m : Nat) (a : PlcAttempt) (ok : Bool) (f : List Byte),
    s.dev.plmOn m = true ∧ (s.dev.plm m).attempt = some a ∧ a.txEnd ≤ t0 ∧ a.slave / 32 = m ∧ s.dev.plcEn a.slave = true ∧ s.dev.fld PLM_MSTEP m 11 8 < (s.dev.plm m).tries ∧ (s.dev.plcGood m ok f = false ∨ leAt f 0 1 ≠ 2 ∨ leAt f 1 1 ≠ leAt (s.dev.pls a.slave).bytes 1 1 ∨ leAt f 4 1 ≠ leAt (s.dev.pls a.slave).bytes 4 1) :=
  ⟨onD (withR base [(PLM_MCFG, 1, 0x80000007), (PLM_SCFG, 40, 0x80050001), (PLM_SCFG, 45, 0x80060001)]) (fun d => { ((d.setPlm 1 { inRound := true, cur := 40, tries := 4, attempt := some ⟨40, 0, 5⟩ }).setPls 40 { bytes := [1, 5, 7, 0, 0], frame := some (true, [9]), phase := 2, run := 3 }) with time := 3 }), 7, 1, ⟨40, 0, 5⟩, true, [1, 2], by decide +kernel, by decide +kernel⟩

theorem witness_PowerLinePollsFollowTheirRounds_21 : ∃ (s : State) (t0 m : Nat) (ok : Bool) (f : List Byte),
    s.dev.plmOn m = false ∨ ((s.dev.plm m).attempt.map (fun a => decide (t0 < a.txEnd))).getD true = true :=
  ⟨onD (withR base [(PLM_MCFG, 1, 0x80000007), (PLM_SCFG, 40, 0x80050001), (PLM_SCFG, 45, 0x80060001)]) (fun d => { ((d.setPlm 1 { inRound := true, cur := 40, tries := 1, attempt := some ⟨40, 0, 5⟩ }).setPls 40 { bytes := [1, 5, 7, 0, 0], frame := some (true, [9]), phase := 2, run := 3 }) with time := 3 }), 4, 1, true, [1, 2], by decide +kernel⟩

theorem witness_PowerLinePollsFollowTheirRounds_22 : ∃ (s : State) (t0 m : Nat) (a : PlcAttempt),
    s.dev.plmOn m = true ∧ (s.dev.plm m).attempt = some a ∧ a.txEnd + 4500000 ≤ t0 ∧ a.slave / 32 = m ∧ s.dev.plcEn a.slave = true ∧ s.dev.fld PLM_MSTEP m 11 8 < (s.dev.plm m).tries :=
  ⟨onD (withR base [(PLM_MCFG, 1, 0x80000007), (PLM_SCFG, 40, 0x80050001), (PLM_SCFG, 45, 0x80060001)]) (fun d => { ((d.setPlm 1 { inRound := true, cur := 40, tries := 4, attempt := some ⟨40, 0, 5⟩ }).setPls 40 { bytes := [1, 5, 7, 0, 0], frame := some (true, [9]), phase := 2, run := 3 }) with time := 3 }), 4500005, 1, ⟨40, 0, 5⟩, by decide +kernel⟩

theorem witness_PowerLinePollsFollowTheirRounds_23 : ∃ (s : State) (t0 m : Nat) (a : PlcAttempt),
    s.dev.plmOn m = true ∧ (s.dev.plm m).attempt = some a ∧ a.txEnd + 4500000 ≤ t0 ∧ a.slave / 32 = m ∧ s.dev.plcEn a.slave = false :=
  ⟨onD (withR base [(PLM_MCFG, 1, 0x80000007), (PLM_SCFG, 40, 0x80050001), (PLM_SCFG, 45, 0x80060001), (PLM_SCFG, 40, 0x50001)]) (fun d => { ((d.setPlm 1 { inRound := true, cur := 40, tries := 1, attempt := some ⟨40, 0, 5⟩ }).setPls 40 { bytes := [1, 5, 7, 0, 0], frame := some (true, [9]), phase := 2, run := 3 }) with time := 3 }), 4500005, 1, ⟨40, 0, 5⟩, by decide +kernel⟩

theorem witness_PowerLinePollsFollowTheirRounds_24 : ∃ (s : State) (t0 m : Nat) (a : PlcAttempt),
    s.dev.plmOn m = true ∧ (s.dev.plm m).attempt = some a ∧ a.txEnd + 4500000 ≤ t0 ∧ a.slave / 32 = m :=
  ⟨onD (withR base [(PLM_MCFG, 1, 0x80000007), (PLM_SCFG, 40, 0x80050001), (PLM_SCFG, 45, 0x80060001), (PLM_SSTAT, 40, 0x101)]) (fun d => { ((d.setPlm 1 { inRound := true, cur := 40, tries := 1, attempt := some ⟨40, 0, 5⟩ }).setPls 40 { bytes := [1, 5, 7, 0, 0], frame := some (true, [9]), phase := 2, run := 3 }) with time := 3 }), 4500005, 1, ⟨40, 0, 5⟩, by decide +kernel⟩

theorem witness_PowerLinePollsFollowTheirRounds_25 : ∃ (s : State) (t0 m : Nat),
    s.dev.plmOn m = false ∨ ((s.dev.plm m).attempt.map (fun a => decide (t0 < a.txEnd + 4500000))).getD true = true :=
  ⟨onD (withR base [(PLM_MCFG, 1, 0x80000007), (PLM_SCFG, 40, 0x80050001), (PLM_SCFG, 45, 0x80060001)]) (fun d => { ((d.setPlm 1 { inRound := true, cur := 40, tries := 1, attempt := some ⟨40, 0, 5⟩ }).setPls 40 { bytes := [1, 5, 7, 0, 0], frame := some (true, [9]), phase := 2, run := 3 }) with time := 3 }), 4500004, 1, by decide +kernel⟩

theorem witness_PowerLinePollsFollowTheirRounds_26 : ∃ (s : State) (t0 m r : Nat) (a : PlcAttempt),
    s.dev.plmOn m = true ∧ (s.dev.plm m).attempt = some a ∧ a.txEnd + 4500000 ≤ t0 ∧ a.slave / 32 = m ∧ (s.dev.plm m).roundAt = some r ∧ r + clampN (s.dev.fld PLM_MTIM m 26 16) 50 2000 * 1000000 < max s.dev.time t0 ∧ (s.dev.plm m).late = false :=
  ⟨onD (withR base [(PLM_MCFG, 1, 0x80000007), (PLM_SCFG, 40, 0x80050001), (PLM_SCFG, 45, 0x80060001)]) (fun d => { ((d.setPlm 1 { roundAt := some 0, inRound := true, cur := 40, tries := 1, attempt := some ⟨40, 0, 5⟩ }).setPls 40 { bytes := [1, 5, 7, 0, 0], frame := some (true, [9]), phase := 2, run := 3 }) with time := 3 }), 500000001, 1, 0, ⟨40, 0, 5⟩, by decide +kernel⟩

theorem witness_PowerLinePollsFollowTheirRounds_27 : ∃ (s : State) (t0 x : Nat),
    s.dev.plmOn (x / 32) = false ∨ s.dev.plcEn x = false ∨ s.dev.fld PLM_SSTAT x 3 2 ≠ 1 ∨ t0 < (s.dev.pls x).since + clampN (s.dev.fld PLM_MTIM (x / 32) 13 0) 1000 10000 * 1000000 :=
  ⟨onD (withR base [(PLM_MCFG, 1, 0x80000007), (PLM_SCFG, 40, 0x80050001), (PLM_SCFG, 45, 0x80060001), (PLM_SSTAT, 40, 4)]) (fun d => { ((d.setPlm 1 {}).setPls 40 {}) with time := 3 }), 2999999999, 40, by decide +kernel⟩

theorem witness_PowerLinePollsFollowTheirRounds_28 : ∃ (s : State) (i : Initiator) (v : Word) (x : Nat),
    Passes s i PLM_SCTL x ∧ bitOf v 0 = true ∧ s.dev.cool = false :=
  ⟨withR base [(PLM_SDL 15, 0, 0x01020304)], .core0, 0x400001, 0, by decide +kernel⟩

theorem witness_PowerLinePollsFollowTheirRounds_29 : ∃ (s : State) (i : Initiator) (v : Word) (x : Nat),
    Passes s i PLM_SCTL x ∧ bitOf v 0 = true ∧ s.dev.cool = true :=
  ⟨withR base [(PLM_SDL 15, 0, 0x01020304), (PWR_PROFILE, 0, 2)], .core0, 0x400001, 0, by decide +kernel⟩

theorem witness_PowerLinePollsFollowTheirRounds_30 : ∃ (s : State) (i : Initiator) (v : Word) (x : Nat),
    Passes s i PLM_SCTL x ∧ 64 < bits v 22 16 :=
  ⟨base, .core0, 0x410000, 0, by decide +kernel⟩

theorem witness_PowerLinePollsFollowTheirRounds_31 : ∃ (s : State) (i : Initiator) (v : Word) (x : Nat),
    Passes s i PLM_SCTL x ∧ bitOf v 4 = true :=
  ⟨withR base [(PLM_SDL 15, 0, 0x01020304)], .core0, 0x400010, 0, by decide +kernel⟩

theorem witness_PowerLinePollsFollowTheirRounds_32 : ∃ (s : State) (t0 p e : Nat),
    s.dev.bankOff 3 = false ∧ p < 3 ∧ s.dev.variant ≠ .px4812 ∧ s.dev.up .link = true ∧ s.dev.level ≠ .standby ∧ s.dev.bit PLM_ZCCFG 0 p = true ∧ kvGet s.dev.plc.edge p none = some e ∧ e + 5000000 ≤ t0 - s.dev.fld (PLM_ZCDLY p) 0 15 0 * 1000 :=
  ⟨onD (withR base [(PLM_ZCDLY 0, 0, 0x10)]) (fun d => { d with plc := { d.plc with edge := [(0, some 5)] } }), 0x100000000, 0, 5, by decide +kernel⟩

theorem witness_PowerLinePollsFollowTheirRounds_33 : ∃ (s : State) (t0 p : Nat),
    s.dev.bankOff 3 = true ∨ 3 ≤ p ∨ s.dev.variant = .px4812 ∨ s.dev.up .link = false ∨ s.dev.level = .standby ∨ s.dev.bit PLM_ZCCFG 0 p = false ∨ ((kvGet s.dev.plc.edge p none).map (fun e => decide (t0 - s.dev.fld (PLM_ZCDLY p) 0 15 0 * 1000 < e + 5000000))).getD false = true :=
  ⟨onD base (fun d => { d with pwr := { d.pwr with vioLow := 8 } }), 7, 1, by decide +kernel⟩

theorem witness_InterruptsTimersAndTheTimebase_1 : ∃ (s : State) (i : Initiator) (c k : Nat),
    s.dev.reaches i 0x19 = true ∧ s.dev.up .compute = true ∧ s.dev.holdsWrite i 0x19 = false ∧ k = s.dev.bestSource (c % 8) ∧ k ≠ 0 :=
  ⟨withR base [(PIC_PRIO 17, 0, 0x550), (PIC_EN 4, 2, 0x600), (BLK_EVF 0x09, 0, 3)], .core1, 2, 137, by decide +kernel⟩

theorem witness_InterruptsTimersAndTheTimebase_2 : ∃ (s : State) (i : Initiator) (c : Nat),
    s.dev.reaches i 0x19 = true ∧ s.dev.up .compute = true ∧ s.dev.holdsWrite i 0x19 = false ∧ s.dev.bestSource (c % 8) = 0 :=
  ⟨base, .core1, 7, by decide +kernel⟩

theorem witness_InterruptsTimersAndTheTimebase_3 : ∃ (s : State) (i : Initiator) (c m : Nat) (v : Word),
    Passes s i (PIC_CLAIM (c % 8)) m :=
  ⟨onD (withR base [(PIC_EN 4, 2, 0x200)]) (fun d => { d with cmp := { d.cmp with claimed := 2 ^ 137 + 1 } }), .core1, 2, 0, 137, by decide +kernel⟩

theorem witness_InterruptsTimersAndTheTimebase_5 : ∃ (s : State) (i : Option Initiator) (a : Nat),
    s.dev.up .compute = true :=
  ⟨withR base [(PIC_ECCCNT, 0, 0xFFFFFFFF)], none, 0x08000000, by decide +kernel⟩

theorem witness_InterruptsTimersAndTheTimebase_6 : ∃ (s : State) (i : Initiator) (a : Nat),
    s.dev.up .compute = true :=
  ⟨base, .core3, 0x08123456, by decide +kernel⟩

theorem witness_InterruptsTimersAndTheTimebase_7 : ∃ (s : State) (i : Initiator) (v : Word) (m : Nat),
    Passes s i TMB_RATE m ∧ s.dev.following = false :=
  ⟨onD base (·.at 5), .core0, 0xFFFFFFFF, 0, by decide +kernel⟩

theorem witness_InterruptsTimersAndTheTimebase_8 : ∃ (s : State) (i : Initiator) (v : Word) (m : Nat),
    Passes s i TMB_RATE m ∧ s.dev.following = true :=
  ⟨withR base [(TMB_STAT, 0, 0x10)], .core0, 5, 0, by decide +kernel⟩

theorem witness_InterruptsTimersAndTheTimebase_9 : ∃ (s : State) (i : Initiator) (v : Word) (m : Nat),
    Passes s i TMB_OFFSHI m ∧ s.dev.following = false :=
  ⟨withR base [(TMB_OFFSLO, 0, 0xFFFFFFFE)], .core0, 0xFFFFFFFF, 0, by decide +kernel⟩

theorem witness_InterruptsTimersAndTheTimebase_10 : ∃ (s : State) (t0 : Nat),
    s.dev.fld TMB_STAT 0 1 0 = 1 ∧ s.dev.tmb.disciplined + max 1 (s.dev.fld TMB_HOLD 0 15 0) * 1000000 ≤ t0 :=
  ⟨withR base [(TMB_STAT, 0, 1), (TMB_HOLD, 0, 0)], 1000000, by decide +kernel⟩

theorem witness_InterruptsTimersAndTheTimebase_11 : ∃ (s : State) (i : Initiator) (a m : Nat) (v : Word),
    a < 4 ∧ Passes s i (TMB_ALMHI a) m :=
  ⟨onD (withR base [(TMB_ALMLO 3, 0, 7)]) (·.at 0x100000007), .core0, 3, 0, 1, by decide +kernel⟩

theorem witness_InterruptsTimersAndTheTimebase_12 : ∃ (s : State) (t0 a : Nat),
    a < 4 ∧ s.dev.tmb.armed.testBit a = true ∧ s.dev.alarmAt a ≤ t0 :=
  ⟨onD (withR base [(TMB_ALMLO 2, 0, 7)]) (fun d => { d with tmb := { d.tmb with armed := 5 } }), 7, 2, by decide +kernel⟩

theorem witness_InterruptsTimersAndTheTimebase_13 : ∃ (s : State) (i : Initiator) (c : Nat),
    s.dev.reaches i 0x19 = true ∧ s.dev.holdsWrite i 0x19 = true :=
  ⟨onD base (fun d => { d with txn := { d.txn with held := [{ init := .core1, page := 0x19, off := 0x40, inst := 0, val := 1, behind := false }] } }), .core1, 9, by decide +kernel⟩

theorem witness_InterruptsTimersAndTheTimebase_14 : ∃ (s : State) (i : Initiator) (c : Nat),
    s.dev.reaches i 0x19 = true ∧ s.dev.up .compute = false ∧ s.dev.holdsWrite i 0x19 = false :=
  ⟨withR base [(RST_ISLSTAT, 0, 0x100)], .core1, 9, by decide +kernel⟩

theorem witness_InterruptsTimersAndTheTimebase_15 : ∃ (s : State) (i : Initiator) (c : Nat),
    s.dev.reaches i 0x19 = false :=
  ⟨base, .debug, 9, by decide +kernel⟩

theorem witness_InterruptsTimersAndTheTimebase_16 : ∃ (s : State) (i : Initiator) (a : Nat),
    s.dev.up .compute = true :=
  ⟨memS 0x08000000 [1, 2, 3, 4] base, .core3, 0x08000002, by decide +kernel⟩

theorem witness_InterruptsTimersAndTheTimebase_17 : ∃ (s : State) (a : Nat),
    s.dev.up .compute = true :=
  ⟨base, 0x08000002, by decide +kernel⟩

theorem witness_InterruptsTimersAndTheTimebase_18 : ∃ (s : State) (i : Option Initiator) (a : Nat) (e : MemErr),
    s.dev.up .compute = false :=
  ⟨withR base [(RST_ISLSTAT, 0, 0x100)], some .core1, 9, .corrected, by decide +kernel⟩

theorem witness_InterruptsTimersAndTheTimebase_19 : ∃ (s : State) (t0 : Nat),
    s.dev.fld TMB_STAT 0 1 0 ≠ 1 ∨ t0 < s.dev.tmb.disciplined + max 1 (s.dev.fld TMB_HOLD 0 15 0) * 1000000 :=
  ⟨withR base [(TMB_STAT, 0, 1), (TMB_HOLD, 0, 0)], 999999, by decide +kernel⟩

theorem witness_InterruptsTimersAndTheTimebase_21 : ∃ (s : State) (t0 a : Nat),
    4 ≤ a ∨ s.dev.tmb.armed.testBit a = false ∨ max s.dev.time t0 < s.dev.alarmAt a :=
  ⟨onD (withR base [(TMB_ALMLO 2, 0, 7)]) (fun d => { d with tmb := { d.tmb with armed := 4 } }), 6, 2, by decide +kernel⟩

theorem witness_CryptoJobsGiveTheirResults_1 : ∃ (s : State) (t0 : Nat) (j : Job),
    (JobReady s 0x1A j ∧ (j.op = 1 ∨ j.op = 2 ∨ j.op = 3) ∧ (if j.op = 1 then 32 else if j.op = 2 then 48 else 64) ≤ j.outCap) :=
  ⟨memS 0x08001000 [97, 98, 99] (jobS 0x1A 2 3 48 0 0 base), 7, jobOf 2 3 48 0 0, by decide +kernel⟩

theorem witness_CryptoJobsGiveTheirResults_2 : ∃ (s : State) (t0 : Nat) (j : Job),
    JobReady s 0x1A j ∧ (j.op = 1 ∨ j.op = 2 ∨ j.op = 3) ∧ j.outCap < (if j.op = 1 then 32 else if j.op = 2 then 48 else 64) :=
  ⟨jobS 0x1A 1 3 31 0 0 base, 7, jobOf 1 3 31 0 0, by decide +kernel⟩

theorem witness_CryptoJobsGiveTheirResults_3 : ∃ (s : State) (t0 : Nat) (j : Job),
    JobReady s 0x1A j ∧ j.op = 1 :=
  ⟨jobS 0x1A 1 3 32 0 0 base, 7, jobOf 1 3 32 0 0, by decide +kernel⟩

theorem witness_CryptoJobsGiveTheirResults_4 : ∃ (s : State) (t0 : Nat) (j : Job) (sh : Bool) (k : List Byte),
    JobReady s 0x1A j ∧ j.op = 0x10 ∧ 12 ≤ j.auxLen ∧ j.inLen + 16 ≤ j.outCap ∧ s.sys.jobKey j (if sh then 16 else 32) = .ok k :=
  ⟨memS 0x08001000 [97, 98, 99] (jobS 0x1A 0x10 3 19 13 0x08003000 base), 7, jobOf 0x10 3 19 13 0x08003000, true, List.replicate 16 0, by decide +kernel⟩

theorem witness_CryptoJobsGiveTheirResults_5 : ∃ (s : State) (t0 : Nat) (j : Job) (sh : Bool) (k : List Byte),
    JobReady s 0x1A j ∧ j.op = 0x11 ∧ 12 ≤ j.auxLen ∧ 16 ≤ j.inLen ∧ j.inLen ≤ j.outCap + 16 ∧ s.sys.jobKey j (if sh then 16 else 32) = .ok k :=
  ⟨memS 0x08001000 [97, 98, 99] (jobS 0x1A 0x11 20 4 13 0x08003000 base), 7, jobOf 0x11 20 4 13 0x08003000, false, List.replicate 32 0, by decide +kernel⟩

theorem witness_CryptoJobsGiveTheirResults_6 : ∃ (s : State) (t0 : Nat) (j : Job) (k : List Byte),
    (JobReady s 0x1A j ∧ (j.op = 0x20 ∨ j.op = 0x22) ∧ j.inLen = (opCurve j.op).len ∧ 2 * (opCurve j.op).len ≤ j.outCap) ∧ s.sys.jobKey j (opCurve j.op).len = .ok k ∧ (opCurve j.op).scalarOk k = true :=
  ⟨memS 0x08003000 [1, 2] (jobS 0x1A 0x20 32 64 0 0x08003000 base), 7, jobOf 0x20 32 64 0 0x08003000, [1, 2] ++ List.replicate 30 0, by decide +kernel, by decide +kernel⟩

theorem witness_CryptoJobsGiveTheirResults_7 : ∃ (s : State) (t0 : Nat) (j : Job) (k : List Byte),
    (JobReady s 0x1A j ∧ (j.op = 0x21 ∨ j.op = 0x23) ∧ j.inLen = (opCurve j.op).len ∧ j.auxLen = 2 * (opCurve j.op).len ∧ s.sys.jobKey j (2 * (opCurve j.op).len) = .ok k) :=
  ⟨jobS 0x1A 0x23 48 0 96 0x08003000 base, 7, jobOf 0x23 48 0 96 0x08003000, List.replicate 96 0, by decide +kernel⟩

theorem witness_CryptoJobsGiveTheirResults_8 : ∃ (s : State) (t0 : Nat) (j : Job) (k : List Byte),
    JobReady s 0x1A j ∧ j.op = 0x30 ∧ 114 ≤ j.outCap ∧ s.sys.jobKey j 57 = .ok k :=
  ⟨jobS 0x1A 0x30 0 114 0 0x08003000 base, 7, jobOf 0x30 0 114 0 0x08003000, List.replicate 57 0, by decide +kernel⟩

theorem witness_CryptoJobsGiveTheirResults_9 : ∃ (s : State) (t0 : Nat) (j : Job) (k : List Byte),
    JobReady s 0x1A j ∧ j.op = 0x31 ∧ j.auxLen = 114 ∧ s.sys.jobKey j 57 = .ok k :=
  ⟨jobS 0x1A 0x31 0 0 114 0x08003000 base, 7, jobOf 0x31 0 0 114 0x08003000, List.replicate 57 0, by decide +kernel⟩

theorem witness_CryptoJobsGiveTheirResults_10 : ∃ (s : State) (t0 : Nat) (j : Job) (k : List Byte),
    (JobReady s 0x1A j ∧ (j.op = 0x40 ∨ j.op = 0x41) ∧ j.auxLen = 2 * (opCurve j.op).len ∧ (opCurve j.op).len ≤ j.outCap) ∧ s.sys.jobKey j (opCurve j.op).len = .ok k ∧ (opCurve j.op).scalarOk k = true :=
  ⟨memS 0x08003000 [1] (jobS 0x1A 0x40 0 32 64 0x08003000 base), 7, jobOf 0x40 0 32 64 0x08003000, [1] ++ List.replicate 31 0, by decide +kernel, by decide +kernel⟩

theorem witness_CryptoJobsGiveTheirResults_11 : ∃ (s : State) (t0 : Nat) (j : Job),
    (JobReady s 0x1A j ∧ (j.op = 0x42 ∨ j.op = 0x43) ∧ 3 * (opCurve j.op).len ≤ j.outCap) :=
  ⟨jobS 0x1A 0x42 0 96 0 0 base, 7, jobOf 0x42 0 96 0 0, by decide +kernel⟩

theorem witness_CryptoJobsGiveTheirResults_12 : ∃ (s : State) (t0 : Nat) (j : Job),
    JobReady s 0x1A j ∧ j.op = 0x50 :=
  ⟨jobS 0x1A 0x50 0 10 0 0 base, 7, jobOf 0x50 0 10 0 0, by decide +kernel⟩

theorem witness_CryptoJobsGiveTheirResults_13 : ∃ (s : State) (t0 : Nat) (j : Job),
    JobReady s 0x1A j ∧ j.op = 0x50 :=
  ⟨jobS 0x1A 0x50 0 10 0 0 base, 7, jobOf 0x50 0 10 0 0, by decide +kernel⟩

theorem witness_CryptoJobsGiveTheirResults_14 : ∃ (s : State) (t0 m : Nat),
    s.dev.up .compute = true ∧ s.dev.engHas 0x1A = true ∧ inSram (s.dev.jobAddr 0x1A) 32 = true ∧ (s.dev.eng 0x1A).result = some (1, m) ∧ m ≠ 0 :=
  ⟨onD (jobS 0x1A 0x50 0 10 0 0 base) (fun d => d.setEng 0x1A { result := some (1, 10) }), 7, 10, by decide +kernel⟩

theorem witness_CryptoJobsGiveTheirResults_15 : ∃ (s : State) (t0 : Nat),
    s.dev.up .compute = true ∧ s.dev.engHas 0x1A = true ∧ inSram (s.dev.jobAddr 0x1A) 32 = true ∧ (s.dev.eng 0x1A).result = none ∧ cryptoOps.contains (s.sys.job (s.dev.jobAddr 0x1A)).op = false :=
  ⟨jobS 0x1A 4 0 10 0 0 base, 7, by decide +kernel⟩

theorem witness_CryptoJobsGiveTheirResults_16 : ∃ (s : State) (t0 : Nat) (j : Job) (sh en : Bool) (x : Instr × List Nat),
    JobReady s 0x1A j ∧ x ∈ cryptoCmds t0 false sh en ∧ j.op ∈ x.2 :=
  ⟨jobS 0x1A 1 3 32 0 0 base, 7, jobOf 1 3 32 0 0, true, true, (.cryptoSha 7 false, [1, 2, 3]), by decide +kernel⟩

theorem witness_CryptoJobsGiveTheirResults_17 : ∃ (s : State) (t0 : Nat) (ok : Bool) (sh en : Bool) (x : Instr × List Nat),
    s.dev.up (pageIsland 0x1A) = true ∧ s.dev.engHas 0x1A = true ∧ (s.dev.eng 0x1A).result = none ∧ inSram (s.dev.jobAddr 0x1A) 32 = true ∧ x ∈ cryptoCmds t0 ok sh en ∧ (s.sys.job (s.dev.jobAddr 0x1A)).op ∈ x.2 ∧ (s.sys.job (s.dev.jobAddr 0x1A)).bufsOk = false :=
  ⟨jobS 0x1A 1 16777216 32 0 0 base, 7, false, true, true, (.cryptoSha 7 false, [1, 2, 3]), by decide +kernel, by decide +kernel⟩

theorem witness_CryptoJobsGiveTheirResults_18 : ∃ (s : State) (t0 : Nat) (ok : Bool) (sh en : Bool) (x : Instr × List Nat),
    x ∈ cryptoCmds t0 ok sh en ∧ (s.dev.up .compute = false ∨ s.dev.engHas 0x1A = false ∨ (s.dev.eng 0x1A).result.isSome = true ∨ inSram (s.dev.jobAddr 0x1A) 32 = false ∨ (s.sys.job (s.dev.jobAddr 0x1A)).op ∉ x.2) :=
  ⟨jobS 0x1A 4 3 32 0 0 base, 7, false, true, true, (.cryptoSha 7 false, [1, 2, 3]), by decide +kernel, by decide +kernel⟩

theorem witness_CryptoJobsGiveTheirResults_19 : ∃ (s : State) (t0 : Nat) (j : Job) (sh : Bool),
    JobReady s 0x1A j ∧ j.op = 0x10 ∧ j.auxLen < 12 :=
  ⟨jobS 0x1A 0x10 3 19 11 0x08003000 base, 7, jobOf 0x10 3 19 11 0x08003000, true, by decide +kernel⟩

theorem witness_CryptoJobsGiveTheirResults_20 : ∃ (s : State) (t0 e : Nat) (j : Job) (sh : Bool),
    JobReady s 0x1A j ∧ j.op = 0x10 ∧ 12 ≤ j.auxLen ∧ s.sys.jobKey j (if sh then 16 else 32) = .error e :=
  ⟨jobS 0x1A 0x10 3 19 12 0x18000000 base, 7, 4, jobOf 0x10 3 19 12 0x18000000, true, by decide +kernel⟩

theorem witness_CryptoJobsGiveTheirResults_21 : ∃ (s : State) (t0 : Nat) (j : Job) (sh : Bool) (k : List Byte),
    JobReady s 0x1A j ∧ j.op = 0x10 ∧ 12 ≤ j.auxLen ∧ j.outCap < j.inLen + 16 ∧ s.sys.jobKey j (if sh then 16 else 32) = .ok k :=
  ⟨jobS 0x1A 0x10 3 18 12 0x08003000 base, 7, jobOf 0x10 3 18 12 0x08003000, true, List.replicate 16 0, by decide +kernel⟩

theorem witness_CryptoJobsGiveTheirResults_22 : ∃ (s : State) (t0 : Nat) (j : Job) (sh : Bool),
    JobReady s 0x1A j ∧ j.op = 0x11 ∧ (j.auxLen < 12 ∨ j.inLen < 16) :=
  ⟨jobS 0x1A 0x11 15 19 12 0x08003000 base, 7, jobOf 0x11 15 19 12 0x08003000, true, by decide +kernel⟩

theorem witness_CryptoJobsGiveTheirResults_23 : ∃ (s : State) (t0 e : Nat) (j : Job) (sh : Bool),
    JobReady s 0x1A j ∧ j.op = 0x11 ∧ 12 ≤ j.auxLen ∧ 16 ≤ j.inLen ∧ s.sys.jobKey j (if sh then 16 else 32) = .error e :=
  ⟨jobS 0x1A 0x11 16 19 12 0x18000000 base, 7, 4, jobOf 0x11 16 19 12 0x18000000, true, by decide +kernel⟩

theorem witness_CryptoJobsGiveTheirResults_24 : ∃ (s : State) (t0 : Nat) (j : Job) (sh : Bool) (k : List Byte),
    JobReady s 0x1A j ∧ j.op = 0x11 ∧ 12 ≤ j.auxLen ∧ 16 ≤ j.inLen ∧ j.outCap + 16 < j.inLen ∧ s.sys.jobKey j (if sh then 16 else 32) = .ok k :=
  ⟨jobS 0x1A 0x11 20 3 12 0x08003000 base, 7, jobOf 0x11 20 3 12 0x08003000, true, List.replicate 16 0, by decide +kernel⟩

theorem witness_CryptoJobsGiveTheirResults_25 : ∃ (s : State) (t0 : Nat) (j : Job),
    JobReady s 0x1A j ∧ (j.op = 0x20 ∨ j.op = 0x22) ∧ j.inLen ≠ (opCurve j.op).len :=
  ⟨jobS 0x1A 0x20 31 64 0 0x08003000 base, 7, jobOf 0x20 31 64 0 0x08003000, by decide +kernel⟩

theorem witness_CryptoJobsGiveTheirResults_26 : ∃ (s : State) (t0 e : Nat) (j : Job),
    JobReady s 0x1A j ∧ (j.op = 0x20 ∨ j.op = 0x22) ∧ j.inLen = (opCurve j.op).len ∧ s.sys.jobKey j ((opCurve j.op).len) = .error e :=
  ⟨jobS 0x1A 0x20 32 64 0 0x18000000 base, 7, 4, jobOf 0x20 32 64 0 0x18000000, by decide +kernel⟩

theorem witness_CryptoJobsGiveTheirResults_27 : ∃ (s : State) (t0 : Nat) (j : Job) (k : List Byte),
    JobReady s 0x1A j ∧ (j.op = 0x20 ∨ j.op = 0x22) ∧ j.inLen = (opCurve j.op).len ∧ s.sys.jobKey j (opCurve j.op).len = .ok k ∧ ((opCurve j.op).scalarOk k = false ∨ j.outCap < 2 * (opCurve j.op).len) :=
  ⟨jobS 0x1A 0x20 32 63 0 0x08003000 base, 7, jobOf 0x20 32 63 0 0x08003000, List.replicate 32 0, by decide +kernel⟩

theorem witness_CryptoJobsGiveTheirResults_28 : ∃ (s : State) (t0 : Nat) (j : Job),
    JobReady s 0x1A j ∧ (j.op = 0x21 ∨ j.op = 0x23) ∧ (j.inLen ≠ (opCurve j.op).len ∨ j.auxLen ≠ 2 * (opCurve j.op).len) :=
  ⟨jobS 0x1A 0x21 32 64 63 0x08003000 base, 7, jobOf 0x21 32 64 63 0x08003000, by decide +kernel⟩

theorem witness_CryptoJobsGiveTheirResults_29 : ∃ (s : State) (t0 e : Nat) (j : Job),
    JobReady s 0x1A j ∧ (j.op = 0x21 ∨ j.op = 0x23) ∧ j.inLen = (opCurve j.op).len ∧ j.auxLen = 2 * (opCurve j.op).len ∧ s.sys.jobKey j (2 * (opCurve j.op).len) = .error e :=
  ⟨jobS 0x1A 0x21 32 64 64 0x18000000 base, 7, 4, jobOf 0x21 32 64 64 0x18000000, by decide +kernel⟩

theorem witness_CryptoJobsGiveTheirResults_30 : ∃ (s : State) (t0 e : Nat) (j : Job),
    JobReady s 0x1A j ∧ j.op = 0x30 ∧ s.sys.jobKey j (57) = .error e :=
  ⟨jobS 0x1A 0x30 32 114 0 0x18000000 base, 7, 4, jobOf 0x30 32 114 0 0x18000000, by decide +kernel⟩

theorem witness_CryptoJobsGiveTheirResults_31 : ∃ (s : State) (t0 : Nat) (j : Job) (k : List Byte),
    JobReady s 0x1A j ∧ j.op = 0x30 ∧ j.outCap < 114 ∧ s.sys.jobKey j 57 = .ok k :=
  ⟨jobS 0x1A 0x30 0 113 0 0x08003000 base, 7, jobOf 0x30 0 113 0 0x08003000, List.replicate 57 0, by decide +kernel⟩

theorem witness_CryptoJobsGiveTheirResults_32 : ∃ (s : State) (t0 : Nat) (j : Job),
    JobReady s 0x1A j ∧ j.op = 0x31 ∧ j.auxLen ≠ 114 :=
  ⟨jobS 0x1A 0x31 0 0 113 0x08003000 base, 7, jobOf 0x31 0 0 113 0x08003000, by decide +kernel⟩

theorem witness_CryptoJobsGiveTheirResults_33 : ∃ (s : State) (t0 e : Nat) (j : Job),
    JobReady s 0x1A j ∧ j.op = 0x31 ∧ j.auxLen = 114 ∧ s.sys.jobKey j (57) = .error e :=
  ⟨jobS 0x1A 0x31 0 0 114 0x18000000 base, 7, 4, jobOf 0x31 0 0 114 0x18000000, by decide +kernel⟩

theorem witness_CryptoJobsGiveTheirResults_34 : ∃ (s : State) (t0 : Nat) (j : Job),
    JobReady s 0x1A j ∧ (j.op = 0x40 ∨ j.op = 0x41) ∧ j.auxLen ≠ 2 * (opCurve j.op).len :=
  ⟨jobS 0x1A 0x41 0 64 64 0x08003000 base, 7, jobOf 0x41 0 64 64 0x08003000, by decide +kernel⟩

theorem witness_CryptoJobsGiveTheirResults_35 : ∃ (s : State) (t0 e : Nat) (j : Job),
    JobReady s 0x1A j ∧ (j.op = 0x40 ∨ j.op = 0x41) ∧ j.auxLen = 2 * (opCurve j.op).len ∧ s.sys.jobKey j ((opCurve j.op).len) = .error e :=
  ⟨jobS 0x1A 0x41 0 64 96 0x18000000 base, 7, 4, jobOf 0x41 0 64 96 0x18000000, by decide +kernel⟩

theorem witness_CryptoJobsGiveTheirResults_36 : ∃ (s : State) (t0 : Nat) (j : Job) (k : List Byte),
    JobReady s 0x1A j ∧ (j.op = 0x40 ∨ j.op = 0x41) ∧ j.auxLen = 2 * (opCurve j.op).len ∧ s.sys.jobKey j (opCurve j.op).len = .ok k ∧ (opCurve j.op).scalarOk k = false :=
  ⟨jobS 0x1A 0x40 0 32 64 0x08003000 base, 7, jobOf 0x40 0 32 64 0x08003000, List.replicate 32 0, by decide +kernel⟩

theorem witness_CryptoJobsGiveTheirResults_37 : ∃ (s : State) (t0 : Nat) (j : Job) (k : List Byte),
    JobReady s 0x1A j ∧ (j.op = 0x40 ∨ j.op = 0x41) ∧ j.auxLen = 2 * (opCurve j.op).len ∧ j.outCap < (opCurve j.op).len ∧ s.sys.jobKey j (opCurve j.op).len = .ok k ∧ (opCurve j.op).scalarOk k = true :=
  ⟨memS 0x08003000 [1] (jobS 0x1A 0x40 0 31 64 0x08003000 base), 7, jobOf 0x40 0 31 64 0x08003000, [1] ++ List.replicate 31 0, by decide +kernel, by decide +kernel⟩

theorem witness_CryptoJobsGiveTheirResults_38 : ∃ (s : State) (t0 : Nat) (j : Job),
    JobReady s 0x1A j ∧ (j.op = 0x42 ∨ j.op = 0x43) ∧ j.outCap < 3 * (opCurve j.op).len :=
  ⟨jobS 0x1A 0x43 0 143 0 0 base, 7, jobOf 0x43 0 143 0 0, by decide +kernel⟩

theorem witness_CryptoJobsGiveTheirResults_39 : ∃ (s : State) (t0 : Nat) (j : Job),
    JobReady s 0x1A j ∧ (j.op = 0x42 ∨ j.op = 0x43) :=
  ⟨jobS 0x1A 0x43 0 144 0 0 base, 7, jobOf 0x43 0 144 0 0, by decide +kernel⟩

theorem witness_CryptoJobsGiveTheirResults_40 : ∃ (s : State) (t0 : Nat),
    s.dev.up .compute = true ∧ s.dev.engHas 0x1A = true ∧ inSram (s.dev.jobAddr 0x1A) 32 = true ∧ (s.dev.eng 0x1A).result = some (1, 0) :=
  ⟨onD (jobS 0x1A 0x50 0 10 0 1 base) (fun d => d.setEng 0x1A { result := some (1, 0) }), 7, by decide +kernel⟩

theorem witness_CryptoJobsGiveTheirResults_41 : ∃ (s : State) (t0 n : Nat),
    s.dev.up .compute = true ∧ s.dev.engHas 0x1A = true ∧ inSram (s.dev.jobAddr 0x1A) 32 = true ∧ (s.dev.eng 0x1A).result = some (2, n) :=
  ⟨onD (jobS 0x1A 0x50 0 10 0 1 base) (fun d => d.setEng 0x1A { result := some (2, 0) }), 7, 0, by decide +kernel⟩

theorem witness_CryptoJobsGiveTheirResults_42 : ∃ (s : State) (t0 st n : Nat),
    s.dev.up .compute = true ∧ s.dev.engHas 0x1A = true ∧ inSram (s.dev.jobAddr 0x1A) 32 = true ∧ (s.dev.eng 0x1A).result = some (st, n) ∧ 2 < st ∧ st < 256 :=
  ⟨onD (jobS 0x1A 0x50 0 10 0 1 base) (fun d => d.setEng 0x1A { result := some (7, 0) }), 7, 7, 0, by decide +kernel⟩

theorem witness_CryptoJobsGiveTheirResults_43 : ∃ (s : State) (t0 : Nat),
    s.dev.up .compute = true ∧ s.dev.engHas 0x1A = true ∧ inSram (s.dev.jobAddr 0x1A) 32 = false :=
  ⟨withR base [(engLen 0x1A, 0, 4), (engHead 0x1A, 0, 1)], 7, by decide +kernel⟩

theorem witness_CryptoJobsGiveTheirResults_44 : ∃ (s : State) (t0 : Nat),
    s.dev.up .compute = false ∨ s.dev.engHas 0x1A = false ∨ (inSram (s.dev.jobAddr 0x1A) 32 = true ∧ (s.dev.eng 0x1A).result = none ∧ cryptoOps.contains (s.sys.job (s.dev.jobAddr 0x1A)).op = true) :=
  ⟨jobS 0x1A 0x50 0 10 0 1 base, 7, by decide +kernel⟩

theorem witness_ExiJobsAndXspiPorts_1 : ∃ (s : State) (t0 : Nat) (j : Job),
    JobReady s 0x1B j ∧ j.op = 1 ∧ 1 ≤ j.key ∧ j.key ≤ 6 ∧ j.inLen ≤ 65535 :=
  ⟨jobS 0x1B 1 4 100 0 6 base, 7, jobOf 1 4 100 0 6, by decide +kernel⟩

theorem witness_ExiJobsAndXspiPorts_2 : ∃ (s : State) (t0 : Nat) (j : Job),
    JobReady s 0x1B j ∧ j.op = 2 ∧ 1 ≤ j.key ∧ j.key ≤ 6 ∧ leAt (s.sys.read j.input j.inLen) 8 8 ≠ 0 ∧ 16 * leAt (s.sys.read j.input j.inLen) 8 8 ≤ j.inLen ∧ eventDepth (s.sys.read j.input j.inLen) ≤ 24 :=
  ⟨memS 0x08001008 [1] (jobS 0x1B 2 16 100 0 1 base), 7, jobOf 2 16 100 0 1, by decide +kernel, by decide +kernel⟩

theorem witness_ExiJobsAndXspiPorts_3 : ∃ (s : State) (t0 m : Nat),
    s.dev.up .compute = true ∧ s.dev.engHas 0x1B = true ∧ inSram (s.dev.jobAddr 0x1B) 32 = true ∧ (s.dev.eng 0x1B).result = some (1, m) ∧ m ≠ 0 :=
  ⟨onD (jobS 0x1B 1 0 10 0 1 base) (fun d => d.setEng 0x1B { result := some (1, 300) }), 7, 300, by decide +kernel⟩

theorem witness_ExiJobsAndXspiPorts_4 : ∃ (s : State) (i : Initiator) (p m : Nat) (v : Word),
    p < 2 ∧ Passes s i (xspCmd p) m :=
  ⟨base, .core0, 1, 0, 0x7FFFFFFF, by decide +kernel⟩

theorem witness_ExiJobsAndXspiPorts_5 : ∃ (s : State) (t0 p : Nat) (l : List Byte) (h : HeldRead),
    p < 2 ∧ s.dev.up .compute = true ∧ s.dev.xspBusy p = true ∧ s.dev.xspHeld p = [h] :=
  ⟨onD (withR base [(xspStat 1, 0, 1), (xspCmd 1, 0, 0x80500000)]) (fun d => d.setXspHeld 1 [⟨.core2, 0x30000000, 4, 5⟩]), 7, 1, [1, 2, 3, 4, 5, 6], ⟨.core2, 0x30000000, 4, 5⟩, by decide +kernel⟩

theorem witness_ExiJobsAndXspiPorts_6 : ∃ (s : State) (t0 p : Nat) (h : HeldRead),
    p < 2 ∧ s.dev.xspHeld p = [h] ∧ h.since + (s.dev.rd (XSP_RDTMO p) 0).toNat * 1000 ≤ t0 :=
  ⟨onD base (fun d => d.setXspHeld 1 [⟨.core2, 0x30000000, 4, 5⟩]), 100000005, 1, ⟨.core2, 0x30000000, 4, 5⟩, by decide +kernel⟩

theorem witness_ExiJobsAndXspiPorts_7 : ∃ (s : State) (t0 : Nat) (j : Job) (x : Instr × List Nat),
    JobReady s 0x1B j ∧ x ∈ exiCmds t0 false ∧ j.op ∈ x.2 :=
  ⟨jobS 0x1B 1 3 32 0 0 base, 7, jobOf 1 3 32 0 0, (.exiDecode 7 false, [1]), by decide +kernel⟩

theorem witness_ExiJobsAndXspiPorts_8 : ∃ (s : State) (t0 : Nat) (ok : Bool) (x : Instr × List Nat),
    s.dev.up (pageIsland 0x1B) = true ∧ s.dev.engHas 0x1B = true ∧ (s.dev.eng 0x1B).result = none ∧ inSram (s.dev.jobAddr 0x1B) 32 = true ∧ x ∈ exiCmds t0 ok ∧ (s.sys.job (s.dev.jobAddr 0x1B)).op ∈ x.2 ∧ (s.sys.job (s.dev.jobAddr 0x1B)).bufsOk = false :=
  ⟨jobS 0x1B 1 16777216 32 0 0 base, 7, false, (.exiDecode 7 false, [1]), by decide +kernel, by decide +kernel⟩

theorem witness_ExiJobsAndXspiPorts_9 : ∃ (s : State) (t0 : Nat) (ok : Bool) (x : Instr × List Nat),
    x ∈ exiCmds t0 ok ∧ (s.dev.up .compute = false ∨ s.dev.engHas 0x1B = false ∨ (s.dev.eng 0x1B).result.isSome = true ∨ inSram (s.dev.jobAddr 0x1B) 32 = false ∨ (s.sys.job (s.dev.jobAddr 0x1B)).op ∉ x.2) :=
  ⟨jobS 0x1B 4 3 32 0 0 base, 7, false, (.exiDecode 7 false, [1]), by decide +kernel, by decide +kernel⟩

theorem witness_ExiJobsAndXspiPorts_10 : ∃ (s : State) (t0 : Nat) (j : Job),
    JobReady s 0x1B j ∧ j.op = 1 ∧ (j.key = 0 ∨ 6 < j.key) :=
  ⟨jobS 0x1B 1 4 100 0 7 base, 7, jobOf 1 4 100 0 7, by decide +kernel⟩

theorem witness_ExiJobsAndXspiPorts_11 : ∃ (s : State) (t0 : Nat) (j : Job),
    JobReady s 0x1B j ∧ j.op = 1 ∧ 1 ≤ j.key ∧ j.key ≤ 6 ∧ 65535 < j.inLen :=
  ⟨jobS 0x1B 1 65536 100 0 6 base, 7, jobOf 1 65536 100 0 6, by decide +kernel⟩

theorem witness_ExiJobsAndXspiPorts_12 : ∃ (s : State) (t0 : Nat) (j : Job),
    JobReady s 0x1B j ∧ j.op = 2 ∧ (j.key = 0 ∨ 6 < j.key) :=
  ⟨jobS 0x1B 2 4 100 0 7 base, 7, jobOf 2 4 100 0 7, by decide +kernel⟩

theorem witness_ExiJobsAndXspiPorts_13 : ∃ (s : State) (t0 : Nat) (j : Job),
    JobReady s 0x1B j ∧ j.op = 2 ∧ 1 ≤ j.key ∧ j.key ≤ 6 ∧ (leAt (s.sys.read j.input j.inLen) 8 8 = 0 ∨ j.inLen < 16 * leAt (s.sys.read j.input j.inLen) 8 8) :=
  ⟨jobS 0x1B 2 4 100 0 1 base, 7, jobOf 2 4 100 0 1, by decide +kernel⟩

theorem witness_ExiJobsAndXspiPorts_14 : ∃ (s : State) (t0 : Nat) (j : Job),
    JobReady s 0x1B j ∧ j.op = 2 ∧ 1 ≤ j.key ∧ j.key ≤ 6 ∧ leAt (s.sys.read j.input j.inLen) 8 8 ≠ 0 ∧ 16 * leAt (s.sys.read j.input j.inLen) 8 8 ≤ j.inLen ∧ 24 < eventDepth (s.sys.read j.input j.inLen) :=
  ⟨memS 0x08001000 (([3, 0, 0, 0, 0, 0, 0, 0, 25] ++ List.replicate 7 0) ++ (List.range 24).flatMap (fun _ => [3] ++ List.replicate 15 0)) (jobS 0x1B 2 400 100 0 1 base), 7, jobOf 2 400 100 0 1, by decide +kernel⟩

theorem witness_ExiJobsAndXspiPorts_15 : ∃ (s : State) (t0 m : Nat),
    s.dev.up .compute = true ∧ s.dev.engHas 0x1B = true ∧ inSram (s.dev.jobAddr 0x1B) 32 = true ∧ (s.dev.eng 0x1B).result = some (1, m) ∧ m ≠ 0 ∧ (s.sys.job (s.dev.jobAddr 0x1B)).irq = true :=
  ⟨onD (jobS 0x1B 1 0 10 0 1 base) (fun d => d.setEng 0x1B { result := some (1, 300) }), 7, 300, by decide +kernel⟩

theorem witness_ExiJobsAndXspiPorts_16 : ∃ (s : State) (t0 : Nat),
    s.dev.up .compute = true ∧ s.dev.engHas 0x1B = true ∧ inSram (s.dev.jobAddr 0x1B) 32 = true ∧ (s.dev.eng 0x1B).result = none ∧ (s.sys.job (s.dev.jobAddr 0x1B)).op ≠ 1 ∧ (s.sys.job (s.dev.jobAddr 0x1B)).op ≠ 2 :=
  ⟨jobS 0x1B 3 0 10 0 0 base, 7, by decide +kernel⟩

theorem witness_ExiJobsAndXspiPorts_17 : ∃ (s : State) (t0 : Nat),
    s.dev.up .compute = true ∧ s.dev.engHas 0x1B = true ∧ inSram (s.dev.jobAddr 0x1B) 32 = true ∧ (s.dev.eng 0x1B).result = some (1, 0) :=
  ⟨onD (jobS 0x1B 1 0 10 0 1 base) (fun d => d.setEng 0x1B { result := some (1, 0) }), 7, by decide +kernel⟩

theorem witness_ExiJobsAndXspiPorts_18 : ∃ (s : State) (t0 n : Nat),
    s.dev.up .compute = true ∧ s.dev.engHas 0x1B = true ∧ inSram (s.dev.jobAddr 0x1B) 32 = true ∧ (s.dev.eng 0x1B).result = some (2, n) :=
  ⟨onD (jobS 0x1B 1 0 10 0 1 base) (fun d => d.setEng 0x1B { result := some (2, 0) }), 7, 0, by decide +kernel⟩

theorem witness_ExiJobsAndXspiPorts_19 : ∃ (s : State) (t0 st n : Nat),
    s.dev.up .compute = true ∧ s.dev.engHas 0x1B = true ∧ inSram (s.dev.jobAddr 0x1B) 32 = true ∧ (s.dev.eng 0x1B).result = some (st, n) ∧ 2 < st ∧ st < 256 :=
  ⟨onD (jobS 0x1B 1 0 10 0 1 base) (fun d => d.setEng 0x1B { result := some (7, 0) }), 7, 7, 0, by decide +kernel⟩

theorem witness_ExiJobsAndXspiPorts_20 : ∃ (s : State) (t0 : Nat),
    s.dev.up .compute = true ∧ s.dev.engHas 0x1B = true ∧ inSram (s.dev.jobAddr 0x1B) 32 = false :=
  ⟨withR base [(engLen 0x1B, 0, 4), (engHead 0x1B, 0, 1)], 7, by decide +kernel⟩

theorem witness_ExiJobsAndXspiPorts_21 : ∃ (s : State) (t0 : Nat),
    s.dev.up .compute = false ∨ s.dev.engHas 0x1B = false ∨ (inSram (s.dev.jobAddr 0x1B) 32 = true ∧ (s.dev.eng 0x1B).result = none ∧ [1, 2].contains (s.sys.job (s.dev.jobAddr 0x1B)).op = true) :=
  ⟨jobS 0x1B 1 0 10 0 1 base, 7, by decide +kernel⟩

theorem witness_ExiJobsAndXspiPorts_23 : ∃ (s : State) (t0 p : Nat) (l : List Byte) (ch : List (Nat × Byte)),
    p < 2 ∧ s.dev.up .compute = true ∧ s.dev.xspBusy p = true :=
  ⟨onD (withR base [(xspStat 1, 0, 1), (xspCmd 1, 0, 0x80500000)]) (fun d => d.setXspHeld 1 [⟨.core2, 0x30000000, 4, 5⟩, ⟨.core1, 0x30000000, 4, 5⟩]), 7, 1, [1, 2, 3, 4, 5, 6], [(3, 5), (4, 6)], by decide +kernel⟩

theorem witness_ExiJobsAndXspiPorts_24 : ∃ (s : State) (t0 p k : Nat) (b : Byte) (l : List Byte),
    p < 2 ∧ s.dev.up .compute = true ∧ s.dev.xspBusy p = true ∧ k < 0x10000000 :=
  ⟨withR base [(xspStat 1, 0, 1), (xspCmd 1, 0, 0x80500000)], 7, 1, 5, 9, [], by decide +kernel⟩

theorem witness_ExiJobsAndXspiPorts_25 : ∃ (s : State) (t0 p : Nat) (l : List Byte) (ch : List (Nat × Byte)),
    p < 2 ∧ (s.dev.up .compute = false ∨ s.dev.xspBusy p = false) :=
  ⟨base, 7, 1, [], [(1, 2)], by decide +kernel⟩

theorem witness_ExiJobsAndXspiPorts_26 : ∃ (s : State) (t0 p : Nat),
    p < 2 ∧ (s.dev.xspHeld p).any (fun h => decide (h.since + (s.dev.rd (XSP_RDTMO p) 0).toNat * 1000 ≤ t0)) = true :=
  ⟨onD base (fun d => d.setXspHeld 1 [⟨.core2, 0x30000000, 4, 5⟩, ⟨.core1, 0x30000000, 4, 6⟩]), 100000005, 1, by decide +kernel⟩

theorem witness_ExiJobsAndXspiPorts_27 : ∃ (s : State) (t0 p : Nat),
    p < 2 ∧ (s.dev.xspHeld p).any (fun h => decide (h.since + (s.dev.rd (XSP_RDTMO p) 0).toNat * 1000 ≤ t0)) = false :=
  ⟨onD base (fun d => d.setXspHeld 1 [⟨.core2, 0x30000000, 4, 5⟩]), 100000004, 1, by decide +kernel⟩

theorem witness_EthernetMovesFramesThroughItsQueues_1 : ∃ (s : State) (i : Initiator) (v : Word) (k a : Nat) (x : Desc),
    Passes s i ETH_QKICK k ∧ bitOf v 0 = true ∧ s.dev.ethRefuses k = false ∧ s.dev.ethRings (k / 4) (k % 4) = true ∧ (s.dev.ethQ k).busy = false ∧ s.sys.take (s.dev.ethCfg k).txBase (s.dev.ethCfg k).txLen (s.dev.ethQ k).txPos = .own a x :=
  ⟨memS 0x08000000 [0, 1, 0, 8, 60, 0, 0, 0x80] (withR base [(ETH_MCFG, 0, 0x80000000), (ETH_QTXBASE, 0, 0x08000000), (ETH_QLEN, 0, 2)]), .core0, 1, 0, 0x08000000, ⟨0x08000100, 60, 0x8000⟩, by decide +kernel, by decide +kernel⟩

theorem witness_EthernetMovesFramesThroughItsQueues_2 : ∃ (s : State) (t0 m q stamp a : Nat) (x : Desc),
    s.dev.ethRings m q = true ∧ (s.dev.ethQ (4 * m + q)).busy = true ∧ (∀ p : Nat, p < 4 → q < p → (s.dev.ethQ (4 * m + p)).busy = false ∨ stamp ≤ (s.dev.ethQ (4 * m + p)).readyAt) ∧ s.sys.take (s.dev.ethCfg (4 * m + q)).txBase (s.dev.ethCfg (4 * m + q)).txLen (s.dev.ethQ (4 * m + q)).txPos = .own a x :=
  ⟨onD (memS 0x08000000 [0, 1, 0, 8, 0xEF, 5, 0, 0x80] (withR base [(ETH_MCFG, 1, 0x80000000), (ETH_QTXBASE, 6, 0x08000000), (ETH_QLEN, 6, 2)])) (fun d => d.setEthQ 6 { busy := true }), 7, 1, 2, 5, 0x08000000, ⟨0x08000100, 1519, 0x8000⟩, by decide +kernel⟩

theorem witness_EthernetMovesFramesThroughItsQueues_3 : ∃ (s : State) (t0 m q stamp a : Nat) (x : Desc) (b : List Byte),
    s.dev.bankOff 5 = false ∧ s.dev.macOn m = true ∧ 14 ≤ b.length ∧ b.length ≤ 1518 ∧ s.dev.level ≠ .standby ∧ (s.dev.ringPort m && decide ((ethFrame b).etherType = 0x88B5) && decide ((ethFrame b).tag.map (· % 4096) = some (s.dev.fld STG_CFG 0 27 16))) = false ∧ s.dev.ethAccepts m (b.take 6) = true ∧ q = ((ethFrame b).tag.map (fun g => s.dev.fld ETH_PCPMAP m (2 * (g / 8192 % 8) + 1) (2 * (g / 8192 % 8)))).getD 0 ∧ s.dev.ethRings m q = true ∧ s.sys.take (s.dev.ethCfg (4 * m + q)).rxBase (s.dev.ethCfg (4 * m + q)).rxLen (s.dev.ethQ (4 * m + q)).rxPos = .own a x ∧ (x.addr + x.len ≤ a + 4 ∨ a + 16 ≤ x.addr) :=
  ⟨memS 0x08000000 [0, 1, 0, 8, 30, 0, 0, 0x80] (withR base [(ETH_MCFG, 0, 0x80000000), (ETH_QRXBASE, 3, 0x08000000), (ETH_QLEN, 3, 0x10000)]), 7, 0, 3, 0x0102030405, 0x08000000, ⟨0x08000100, 30, 0x8000⟩, List.replicate 12 0xFF ++ [0x81, 0, 0xE0, 5, 8, 0] ++ List.replicate 20 7, by decide +kernel⟩

theorem witness_EthernetMovesFramesThroughItsQueues_4 : ∃ (s : State) (t0 m q stamp : Nat) (b : List Byte),
    s.dev.bankOff 5 = false ∧ s.dev.macOn m = true ∧ 14 ≤ b.length ∧ b.length ≤ 1518 ∧ s.dev.level ≠ .standby ∧ (s.dev.ringPort m && decide ((ethFrame b).etherType = 0x88B5) && decide ((ethFrame b).tag.map (· % 4096) = some (s.dev.fld STG_CFG 0 27 16))) = false ∧ s.dev.ethAccepts m (b.take 6) = true ∧ q = ((ethFrame b).tag.map (fun g => s.dev.fld ETH_PCPMAP m (2 * (g / 8192 % 8) + 1) (2 * (g / 8192 % 8)))).getD 0 ∧ s.dev.ethRings m q = true ∧ s.sys.take (s.dev.ethCfg (4 * m + q)).rxBase (s.dev.ethCfg (4 * m + q)).rxLen (s.dev.ethQ (4 * m + q)).rxPos = .none :=
  ⟨withR base [(ETH_MCFG, 0, 0x80000000)], 7, 0, 0, 5, List.replicate 12 0xFF ++ [8, 0] ++ List.replicate 20 7, by decide +kernel⟩

theorem witness_EthernetMovesFramesThroughItsQueues_5 : ∃ (s : State) (t0 m stamp : Nat) (b : List Byte) (good : Bool),
    s.dev.bankOff 5 = false ∧ s.dev.macOn m = true ∧ s.dev.backendStops m = false ∧ (good = false ∨ b.length < 14 ∨ 1518 < b.length) :=
  ⟨withR base [(ETH_MCFG, 3, 0x80000000)], 7, 3, 0, List.replicate 1519 7, true, by decide +kernel⟩

theorem witness_EthernetMovesFramesThroughItsQueues_6 : ∃ (s : State) (t0 m sp : Nat) (b : Bool),
    s.dev.macOn m = true :=
  ⟨withR base [(ETH_MCFG, 3, 0xB0000000)], 7, 3, 2, true, by decide +kernel⟩

theorem witness_EthernetMovesFramesThroughItsQueues_7 : ∃ (s : State) (i : Initiator) (v : Word) (k : Nat),
    Passes s i ETH_QKICK k ∧ bitOf v 0 = true ∧ s.dev.ethRefuses k = false ∧ s.dev.ethRings (k / 4) (k % 4) = true ∧ (s.dev.ethQ k).busy = false ∧ s.sys.take (s.dev.ethCfg k).txBase (s.dev.ethCfg k).txLen (s.dev.ethQ k).txPos = .none :=
  ⟨withR base [(ETH_MCFG, 0, 0x80000000), (ETH_QTXBASE, 0, 0x08000000), (ETH_QLEN, 0, 2)], .core0, 1, 0, by decide +kernel⟩

theorem witness_EthernetMovesFramesThroughItsQueues_8 : ∃ (s : State) (i : Initiator) (v : Word) (k : Nat),
    Passes s i ETH_QKICK k ∧ bitOf v 0 = true ∧ s.dev.ethRefuses k = false ∧ s.dev.ethRings (k / 4) (k % 4) = true ∧ (s.dev.ethQ k).busy = false ∧ s.sys.take (s.dev.ethCfg k).txBase (s.dev.ethCfg k).txLen (s.dev.ethQ k).txPos = .bad :=
  ⟨withR base [(ETH_MCFG, 0, 0x80000000), (ETH_QTXBASE, 0, 0x09000000), (ETH_QLEN, 0, 2)], .core0, 1, 0, by decide +kernel⟩

theorem witness_EthernetMovesFramesThroughItsQueues_9 : ∃ (s : State) (i : Initiator) (v : Word) (k : Nat),
    Passes s i ETH_QKICK k ∧ s.dev.ethRefuses k = true :=
  ⟨selS .core0 0x79 3 (withR base [(ETH_MCFG, 0, 0x81000000)]), .core0, 1, 3, by decide +kernel⟩

theorem witness_EthernetMovesFramesThroughItsQueues_10 : ∃ (s : State) (i : Initiator) (v : Word) (k : Nat),
    Passes s i ETH_QKICK k ∧ s.dev.ethRefuses k = false ∧ (bitOf v 0 = false ∨ s.dev.ethRings (k / 4) (k % 4) = false ∨ (s.dev.ethQ k).busy = true) :=
  ⟨base, .core0, 1, 0, by decide +kernel⟩

theorem witness_EthernetMovesFramesThroughItsQueues_11 : ∃ (s : State) (t0 m q stamp : Nat),
    s.dev.ethRings m q = true ∧ (s.dev.ethQ (4 * m + q)).busy = true ∧ (∀ p : Nat, p < 4 → q < p → (s.dev.ethQ (4 * m + p)).busy = false ∨ stamp ≤ (s.dev.ethQ (4 * m + p)).readyAt) ∧ s.sys.take (s.dev.ethCfg (4 * m + q)).txBase (s.dev.ethCfg (4 * m + q)).txLen (s.dev.ethQ (4 * m + q)).txPos = .none :=
  ⟨onD (withR base [(ETH_MCFG, 0, 0x80000000), (ETH_QTXBASE, 2, 0x08000000), (ETH_QLEN, 2, 2)]) (fun d => (d.setEthQ 2 { busy := true }).setEthQ 3 { busy := true, readyAt := 5 }), 7, 0, 2, 5, by decide +kernel⟩

theorem witness_EthernetMovesFramesThroughItsQueues_12 : ∃ (s : State) (t0 m q stamp : Nat),
    s.dev.ethRings m q = true ∧ (s.dev.ethQ (4 * m + q)).busy = true ∧ (∀ p : Nat, p < 4 → q < p → (s.dev.ethQ (4 * m + p)).busy = false ∨ stamp ≤ (s.dev.ethQ (4 * m + p)).readyAt) ∧ s.sys.take (s.dev.ethCfg (4 * m + q)).txBase (s.dev.ethCfg (4 * m + q)).txLen (s.dev.ethQ (4 * m + q)).txPos = .bad :=
  ⟨onD (withR base [(ETH_MCFG, 0, 0x80000000), (ETH_QTXBASE, 2, 0x09000000), (ETH_QLEN, 2, 2)]) (fun d => d.setEthQ 2 { busy := true }), 7, 0, 2, 5, by decide +kernel⟩

theorem witness_EthernetMovesFramesThroughItsQueues_13 : ∃ (s : State) (t0 m q stamp : Nat),
    s.dev.ethRings m q = false ∨ (s.dev.ethQ (4 * m + q)).busy = false ∨ (∃ p ∈ List.range 4, q < p ∧ (s.dev.ethQ (4 * m + p)).busy = true ∧ (s.dev.ethQ (4 * m + p)).readyAt < stamp) :=
  ⟨onD (withR base [(ETH_MCFG, 0, 0x80000000)]) (fun d => (d.setEthQ 2 { busy := true }).setEthQ 3 { busy := true, readyAt := 4 }), 7, 0, 2, 5, by decide +kernel⟩

theorem witness_EthernetMovesFramesThroughItsQueues_14 : ∃ (s : State) (t0 m q stamp a : Nat) (x : Desc) (b : List Byte),
    s.dev.bankOff 5 = false ∧ s.dev.macOn m = true ∧ 14 ≤ b.length ∧ b.length ≤ 1518 ∧ s.dev.level ≠ .standby ∧ (s.dev.ringPort m && decide ((ethFrame b).etherType = 0x88B5) && decide ((ethFrame b).tag.map (· % 4096) = some (s.dev.fld STG_CFG 0 27 16))) = false ∧ s.dev.ethAccepts m (b.take 6) = true ∧ q = ((ethFrame b).tag.map (fun g => s.dev.fld ETH_PCPMAP m (2 * (g / 8192 % 8) + 1) (2 * (g / 8192 % 8)))).getD 0 ∧ s.dev.ethRings m q = true ∧ s.sys.take (s.dev.ethCfg (4 * m + q)).rxBase (s.dev.ethCfg (4 * m + q)).rxLen (s.dev.ethQ (4 * m + q)).rxPos = .own a x :=
  ⟨memS 0x08000000 [4, 0, 0, 8, 30, 0, 0, 0x80] (withR base [(ETH_MCFG, 0, 0x81000000), (ETH_QRXBASE, 0, 0x08000000), (ETH_QLEN, 0, 0x10000)]), 7, 0, 0, 5, 0x08000000, ⟨0x08000004, 30, 0x8000⟩, List.replicate 12 0xFF ++ [8, 0] ++ List.replicate 20 7, by decide +kernel, by decide +kernel, by decide +kernel⟩

theorem witness_EthernetMovesFramesThroughItsQueues_15 : ∃ (s : State) (t0 m q stamp : Nat) (b : List Byte),
    s.dev.bankOff 5 = false ∧ s.dev.macOn m = true ∧ 14 ≤ b.length ∧ b.length ≤ 1518 ∧ s.dev.level ≠ .standby ∧ (s.dev.ringPort m && decide ((ethFrame b).etherType = 0x88B5) && decide ((ethFrame b).tag.map (· % 4096) = some (s.dev.fld STG_CFG 0 27 16))) = false ∧ s.dev.ethAccepts m (b.take 6) = true ∧ q = ((ethFrame b).tag.map (fun g => s.dev.fld ETH_PCPMAP m (2 * (g / 8192 % 8) + 1) (2 * (g / 8192 % 8)))).getD 0 ∧ s.dev.ethRings m q = true ∧ s.sys.take (s.dev.ethCfg (4 * m + q)).rxBase (s.dev.ethCfg (4 * m + q)).rxLen (s.dev.ethQ (4 * m + q)).rxPos = .bad :=
  ⟨withR base [(ETH_MCFG, 0, 0x80000000), (ETH_QRXBASE, 0, 0x09000000), (ETH_QLEN, 0, 0x10000)], 7, 0, 0, 5, List.replicate 12 0xFF ++ [8, 0] ++ List.replicate 20 7, by decide +kernel, by decide +kernel, by decide +kernel⟩

theorem witness_EthernetMovesFramesThroughItsQueues_16 : ∃ (s : State) (t0 m q stamp : Nat) (b : List Byte),
    s.dev.bankOff 5 = false ∧ s.dev.macOn m = true ∧ 14 ≤ b.length ∧ b.length ≤ 1518 ∧ s.dev.level ≠ .standby ∧ (s.dev.ringPort m && decide ((ethFrame b).etherType = 0x88B5) && decide ((ethFrame b).tag.map (· % 4096) = some (s.dev.fld STG_CFG 0 27 16))) = false ∧ q = ((ethFrame b).tag.map (fun g => s.dev.fld ETH_PCPMAP m (2 * (g / 8192 % 8) + 1) (2 * (g / 8192 % 8)))).getD 0 ∧ (s.dev.ethAccepts m (b.take 6) = false ∨ s.dev.ethRings m q = false) :=
  ⟨withR base [(ETH_MCFG, 0, 0x80000000)], 7, 0, 0, 5, List.replicate 12 0xFC ++ [8, 0] ++ List.replicate 20 7, by decide +kernel, by decide +kernel, by decide +kernel⟩

theorem witness_EthernetMovesFramesThroughItsQueues_17 : ∃ (s : State) (t0 m c stamp : Nat) (b : List Byte),
    s.dev.bankOff 5 = false ∧ s.dev.macOn m = true ∧ s.dev.backendStops m = false ∧ 14 ≤ b.length ∧ b.length ≤ 1518 ∧ s.dev.level ≠ .standby ∧ (s.dev.ringPort m && decide ((ethFrame b).etherType = 0x88B5) && decide ((ethFrame b).tag.map (· % 4096) = some (s.dev.fld STG_CFG 0 27 16))) = true ∧ s.dev.telConn (ethFrame b).payload = some c :=
  ⟨withR base [(ETH_MCFG, 1, 0x81000000), (STG_CFG, 0, 0x00050000), (STG_CCFG, 2, 0x0707)], 7, 1, 2, 5, List.replicate 12 0xFF ++ [0x81, 0, 0, 5, 0x88, 0xB5] ++ List.replicate 30 7, by decide +kernel⟩

theorem witness_EthernetMovesFramesThroughItsQueues_18 : ∃ (s : State) (t0 m stamp : Nat) (b : List Byte),
    s.dev.bankOff 5 = false ∧ s.dev.macOn m = true ∧ s.dev.backendStops m = false ∧ 14 ≤ b.length ∧ b.length ≤ 1518 ∧ s.dev.level ≠ .standby ∧ (s.dev.ringPort m && decide ((ethFrame b).etherType = 0x88B5) && decide ((ethFrame b).tag.map (· % 4096) = some (s.dev.fld STG_CFG 0 27 16))) = true ∧ s.dev.telConn (ethFrame b).payload = none :=
  ⟨withR base [(ETH_MCFG, 1, 0x81000000), (STG_CFG, 0, 0x00050000)], 7, 1, 5, List.replicate 12 0xFF ++ [0x81, 0, 0, 5, 0x88, 0xB5] ++ List.replicate 30 7, by decide +kernel⟩

theorem witness_EthernetMovesFramesThroughItsQueues_19 : ∃ (s : State) (t0 m stamp : Nat) (b : List Byte),
    s.dev.bankOff 5 = false ∧ s.dev.macOn m = true ∧ 14 ≤ b.length ∧ b.length ≤ 1518 ∧ s.dev.level = .standby ∧ s.dev.wakeFrame (ethFrame b) = true ∧ s.dev.bit PWR_WAKECFG 0 2 = true :=
  ⟨withR base [(ETH_MCFG, 0, 0x80000000), (ETH_WAKE, 0, 0x08000000), (PWR_WAKECFG, 0, 4), (PWR_LEVEL, 0, 3)], 7, 0, 5, List.replicate 12 0xFF ++ [8, 0] ++ List.replicate 20 7, by decide +kernel⟩

theorem witness_EthernetMovesFramesThroughItsQueues_20 : ∃ (s : State) (t0 m stamp : Nat) (b : List Byte),
    s.dev.bankOff 5 = false ∧ s.dev.macOn m = true ∧ 14 ≤ b.length ∧ b.length ≤ 1518 ∧ s.dev.level = .standby ∧ (s.dev.wakeFrame (ethFrame b) = false ∨ s.dev.bit PWR_WAKECFG 0 2 = false) :=
  ⟨withR base [(ETH_MCFG, 0, 0x80000000), (PWR_WAKECFG, 0, 4), (PWR_LEVEL, 0, 3)], 7, 0, 5, List.replicate 12 0xFF ++ [8, 0] ++ List.replicate 20 7, by decide +kernel⟩

theorem witness_EthernetMovesFramesThroughItsQueues_21 : ∃ (s : State) (t0 m stamp : Nat) (good : Bool) (b : List Byte),
    s.dev.bankOff 5 = true ∨ s.dev.macOn m = false ∨ s.dev.backendStops m = true :=
  ⟨onD base (fun d => { d with pwr := { d.pwr with vioLow := 32 } }), 7, 0, 5, true, [1], by decide +kernel⟩

theorem witness_EthernetMovesFramesThroughItsQueues_22 : ∃ (s : State) (t0 m sp : Nat) (b : Bool),
    s.dev.macOn m = false :=
  ⟨base, 7, 0, 1, true, by decide +kernel⟩

theorem witness_MailboxesCarryRequestsAndResponses_1 : ∃ (s : State) (i : Initiator) (m n : Nat) (v : Word),
    m < 2 ∧ Passes s i (MBX_REQ m) n ∧ bits (s.dev.rdB (MBX_STAT m) 0 i.id) 1 0 = 0 ∧ bits v 13 0 ≠ 0 ∧ bits v 13 0 ≤ 12288 ∧ s.dev.up (mbxTarget m) = true :=
  ⟨base, .core3, 1, 0, 0xAB003000, by decide +kernel⟩

theorem witness_MailboxesCarryRequestsAndResponses_2 : ∃ (s : State) (i : Initiator) (m n : Nat) (v : Word),
    m < 2 ∧ Passes s i (MBX_REQ m) n ∧ bits (s.dev.rdB (MBX_STAT m) 0 i.id) 1 0 = 0 ∧ bits v 13 0 ≠ 0 ∧ bits v 13 0 ≤ 12288 ∧ s.dev.up (mbxTarget m) = false :=
  ⟨withR base [(RST_ISLSTAT, 0, 0x30)], .core0, 1, 0, 0xAB000001, by decide +kernel⟩

theorem witness_MailboxesCarryRequestsAndResponses_3 : ∃ (s : State) (i : Initiator) (m n : Nat) (v : Word),
    m < 2 ∧ Passes s i (MBX_REQ m) n ∧ (bits (s.dev.rdB (MBX_STAT m) 0 i.id) 1 0 ≠ 0 ∨ bits v 13 0 = 0 ∨ 12288 < bits v 13 0) :=
  ⟨base, .core0, 0, 0, 0x3001, by decide +kernel, by decide +kernel⟩

theorem witness_MailboxesCarryRequestsAndResponses_4 : ∃ (s : State) (i : Initiator) (m : Nat) (r : MbxReq) (b : List Byte),
    m < 2 ∧ s.dev.mbxReq m i = some r ∧ r.ready = some b ∧ s.dev.up (mbxTarget m) = true ∧ b.length ≤ 12288 :=
  ⟨onD base (fun d => d.setMbx 1 .core2 (some { len := 4, tag := 5, since := 0, ready := some (List.replicate 3077 9) })), .core2, 1, { len := 4, tag := 5, since := 0, ready := some (List.replicate 3077 9) }, List.replicate 3077 9, by decide +kernel⟩

theorem witness_MailboxesCarryRequestsAndResponses_5 : ∃ (s : State) (i : Initiator) (m n : Nat) (v : Word),
    m < 2 ∧ Passes s i (MBX_ACK m) n ∧ bitOf v 0 = true ∧ bits (s.dev.rdB (MBX_STAT m) 0 i.id) 1 0 = 2 :=
  ⟨onD base (fun d => d.wrB (MBX_STAT 1) 0 1 0xAB02), .core1, 1, 0, 1, by decide +kernel⟩

theorem witness_MailboxesCarryRequestsAndResponses_6 : ∃ (s : State) (i : Initiator) (m t0 : Nat) (r : MbxReq),
    m < 2 ∧ s.dev.mbxReq m i = some r ∧ r.since + max 1 (s.dev.fld (MBX_TMO m) 0 15 0) * 1000000 ≤ t0 :=
  ⟨onD base (fun d => d.setMbx 0 .core2 (some { len := 4, tag := 5, since := 0 })), .core2, 0, 100000000, { len := 4, tag := 5, since := 0 }, by decide +kernel⟩

theorem witness_MailboxesCarryRequestsAndResponses_8 : ∃ (s : State) (i : Initiator) (m k : Nat) (r : MbxReq),
    m < 2 ∧ s.dev.mbxReq m i = some r ∧ r.ready = none ∧ s.dev.up (mbxTarget m) = true ∧ s.dev.mbxRefuse m i r = some k :=
  ⟨onD base (fun d => d.setMbx 1 .core2 (some { len := 4, tag := 5, since := 0 })), .core2, 1, 1, { len := 4, tag := 5, since := 0 }, by decide +kernel⟩

theorem witness_MailboxesCarryRequestsAndResponses_9 : ∃ (s : State) (i : Initiator) (m : Nat),
    m < 2 ∧ (s.dev.up (mbxTarget m) = false ∨ ((s.dev.mbxReq m i).map (fun r => r.ready.isNone && (s.dev.mbxRefuse m i r).isNone)).getD true = true) :=
  ⟨base, .core2, 1, by decide +kernel⟩

theorem witness_MailboxesCarryRequestsAndResponses_10 : ∃ (s : State) (i : Initiator) (m n : Nat) (v : Word),
    m < 2 ∧ Passes s i (MBX_ACK m) n ∧ (bitOf v 0 = false ∨ bits (s.dev.rdB (MBX_STAT m) 0 i.id) 1 0 ≠ 2) :=
  ⟨base, .core2, 1, 0, 1, by decide +kernel⟩

theorem witness_MailboxesCarryRequestsAndResponses_11 : ∃ (s : State) (i : Initiator) (m t0 : Nat),
    m < 2 ∧ ((s.dev.mbxReq m i).map (fun r => decide (t0 < r.since + max 1 (s.dev.fld (MBX_TMO m) 0 15 0) * 1000000))).getD true = true :=
  ⟨onD base (fun d => d.setMbx 0 .core2 (some { len := 4, tag := 5, since := 0 })), .core2, 0, 99999999, by decide +kernel⟩

theorem witness_TheKeyTreeDerivesAndRenews_1 : ∃ (s : State) (i : Initiator) (v : Word) (n : Nat),
    Passes s i KEY_NCFG n ∧ 3 ≤ n ∧ bits v 26 24 < 6 ∧ s.dev.slotEn n = false ∧ s.dev.enableOk n (v ||| 0x80000000) = true :=
  ⟨onD (withR (selS .core0 0x11 255 base) [(KEY_NCFG, 1, 0x80010000)]) (fun d => d.setKeySlot 1 { key := [1], derivations := 1 }), .core0, 0x01000001, 255, by decide +kernel⟩

theorem witness_TheKeyTreeDerivesAndRenews_2 : ∃ (s : State) (i : Initiator) (v : Word) (n : Nat),
    Passes s i KEY_NCFG n ∧ (n < 3 ∨ 6 ≤ bits v 26 24 ∨ (s.dev.slotEn n = false ∧ s.dev.enableOk n (v ||| 0x80000000) = false)) :=
  ⟨selS .core0 0x11 9 base, .core0, 0x01000001, 9, by decide +kernel⟩

theorem witness_TheKeyTreeDerivesAndRenews_3 : ∃ (s : State) (t0 n : Nat),
    s.dev.up .key = true ∧ n < 256 ∧ n ≠ 0 ∧ s.dev.derivable n = true :=
  ⟨onD (withR base [(KEY_NCFG, 1, 0x80010000), (KEY_NCFG, 9, 0x82020001)]) (fun d => d.setKeySlot 1 { key := [1], derivations := 1 }), 5, 9, by decide +kernel⟩

theorem witness_TheKeyTreeDerivesAndRenews_4 : ∃ (s : State) (i : Initiator) (n : Nat),
    Passes s i KEY_NCTL n ∧ n ≠ 2 ∧ s.dev.slotEn n = true ∧ s.dev.genBad n = false ∧ s.dev.gen n < 0xFFFFFFFF :=
  ⟨onD (withR (selS .core0 0x11 9 base) [(KEY_NCFG, 9, 0x80020001), (KEY_NCFG, 10, 0x81030009), (KEY_NCFG, 11, 0x8204000A)]) (fun d => ((d.setKeySlot 9 { key := [1], derivations := 1 }).setKeySlot 10 { key := [2], derivations := 4 }).setKeySlot 11 { key := [3], derivations := 4 }), .core0, 9, by decide +kernel⟩

theorem witness_TheKeyTreeDerivesAndRenews_5 : ∃ (s : State) (i : Initiator) (n : Nat) (w : Bool),
    (Passes s i KEY_NCTL n ∧ n ≠ 2 ∧ s.dev.slotEn n = true ∧ s.dev.genBad n = false ∧ (s.dev.gen n = 0xFFFFFFFF ∨ w = false)) :=
  ⟨onD (withR (selS .core0 0x11 9 base) [(KEY_NCFG, 9, 0x80020001)]) (fun d => { d with key := { d.key with gens := [(9, 0xFFFFFFFF)] } }), .core0, 9, true, by decide +kernel⟩

theorem witness_TheKeyTreeDerivesAndRenews_6 : ∃ (s : State) (t0 : Nat) (j : Job),
    JobReady s 0x12 j ∧ j.op = 0x60 ∧ inSram j.key (hssKeyLen (s.sys.read j.key 8)) = true :=
  ⟨jobS 0x12 0x60 5 0 20 0x08003000 base, 7, jobOf 0x60 5 0 20 0x08003000, by decide +kernel⟩

theorem witness_TheKeyTreeDerivesAndRenews_7 : ∃ (s : State) (t0 : Nat) (j : Job) (k : List Byte),
    JobReady s 0x12 j ∧ j.op = 0x61 ∧ s.dev.handleKey j.key 0x61 = some k ∧ (if s.dev.slotUse (j.key % 256) = 2 then 64 else if s.dev.slotUse (j.key % 256) = 3 then 96 else 57) ≤ j.outCap :=
  ⟨onD (withR (jobS 0x12 0x61 0 64 0 0x209 base) [(KEY_NCFG, 9, 0x82020001), (KEY_NHANDLE, 9, 0x209)]) (fun d => d.setKeySlot 9 { key := [1], derivations := 1 }), 7, jobOf 0x61 0 64 0 0x209, [1], by decide +kernel, by decide +kernel⟩

theorem witness_TheKeyTreeDerivesAndRenews_8 : ∃ (s : State) (t0 : Nat) (j : Job),
    JobReady s 0x12 j ∧ j.op = 0x61 ∧ s.dev.handleKey j.key 0x61 = none :=
  ⟨jobS 0x12 0x61 0 64 0 0x209 base, 7, jobOf 0x61 0 64 0 0x209, by decide +kernel⟩

theorem witness_TheKeyTreeDerivesAndRenews_9 : ∃ (s : State) (t0 : Nat) (j : Job),
    JobReady s 0x12 j ∧ j.op = 0x63 ∧ s.dev.key.topBuilt = true ∧ 60 ≤ j.outCap :=
  ⟨onD (jobS 0x12 0x63 0 60 0 0 base) (fun d => { d with key := { d.key with topBuilt := true } }), 7, jobOf 0x63 0 60 0 0, by decide +kernel⟩

theorem witness_TheKeyTreeDerivesAndRenews_10 : ∃ (s : State) (t0 : Nat) (e : Bool),
    s.dev.key.topBuilt = false :=
  ⟨jobS 0x12 0x63 0 60 0 0 base, 7, true, by decide +kernel⟩

theorem witness_TheKeyTreeDerivesAndRenews_11 : ∃ (s : State) (t0 m : Nat),
    s.dev.up .key = true ∧ s.dev.engHas 0x12 = true ∧ inSram (s.dev.jobAddr 0x12) 32 = true ∧ (s.dev.eng 0x12).result = some (1, m) ∧ m ≠ 0 :=
  ⟨onD (jobS 0x12 0x63 0 10 0 1 base) (fun d => d.setEng 0x12 { result := some (1, 60) }), 7, 60, by decide +kernel⟩

theorem witness_TheKeyTreeDerivesAndRenews_12 : ∃ (s : State) (i : Initiator) (v : Word) (n : Nat),
    Passes s i KEY_NCFG n ∧ 3 ≤ n ∧ bits v 26 24 < 6 ∧ s.dev.slotEn n = true :=
  ⟨onD (withR (selS .core0 0x11 9 base) [(KEY_NCFG, 9, 0x80010000)]) (fun d => d.setKeySlot 1 { key := [1], derivations := 1 }), .core0, 0x01000001, 9, by decide +kernel⟩

theorem witness_TheKeyTreeDerivesAndRenews_13 : ∃ (s : State) (t0 : Nat),
    s.dev.up .key = true ∧ s.dev.derivable 0 = true :=
  ⟨withR base [(KEY_NCFG, 0, 0x80000000)], 5, by decide +kernel⟩

theorem witness_TheKeyTreeDerivesAndRenews_14 : ∃ (s : State) (t0 n : Nat),
    s.dev.up .key = false ∨ 256 ≤ n ∨ s.dev.derivable n = false :=
  ⟨base, 5, 9, by decide +kernel⟩

theorem witness_TheKeyTreeDerivesAndRenews_15 : ∃ (s : State) (i : Initiator) (w : Bool),
    Passes s i KEY_NCTL 2 :=
  ⟨selS .core0 0x11 2 base, .core0, true, by decide +kernel⟩

theorem witness_TheKeyTreeDerivesAndRenews_16 : ∃ (s : State) (i : Initiator) (n : Nat) (w : Bool),
    Passes s i KEY_NCTL n ∧ n ≠ 2 ∧ (s.dev.slotEn n = false ∨ s.dev.genBad n = true) :=
  ⟨selS .core0 0x11 9 base, .core0, 9, true, by decide +kernel⟩

theorem witness_TheKeyTreeDerivesAndRenews_17 : ∃ (s : State) (i : Initiator) (n : Nat),
    Passes s i KEY_NCTL n ∧ n ≠ 2 ∧ s.dev.slotEn n = true ∧ s.dev.genBad n = false ∧ s.dev.gen n < 0xFFFFFFFF ∧ (s.dev.descend n 5).contains 2 = true :=
  ⟨onD (withR (selS .core0 0x11 1 base) [(KEY_NCFG, 1, 0x80010000), (KEY_NCFG, 2, 0x84020001)]) (fun d => (d.setKeySlot 1 { key := [1], derivations := 1 }).setKeySlot 2 { key := [2], derivations := 1 }), .core0, 1, by decide +kernel⟩

theorem witness_TheKeyTreeDerivesAndRenews_18 : ∃ (s : State) (t0 : Nat) (j : Job) (x : Instr × List Nat),
    JobReady s 0x12 j ∧ x ∈ keyCmds t0 false ∧ j.op ∈ x.2 :=
  ⟨jobS 0x12 0x60 3 32 0 0 base, 7, jobOf 0x60 3 32 0 0, (.hssVerify 7 false, [0x60]), by decide +kernel⟩

theorem witness_TheKeyTreeDerivesAndRenews_19 : ∃ (s : State) (t0 : Nat) (ok : Bool) (x : Instr × List Nat),
    s.dev.up (pageIsland 0x12) = true ∧ s.dev.engHas 0x12 = true ∧ (s.dev.eng 0x12).result = none ∧ inSram (s.dev.jobAddr 0x12) 32 = true ∧ x ∈ keyCmds t0 ok ∧ (s.sys.job (s.dev.jobAddr 0x12)).op ∈ x.2 ∧ (s.sys.job (s.dev.jobAddr 0x12)).bufsOk = false :=
  ⟨jobS 0x12 0x60 16777216 32 0 0 base, 7, false, (.hssVerify 7 false, [0x60]), by decide +kernel, by decide +kernel⟩

theorem witness_TheKeyTreeDerivesAndRenews_20 : ∃ (s : State) (t0 : Nat) (ok : Bool) (x : Instr × List Nat),
    x ∈ keyCmds t0 ok ∧ (s.dev.up .key = false ∨ s.dev.engHas 0x12 = false ∨ (s.dev.eng 0x12).result.isSome = true ∨ inSram (s.dev.jobAddr 0x12) 32 = false ∨ (s.sys.job (s.dev.jobAddr 0x12)).op ∉ x.2) :=
  ⟨jobS 0x12 4 3 32 0 0 base, 7, false, (.hssVerify 7 false, [0x60]), by decide +kernel, by decide +kernel⟩

theorem witness_TheKeyTreeDerivesAndRenews_21 : ∃ (s : State) (t0 : Nat) (j : Job),
    JobReady s 0x12 j ∧ j.op = 0x60 ∧ inSram j.key (hssKeyLen (s.sys.read j.key 8)) = false :=
  ⟨jobS 0x12 0x60 5 0 20 0x18000000 base, 7, jobOf 0x60 5 0 20 0x18000000, by decide +kernel⟩

theorem witness_TheKeyTreeDerivesAndRenews_22 : ∃ (s : State) (t0 : Nat) (j : Job) (k : List Byte),
    JobReady s 0x12 j ∧ j.op = 0x61 ∧ s.dev.handleKey j.key 0x61 = some k ∧ j.outCap < (if s.dev.slotUse (j.key % 256) = 2 then 64 else if s.dev.slotUse (j.key % 256) = 3 then 96 else 57) :=
  ⟨onD (withR (jobS 0x12 0x61 0 63 0 0x209 base) [(KEY_NCFG, 9, 0x82020001), (KEY_NHANDLE, 9, 0x209)]) (fun d => d.setKeySlot 9 { key := [1], derivations := 1 }), 7, jobOf 0x61 0 63 0 0x209, [1], by decide +kernel⟩

theorem witness_TheKeyTreeDerivesAndRenews_23 : ∃ (s : State) (t0 : Nat) (j : Job),
    JobReady s 0x12 j ∧ j.op = 0x63 ∧ s.dev.key.topBuilt = true ∧ j.outCap < 60 :=
  ⟨onD (jobS 0x12 0x63 0 59 0 0 base) (fun d => { d with key := { d.key with topBuilt := true } }), 7, jobOf 0x63 0 59 0 0, by decide +kernel⟩

theorem witness_TheKeyTreeDerivesAndRenews_24 : ∃ (s : State) (t0 : Nat) (j : Job),
    JobReady s 0x12 j ∧ j.op = 0x63 ∧ s.dev.key.topBuilt = true :=
  ⟨onD (jobS 0x12 0x63 0 59 0 0 base) (fun d => { d with key := { d.key with topBuilt := true } }), 7, jobOf 0x63 0 59 0 0, by decide +kernel⟩

theorem witness_TheKeyTreeDerivesAndRenews_25 : ∃ (s : State) (t0 : Nat) (ok : Bool),
    s.dev.up .key = true ∧ s.dev.engHas 0x12 = true ∧ (s.dev.eng 0x12).result = none ∧ inSram (s.dev.jobAddr 0x12) 32 = true ∧ (s.sys.job (s.dev.jobAddr 0x12)).op = 0x63 ∧ (s.sys.job (s.dev.jobAddr 0x12)).bufsOk = false ∧ s.dev.key.topBuilt = true :=
  ⟨onD (jobS 0x12 0x63 16777216 59 0 0 base) (fun d => { d with key := { d.key with topBuilt := true } }), 7, true, by decide +kernel⟩

theorem witness_TheKeyTreeDerivesAndRenews_26 : ∃ (s : State) (t0 : Nat) (ok : Bool),
    s.dev.up .key = false ∨ s.dev.engHas 0x12 = false ∨ (s.dev.eng 0x12).result.isSome = true ∨ inSram (s.dev.jobAddr 0x12) 32 = false ∨ (s.sys.job (s.dev.jobAddr 0x12)).op ≠ 0x63 :=
  ⟨onD (jobS 0x12 0x61 0 59 0 0 base) (fun d => { d with key := { d.key with topBuilt := true } }), 7, true, by decide +kernel⟩

theorem witness_TheKeyTreeDerivesAndRenews_27 : ∃ (s : State) (t0 m : Nat),
    s.dev.up .key = true ∧ s.dev.engHas 0x12 = true ∧ inSram (s.dev.jobAddr 0x12) 32 = true ∧ (s.dev.eng 0x12).result = some (1, m) ∧ m ≠ 0 ∧ (s.sys.job (s.dev.jobAddr 0x12)).irq = true :=
  ⟨onD (jobS 0x12 0x63 0 10 0 1 base) (fun d => d.setEng 0x12 { result := some (1, 60) }), 7, 60, by decide +kernel⟩

theorem witness_TheKeyTreeDerivesAndRenews_28 : ∃ (s : State) (t0 : Nat),
    s.dev.up .key = true ∧ s.dev.engHas 0x12 = true ∧ inSram (s.dev.jobAddr 0x12) 32 = true ∧ (s.dev.eng 0x12).result = none ∧ [0x60, 0x61, 0x62, 0x63].contains (s.sys.job (s.dev.jobAddr 0x12)).op = false :=
  ⟨jobS 0x12 3 0 10 0 0 base, 7, by decide +kernel⟩

theorem witness_TheKeyTreeDerivesAndRenews_29 : ∃ (s : State) (t0 : Nat),
    s.dev.up .key = true ∧ s.dev.engHas 0x12 = true ∧ inSram (s.dev.jobAddr 0x12) 32 = true ∧ (s.dev.eng 0x12).result = some (1, 0) :=
  ⟨onD (jobS 0x12 0x63 0 10 0 1 base) (fun d => d.setEng 0x12 { result := some (1, 0) }), 7, by decide +kernel⟩

theorem witness_TheKeyTreeDerivesAndRenews_30 : ∃ (s : State) (t0 n : Nat),
    s.dev.up .key = true ∧ s.dev.engHas 0x12 = true ∧ inSram (s.dev.jobAddr 0x12) 32 = true ∧ (s.dev.eng 0x12).result = some (2, n) :=
  ⟨onD (jobS 0x12 0x63 0 10 0 1 base) (fun d => d.setEng 0x12 { result := some (2, 0) }), 7, 0, by decide +kernel⟩

theorem witness_TheKeyTreeDerivesAndRenews_31 : ∃ (s : State) (t0 st n : Nat),
    s.dev.up .key = true ∧ s.dev.engHas 0x12 = true ∧ inSram (s.dev.jobAddr 0x12) 32 = true ∧ (s.dev.eng 0x12).result = some (st, n) ∧ 2 < st ∧ st < 256 :=
  ⟨onD (jobS 0x12 0x63 0 10 0 1 base) (fun d => d.setEng 0x12 { result := some (7, 0) }), 7, 7, 0, by decide +kernel⟩

theorem witness_TheKeyTreeDerivesAndRenews_32 : ∃ (s : State) (t0 : Nat),
    s.dev.up .key = true ∧ s.dev.engHas 0x12 = true ∧ inSram (s.dev.jobAddr 0x12) 32 = false :=
  ⟨withR base [(engLen 0x12, 0, 4), (engHead 0x12, 0, 1)], 7, by decide +kernel⟩

theorem witness_TheKeyTreeDerivesAndRenews_33 : ∃ (s : State) (t0 : Nat),
    s.dev.up .key = false ∨ s.dev.engHas 0x12 = false ∨ (inSram (s.dev.jobAddr 0x12) 32 = true ∧ (s.dev.eng 0x12).result = none ∧ [0x60, 0x61, 0x62, 0x63].contains (s.sys.job (s.dev.jobAddr 0x12)).op = true) :=
  ⟨jobS 0x12 0x63 0 10 0 1 base, 7, by decide +kernel⟩

theorem witness_SignaturesTakeEachIndexOnce_1 : ∃ (s : State) (t0 : Nat) (w : SigFor) (ok : Bool),
    s.dev.signs = true ∧ s.sys.sigWanted w = true ∧ s.dev.derived 2 = true ∧ s.dev.bit KEY_SIGSTAT 0 5 = false ∧ s.dev.key.qnext ≠ s.dev.key.qlimit :=
  ⟨onD base (fun d => { d.setKeySlot 2 { key := [1] } with bil := { d.bil with sess := [(3, some { outlet := 0, num := 1, tag := [], state := 2, signAsked := true })] }, key := { (d.setKeySlot 2 { key := [1] }).key with qnext := 63, qlimit := 64 } }), 5, .session 3, false, by decide +kernel⟩

theorem witness_SignaturesTakeEachIndexOnce_2 : ∃ (s : State) (t0 : Nat) (w : SigFor),
    s.dev.signs = true ∧ s.sys.sigWanted w = true ∧ s.dev.derived 2 = true ∧ s.dev.bit KEY_SIGSTAT 0 5 = false ∧ s.dev.key.qnext = s.dev.key.qlimit ∧ s.dev.key.qlimit < 2 ^ 30 :=
  ⟨onD base (fun d => { d.setKeySlot 2 { key := [1] } with bil := { d.bil with sess := [(3, some { outlet := 0, num := 1, tag := [], state := 2, signAsked := true })] }, key := { (d.setKeySlot 2 { key := [1] }).key with qnext := 64, qlimit := 64 } }), 5, .session 3, by decide +kernel⟩

theorem witness_SignaturesTakeEachIndexOnce_3 : ∃ (s : State) (t0 : Nat) (w : SigFor) (ok : Bool),
    s.dev.signs = true ∧ s.sys.sigWanted w = true ∧ s.dev.derived 2 = true ∧ s.dev.bit KEY_SIGSTAT 0 5 = false ∧ s.dev.key.qnext = s.dev.key.qlimit ∧ 2 ^ 30 ≤ s.dev.key.qlimit :=
  ⟨onD base (fun d => { d.setKeySlot 2 { key := [1] } with bil := { d.bil with sess := [(3, some { outlet := 0, num := 1, tag := [], state := 2, signAsked := true })] }, key := { (d.setKeySlot 2 { key := [1] }).key with qnext := 2 ^ 30, qlimit := 2 ^ 30 } }), 5, .session 3, true, by decide +kernel⟩

theorem witness_SignaturesTakeEachIndexOnce_4 : ∃ (s : State) (t0 k : Nat) (r : SigReq) (l : List SigReq),
    s.dev.signs = true ∧ s.dev.key.reqs = r :: l ∧ r.what = .session k ∧ (r.k2 ≠ (s.dev.keySlot 2).key ∨ (s.dev.key.topBuilt = true ∧ s.dev.key.built.contains (r.q / 32768) = true)) :=
  ⟨onD base (fun d => { d.setKeySlot 2 { key := [1] } with key := { (d.setKeySlot 2 { key := [1] }).key with qnext := 1, qlimit := 64, topBuilt := true, built := [0], reqs := [{ what := .session 3, q := 0, k2 := [1] }] } }), 5, 3, { what := .session 3, q := 0, k2 := [1] }, [], by decide +kernel⟩

theorem witness_SignaturesTakeEachIndexOnce_5 : ∃ (s : State) (t0 : Nat),
    s.dev.signs = true ∧ s.dev.key.building.contains 0 = true ∧ s.dev.paused 0 = false :=
  ⟨onD base (fun d => { d with key := { d.key with building := [0, 1] } }), 5, by decide +kernel⟩

theorem witness_SignaturesTakeEachIndexOnce_6 : ∃ (s : State) (t0 k : Nat),
    s.dev.signs = true ∧ s.dev.key.building.contains (k + 1) = true ∧ s.dev.paused (k + 1) = false :=
  ⟨onD base (fun d => { d with key := { d.key with building := [0, 1] } }), 5, 0, by decide +kernel⟩

theorem witness_SignaturesTakeEachIndexOnce_7 : ∃ (s : State) (t0 : Nat) (j : Job),
    JobReady s 0x12 j ∧ j.op = 0x62 ∧ j.inLen = 32 ∧ 5844 ≤ j.outCap ∧ kvGet s.dev.key.done 0 [] ≠ [] ∧ (kvGet s.dev.key.done 0 []).length ≤ j.outCap :=
  ⟨onD (jobS 0x12 0x62 32 5844 0 0 base) (fun d => { d with key := { d.key with done := [(0, [1, 2, 3])] } }), 7, jobOf 0x62 32 5844 0 0, by decide +kernel⟩

theorem witness_SignaturesTakeEachIndexOnce_8 : ∃ (s : State) (t0 : Nat) (j : Job),
    (JobReady s 0x12 j ∧ j.op = 0x62 ∧ (j.inLen ≠ 32 ∨ j.outCap < 5844)) :=
  ⟨jobS 0x12 0x62 32 5843 0 0 base, 7, jobOf 0x62 32 5843 0 0, by decide +kernel⟩

theorem witness_SignaturesTakeEachIndexOnce_9 : ∃ (s : State) (i : Initiator) (v : Word) (n : Nat),
    Passes s i ATT_EXTCTL n ∧ bitOf v 0 = true :=
  ⟨base, .core0, 0x101, 0, by decide +kernel⟩

theorem witness_SignaturesTakeEachIndexOnce_10 : ∃ (s : State) (i : Initiator) (v : Word) (n : Nat),
    Passes s i ATT_SVNCOMMIT n ∧ bitOf v 0 = true :=
  ⟨withR base [(ATT_SVNK, 0, 5), (ATT_BSVNK, 0, 3), (ATT_BSVNO, 0, 3)], .core0, 1, 0, by decide +kernel⟩

theorem witness_SignaturesTakeEachIndexOnce_11 : ∃ (s : State) (t0 : Nat) (w : SigFor) (ok : Bool),
    s.dev.signs = true ∧ s.sys.sigWanted w = true ∧ s.dev.derived 2 = true ∧ s.dev.bit KEY_SIGSTAT 0 5 = true :=
  ⟨onD (withR (jobS 0x12 0x62 32 5844 0 0 base) [(KEY_SIGSTAT, 0, 0x20)]) (fun d => { d.setKeySlot 2 { key := [1] } with key := { (d.setKeySlot 2 { key := [1] }).key with qnext := 1, qlimit := 64 } }), 5, .statement, true, by decide +kernel⟩

theorem witness_SignaturesTakeEachIndexOnce_12 : ∃ (s : State) (t0 : Nat) (w : SigFor),
    s.dev.signs = true ∧ s.sys.sigWanted w = true ∧ s.dev.derived 2 = true ∧ s.dev.bit KEY_SIGSTAT 0 5 = false ∧ s.dev.key.qnext = s.dev.key.qlimit ∧ s.dev.key.qlimit < 2 ^ 30 :=
  ⟨onD (withR (jobS 0x12 0x62 32 5844 0 0 base) []) (fun d => { d.setKeySlot 2 { key := [1] } with key := { (d.setKeySlot 2 { key := [1] }).key with qnext := 64, qlimit := 64 } }), 5, .statement, by decide +kernel⟩

theorem witness_SignaturesTakeEachIndexOnce_13 : ∃ (s : State) (t0 : Nat) (ok : Bool),
    s.dev.signs = true ∧ s.sys.sigWanted .statement = true ∧ s.dev.derived 2 = true ∧ s.dev.bit KEY_SIGSTAT 0 5 = false ∧ s.dev.key.qnext = s.dev.key.qlimit ∧ 2 ^ 30 ≤ s.dev.key.qlimit :=
  ⟨onD (withR (jobS 0x12 0x62 32 5844 0 0 base) []) (fun d => { d.setKeySlot 2 { key := [1] } with key := { (d.setKeySlot 2 { key := [1] }).key with qnext := 2 ^ 30, qlimit := 2 ^ 30 } }), 5, true, by decide +kernel⟩

theorem witness_SignaturesTakeEachIndexOnce_14 : ∃ (s : State) (t0 : Nat) (w : SigFor) (ok : Bool),
    s.dev.signs = false ∨ s.sys.sigWanted w = false ∨ s.dev.derived 2 = false :=
  ⟨base, 5, .session 3, true, by decide +kernel⟩

theorem witness_SignaturesTakeEachIndexOnce_15 : ∃ (s : State) (t0 : Nat) (r : SigReq) (l : List SigReq),
    s.dev.signs = true ∧ s.dev.key.reqs = r :: l ∧ r.what = .statement ∧ (r.k2 ≠ (s.dev.keySlot 2).key ∨ (s.dev.key.topBuilt = true ∧ s.dev.key.built.contains (r.q / 32768) = true)) :=
  ⟨onD (jobS 0x12 0x62 32 5844 0 0 base) (fun d => { d.setKeySlot 2 { key := [1] } with key := { (d.setKeySlot 2 { key := [1] }).key with qnext := 1, qlimit := 64, topBuilt := true, built := [0], reqs := [{ what := .statement, q := 0, k2 := [1] }] } }), 5, { what := .statement, q := 0, k2 := [1] }, [], by decide +kernel, by decide +kernel⟩

theorem witness_SignaturesTakeEachIndexOnce_16 : ∃ (s : State) (t0 : Nat),
    s.dev.signs = false ∨ (s.dev.key.reqs.head?.map (fun r => decide (r.k2 = (s.dev.keySlot 2).key) && !(s.dev.key.topBuilt && s.dev.key.built.contains (r.q / 32768)))).getD true = true :=
  ⟨onD base (fun d => { d.setKeySlot 2 { key := [1] } with bil := { d.bil with sess := [(3, some { outlet := 0, num := 1, tag := [], state := 2, signAsked := true })] }, key := { (d.setKeySlot 2 { key := [1] }).key with qnext := 1, qlimit := 64, topBuilt := true, reqs := [{ what := .session 3, q := 0, k2 := [1] }] } }), 5, by decide +kernel⟩

theorem witness_SignaturesTakeEachIndexOnce_17 : ∃ (s : State) (t0 k : Nat),
    s.dev.signs = false ∨ s.dev.key.building.contains k = false ∨ s.dev.paused k = true :=
  ⟨base, 5, 7, by decide +kernel⟩

theorem witness_SignaturesTakeEachIndexOnce_18 : ∃ (s : State) (t0 : Nat) (j : Job) (ok : Bool),
    JobReady s 0x12 j ∧ j.op = 0x62 ∧ j.inLen = 32 ∧ 5844 ≤ j.outCap ∧ kvGet s.dev.key.done 0 [] = [] :=
  ⟨jobS 0x12 0x62 32 5844 0 0 base, 7, jobOf 0x62 32 5844 0 0, true, by decide +kernel⟩

theorem witness_SignaturesTakeEachIndexOnce_19 : ∃ (s : State) (t0 : Nat) (j : Job),
    JobReady s 0x12 j ∧ j.op = 0x62 ∧ j.inLen = 32 ∧ 5844 ≤ j.outCap ∧ j.outCap < (kvGet s.dev.key.done 0 []).length :=
  ⟨onD (jobS 0x12 0x62 32 5844 0 0 base) (fun d => { d with key := { d.key with done := [(0, List.replicate 5845 1)] } }), 7, jobOf 0x62 32 5844 0 0, by decide +kernel⟩

theorem witness_SignaturesTakeEachIndexOnce_20 : ∃ (s : State) (t0 : Nat) (j : Job),
    JobReady s 0x12 j ∧ j.op = 0x62 ∧ (kvGet s.dev.key.done 0 [] ≠ [] ∨ j.inLen ≠ 32 ∨ j.outCap < 5844) :=
  ⟨jobS 0x12 0x62 32 5843 0 0 base, 7, jobOf 0x62 32 5843 0 0, by decide +kernel⟩

theorem witness_SignaturesTakeEachIndexOnce_21 : ∃ (s : State) (t0 : Nat) (ok : Bool),
    s.dev.up .key = true ∧ s.dev.engHas 0x12 = true ∧ (s.dev.eng 0x12).result = none ∧ inSram (s.dev.jobAddr 0x12) 32 = true ∧ (s.sys.job (s.dev.jobAddr 0x12)).op = 0x62 ∧ (s.sys.job (s.dev.jobAddr 0x12)).bufsOk = false :=
  ⟨jobS 0x12 0x62 16777216 5843 0 0 base, 7, true, by decide +kernel⟩

theorem witness_SignaturesTakeEachIndexOnce_22 : ∃ (s : State) (t0 : Nat) (ok : Bool),
    s.dev.up .key = false ∨ s.dev.engHas 0x12 = false ∨ (s.dev.eng 0x12).result.isSome = true ∨ inSram (s.dev.jobAddr 0x12) 32 = false ∨ (s.sys.job (s.dev.jobAddr 0x12)).op ≠ 0x62 :=
  ⟨jobS 0x12 0x61 32 5843 0 0 base, 7, true, by decide +kernel⟩

theorem witness_SignaturesTakeEachIndexOnce_23 : ∃ (s : State) (i : Initiator) (v : Word) (n : Nat),
    Passes s i ATT_EXTCTL n ∧ bitOf v 0 = false :=
  ⟨base, .core0, 0x100, 0, by decide +kernel⟩

theorem witness_SignaturesTakeEachIndexOnce_24 : ∃ (s : State) (i : Initiator) (v : Word) (n : Nat),
    Passes s i ATT_SVNCOMMIT n ∧ bitOf v 0 = false :=
  ⟨base, .core0, 0x100, 0, by decide +kernel⟩

theorem witness_LifeCycleRequestsAreCheckedAndConfirmed_1 : ∃ (s : State) (i : Initiator) (g n : Nat),
    Passes s i LCM_REQ n ∧ 1 ≤ g ∧ g ≤ 5 ∧ s.sys.lcCheck i g = 0 :=
  ⟨withR base [(PWR_LEVEL, 0, 2)], .core0, 5, 0, by decide +kernel⟩

theorem witness_LifeCycleRequestsAreCheckedAndConfirmed_2 : ∃ (s : State) (i : Initiator) (g n : Nat),
    Passes s i LCM_REQ n ∧ 1 ≤ g ∧ g ≤ 5 ∧ s.sys.lcCheck i g ≠ 0 :=
  ⟨base, .core0, 5, 0, by decide +kernel⟩

theorem witness_LifeCycleRequestsAreCheckedAndConfirmed_3 : ∃ (s : State) (i : Initiator) (n : Nat),
    Passes s i LCM_REQ n ∧ s.sys.lcCheck i 6 = 0 :=
  ⟨withR base [(PWR_LEVEL, 0, 2), (LCM_STATE, 0, 1), (SYS_STAT, 0, 0x10)], .debug, 0, by decide +kernel⟩

theorem witness_LifeCycleRequestsAreCheckedAndConfirmed_4 : ∃ (s : State) (i : Initiator) (n : Nat),
    Passes s i LCM_REQ n ∧ s.sys.lcCheck i 7 = 0 :=
  ⟨withR base [(PWR_LEVEL, 0, 2), (LCM_STATE, 0, 3)], .core0, 0, by decide +kernel⟩

theorem witness_LifeCycleRequestsAreCheckedAndConfirmed_5 : ∃ (s : State) (t0 n b : Nat) (i : Initiator) (v : Word) (o : BootObs) (r : LcReq),
    Passes s i LCM_CONFIRM n ∧ s.dev.key.lcReq = some r ∧ (v.toNat ≠ r.nonce ∨ i ≠ r.init ∨ r.since + 1000000000 < max s.dev.time t0) :=
  ⟨onD base (fun d => { d with key := { d.key with lcReq := some ⟨5, .core0, 77, 0⟩ } }), 5, 0, 0, .core0, 78, {}, ⟨5, .core0, 77, 0⟩, by decide +kernel, by decide +kernel⟩

theorem witness_LifeCycleRequestsAreCheckedAndConfirmed_6 : ∃ (s : State) (t0 n b : Nat) (i : Initiator) (v : Word) (o : BootObs) (r : LcReq),
    Passes s i LCM_CONFIRM n ∧ s.dev.key.lcReq = some r ∧ v.toNat = r.nonce ∧ i = r.init ∧ max s.dev.time t0 ≤ r.since + 1000000000 ∧ r.target = 7 ∧ s.sys.lcCheck i 7 = 0 :=
  ⟨onD (withR base [(PWR_LEVEL, 0, 2), (LCM_STATE, 0, 3)]) (fun d => { d with key := { d.key with lcReq := some ⟨7, .core0, 77, 0⟩ } }), 5, 0, 0, .core0, 77, {}, ⟨7, .core0, 77, 0⟩, by decide +kernel⟩

theorem witness_LifeCycleRequestsAreCheckedAndConfirmed_7 : ∃ (s : State) (t0 n b : Nat) (i : Initiator) (v : Word) (o : BootObs) (r : LcReq),
    Passes s i LCM_CONFIRM n ∧ s.dev.key.lcReq = some r ∧ v.toNat = r.nonce ∧ i = r.init ∧ max s.dev.time t0 ≤ r.since + 1000000000 ∧ r.target = 6 ∧ s.sys.lcCheck i 6 = 0 :=
  ⟨onD (withR base [(PWR_LEVEL, 0, 2), (LCM_STATE, 0, 1), (SYS_STAT, 0, 0x10)]) (fun d => { d with key := { d.key with lcReq := some ⟨6, .debug, 77, 0⟩ } }), 5, 0, 2 ^ 288 - 1, .debug, 77, {}, ⟨6, .debug, 77, 0⟩, by decide +kernel⟩

theorem witness_LifeCycleRequestsAreCheckedAndConfirmed_8 : ∃ (s : State) (t0 n b g : Nat) (i : Initiator) (v : Word) (o : BootObs) (r : LcReq),
    Passes s i LCM_CONFIRM n ∧ s.dev.key.lcReq = some r ∧ v.toNat = r.nonce ∧ i = r.init ∧ max s.dev.time t0 ≤ r.since + 1000000000 ∧ (r.target = g ∧ (g = 1 ∨ g = 2 ∨ g = 3 ∨ g = 5) ∧ s.sys.lcCheck i g = 0) ∧ b = 0 ∧ lcMask (if g = 5 then 0 else s.dev.fld LCM_STATE 0 2 0) g &&& s.sys.fuses = 0 :=
  ⟨onD (withR base [(PWR_LEVEL, 0, 2), (LCM_STATE, 0, 3)]) (fun d => { d with key := { d.key with lcReq := some ⟨5, .core0, 77, 0⟩ } }), 5, 0, 0, 5, .core0, 77, {}, ⟨5, .core0, 77, 0⟩, by decide +kernel, by decide +kernel, by decide +kernel⟩

theorem witness_LifeCycleRequestsAreCheckedAndConfirmed_9 : ∃ (s : State) (t0 n b g : Nat) (i : Initiator) (v : Word) (o : BootObs) (r : LcReq),
    Passes s i LCM_CONFIRM n ∧ s.dev.key.lcReq = some r ∧ v.toNat = r.nonce ∧ i = r.init ∧ max s.dev.time t0 ≤ r.since + 1000000000 ∧ (r.target = g ∧ (g = 1 ∨ g = 2 ∨ g = 3 ∨ g = 5) ∧ s.sys.lcCheck i g = 0 ∧ b = lcMask 0 5 ∧ lcTorn s.sys.fuses = 0) :=
  ⟨onD (withR base [(PWR_LEVEL, 0, 2), (LCM_STATE, 0, 3)]) (fun d => { d with key := { d.key with lcReq := some ⟨5, .core0, 77, 0⟩ } }), 5, 0, lcMask 0 5, 5, .core0, 77, {}, ⟨5, .core0, 77, 0⟩, by decide +kernel, by decide +kernel⟩

theorem witness_LifeCycleRequestsAreCheckedAndConfirmed_10 : ∃ (s : State) (i : Initiator) (v : Word) (n : Nat),
    Passes s i LCM_DBGCTL n ∧ bitOf v 0 = true :=
  ⟨onD (withR base [(LCM_DBGCTL, 0, 0x100)]) (fun d => { d with key := { d.key with unlock := true } }), .core0, 1, 0, by decide +kernel⟩

theorem witness_LifeCycleRequestsAreCheckedAndConfirmed_11 : ∃ (s : State) (i : Initiator) (v : Word) (n b : Nat),
    Passes s i LCM_OWNERSET n ∧ bitOf v 0 = true ∧ s.dev.fld LCM_STATE 0 2 0 = 2 ∧ s.sys.fuses / 2 ^ 448 % 2 ^ 256 = 0 ∧ s.dev.ownerDigest ≠ 0 :=
  ⟨withR base [(LCM_STATE, 0, 2), (LCM_OWNER 7, 0, 0x80000000)], .core0, 1, 0, 2 ^ 704 - 1, by decide +kernel⟩

theorem witness_LifeCycleRequestsAreCheckedAndConfirmed_12 : ∃ (s : State) (i : Initiator) (g n : Nat),
    Passes s i LCM_REQ n ∧ (g = 0 ∨ 5 < g) :=
  ⟨base, .core0, 6, 0, by decide +kernel⟩

theorem witness_LifeCycleRequestsAreCheckedAndConfirmed_13 : ∃ (s : State) (i : Initiator) (n : Nat),
    Passes s i LCM_REQ n ∧ s.sys.lcCheck i 6 ≠ 0 :=
  ⟨base, .core0, 0, by decide +kernel⟩

theorem witness_LifeCycleRequestsAreCheckedAndConfirmed_14 : ∃ (s : State) (i : Initiator) (n : Nat),
    Passes s i LCM_REQ n ∧ s.sys.lcCheck i 7 ≠ 0 :=
  ⟨base, .core0, 0, by decide +kernel⟩

theorem witness_LifeCycleRequestsAreCheckedAndConfirmed_15 : ∃ (s : State) (t0 n b : Nat) (i : Initiator) (v : Word) (o : BootObs),
    Passes s i LCM_CONFIRM n ∧ s.dev.key.lcReq = none :=
  ⟨base, 5, 0, 3, .core0, 0, {}, by decide +kernel⟩

theorem witness_LifeCycleRequestsAreCheckedAndConfirmed_16 : ∃ (s : State) (t0 n b : Nat) (i : Initiator) (v : Word) (o : BootObs) (r : LcReq),
    Passes s i LCM_CONFIRM n ∧ s.dev.key.lcReq = some r ∧ v.toNat = r.nonce ∧ i = r.init ∧ max s.dev.time t0 ≤ r.since + 1000000000 ∧ s.sys.lcCheck i r.target ≠ 0 :=
  ⟨onD (withR base [(LCM_STATE, 0, 3)]) (fun d => { d with key := { d.key with lcReq := some ⟨5, .core0, 77, 0⟩ } }), 5, 0, 0, .core0, 77, {}, ⟨5, .core0, 77, 0⟩, by decide +kernel⟩

theorem witness_LifeCycleRequestsAreCheckedAndConfirmed_17 : ∃ (s : State) (t0 n b : Nat) (i : Initiator) (v : Word) (o : BootObs) (r : LcReq),
    Passes s i LCM_CONFIRM n ∧ s.dev.key.lcReq = some r ∧ v.toNat = r.nonce ∧ i = r.init ∧ max s.dev.time t0 ≤ r.since + 1000000000 ∧ r.target = 4 ∧ s.sys.lcCheck i 4 = 0 ∧ s.sys.authorised [0x52, 0x54, 0x4E, 0x31] r.nonce false = false :=
  ⟨onD (withR base [(PWR_LEVEL, 0, 2), (LCM_STATE, 0, 3)]) (fun d => { d with key := { d.key with lcReq := some ⟨4, .core0, 77, 0⟩ } }), 5, 0, 0, .core0, 77, {}, ⟨4, .core0, 77, 0⟩, by decide +kernel⟩

theorem witness_LifeCycleRequestsAreCheckedAndConfirmed_18 : ∃ (s : State) (t0 n b : Nat) (i : Initiator) (v : Word) (o : BootObs) (r : LcReq),
    Passes s i LCM_CONFIRM n ∧ s.dev.key.lcReq = some r ∧ v.toNat = r.nonce ∧ i = r.init ∧ max s.dev.time t0 ≤ r.since + 1000000000 ∧ (r.target = 1 ∨ r.target = 2 ∨ r.target = 3 ∨ r.target = 5 ∨ (r.target = 4 ∧ s.sys.authorised [0x52, 0x54, 0x4E, 0x31] r.nonce false = true)) ∧ s.sys.lcCheck i r.target = 0 ∧ ((lcMask (if r.target = 5 then 0 else s.dev.fld LCM_STATE 0 2 0) r.target) &&& ((lcMask (if r.target = 5 then 0 else s.dev.fld LCM_STATE 0 2 0) r.target) ^^^ (s.sys.fuses &&& (lcMask (if r.target = 5 then 0 else s.dev.fld LCM_STATE 0 2 0) r.target)))) &&& b ≠ ((lcMask (if r.target = 5 then 0 else s.dev.fld LCM_STATE 0 2 0) r.target) &&& ((lcMask (if r.target = 5 then 0 else s.dev.fld LCM_STATE 0 2 0) r.target) ^^^ (s.sys.fuses &&& (lcMask (if r.target = 5 then 0 else s.dev.fld LCM_STATE 0 2 0) r.target)))) :=
  ⟨onD (withR base [(PWR_LEVEL, 0, 2), (LCM_STATE, 0, 3)]) (fun d => { d with key := { d.key with lcReq := some ⟨5, .core0, 77, 0⟩ } }), 5, 0, 1, .core0, 77, {}, ⟨5, .core0, 77, 0⟩, by decide +kernel, by decide +kernel, by decide +kernel⟩

theorem witness_LifeCycleRequestsAreCheckedAndConfirmed_19 : ∃ (s : State) (t0 n b : Nat) (i : Initiator) (v : Word) (o : BootObs) (r : LcReq),
    Passes s i LCM_CONFIRM n ∧ s.dev.key.lcReq = some r ∧ v.toNat = r.nonce ∧ i = r.init ∧ max s.dev.time t0 ≤ r.since + 1000000000 ∧ (r.target = 1 ∨ r.target = 2 ∨ r.target = 3 ∨ r.target = 5 ∨ (r.target = 4 ∧ s.sys.authorised [0x52, 0x54, 0x4E, 0x31] r.nonce false = true)) ∧ s.sys.lcCheck i r.target = 0 ∧ lcTorn s.sys.fuses = 0 ∧ ((lcMask (if r.target = 5 then 0 else s.dev.fld LCM_STATE 0 2 0) r.target) &&& ((lcMask (if r.target = 5 then 0 else s.dev.fld LCM_STATE 0 2 0) r.target) ^^^ (s.sys.fuses &&& (lcMask (if r.target = 5 then 0 else s.dev.fld LCM_STATE 0 2 0) r.target)))) &&& b = ((lcMask (if r.target = 5 then 0 else s.dev.fld LCM_STATE 0 2 0) r.target) &&& ((lcMask (if r.target = 5 then 0 else s.dev.fld LCM_STATE 0 2 0) r.target) ^^^ (s.sys.fuses &&& (lcMask (if r.target = 5 then 0 else s.dev.fld LCM_STATE 0 2 0) r.target)))) :=
  ⟨onD (withR base [(PWR_LEVEL, 0, 2), (LCM_STATE, 0, 3)]) (fun d => { d with key := { d.key with lcReq := some ⟨5, .core0, 77, 0⟩ } }), 5, 0, lcMask 0 5, .core0, 77, {}, ⟨5, .core0, 77, 0⟩, by decide +kernel, by decide +kernel, by decide +kernel⟩

theorem witness_LifeCycleRequestsAreCheckedAndConfirmed_20 : ∃ (s : State) (i : Initiator) (v : Word) (n : Nat),
    Passes s i LCM_DBGCTL n ∧ bitOf v 0 = false :=
  ⟨base, .core0, 2, 0, by decide +kernel⟩

theorem witness_LifeCycleRequestsAreCheckedAndConfirmed_21 : ∃ (s : State) (i : Initiator) (v : Word) (n b : Nat),
    Passes s i LCM_OWNERSET n ∧ (bitOf v 0 = false ∨ s.dev.fld LCM_STATE 0 2 0 ≠ 2 ∨ s.sys.fuses / 2 ^ 448 % 2 ^ 256 ≠ 0 ∨ s.dev.ownerDigest = 0) :=
  ⟨base, .core0, 1, 0, 5, by decide +kernel⟩

theorem witness_ResetsReinitialiseAndRecordTheirCause_1 : ∃ (s : State) (t0 : Nat) (o : BootObs),
    o.vsys < 270 :=
  ⟨withR base [(PWR_LEVEL, 0, 2), (LPE_CTXCFG, 5, 1)], 77, { vsys := 269 }, by decide +kernel⟩

theorem witness_ResetsReinitialiseAndRecordTheirCause_4 : ∃ (s : State) (t0 n : Nat),
    160 ≤ n ∧ s.dev.pwr.phase ≠ .off :=
  ⟨withR base [(LPE_CTXCFG, 5, 1)], 20000, 160, by decide +kernel⟩

theorem witness_ResetsReinitialiseAndRecordTheirCause_5 : ∃ (s : State) (t0 n : Nat),
    n < 160 ∨ s.dev.pwr.phase = .off :=
  ⟨base, 20000, 159, by decide +kernel⟩

theorem witness_ResetsReinitialiseAndRecordTheirCause_6 : ∃ (s : State) (i : Initiator) (n : Nat) (o : BootObs),
    Passes s i RST_SWRST n :=
  ⟨base, .core0, 0, { vsys := 269 }, by decide +kernel⟩

theorem witness_ResetsReinitialiseAndRecordTheirCause_7 : ∃ (s : State) (i : Initiator) (v : Word) (n : Nat) (o : BootObs),
    Passes s i RST_SWRST n ∧ v ≠ 0x5A01 :=
  ⟨base, .core0, 0x5A, 0, {}, by decide +kernel⟩

theorem witness_ResetsReinitialiseAndRecordTheirCause_8 : ∃ (s : State) (t0 : Nat) (o : BootObs),
    s.dev.pwr.phase = .running ∧ s.dev.fld RST_DWDCFG 0 15 0 ≠ 0 ∧ s.dev.pwr.dwdSince + s.dev.fld RST_DWDCFG 0 15 0 * 1000000 ≤ t0 :=
  ⟨base, 1000000000, { vsys := 269 }, by decide +kernel⟩

theorem witness_ResetsReinitialiseAndRecordTheirCause_9 : ∃ (s : State) (t0 : Nat) (o : BootObs),
    s.dev.pwr.phase ≠ .running ∨ s.dev.fld RST_DWDCFG 0 15 0 = 0 ∨ t0 < s.dev.pwr.dwdSince + s.dev.fld RST_DWDCFG 0 15 0 * 1000000 :=
  ⟨base, 999999999, {}, by decide +kernel⟩

theorem witness_ResetsReinitialiseAndRecordTheirCause_10 : ∃ (s : State) (t0 : Nat) (o : BootObs),
    s.dev.pwr.phase = .waitPin ∧ s.dev.pwr.stuckRec = none :=
  ⟨onD base (fun d => { d with pwr := { d.pwr with phase := .waitPin, resetLowSince := some 5 } }), 20000005, { bist := [{ part := 1, result := 3 }] }, by decide +kernel⟩

theorem witness_ResetsReinitialiseAndRecordTheirCause_11 : ∃ (s : State) (t0 : Nat) (o : BootObs),
    s.dev.pwr.phase ≠ .waitPin :=
  ⟨base, 5, {}, by decide +kernel⟩

theorem witness_ResetsReinitialiseAndRecordTheirCause_12 : ∃ (s : State) (t0 a : Nat),
    s.dev.pwr.resetLowSince = some a ∧ a + 5001000000 ≤ t0 ∧ (∀ r ∈ s.dev.pwr.stuckRec, r.1 ≠ a ∨ r.2.2 + 60000 ≤ (t0 - a) / 1000000) :=
  ⟨onD base (fun d => { d with pwr := { d.pwr with resetLowSince := some 5, stuckRec := some (5, 0, 5001) } }), 65001000005, 5, by decide +kernel, by decide +kernel⟩

theorem witness_ResetsReinitialiseAndRecordTheirCause_13 : ∃ (s : State) (t0 : Nat) (o : BootObs),
    s.dev.pwr.phase = .heldBist ∧ s.dev.pwr.bistRetried = false :=
  ⟨onD base (fun d => { d with pwr := { d.pwr with phase := .heldBist } }), 5, { bist := [{ part := 3, result := 3 }] }, by decide +kernel⟩

theorem witness_ResetsReinitialiseAndRecordTheirCause_14 : ∃ (s : State) (t0 : Nat) (o : BootObs),
    o.vsys < 270 :=
  ⟨withR base [(LPE_CTXCFG, 5, 1)], 77, { vsys := 269, vioLow := 5 }, by decide +kernel⟩

theorem witness_ResetsReinitialiseAndRecordTheirCause_15 : ∃ (s : State) (i : Initiator) (n : Nat) (o : BootObs),
    Passes s i RST_SWRST n ∧ o.vsys < 270 :=
  ⟨withR base [(LPE_CTXCFG, 5, 1)], .core0, 0, { vsys := 269, vioLow := 5 }, by decide +kernel⟩

theorem witness_ResetsReinitialiseAndRecordTheirCause_16 : ∃ (s : State) (t0 : Nat) (o : BootObs),
    s.dev.pwr.phase = .running ∧ s.dev.fld RST_DWDCFG 0 15 0 ≠ 0 ∧ s.dev.pwr.dwdSince + s.dev.fld RST_DWDCFG 0 15 0 * 1000000 ≤ t0 ∧ o.vsys < 270 :=
  ⟨withR base [(LPE_CTXCFG, 5, 1)], 1000000000, { vsys := 269, vioLow := 5 }, by decide +kernel⟩

theorem witness_ResetsReinitialiseAndRecordTheirCause_17 : ∃ (s : State) (t0 : Nat) (o : BootObs) (r : Nat × Nat × Nat),
    s.dev.pwr.phase = .waitPin ∧ s.dev.pwr.stuckRec = some r :=
  ⟨onD base (fun d => { d with pwr := { d.pwr with phase := .waitPin, resetLowSince := some 5, stuckRec := some (5, 0, 5001) } }), 6000000005, {}, (5, 0, 5001), by decide +kernel⟩

theorem witness_ResetsReinitialiseAndRecordTheirCause_18 : ∃ (s : State) (t0 : Nat),
    s.dev.pwr.resetLowSince.any (fun a => decide (a + 5001000000 ≤ t0) && !s.dev.pwr.stuckRec.any (fun r => decide (r.1 = a ∧ (t0 - a) / 1000000 < r.2.2 + 60000))) = false :=
  ⟨onD base (fun d => { d with pwr := { d.pwr with phase := .waitPin, resetLowSince := some 5, stuckRec := some (5, 0, 5001) } }), 6000000005, by decide +kernel⟩

theorem witness_ResetsReinitialiseAndRecordTheirCause_19 : ∃ (s : State) (t0 : Nat) (o : BootObs),
    s.dev.pwr.phase ≠ .heldBist ∨ s.dev.pwr.bistRetried = true :=
  ⟨base, 5, {}, by decide +kernel⟩

theorem witness_ResetsReinitialiseAndRecordTheirCause_20 : ∃ (s : State) (t0 : Nat) (o : BootObs),
    o.vsys < 270 :=
  ⟨base, 77, { vsys := 269, vioLow := 5 }, by decide +kernel⟩

theorem witness_ResetsReinitialiseAndRecordTheirCause_21 : ∃ (s : State) (t0 n : Nat),
    160 ≤ n ∧ s.dev.pwr.phase ≠ .off :=
  ⟨base, 20000, 160, by decide +kernel⟩

theorem witness_ResetsReinitialiseAndRecordTheirCause_22 : ∃ (s : State) (n : Nat),
    s.dev.bankOff 6 = true ∨ s.dev.pwr.phase ≠ .running ∨ s.dev.vlkOn n = false :=
  ⟨base, 3, by decide +kernel⟩

theorem witness_ResetsReinitialiseAndRecordTheirCause_23 : ∃ (s : State) (m : Nat),
    s.dev.pwr.vauxLow = false ∧ (s.dev.pwr.phase ≠ .running ∨ s.dev.plmOn m = false) :=
  ⟨base, 1, by decide +kernel⟩

theorem witness_ResetsReinitialiseAndRecordTheirCause_24 : ∃ (s : State) (b : Nat) (p : Pin),
    p.domain = .vio b ∧ s.dev.bankOff b = true :=
  ⟨onD base (fun d => { d with pwr := { d.pwr with vioLow := 4 } }), 2, .pbsTx 3, by decide +kernel⟩

theorem witness_IslandsRestartWithTheirWindows_1 : ∃ (s : State) (i : Initiator) (v : Word) (n : Nat),
    Passes s i RST_DWDKICK n ∧ bitOf v 0 = true :=
  ⟨onD base (·.at 99), .safety, 1, 0, by decide +kernel⟩

theorem witness_IslandsRestartWithTheirWindows_2 : ∃ (s : State) (i : Initiator) (v : Word) (n : Nat),
    Passes s i RST_CWDKICK n ∧ bitOf v 0 = true :=
  ⟨onD base (·.at 99), .safety, 1, 0, by decide +kernel⟩

theorem witness_IslandsRestartWithTheirWindows_3 : ∃ (s : State) (t0 : Nat),
    s.dev.up .compute = true ∧ s.dev.fld RST_CWDCFG 0 15 0 ≠ 0 ∧ s.dev.pwr.cwdSince + s.dev.fld RST_CWDCFG 0 15 0 * 1000000 ≤ t0 ∧ WindowOpen s t0 .compute = false :=
  ⟨memS 0x08000000 [1] (withR base [(RST_CWDCFG, 0, 5)]), 5000000, by decide +kernel⟩

theorem witness_IslandsRestartWithTheirWindows_4 : ∃ (s : State) (i : Initiator) (n : Nat) (x : Island),
    Passes s i RST_ISLRST n ∧ restartable x = true ∧ (s.dev.islStat x = 0 ∨ s.dev.islStat x = 2) ∧ (s.dev.islRec x).shed = false ∧ (s.dev.islRec x).hot = false :=
  ⟨base, .core0, 0, .metrology, by decide +kernel⟩

theorem witness_IslandsRestartWithTheirWindows_5 : ∃ (s : State) (i : Initiator) (n : Nat) (x : Island),
    Passes s i RST_ISLRST n ∧ restartable x = false :=
  ⟨base, .core0, 0, .safety, by decide +kernel⟩

theorem witness_IslandsRestartWithTheirWindows_6 : ∃ (s : State) (t0 : Nat) (x : Island) (ok : Bool) (o : BootObs),
    s.dev.pwr.phase = .running ∧ s.dev.islStat x = 1 ∧ (ok = true → (s.dev.at t0).tooEarly x = false) ∧ NothingWaits s :=
  ⟨withR base [(RST_ISLSTAT, 0, 0x4000)], 5, .link, true, {}, by decide +kernel⟩

theorem witness_IslandsRestartWithTheirWindows_7 : ∃ (s : State) (t0 v : Nat) (l : List (Nat × List Int)),
    v < s.dev.pfwarn ∧ s.dev.pwr.pfw = none ∧ s.dev.pwr.phase = .running ∧ NothingWaits s :=
  ⟨base, 5, 259, [(3, [1, 2]), (9, [3])], by decide +kernel⟩

theorem witness_IslandsRestartWithTheirWindows_8 : ∃ (s : State) (t0 v lo a b : Nat) (o : BootObs),
    s.dev.pfwarn + 10 ≤ v ∧ v < 65536 ∧ s.dev.pwr.pfw = some (a, b) ∧ s.dev.pwr.phase = .running ∧ NothingWaits s :=
  ⟨onD base (fun d => { d with pwr := { d.pwr with pfw := some (1, 200) } }), 9, 270, 190, 1, 200, {}, by decide +kernel⟩

theorem witness_IslandsRestartWithTheirWindows_9 : ∃ (s : State) (t0 a : Nat),
    s.dev.pwr.stableSince = some a ∧ a + 10000000 ≤ t0 ∧ s.dev.pwr.pfw = none ∧ s.dev.pwr.phase = .running :=
  ⟨onD (withR base [(RST_ISLSTAT, 0, 0x8000)]) (fun d => { d.setIslRec .link { shed := true } with pwr := { (d.setIslRec .link { shed := true }).pwr with stableSince := some 5 } }), 10000005, 5, by decide +kernel⟩

theorem witness_IslandsRestartWithTheirWindows_10 : ∃ (s : State) (i : Initiator) (v : Word) (n : Nat),
    Passes s i RST_DWDKICK n ∧ bitOf v 0 = false :=
  ⟨base, .core0, 2, 0, by decide +kernel⟩

theorem witness_IslandsRestartWithTheirWindows_11 : ∃ (s : State) (i : Initiator) (v : Word) (n : Nat),
    Passes s i RST_CWDKICK n ∧ bitOf v 0 = false :=
  ⟨base, .core0, 2, 0, by decide +kernel⟩

theorem witness_IslandsRestartWithTheirWindows_12 : ∃ (s : State) (t0 : Nat),
    s.dev.up .compute = true ∧ s.dev.fld RST_CWDCFG 0 15 0 ≠ 0 ∧ s.dev.pwr.cwdSince + s.dev.fld RST_CWDCFG 0 15 0 * 1000000 ≤ t0 ∧ WindowOpen s t0 .compute = true :=
  ⟨onD (withR base [(RST_CWDCFG, 0, 5)]) (fun d => (d.setIslRec .compute { faultAt := some 4999999 })), 5000000, by decide +kernel⟩

theorem witness_IslandsRestartWithTheirWindows_13 : ∃ (s : State) (t0 : Nat),
    s.dev.up .compute = false ∨ s.dev.fld RST_CWDCFG 0 15 0 = 0 ∨ t0 < s.dev.pwr.cwdSince + s.dev.fld RST_CWDCFG 0 15 0 * 1000000 :=
  ⟨withR base [(RST_CWDCFG, 0, 5)], 4999999, by decide +kernel⟩

theorem witness_IslandsRestartWithTheirWindows_14 : ∃ (s : State) (i : Initiator) (n : Nat) (v : Word),
    Passes s i RST_ISLRST n :=
  ⟨onD (withR base [(RST_ISLSTAT, 0, 0x100)]) (fun d => d.setIslRec .link { shed := true }), .core0, 0, 0x3FF, by decide +kernel⟩

theorem witness_IslandsRestartWithTheirWindows_15 : ∃ (s : State) (t0 : Nat) (x : Island) (ok : Bool) (o : BootObs),
    (s.dev.pwr.phase ≠ .running ∨ s.dev.islStat x ≠ 1 ∨ (ok = true ∧ (s.dev.at t0).tooEarly x = true)) ∧ NothingWaits s :=
  ⟨onD (withR base [(RST_ISLSTAT, 0, 0x100)]) (fun d => d.setIslRec .compute { faultAt := some 5 }), 10000004, .compute, true, {}, by decide +kernel⟩

theorem witness_IslandsRestartWithTheirWindows_16 : ∃ (s : State) (t0 v : Nat) (l : List (Nat × List Int)),
    (s.dev.pfwarn ≤ v ∨ s.dev.pwr.pfw.isSome = true ∨ s.dev.pwr.phase = .off) ∧ NothingWaits s :=
  ⟨base, 5, 260, [], by decide +kernel⟩

theorem witness_IslandsRestartWithTheirWindows_17 : ∃ (s : State) (t0 v : Nat) (l : List (Nat × List Int)),
    v < s.dev.pfwarn ∧ s.dev.pwr.pfw = none ∧ s.dev.pwr.phase ≠ .off ∧ s.dev.pwr.phase ≠ .running ∧ NothingWaits s :=
  ⟨onD base (fun d => { d with pwr := { d.pwr with phase := .waitPin } }), 5, 259, [], by decide +kernel⟩

theorem witness_IslandsRestartWithTheirWindows_18 : ∃ (s : State) (t0 v lo : Nat) (o : BootObs),
    (v < s.dev.pfwarn + 10 ∨ (s.dev.pwr.pfw = none ∧ s.dev.pwr.phase ≠ .waitVsys)) ∧ NothingWaits s :=
  ⟨onD base (fun d => { d with pwr := { d.pwr with pfw := some (1, 200) } }), 9, 269, 190, {}, by decide +kernel⟩

theorem witness_IslandsRestartWithTheirWindows_19 : ∃ (s : State) (t0 v lo : Nat) (o : BootObs),
    s.dev.pfwarn + 10 ≤ v ∧ v < 65536 ∧ s.dev.pwr.phase = .waitVsys ∧ NothingWaits s :=
  ⟨onD base (fun d => { d with pwr := { d.pwr with phase := .waitVsys } }), 9, 270, 190, { resetN := false }, by decide +kernel⟩

theorem witness_IslandsRestartWithTheirWindows_20 : ∃ (s : State) (t0 : Nat),
    (∀ a ∈ s.dev.pwr.stableSince, t0 < a + 10000000) ∨ s.dev.pwr.pfw.isSome = true ∨ s.dev.pwr.phase ≠ .running :=
  ⟨onD base (fun d => { d with pwr := { d.pwr with stableSince := some 5 } }), 10000004, by decide +kernel⟩

theorem witness_MonitorsWatchSuppliesTemperatureAndSpeed_1 : ∃ (s : State) (t0 v : Nat),
    v < 600 ∧ s.dev.pwr.ifaceReset = false :=
  ⟨withR base [(LSW_CSTAT, 23, 2), (LSW_ONSUM, 0, 0x800000), (SOUT_ONSUM, 0, 0xFF)], 5, 599, by decide +kernel⟩

theorem witness_MonitorsWatchSuppliesTemperatureAndSpeed_2 : ∃ (s : State) (t0 v : Nat) (b : BistPart),
    650 < v ∧ s.dev.pwr.ifaceReset = true ∧ s.dev.pwr.ifaceHot = false ∧ s.dev.pwr.phase = .running ∧ (s.dev.fld BST_RESULT 0 19 18 = 1 ∨ s.dev.fld BST_RESULT 0 19 18 = 2) ∧ s.dev.islStat .iface = 0 :=
  ⟨onD (withR base [(BST_RESULT, 0, 0x40000)]) (fun d => { d with pwr := { d.pwr with ifaceReset := true, vauxLow := true } }), 5, 651, ⟨9, 3, 0, 0, 0, 0⟩, by decide +kernel⟩

theorem witness_MonitorsWatchSuppliesTemperatureAndSpeed_3 : ∃ (s : State) (t0 k v : Nat),
    k < 10 ∧ v < s.dev.twarn ∧ v < centiK 140 ∧ v < 65536 ∧ s.dev.pwr.ifaceHot = false ∧ (s.dev.islRec (Island.ofIdx k)).hot = false ∧ NothingWaits s :=
  ⟨withR base [(MON_IT, 9, 0x80007000)], 5, 9, 0x7001, by decide +kernel⟩

theorem witness_MonitorsWatchSuppliesTemperatureAndSpeed_4 : ∃ (s : State) (t0 k v : Nat),
    k < 10 ∧ s.dev.twarn ≤ v ∧ s.dev.fld MON_IT k 15 0 < s.dev.twarn ∧ v < s.dev.thot ∧ v < centiK 140 ∧ s.dev.pwr.ifaceHot = false ∧ (s.dev.islRec (Island.ofIdx k)).hot = false ∧ NothingWaits s :=
  ⟨base, 5, 4, 38815, by decide +kernel⟩

theorem witness_MonitorsWatchSuppliesTemperatureAndSpeed_5 : ∃ (s : State) (t0 k v a : Nat),
    2 ≤ k ∧ k < 9 ∧ centiK 140 ≤ v ∧ kvGet s.dev.pwr.critSince (k + 1) 0 = a + 1 ∧ a + 1000000 ≤ t0 ∧ s.dev.pwr.phase = .running ∧ s.dev.islStat (Island.ofIdx k) < 2 ∧ (s.dev.islRec (Island.ofIdx k)).hot = false ∧ NothingWaits s :=
  ⟨onD base (fun d => { d with pwr := { d.pwr with critSince := [(5, 6)] } }), 1000005, 4, 41315, 5, by decide +kernel⟩

theorem witness_MonitorsWatchSuppliesTemperatureAndSpeed_6 : ∃ (s : State) (t0 k v n : Nat),
    (k < 10 ∧ (n < 1000 ∨ (720 ≤ v ∧ v ≤ 880))) :=
  ⟨base, 5, 9, 880, 1000, by decide +kernel⟩

theorem witness_MonitorsWatchSuppliesTemperatureAndSpeed_7 : ∃ (s : State) (t0 k v n : Nat),
    2 ≤ k ∧ k < 9 ∧ 1000 ≤ n ∧ (v < 720 ∨ 880 < v) ∧ s.dev.pwr.phase = .running ∧ s.dev.islStat (Island.ofIdx k) < 2 ∧ WindowOpen s t0 (Island.ofIdx k) = false :=
  ⟨base, 5, 5, 881, 1000, by decide +kernel, by decide +kernel⟩

theorem witness_MonitorsWatchSuppliesTemperatureAndSpeed_8 : ∃ (s : State) (t0 k v : Nat),
    k < 10 ∧ clampN (s.dev.fld MON_PCFG 0 7 0) 6 50 ≤ v :=
  ⟨onD (withR base [(MON_IP, 8, 0x0EFF)]) (fun d => { d with pwr := { d.pwr with slackSeen := 0x100 } }), 5, 8, 15, by decide +kernel⟩

theorem witness_MonitorsWatchSuppliesTemperatureAndSpeed_9 : ∃ (s : State) (t0 k v : Nat),
    2 ≤ k ∧ k < 9 ∧ v < 5 ∧ s.dev.pwr.phase = .running ∧ s.dev.islStat (Island.ofIdx k) < 2 ∧ WindowOpen s t0 (Island.ofIdx k) = false :=
  ⟨base, 5, 3, 4, by decide +kernel⟩

theorem witness_MonitorsWatchSuppliesTemperatureAndSpeed_10 : ∃ (s : State) (i : Initiator) (v : Word) (n : Nat) (ok : Bool),
    (Passes s i BST_HREPAIR n ∧ bitOf v 0 = true ∧ (i.isCore = true ∨ i = .debug) ∧ s.dev.fld LCM_STATE 0 2 0 ≠ 5) ∧ (s.dev.level ≠ .hold ∨ s.dev.pwr.softRepairs = [] ∨ (freeRepairs s.sys.fuses).length < s.dev.pwr.softRepairs.length) :=
  ⟨base, .core0, 1, 0, true, by decide +kernel, by decide +kernel⟩

theorem witness_MonitorsWatchSuppliesTemperatureAndSpeed_11 : ∃ (s : State) (i : Initiator) (v : Word) (n : Nat) (ok : Bool),
    (Passes s i BST_HREPAIR n ∧ bitOf v 0 = true ∧ (i.isCore = true ∨ i = .debug) ∧ s.dev.fld LCM_STATE 0 2 0 ≠ 5) ∧ s.dev.level = .hold ∧ s.dev.pwr.softRepairs ≠ [] ∧ s.dev.pwr.softRepairs.length ≤ (freeRepairs s.sys.fuses).length :=
  ⟨onD (withR base [(PWR_LEVEL, 0, 2)]) (fun d => { d with pwr := { d.pwr with softRepairs := [5, 0x7FFFFFFF] } }), .core0, 1, 0, true, by decide +kernel, by decide +kernel⟩

theorem witness_MonitorsWatchSuppliesTemperatureAndSpeed_12 : ∃ (s : State) (t0 v : Nat),
    v < 600 ∧ s.dev.pwr.ifaceReset = true :=
  ⟨onD base (fun d => { d with pwr := { d.pwr with ifaceReset := true } }), 5, 599, by decide +kernel⟩

theorem witness_MonitorsWatchSuppliesTemperatureAndSpeed_13 : ∃ (s : State) (t0 v : Nat),
    600 ≤ v :=
  ⟨base, 5, 600, by decide +kernel⟩

theorem witness_MonitorsWatchSuppliesTemperatureAndSpeed_14 : ∃ (s : State) (t0 v : Nat) (b : BistPart),
    v ≤ 650 :=
  ⟨base, 5, 650, ⟨9, 3, 0, 0, 0, 0⟩, by decide +kernel⟩

theorem witness_MonitorsWatchSuppliesTemperatureAndSpeed_15 : ∃ (s : State) (t0 v : Nat) (b : BistPart),
    650 < v ∧ (s.dev.pwr.ifaceReset = false ∨ s.dev.pwr.ifaceHot = true ∨ s.dev.pwr.phase ≠ .running ∨ ((s.dev.fld BST_RESULT 0 19 18 = 1 ∨ s.dev.fld BST_RESULT 0 19 18 = 2) ∧ s.dev.islStat .iface ≠ 0)) :=
  ⟨onD (withR base []) (fun d => { d with pwr := { d.pwr with ifaceReset := true, vauxLow := true, ifaceHot := true } }), 5, 651, ⟨9, 3, 0, 0, 0, 0⟩, by decide +kernel⟩

theorem witness_MonitorsWatchSuppliesTemperatureAndSpeed_16 : ∃ (s : State) (t0 v : Nat) (b : BistPart),
    650 < v ∧ s.dev.pwr.ifaceReset = true ∧ s.dev.pwr.ifaceHot = false ∧ s.dev.pwr.phase = .running ∧ s.dev.fld BST_RESULT 0 19 18 = 0 ∧ b.result < 3 ∧ s.dev.islStat .iface = 0 :=
  ⟨onD (withR base [(BST_RESULT, 0, 0)]) (fun d => { d with pwr := { d.pwr with ifaceReset := true, vauxLow := true } }), 5, 651, ⟨9, 1, 7, 8, 0, 0⟩, by decide +kernel⟩

theorem witness_MonitorsWatchSuppliesTemperatureAndSpeed_17 : ∃ (s : State) (t0 v : Nat) (b : BistPart),
    650 < v ∧ s.dev.pwr.ifaceReset = true ∧ s.dev.pwr.ifaceHot = false ∧ s.dev.pwr.phase = .running ∧ (s.dev.fld BST_RESULT 0 19 18 = 3 ∨ (s.dev.fld BST_RESULT 0 19 18 = 0 ∧ b.result = 3)) :=
  ⟨onD (withR base [(BST_RESULT, 0, 0)]) (fun d => { d with pwr := { d.pwr with ifaceReset := true, vauxLow := true } }), 5, 651, ⟨9, 3, 7, 8, 0, 0⟩, by decide +kernel⟩

theorem witness_MonitorsWatchSuppliesTemperatureAndSpeed_18 : ∃ (s : State) (t0 k v : Nat),
    k < 10 ∧ v < 65536 ∧ NothingWaits s ∧ (s.dev.pwr.phase ≠ .running ∨ ((v < centiK 140 ∨ kvGet s.dev.pwr.critSince (k + 1) 0 = 0 ∨ t0 < kvGet s.dev.pwr.critSince (k + 1) 0 + 999999 ∨ (if k = 9 then s.dev.pwr.ifaceHot else (s.dev.islRec (Island.ofIdx k)).hot) = true) ∧ ((if k = 9 then s.dev.pwr.ifaceHot else (s.dev.islRec (Island.ofIdx k)).hot) = false ∨ s.dev.thot - 1000 < v))) ∧ (s.dev.bit MON_TCFG 0 16 = false ∨ v < s.dev.thot ∨ s.dev.thot ≤ s.dev.fld MON_IT k 15 0) :=
  ⟨withR base [(MON_IT, 3, 0x1000), (MON_TCFG, 0, 0x7369)], 5, 3, 41315, by decide +kernel, by decide +kernel, by decide +kernel⟩

theorem witness_MonitorsWatchSuppliesTemperatureAndSpeed_19 : ∃ (s : State) (t0 k v : Nat),
    k < 10 ∧ v < 65536 ∧ NothingWaits s ∧ (s.dev.pwr.phase ≠ .running ∨ ((v < centiK 140 ∨ kvGet s.dev.pwr.critSince (k + 1) 0 = 0 ∨ t0 < kvGet s.dev.pwr.critSince (k + 1) 0 + 999999 ∨ (if k = 9 then s.dev.pwr.ifaceHot else (s.dev.islRec (Island.ofIdx k)).hot) = true) ∧ ((if k = 9 then s.dev.pwr.ifaceHot else (s.dev.islRec (Island.ofIdx k)).hot) = false ∨ s.dev.thot - 1000 < v))) ∧ s.dev.bit MON_TCFG 0 16 = true ∧ s.dev.thot ≤ v ∧ s.dev.fld MON_IT k 15 0 < s.dev.thot :=
  ⟨withR base [(MON_TCFG, 0, 0x17369)], 5, 3, 39000, by decide +kernel, by decide +kernel, by decide +kernel⟩

theorem witness_MonitorsWatchSuppliesTemperatureAndSpeed_20 : ∃ (s : State) (t0 k v a : Nat),
    2 ≤ k ∧ k < 9 ∧ centiK 140 ≤ v ∧ v < 65536 ∧ kvGet s.dev.pwr.critSince (k + 1) 0 = a + 1 ∧ a + 1000000 ≤ t0 ∧ s.dev.pwr.phase = .running ∧ NothingWaits s ∧ 2 ≤ s.dev.islStat (Island.ofIdx k) ∧ (s.dev.islRec (Island.ofIdx k)).hot = false :=
  ⟨onD (withR base [(RST_ISLSTAT, 0, 0x200)]) (fun d => { d with pwr := { d.pwr with critSince := [(5, 6)] } }), 1000005, 4, 41315, 5, by decide +kernel⟩

theorem witness_MonitorsWatchSuppliesTemperatureAndSpeed_21 : ∃ (s : State) (t0 v a : Nat),
    centiK 140 ≤ v ∧ v < 65536 ∧ kvGet s.dev.pwr.critSince 1 0 = a + 1 ∧ a + 1000000 ≤ t0 ∧ s.dev.pwr.phase = .running ∧ NothingWaits s ∧ (s.dev.islRec .aon).hot = false :=
  ⟨onD (withR base []) (fun d => { d with pwr := { d.pwr with critSince := [(1, 6)] } }), 1000005, 41315, 5, by decide +kernel⟩

theorem witness_MonitorsWatchSuppliesTemperatureAndSpeed_22 : ∃ (s : State) (t0 v a : Nat),
    centiK 140 ≤ v ∧ v < 65536 ∧ kvGet s.dev.pwr.critSince 2 0 = a + 1 ∧ a + 1000000 ≤ t0 ∧ s.dev.pwr.phase = .running ∧ NothingWaits s ∧ (s.dev.islRec .safety).hot = false ∧ s.dev.up .safety = true :=
  ⟨onD (withR base []) (fun d => { d with pwr := { d.pwr with critSince := [(2, 6)] } }), 1000005, 41315, 5, by decide +kernel⟩

theorem witness_MonitorsWatchSuppliesTemperatureAndSpeed_23 : ∃ (s : State) (t0 v a : Nat),
    centiK 140 ≤ v ∧ v < 65536 ∧ kvGet s.dev.pwr.critSince 10 0 = a + 1 ∧ a + 1000000 ≤ t0 ∧ s.dev.pwr.phase = .running ∧ NothingWaits s ∧ s.dev.pwr.ifaceHot = false :=
  ⟨onD (withR base []) (fun d => { d with pwr := { d.pwr with critSince := [(10, 6)] } }), 1000005, 41315, 5, by decide +kernel⟩

theorem witness_MonitorsWatchSuppliesTemperatureAndSpeed_24 : ∃ (s : State) (t0 k v : Nat),
    2 ≤ k ∧ k < 9 ∧ (s.dev.islRec (Island.ofIdx k)).hot = true ∧ v ≤ s.dev.thot - 1000 ∧ s.dev.pwr.phase = .running ∧ NothingWaits s :=
  ⟨onD (withR base [(RST_ISLSTAT, 0, 0x200)]) (fun d => d.setIslRec .compute { hot := true }), 5, 4, 30000, by decide +kernel⟩

theorem witness_MonitorsWatchSuppliesTemperatureAndSpeed_25 : ∃ (s : State) (t0 v : Nat),
    s.dev.pwr.ifaceHot = true ∧ v ≤ s.dev.thot - 1000 ∧ s.dev.pwr.phase = .running ∧ NothingWaits s ∧ (s.dev.fld BST_RESULT 0 19 18 = 1 ∨ s.dev.fld BST_RESULT 0 19 18 = 2) ∧ s.dev.islStat .iface = 0 :=
  ⟨onD (withR base [(BST_RESULT, 0, 0x40000)]) (fun d => { d with pwr := { d.pwr with ifaceHot := true, ifaceReset := true } }), 5, 30000, by decide +kernel, by decide +kernel, by decide +kernel⟩

theorem witness_MonitorsWatchSuppliesTemperatureAndSpeed_26 : ∃ (s : State) (t0 k v n : Nat),
    10 ≤ k ∧ NothingWaits s :=
  ⟨base, 5, 10, 7, 1000, by decide +kernel⟩

theorem witness_MonitorsWatchSuppliesTemperatureAndSpeed_27 : ∃ (s : State) (t0 k v : Nat),
    k < 10 ∧ 5 ≤ v ∧ v < clampN (s.dev.fld MON_PCFG 0 7 0) 6 50 :=
  ⟨base, 5, 9, 5, by decide +kernel⟩

theorem witness_MonitorsWatchSuppliesTemperatureAndSpeed_28 : ∃ (s : State) (t0 k v m n : Nat),
    2 ≤ k ∧ k < 9 ∧ 1000 ≤ m ∧ (v < 720 ∨ 880 < v) ∧ s.dev.pwr.phase = .running ∧ s.dev.islStat (Island.ofIdx k) < 2 ∧ WindowOpen s t0 (Island.ofIdx k) = true ∧ islandCause (Island.ofIdx k) = some n :=
  ⟨onD base (fun d => d.setIslRec .link { faultAt := some 5 }), 10000004, 7, 881, 1000, 3, by decide +kernel, by decide +kernel⟩

theorem witness_MonitorsWatchSuppliesTemperatureAndSpeed_29 : ∃ (s : State) (t0 k v m : Nat),
    k < 10 ∧ 1000 ≤ m ∧ (v < 720 ∨ 880 < v) ∧ (s.dev.pwr.phase ≠ .running ∨ k = 0 ∨ k = 9 ∨ (k = 1 ∧ s.dev.up .safety = false) ∨ (2 ≤ k ∧ 2 ≤ s.dev.islStat (Island.ofIdx k))) :=
  ⟨base, 5, 9, 881, 1000, by decide +kernel, by decide +kernel⟩

theorem witness_MonitorsWatchSuppliesTemperatureAndSpeed_30 : ∃ (s : State) (t0 v m : Nat),
    1000 ≤ m ∧ (v < 720 ∨ 880 < v) ∧ s.dev.up .safety = true :=
  ⟨base, 5, 881, 1000, by decide +kernel⟩

theorem witness_MonitorsWatchSuppliesTemperatureAndSpeed_31 : ∃ (s : State) (t0 k v n : Nat),
    2 ≤ k ∧ k < 9 ∧ v < 5 ∧ s.dev.pwr.phase = .running ∧ s.dev.islStat (Island.ofIdx k) < 2 ∧ WindowOpen s t0 (Island.ofIdx k) = true ∧ islandCause (Island.ofIdx k) = some n :=
  ⟨onD base (fun d => d.setIslRec .link { faultAt := some 5 }), 10000004, 7, 4, 3, by decide +kernel, by decide +kernel⟩

theorem witness_MonitorsWatchSuppliesTemperatureAndSpeed_32 : ∃ (s : State) (t0 k v : Nat),
    k < 10 ∧ v < 5 ∧ (s.dev.pwr.phase ≠ .running ∨ k = 0 ∨ k = 9 ∨ (k = 1 ∧ s.dev.up .safety = false) ∨ (2 ≤ k ∧ 2 ≤ s.dev.islStat (Island.ofIdx k))) :=
  ⟨base, 5, 9, 4, by decide +kernel, by decide +kernel⟩

theorem witness_MonitorsWatchSuppliesTemperatureAndSpeed_33 : ∃ (s : State) (t0 v : Nat),
    v < 5 ∧ s.dev.up .safety = true :=
  ⟨base, 5, 4, by decide +kernel⟩

theorem witness_MonitorsWatchSuppliesTemperatureAndSpeed_34 : ∃ (s : State) (i : Initiator) (v : Word) (n : Nat) (ok : Bool),
    Passes s i BST_HREPAIR n ∧ (bitOf v 0 = false ∨ (i.isCore = false ∧ i ≠ .debug) ∨ s.dev.fld LCM_STATE 0 2 0 = 5) :=
  ⟨base, .safety, 1, 0, true, by decide +kernel⟩

theorem witness_ThePairKeepsItsLinkAndChangesMastership_1 : ∃ (s : State) (t0 : Nat),
    s.dev.pstate ≠ 0 ∧ s.dev.up .link = true ∧ s.dev.pair.sentAt = none :=
  ⟨withR base [(AUS_STAT, 0, 0x312), (AUS_EPOCH, 0, 5)], 50000, by decide +kernel⟩

theorem witness_ThePairKeepsItsLinkAndChangesMastership_2 : ∃ (s : State) (t0 a : Nat),
    s.dev.pstate ≠ 0 ∧ s.dev.up .link = true ∧ s.dev.pair.sentAt = some a ∧ a + 50000 ≤ t0 :=
  ⟨onD (withR base [(AUS_STAT, 0, 0x312), (AUS_MISS, 0, 0xFFFE0000)]) (fun d => { d with pair := { d.pair with sentAt := some 7 } }), 50007, 7, by decide +kernel⟩

theorem witness_ThePairKeepsItsLinkAndChangesMastership_3 : ∃ (s : State) (t0 a : Nat),
    s.dev.pstate = 0 ∨ s.dev.up .link = false ∨ (s.dev.pair.sentAt = some a ∧ t0 < a + 50000) :=
  ⟨onD (withR base [(AUS_STAT, 0, 0x312)]) (fun d => { d with pair := { d.pair with sentAt := some 7 } }), 50006, 7, by decide +kernel⟩

theorem witness_ThePairKeepsItsLinkAndChangesMastership_4 : ∃ (s : State) (t0 seq k : Nat) (h : Heartbeat),
    s.dev.pstate = 0 ∨ seq < s.dev.pair.seqIn ∨ s.dev.up .link = false ∨ (s.dev.bit AUS_STAT 0 8 = false ∧ s.dev.bit AUS_STAT 0 9 = false) ∨ s.dev.bankOff 5 = true :=
  ⟨onD (withR base [(AUS_STAT, 0, 0x312)]) (fun d => { d with pair := { d.pair with seqIn := 3 } }), 9, 2, 0, { pstate := 4, role := 0, epoch := 2, level := .normal, cause := 0, frame := 1, time := 2, ons := 0, trips := 0 }, by decide +kernel⟩

theorem witness_ThePairKeepsItsLinkAndChangesMastership_5 : ∃ (s : State) (t0 seq k : Nat) (h : Heartbeat),
    s.dev.pstate ≠ 0 ∧ s.dev.up .link = true ∧ (s.dev.bit AUS_STAT 0 8 = true ∨ s.dev.bit AUS_STAT 0 9 = true) ∧ s.dev.pair.seqIn ≤ seq ∧ s.dev.bankOff 5 = false :=
  ⟨withR base [(AUS_STAT, 0, 0x7311)], 9, 0, 0, { pstate := 1, role := 1, epoch := 2, level := .normal, cause := 0, frame := 1, time := 2, ons := 0, trips := 0 }, by decide +kernel⟩

theorem witness_ThePairKeepsItsLinkAndChangesMastership_6 : ∃ (s : State) (t0 seq k : Nat) (h : Heartbeat),
    s.dev.pstate = 1 ∧ s.dev.up .link = true ∧ (s.dev.bit AUS_STAT 0 8 = true ∨ s.dev.bit AUS_STAT 0 9 = true) ∧ s.dev.pair.seqIn ≤ seq ∧ s.dev.bankOff 5 = false ∧ h.role ≠ b2n (s.dev.bit AUS_STAT 0 4) ∧ h.pstate = 4 :=
  ⟨withR base [(AUS_STAT, 0, 0x7111)], 9, 0, 0, { pstate := 4, role := 0, epoch := 2, level := .normal, cause := 0, frame := 1, time := 2, ons := 0, trips := 0 }, by decide +kernel⟩

theorem witness_ThePairKeepsItsLinkAndChangesMastership_7 : ∃ (s : State) (t0 seq k : Nat) (h : Heartbeat),
    s.dev.pstate = 1 ∧ s.dev.up .link = true ∧ (s.dev.bit AUS_STAT 0 8 = true ∨ s.dev.bit AUS_STAT 0 9 = true) ∧ s.dev.pair.seqIn ≤ seq ∧ s.dev.bankOff 5 = false ∧ h.role = 1 ∧ s.dev.bit AUS_STAT 0 4 = false ∧ h.pstate = 1 :=
  ⟨withR base [(AUS_STAT, 0, 0x7101)], 9, 0, 0, { pstate := 1, role := 1, epoch := 2, level := .normal, cause := 0, frame := 1, time := 2, ons := 0, trips := 0 }, by decide +kernel⟩

theorem witness_ThePairKeepsItsLinkAndChangesMastership_8 : ∃ (s : State) (t0 seq k : Nat) (h : Heartbeat),
    s.dev.pstate = 3 ∧ s.dev.up .link = true ∧ (s.dev.bit AUS_STAT 0 8 = true ∨ s.dev.bit AUS_STAT 0 9 = true) ∧ s.dev.pair.seqIn ≤ seq ∧ s.dev.bankOff 5 = false ∧ (h.level = .limp ∨ h.level = .hold) ∧ h.cause &&& 0x7D ≠ 0 ∧ s.dev.level = .normal :=
  ⟨withR base [(AUS_STAT, 0, 0x4113)], 9, 0, 0, { pstate := 4, role := 0, epoch := 2, level := .hold, cause := 4, frame := 1, time := 2, ons := 0, trips := 0 }, by decide +kernel⟩

theorem witness_ThePairKeepsItsLinkAndChangesMastership_9 : ∃ (s : State) (t0 seq k : Nat) (h : Heartbeat),
    s.dev.pstate = 4 ∧ s.dev.up .link = true ∧ (s.dev.bit AUS_STAT 0 8 = true ∨ s.dev.bit AUS_STAT 0 9 = true) ∧ s.dev.pair.seqIn ≤ seq ∧ s.dev.bankOff 5 = false ∧ h.pstate = 4 ∧ newer h.epoch (s.dev.fld AUS_EPOCH 0 15 0) = true :=
  ⟨withR base [(AUS_STAT, 0, 0x4114)], 9, 0, 0, { pstate := 4, role := 0, epoch := 2, level := .normal, cause := 4, frame := 1, time := 2, ons := 0, trips := 0 }, by decide +kernel⟩

theorem witness_ThePairKeepsItsLinkAndChangesMastership_10 : ∃ (s : State) (t0 l n ns : Nat),
    l < s.dev.variant.lanes ∧ s.dev.up .link = true ∧ s.dev.bit AUS_STAT 0 (8 + l) = true ∧ 2000 ≤ ns :=
  ⟨onD (withR base [(AUS_STAT, 0, 0x312)]) (fun d => { d with pair := { d.pair with sent := [4, 5, 6] } }), 9, 1, 5, 2000, by decide +kernel⟩

theorem witness_ThePairKeepsItsLinkAndChangesMastership_11 : ∃ (s : State) (t0 l q : Nat),
    s.dev.variant = .px4840 ∧ l < s.dev.variant.lanes ∧ s.dev.up .link = true ∧ s.dev.bit AUS_STAT 0 (8 + l) = true ∧ s.dev.bit AUS_STAT 0 (9 - l) = true ∧ (8 ≤ (s.dev.lane l).run ∨ 20000 ≤ q) :=
  ⟨withR base [(AUS_STAT, 0, 0x4313)], 9, 1, 20000, by decide +kernel, by decide +kernel⟩

theorem witness_ThePairKeepsItsLinkAndChangesMastership_12 : ∃ (s : State) (t0 l q : Nat),
    s.dev.variant = .px4840 ∧ l < s.dev.variant.lanes ∧ s.dev.up .link = true ∧ s.dev.bit AUS_STAT 0 (8 + l) = true ∧ s.dev.bit AUS_STAT 0 (9 - l) = false ∧ (8 ≤ (s.dev.lane l).run ∨ 20000 ≤ q) :=
  ⟨withR base [(AUS_STAT, 0, 0x4213)], 9, 1, 20000, by decide +kernel, by decide +kernel⟩

theorem witness_ThePairKeepsItsLinkAndChangesMastership_13 : ∃ (s : State) (t0 l q : Nat),
    s.dev.variant = .px4840 ∧ l < s.dev.variant.lanes ∧ s.dev.up .link = true ∧ s.dev.bit AUS_STAT 0 (8 + l) = false ∧ 1000 ≤ q ∧ s.dev.bankOff 5 = false :=
  ⟨withR base [(AUS_STAT, 0, 0x7011)], 9, 0, 1000, by decide +kernel⟩

theorem witness_ThePairKeepsItsLinkAndChangesMastership_14 : ∃ (s : State) (t0 : Nat),
    s.dev.variant = .px4840 ∧ s.dev.pstate = 1 ∧ s.dev.bit AUS_STAT 0 8 = false ∧ s.dev.bit AUS_STAT 0 9 = false ∧ s.dev.bit AUS_STAT 0 16 = false ∧ s.dev.pair.waitFrom + max 1 (bits s.dev.pair.cfg 15 0) * 1000000 ≤ t0 :=
  ⟨withR base [(AUS_STAT, 0, 0x7011), (AUS_EPOCH, 0, 0xFFFF)], 500000000, by decide +kernel, by decide +kernel⟩

theorem witness_ThePairKeepsItsLinkAndChangesMastership_15 : ∃ (s : State) (t0 : Nat),
    s.dev.pstate ≠ 1 ∨ s.dev.bit AUS_STAT 0 8 = true ∨ s.dev.bit AUS_STAT 0 9 = true ∨ s.dev.bit AUS_STAT 0 16 = true ∨ t0 < s.dev.pair.waitFrom + max 1 (bits s.dev.pair.cfg 15 0) * 1000000 :=
  ⟨withR base [(AUS_STAT, 0, 0x7111)], 500000000, by decide +kernel⟩

theorem witness_ThePairKeepsItsLinkAndChangesMastership_16 : ∃ (s : State) (t0 c : Nat) (b : Bool),
    (s.dev.variant = .px4840 ∧ s.dev.pstate = 3 ∧ (s.dev.pair.takeDue = some c ∨ s.dev.pair.takeDue = none ∧ b = true ∧ c = 4)) :=
  ⟨withR base [(AUS_STAT, 0, 0x7003), (AUS_EPOCH, 0, 0xFFFF)], 5, 4, true, by decide +kernel⟩

theorem witness_ThePairKeepsItsLinkAndChangesMastership_17 : ∃ (s : State) (t0 : Nat),
    (s.dev.pstate ≠ 3 ∨ s.dev.pair.takeDue = none) :=
  ⟨withR base [(AUS_STAT, 0, 0x7003)], 5, by decide +kernel⟩

theorem witness_ThePairKeepsItsLinkAndChangesMastership_18 : ∃ (s : State) (t0 : Nat),
    s.dev.variant = .px4840 ∧ s.dev.pstate = 4 ∧ 2 ≤ s.dev.pair.demoteRun :=
  ⟨onD (withR base [(AUS_STAT, 0, 0x7014), (AUS_EPOCH, 0, 3)]) (fun d => { d with pair := { d.pair with demoteRun := 2, demoteBy := (9, 1) } }), 5, by decide +kernel⟩

theorem witness_ThePairKeepsItsLinkAndChangesMastership_19 : ∃ (s : State) (t0 : Nat),
    (s.dev.pstate ≠ 4 ∨ s.dev.pair.demoteRun < 2) :=
  ⟨withR base [(AUS_STAT, 0, 0x7014)], 5, by decide +kernel⟩

theorem witness_ThePairKeepsItsLinkAndChangesMastership_20 : ∃ (s : State) (i : Initiator) (v : Word) (n : Nat) (h : Heartbeat),
    Passes s i AUS_CTL n ∧ bitOf v 0 = true ∧ s.dev.pstate = 4 ∧ s.dev.partnerState = 3 ∧ s.dev.level = .normal ∧ s.dev.pair.hb = some h ∧ h.level = .normal ∧ (∀ c ∈ s.dev.txn.commits, c.needsAck = false ∨ c.ackAt.isSome = true) :=
  ⟨onD (withR base [(AUS_STAT, 0, 0x3314)]) (fun d => { d with pair := { d.pair with hb := some { pstate := 3, role := 0, epoch := 2, level := .normal, cause := 0, frame := 1, time := 2, ons := 0, trips := 0 } } }), .core0, 1, 0, { pstate := 3, role := 0, epoch := 2, level := .normal, cause := 0, frame := 1, time := 2, ons := 0, trips := 0 }, by decide +kernel⟩

theorem witness_ThePairKeepsItsLinkAndChangesMastership_21 : ∃ (s : State) (i : Initiator) (v : Word) (n : Nat),
    Passes s i AUS_CTL n ∧ bitOf v 0 = true ∧ (s.dev.pstate ≠ 4 ∨ s.dev.partnerState ≠ 3 ∨ s.dev.level ≠ .normal ∨ s.dev.pair.hb.all (fun h => decide (h.level ≠ .normal)) = true ∨ (∃ c ∈ s.dev.txn.commits, c.needsAck = true ∧ c.ackAt.isSome = false)) :=
  ⟨withR base [(AUS_STAT, 0, 0x3314)], .core0, 1, 0, by decide +kernel⟩

theorem witness_ThePairKeepsItsLinkAndChangesMastership_22 : ∃ (s : State) (t0 seq k : Nat) (h : Heartbeat),
    s.dev.pstate = 1 ∧ s.dev.up .link = true ∧ (s.dev.bit AUS_STAT 0 8 = true ∨ s.dev.bit AUS_STAT 0 9 = true) ∧ s.dev.pair.seqIn ≤ seq ∧ s.dev.bankOff 5 = false ∧ h.role = b2n (s.dev.bit AUS_STAT 0 4) :=
  ⟨withR base [(AUS_STAT, 0, 0x7101)], 9, 0, 0, { pstate := 1, role := 0, epoch := 2, level := .normal, cause := 0, frame := 1, time := 2, ons := 0, trips := 0 }, by decide +kernel⟩

theorem witness_ThePairKeepsItsLinkAndChangesMastership_23 : ∃ (s : State) (t0 seq k : Nat) (h : Heartbeat),
    s.dev.pstate = 1 ∧ s.dev.up .link = true ∧ (s.dev.bit AUS_STAT 0 8 = true ∨ s.dev.bit AUS_STAT 0 9 = true) ∧ s.dev.pair.seqIn ≤ seq ∧ s.dev.bankOff 5 = false ∧ h.role ≠ b2n (s.dev.bit AUS_STAT 0 4) ∧ h.pstate ≠ 4 ∧ (h.pstate ≠ 1 ∨ s.dev.bit AUS_STAT 0 4 = true) :=
  ⟨withR base [(AUS_STAT, 0, 0x7111)], 9, 0, 0, { pstate := 1, role := 0, epoch := 2, level := .normal, cause := 0, frame := 1, time := 2, ons := 0, trips := 0 }, by decide +kernel⟩

theorem witness_ThePairKeepsItsLinkAndChangesMastership_24 : ∃ (s : State) (t0 seq k : Nat) (h : Heartbeat),
    s.dev.pstate ≠ 0 ∧ s.dev.up .link = true ∧ (s.dev.bit AUS_STAT 0 8 = true ∨ s.dev.bit AUS_STAT 0 9 = true) ∧ s.dev.pair.seqIn ≤ seq ∧ s.dev.bankOff 5 = false ∧ s.dev.bit TMB_STAT 0 4 = true ∧ h.role ≠ b2n (s.dev.bit AUS_STAT 0 4) :=
  ⟨withR base [(AUS_STAT, 0, 0x7113), (TMB_STAT, 0, 0x10)], 9, 0, 0, { pstate := 4, role := 0, epoch := 2, level := .normal, cause := 0, frame := 1, time := 2, ons := 0, trips := 0 }, by decide +kernel⟩

theorem witness_ThePairKeepsItsLinkAndChangesMastership_25 : ∃ (s : State) (t0 l n ns : Nat),
    s.dev.variant.lanes ≤ l ∨ s.dev.up .link = false ∨ s.dev.bit AUS_STAT 0 (8 + l) = false ∨ ns < 2000 :=
  ⟨base, 9, 1, 5, 2000, by decide +kernel⟩

theorem witness_ThePairKeepsItsLinkAndChangesMastership_26 : ∃ (s : State) (t0 l q : Nat),
    s.dev.variant.lanes ≤ l ∨ s.dev.up .link = false ∨ s.dev.bit AUS_STAT 0 (8 + l) = false ∨ ((s.dev.lane l).run < 8 ∧ q < 20000) :=
  ⟨base, 9, 1, 20000, by decide +kernel⟩

theorem witness_ThePairKeepsItsLinkAndChangesMastership_27 : ∃ (s : State) (t0 l q : Nat),
    s.dev.variant.lanes ≤ l ∨ s.dev.up .link = false ∨ s.dev.bit AUS_STAT 0 (8 + l) = true ∨ q < 1000 ∨ s.dev.bankOff 5 = true :=
  ⟨base, 9, 1, 999, by decide +kernel⟩

theorem witness_ThePairKeepsItsLinkAndChangesMastership_28 : ∃ (s : State) (i : Initiator) (v : Word) (n : Nat),
    Passes s i AUS_CTL n ∧ bitOf v 0 = false :=
  ⟨withR base [(AUS_STAT, 0, 0x3314)], .core0, 2, 0, by decide +kernel⟩

theorem witness_MirrorsCopiesAndTheEventLog_1 : ∃ (s : State) (t0 seq : Nat) (m : FrameMirror) (c : CtxMirror),
    (s.dev.pstate = 2 ∨ s.dev.pstate = 3) ∧ s.dev.up .link = true ∧ s.dev.up .control = true ∧ (s.dev.bit AUS_STAT 0 8 = true ∨ s.dev.bit AUS_STAT 0 9 = true) ∧ s.dev.pair.seqIn ≤ seq ∧ s.dev.bankOff 5 = false ∧ m.ctxs = [c] ∧ c.ctx < s.dev.variant.contexts :=
  ⟨withR base [(AUS_STAT, 0, 0x4113)], 9, 0, { frame := 7, ctxs := [{ ctx := 3, st := [1, 2], out := 5, misscnt := 6 }], arbs := [{ arb := 2, win := 3, wstat := 4, ident := none }], claims := [1, 2], short := [3], cycFrame := 7, mods := [(1, 2)], moves := [] }, { ctx := 3, st := [1, 2], out := 5, misscnt := 6 }, by decide +kernel⟩

theorem witness_MirrorsCopiesAndTheEventLog_2 : ∃ (s : State) (t0 seq : Nat) (m : FrameMirror),
    s.dev.pstate < 2 ∨ 4 ≤ s.dev.pstate ∨ seq < s.dev.pair.seqIn ∨ s.dev.up .link = false ∨ s.dev.up .control = false ∨ (s.dev.bit AUS_STAT 0 8 = false ∧ s.dev.bit AUS_STAT 0 9 = false) ∨ s.dev.bankOff 5 = true :=
  ⟨withR base [(AUS_STAT, 0, 0x4114)], 9, 0, { frame := 7, ctxs := [], arbs := [], claims := [1, 2], short := [3], cycFrame := 7, mods := [(1, 2)], moves := [] }, by decide +kernel⟩

theorem witness_MirrorsCopiesAndTheEventLog_3 : ∃ (s : State) (t0 page off inst n : Nat) (v : Word) (r : RegRow),
    page ∈ [0x28, 0x38, 0x39, 0x3A, 0x3C, 0x58, 0x59] ∧ (page, off) ∉ [(0x38, 0x454), (0x58, 0x04C)] ∧ 0x040 ≤ off ∧ onMap page off = true ∧ ((s.dev.pstate = 2 ∨ s.dev.pstate = 3) ∧ s.dev.up .link = true ∧ (s.dev.bit AUS_STAT 0 8 = true ∨ s.dev.bit AUS_STAT 0 9 = true) ∧ s.dev.mirrored page = true) ∧ s.dev.gateAt .mirror page off inst false = .pass n ∧ rowOf s.dev.variant page off = some r ∧ r.banked = false :=
  ⟨withR base [(AUS_STAT, 0, 0x4113)], 9, 0x38, 0x040, 0, 0, 0xFFFFFFFF, (rowOf .px4840 0x38 0x040).getD { off := 0 }, by decide +kernel, by decide +kernel, by decide +kernel⟩

theorem witness_MirrorsCopiesAndTheEventLog_4 : ∃ (s : State) (t0 page off inst : Nat) (v : Word),
    s.dev.pstate < 2 ∨ 4 ≤ s.dev.pstate ∨ s.dev.mirrored page = false ∨ onMap page off = false ∨ s.dev.up .link = false ∨ (s.dev.bit AUS_STAT 0 8 = false ∧ s.dev.bit AUS_STAT 0 9 = false) :=
  ⟨withR base [(AUS_STAT, 0, 0x4113)], 9, 0x08, 0x040, 0, 5, by decide +kernel⟩

theorem witness_MirrorsCopiesAndTheEventLog_5 : ∃ (s : State) (t0 : Nat) (i : Initiator) (ws : List PendWrite) (c : Commit),
    s.dev.up .link = true ∧ (s.dev.bit AUS_STAT 0 8 = true ∨ s.dev.bit AUS_STAT 0 9 = true) ∧ s.dev.pstate = 4 ∧ s.dev.txn.commits.find? (fun c => decide (c.init = i) && c.needsAck && c.ackAt.isNone && c.validAt.isSome) = some c :=
  ⟨onD (withR base [(AUS_STAT, 0, 0x2114)]) (fun d => { d with txn := { d.txn with commits := [{ init := .core1, slot := 0, staged := [], overAt := none, seq := 0, validAt := some 1, needsAck := true }] } }), 9, .core1, [], { init := .core1, slot := 0, staged := [], overAt := none, seq := 0, validAt := some 1, needsAck := true }, by decide +kernel⟩

theorem witness_MirrorsCopiesAndTheEventLog_6 : ∃ (s : State) (t0 : Nat) (i : Initiator) (ws : List PendWrite),
    (s.dev.up .link = true ∧ (s.dev.bit AUS_STAT 0 8 = true ∨ s.dev.bit AUS_STAT 0 9 = true) ∧ (s.dev.pstate = 2 ∨ s.dev.pstate = 3)) :=
  ⟨withR base [(AUS_STAT, 0, 0x4113)], 9, .core1, [], by decide +kernel⟩

theorem witness_MirrorsCopiesAndTheEventLog_7 : ∃ (s : State) (t0 : Nat) (c : SyncCopy),
    (s.dev.up .link = true ∧ (s.dev.bit AUS_STAT 0 8 = true ∨ s.dev.bit AUS_STAT 0 9 = true) ∧ s.dev.pstate = 4 ∧ s.dev.partnerState = 2) :=
  ⟨withR base [(AUS_STAT, 0, 0x2114), (ARB_WIN, 3, 7)], 9, { regs := [], frame := 3 }, by decide +kernel⟩

theorem witness_MirrorsCopiesAndTheEventLog_8 : ∃ (s : State) (t0 : Nat) (c : SyncCopy),
    (s.dev.up .link = true ∧ (s.dev.bit AUS_STAT 0 8 = true ∨ s.dev.bit AUS_STAT 0 9 = true) ∧ s.dev.pstate = 2) :=
  ⟨withR base [(AUS_STAT, 0, 0x4112)], 9, { regs := [], frame := 3 }, by decide +kernel⟩

theorem witness_MirrorsCopiesAndTheEventLog_9 : ∃ (s : State) (i : Initiator) (v : Word) (n : Nat),
    Passes s i EVT_SWPUT n ∧ 0x80 ≤ bits v 7 0 ∧ (s.dev.logSrc 4).lost = 0 ∧ (s.dev.logSrc 4).fifo.length < 16 :=
  ⟨onD base (fun d => (d.at 77).wrI (EVT_SWDATA 8) .core1 0x01020304), .core1, 0x80, 0, by decide +kernel⟩

theorem witness_MirrorsCopiesAndTheEventLog_10 : ∃ (s : State) (i : Initiator) (v : Word) (n : Nat),
    Passes s i EVT_SWPUT n ∧ 0x80 ≤ bits v 7 0 ∧ 16 ≤ (s.dev.logSrc 4).fifo.length :=
  ⟨onD base (fun d => { d with log := [(4, { fifo := List.replicate 16 { code := 0x80, sseq := 1, stamp := 0, data := [] }, nextSeq := 17 })] }), .core1, 0x81, 0, by decide +kernel⟩

theorem witness_MirrorsCopiesAndTheEventLog_11 : ∃ (s : State) (i : Initiator) (v : Word) (n : Nat),
    Passes s i EVT_SWPUT n ∧ bits v 7 0 < 0x80 ∧ s.dev.bit (BLK_ERR 0x07) 0 31 = false :=
  ⟨base, .core1, 0x7F, 0, by decide +kernel⟩

theorem witness_MirrorsCopiesAndTheEventLog_12 : ∃ (s : State) (t0 src : Nat) (e : LogEntry) (rest : List LogEntry),
    (s.dev.logSrc src).fifo = e :: rest ∧ s.dev.pwr.phase ≠ .off ∧ s.dev.rd EVT_COUNT 0 ≠ 0 :=
  ⟨onD (withR base [(EVT_HEAD, 0, 0x3FFF), (EVT_COUNT, 0, 0x4000)]) (fun d => { d with log := [(20, { fifo := [{ code := 0x80, sseq := 1, stamp := 9, data := [1, 2] }] })] }), 7, 20, { code := 0x80, sseq := 1, stamp := 9, data := [1, 2] }, [], by decide +kernel⟩

theorem witness_MirrorsCopiesAndTheEventLog_13 : ∃ (s : State) (t0 src : Nat),
    (s.dev.logSrc src).fifo = [] ∨ s.dev.pwr.phase = .off :=
  ⟨base, 7, 3, by decide +kernel⟩

theorem witness_MirrorsCopiesAndTheEventLog_14 : ∃ (s : State) (t0 src code q st : Nat) (b : List Byte),
    (s.dev.pstate ≠ 0 ∧ s.dev.up .link = true ∧ (s.dev.bit AUS_STAT 0 8 = true ∨ s.dev.bit AUS_STAT 0 9 = true) ∧ src < 10 ∧ (s.dev.logSrc (16 + src)).lost = 0 ∧ (s.dev.logSrc (16 + src)).fifo.length < 16) :=
  ⟨withR base [(AUS_STAT, 0, 0x4113)], 7, 9, 3, 4, 5, [6], by decide +kernel⟩

theorem witness_MirrorsCopiesAndTheEventLog_15 : ∃ (s : State) (t0 src code q st : Nat) (b : List Byte),
    (s.dev.pstate ≠ 0 ∧ s.dev.up .link = true ∧ (s.dev.bit AUS_STAT 0 8 = true ∨ s.dev.bit AUS_STAT 0 9 = true) ∧ src < 10 ∧ 16 ≤ (s.dev.logSrc (16 + src)).fifo.length) :=
  ⟨onD (withR base [(AUS_STAT, 0, 0x4113)]) (fun d => { d with log := [(17, { fifo := List.replicate 16 { code := 0x80, sseq := 1, stamp := 0, data := [] } })] }), 7, 1, 3, 4, 5, [6], by decide +kernel⟩

theorem witness_MirrorsCopiesAndTheEventLog_16 : ∃ (s : State) (t0 : Nat) (i : Initiator) (ws : List PendWrite),
    s.dev.up .link = false ∨ (s.dev.bit AUS_STAT 0 8 = false ∧ s.dev.bit AUS_STAT 0 9 = false) ∨ s.dev.pstate < 2 ∨ 4 < s.dev.pstate ∨ (s.dev.pstate = 4 ∧ ∀ c ∈ s.dev.txn.commits, c.init ≠ i ∨ c.needsAck = false ∨ c.ackAt.isSome = true ∨ c.validAt = none) :=
  ⟨base, 9, .core1, [], by decide +kernel⟩

theorem witness_MirrorsCopiesAndTheEventLog_17 : ∃ (s : State) (t0 : Nat) (c : SyncCopy),
    s.dev.up .link = false ∨ (s.dev.bit AUS_STAT 0 8 = false ∧ s.dev.bit AUS_STAT 0 9 = false) ∨ (s.dev.pstate ≠ 2 ∧ (s.dev.pstate ≠ 4 ∨ s.dev.partnerState ≠ 2)) :=
  ⟨base, 9, { regs := [], frame := 3 }, by decide +kernel⟩

theorem witness_MirrorsCopiesAndTheEventLog_18 : ∃ (s : State) (i : Initiator) (v : Word) (n : Nat),
    Passes s i EVT_SWPUT n ∧ 0x80 ≤ bits v 7 0 ∧ 0 < (s.dev.logSrc 4).lost ∧ (s.dev.logSrc 4).fifo.length < 15 :=
  ⟨onD base (fun d => { d with log := [(4, { fifo := [], nextSeq := 17, lost := 2, lostAt := 5 })] }), .core1, 0x81, 0, by decide +kernel⟩

theorem witness_MirrorsCopiesAndTheEventLog_19 : ∃ (s : State) (i : Initiator) (v : Word) (n : Nat),
    Passes s i EVT_SWPUT n ∧ 0x80 ≤ bits v 7 0 ∧ 0 < (s.dev.logSrc 4).lost ∧ (s.dev.logSrc 4).fifo.length = 15 :=
  ⟨onD base (fun d => { d with log := [(4, { fifo := List.replicate 15 { code := 0x80, sseq := 1, stamp := 0, data := [] }, nextSeq := 17, lost := 2 })] }), .core1, 0x81, 0, by decide +kernel⟩

theorem witness_MirrorsCopiesAndTheEventLog_20 : ∃ (s : State) (i : Initiator) (v : Word) (n : Nat),
    Passes s i EVT_SWPUT n ∧ bits v 7 0 < 0x80 ∧ s.dev.bit (BLK_ERR 0x07) 0 31 = true :=
  ⟨withR base [(BLK_ERR 0x07, 0, 0x80000000)], .core1, 0x7F, 0, by decide +kernel⟩

theorem witness_MirrorsCopiesAndTheEventLog_21 : ∃ (s : State) (t0 src : Nat) (e : LogEntry) (rest : List LogEntry),
    (s.dev.logSrc src).fifo = e :: rest ∧ s.dev.pwr.phase ≠ .off ∧ s.dev.rd EVT_COUNT 0 = 0 :=
  ⟨onD base (fun d => { d with log := [(4, { fifo := [{ code := 0x80, sseq := 1, stamp := 9, data := [1, 2] }] })] }), 7, 4, { code := 0x80, sseq := 1, stamp := 9, data := [1, 2] }, [], by decide +kernel⟩

theorem witness_MirrorsCopiesAndTheEventLog_22 : ∃ (s : State) (t0 src code q st : Nat) (b : List Byte),
    s.dev.pstate ≠ 0 ∧ s.dev.up .link = true ∧ (s.dev.bit AUS_STAT 0 8 = true ∨ s.dev.bit AUS_STAT 0 9 = true) ∧ src < 10 ∧ 0 < (s.dev.logSrc (16 + src)).lost ∧ (s.dev.logSrc (16 + src)).fifo.length < 15 :=
  ⟨onD (withR base [(AUS_STAT, 0, 0x4113)]) (fun d => { d with log := [(17, { lost := 3 })] }), 7, 1, 3, 4, 5, [6], by decide +kernel⟩

theorem witness_MirrorsCopiesAndTheEventLog_23 : ∃ (s : State) (t0 src code q st : Nat) (b : List Byte),
    s.dev.pstate = 0 ∨ s.dev.up .link = false ∨ (s.dev.bit AUS_STAT 0 8 = false ∧ s.dev.bit AUS_STAT 0 9 = false) ∨ 10 ≤ src :=
  ⟨base, 7, 10, 3, 4, 5, [6], by decide +kernel⟩

end Sys2Proof.Tests
end

section
/-! SUPPORT. What a metering sample leaves alone: the keys of the registers it writes, and what every part of it but the channel's
own measurement keeps of a channel (spec/08_metrology.md, R294-R311). -/
namespace Sys2Proof.Machine

/-! ### Keys by page and offset -/

theorem keyPage_key {r : Reg} {i : Nat} (ho : r.off < 4096) (hi : i < 256) : keyPage (r.key i 0) = r.page := by
  unfold keyPage Reg.key; omega

theorem keyOff_key {r : Reg} {i : Nat} (ho : r.off < 4096) (hi : i < 256) : keyOff (r.key i 0) = r.off := by
  unfold keyOff Reg.key; omega

theorem Reg.key_ne_of_ne (r : Reg) {i j : Nat} (h : i ≠ j) : r.key i 0 ≠ r.key j 0 := by
  unfold Reg.key; omega

/-- Where a register stands: its page and offset. -/
def Reg.place (r : Reg) : Nat × Nat := (r.page, r.off)

theorem ne_key_of_place {r : Reg} {i k : Nat} (ho : r.off < 4096) (hi : i < 256) (h : (keyPage k, keyOff k) ≠ r.place) :
    k ≠ r.key i 0 := by
  rintro rfl
  exact h (by rw [keyPage_key ho hi, keyOff_key ho hi, Reg.place])

theorem Reg.key_ne_of_place {r q : Reg} {i j : Nat} (hr : r.off < 4096) (hi : i < 256) (hq : q.off < 4096) (hj : j < 256)
    (h : q.place ≠ r.place) : q.key j 0 ≠ r.key i 0 :=
  ne_key_of_place hr hi (by rwa [keyPage_key hq hj, keyOff_key hq hj])

/-- Every register outside the listed places reads as before. -/
def RegsBut (ps : List (Nat × Nat)) (d e : Dev) : Prop :=
  ∀ k, (keyPage k, keyOff k) ∉ ps → ∀ v, kvGet e.regs k v = kvGet d.regs k v

theorem RegsBut.rd {ps : List (Nat × Nat)} {d e : Dev} (h : RegsBut ps d e) {r : Reg} {i : Nat} (ho : r.off < 4096) (hi : i < 256)
    (hp : r.place ∉ ps) : e.rd r i = d.rd r i :=
  h _ (by rwa [keyPage_key ho hi, keyOff_key ho hi]) _

theorem RegsBut.trans {ps : List (Nat × Nat)} {a b c : Dev} (h : RegsBut ps a b) (g : RegsBut ps b c) : RegsBut ps a c :=
  fun k hk v => (g k hk v).trans (h k hk v)

theorem RegsBut.mono {ps qs : List (Nat × Nat)} {d e : Dev} (h : RegsBut ps d e) (hs : ps ⊆ qs) : RegsBut qs d e :=
  fun k hk v => h k (fun hm => hk (hs hm)) v

theorem regsBut_wr {ps : List (Nat × Nat)} (d : Dev) {r : Reg} {i : Nat} (v : Word) (ho : r.off < 4096) (hi : i < 256)
    (hp : r.place ∈ ps) : RegsBut ps d (d.wr r i v) :=
  fun _ hk e => Dev.wrB_regs_other d r i 0 v (ne_key_of_place ho hi (fun h => hk (h ▸ hp))) e

/-! ### Operations on the channels and the configuration in force -/

@[simp] theorem Dev.mtrC_setMtrC_same (d : Dev) (c : Nat) (x : MtrChan) : (d.setMtrC c x).mtrC c = x := kvGet_kvSet_same _ _ _ _

theorem Dev.mtrC_setMtrC_other (d : Dev) {c j : Nat} (h : c ≠ j) (x : MtrChan) : (d.setMtrC j x).mtrC c = d.mtrC c :=
  kvGet_kvSet_other _ h _ _ _

theorem Dev.inForce_congr {d e : Dev} {r : Reg} {i : Nat} (hl : e.mtr.live = d.mtr.live) (hr : e.rd r i = d.rd r i) :
    e.inForce r i = d.inForce r i := by
  unfold Dev.inForce; rw [hl, hr]

theorem Dev.ev_metrology (d : Dev) (n : Nat) : d.ev 0x48 n = d.setBit (BLK_EVF 0x48) 0 n true := by
  have h : pagePresent d.variant 0x48 = true := by cases d.variant <;> rfl
  unfold Dev.ev
  rw [if_pos h]
  rfl

theorem Dev.rd_inc_same (d : Dev) (r : Reg) (i : Nat) : (d.inc r i).rd r i = w32 (min ((d.rd r i).toNat + 1) 0xFFFFFFFF) := by
  have hw : ∀ (w : Word) (v : Nat), putBits w 31 0 v = w32 v := by
    intro w v
    have hm : maskOf 31 0 = ~~~(0 : Word) := by decide
    unfold putBits
    rw [hm]
    simp only [BitVec.not_not, Nat.shiftLeft_zero]
    exact BitVec.eq_of_toNat_eq (by simp [w32])
  have hb : ∀ w : Word, bits w 31 0 = w.toNat := fun w => Nat.mod_eq_of_lt w.isLt
  exact (Dev.rd_setFld_same d r i 31 0 _).trans
    ((hw _ _).trans (congrArg (fun n => w32 (min (n + 1) 0xFFFFFFFF)) (hb (d.rd r i))))

/-- What holds of a device and of every step over a list holds at its end. -/
theorem Dev.each_induction {α : Type} {P : Dev → Prop} {d : Dev} {l : List α} {f : α → Dev → Dev} (h : P d)
    (hf : ∀ x ∈ l, ∀ g, P g → P (f x g)) : P (d.each l f) := by
  induction l generalizing d with
  | nil => exact h
  | cons x xs ih => exact ih (hf x List.mem_cons_self d h) (fun y hy => hf y (List.mem_cons_of_mem _ hy))

theorem Dev.each_append {α : Type} (d : Dev) (l r : List α) (f : α → Dev → Dev) : d.each (l ++ r) f = (d.each l f).each r f :=
  List.foldl_append

/-- A quotient of at most n rounds to at most n. -/
theorem rneDiv_le {a n : Int} {b : Nat} (hb : 0 < b) (h : a ≤ n * b) : rneDiv a b ≤ n := by
  have hb' : (0 : Int) < b := by exact_mod_cast hb
  have hq : a / (b : Int) ≤ n := Int.ediv_le_of_le_mul hb' h
  unfold rneDiv
  simp only []
  by_cases hn : a / (b : Int) = n
  · rw [hn, if_pos (by linarith)]
  · split_ifs <;> omega

/-! ### What a sample leaves of a channel -/

/-- Registers that a metering sample and its ticks write, and that tell nothing of what a channel has registered. -/
def statusRegs : List Reg := [MTR_LATCHSTAT, MTR_FREQ, BLK_EVF 0x48, MTR_CHSTAT, MTR_P1MS]

/-- Every register that the channels of a metering sample write, and the ticks where no configuration waits. -/
def meterRegs : List Reg := MTR_CREEPCNT :: MTR_PLSSTAT :: statusRegs

/-- Where they and the samples themselves stand. -/
def meterPlaces : List (Nat × Nat) := (SDM_MTS :: meterRegs).map Reg.place

theorem meterRegs_off : ∀ r ∈ meterRegs, r.off < 4096 := by decide

/-- Registers of this list at one place are the same register, and no metering sample stands there. -/
theorem meterRegs_place : ∀ r ∈ meterRegs, r.place ≠ SDM_MTS.place ∧ ∀ q ∈ meterRegs, q.place = r.place → r = q := by decide

theorem meterRegs_key_ne {r q : Reg} {i j : Nat} (hr : r ∈ meterRegs) (hq : q ∈ meterRegs) (hi : i < 256) (hj : j < 256)
    (h : r = q → i ≠ j) : q.key j 0 ≠ r.key i 0 := by
  by_cases he : q.place = r.place
  · obtain rfl := (meterRegs_place r hr).2 q hq he
    exact Reg.key_ne_of_ne _ (h rfl).symm
  · exact Reg.key_ne_of_place (meterRegs_off r hr) hi (meterRegs_off q hq) hj he

/-- The accumulators of a channel and what reverse-power detection has registered. -/
def MtrChan.registered (x : MtrChan) : Nat × Nat × Nat × Nat × Nat := (x.imp, x.exp, x.runN, x.runE, x.evE)

/-- From d to e channel c registers nothing: accumulators, reverse-power detection and its pulse outputs stay (R302). -/
structure RegistersNothing (c : Nat) (d e : Dev) : Prop where
  live : e.mtr.live = d.mtr.live
  regs : RegsBut meterPlaces d e
  chan : (e.mtrC c).registered = (d.mtrC c).registered
  pulse : ∀ n, n < 4 → bits (d.pulseCfg n) 20 16 = c →
    (kvGet e.mtr.pulse n {}).acc = (kvGet d.mtr.pulse n {}).acc ∧ e.rd MTR_PLSSTAT n = d.rd MTR_PLSSTAT n

/-- From d to e nothing reaches channel c: besides, its creep windows, its creep count and what its next sample reads stay. -/
structure LeavesChannel (c : Nat) (d e : Dev) : Prop extends RegistersNothing c d e where
  variant : e.variant = d.variant
  stop : e.mtr.stop = d.mtr.stop
  lastStamp : e.mtr.lastStamp = d.mtr.lastStamp
  win : (e.mtrC c).win = (d.mtrC c).win
  mts : ∀ i, i < 256 → e.rd SDM_MTS i = d.rd SDM_MTS i
  creep : e.rd MTR_CREEPCNT c = d.rd MTR_CREEPCNT c

section
variable {c : Nat} {a b d e : Dev}

theorem RegistersNothing.inForce (h : RegistersNothing c d e) {r : Reg} {i : Nat} (ho : r.off < 4096) (hi : i < 256)
    (hp : r.place ∉ meterPlaces) : e.inForce r i = d.inForce r i :=
  Dev.inForce_congr h.live (h.regs.rd ho hi hp)

theorem RegistersNothing.pulseCfg (h : RegistersNothing c d e) {n : Nat} (hn : n < 4) : e.pulseCfg n = d.pulseCfg n :=
  h.inForce (by decide) (by omega) (by decide)

theorem RegistersNothing.trans (h : RegistersNothing c a b) (g : RegistersNothing c b d) : RegistersNothing c a d where
  live := g.live.trans h.live
  regs := h.regs.trans g.regs
  chan := g.chan.trans h.chan
  pulse n hn hc := by
    obtain ⟨hacc, hstat⟩ := h.pulse n hn hc
    obtain ⟨gacc, gstat⟩ := g.pulse n hn (by rwa [h.pulseCfg hn])
    exact ⟨gacc.trans hacc, gstat.trans hstat⟩

theorem LeavesChannel.trans (h : LeavesChannel c a b) (g : LeavesChannel c b d) : LeavesChannel c a d where
  toRegistersNothing := h.toRegistersNothing.trans g.toRegistersNothing
  variant := g.variant.trans h.variant
  stop := g.stop.trans h.stop
  lastStamp := g.lastStamp.trans h.lastStamp
  win := g.win.trans h.win
  mts i hi := (g.mts i hi).trans (h.mts i hi)
  creep := g.creep.trans h.creep

/-- A change outside the registers keeps channel c where it keeps the channel, the pulse outputs and the sample's stamps. -/
theorem LeavesChannel.of_regs (hr : e.regs = d.regs) (hv : e.variant = d.variant) (hl : e.mtr.live = d.mtr.live)
    (hs : e.mtr.stop = d.mtr.stop) (ht : e.mtr.lastStamp = d.mtr.lastStamp) (hp : e.mtr.pulse = d.mtr.pulse)
    (hc : (e.mtrC c).registered = (d.mtrC c).registered) (hw : (e.mtrC c).win = (d.mtrC c).win) : LeavesChannel c d e := by
  have hrd : ∀ r i, e.rd r i = d.rd r i := fun r i => by unfold Dev.rd Dev.rdB; rw [hr]
  exact { live := hl, regs := fun k _ v => by rw [hr], chan := hc, pulse := fun n _ _ => ⟨by rw [hp], hrd _ _⟩,
          variant := hv, stop := hs, lastStamp := ht, win := hw, mts := fun i _ => hrd _ _, creep := hrd _ _ }

theorem LeavesChannel.refl (c : Nat) (d : Dev) : LeavesChannel c d d := of_regs rfl rfl rfl rfl rfl rfl rfl rfl

/-- A write of one of the sample's registers, unless it is the status of a pulse output of channel c. -/
theorem RegistersNothing.wr {r : Reg} {i : Nat} (v : Word) (hr : r ∈ meterRegs) (hi : i < 256)
    (hpulse : r = MTR_PLSSTAT → bits (d.pulseCfg i) 20 16 ≠ c) : RegistersNothing c d (d.wr r i v) where
  live := rfl
  regs := regsBut_wr d v (meterRegs_off r hr) hi (List.mem_map_of_mem (List.mem_cons_of_mem _ hr))
  chan := rfl
  pulse n hn hcfg := ⟨rfl, Dev.rd_wr_other d r _ i n v
    (meterRegs_key_ne hr (by decide) hi (by omega) (fun h hin => hpulse h (hin ▸ hcfg)))⟩

/-- The same write, unless it is the creep count of channel c. -/
theorem LeavesChannel.wr (hc : c < 256) {r : Reg} {i : Nat} (v : Word) (hr : r ∈ meterRegs) (hi : i < 256)
    (hcreep : r = MTR_CREEPCNT → i ≠ c) (hpulse : r = MTR_PLSSTAT → bits (d.pulseCfg i) 20 16 ≠ c) :
    LeavesChannel c d (d.wr r i v) where
  toRegistersNothing := RegistersNothing.wr v hr hi hpulse
  variant := rfl
  stop := rfl
  lastStamp := rfl
  win := rfl
  mts j hj := Dev.rd_wr_other d r _ i j v
    (Reg.key_ne_of_place (meterRegs_off r hr) hi (by decide) hj (meterRegs_place r hr).1.symm)
  creep := Dev.rd_wr_other d r _ i c v (meterRegs_key_ne hr (by decide) hi hc hcreep)

/-- A change of neither the registers nor the metering state. -/
theorem LeavesChannel.of_mtr {g : Dev} (h : LeavesChannel c d e) (hr : g.regs = e.regs) (hv : g.variant = e.variant)
    (hm : g.mtr = e.mtr) : LeavesChannel c d g := by
  have hch : g.mtrC c = e.mtrC c := by unfold Dev.mtrC; rw [hm]
  exact h.trans (of_regs hr hv (by rw [hm]) (by rw [hm]) (by rw [hm]) (by rw [hm]) (by rw [hch]) (by rw [hch]))

theorem LeavesChannel.wrStatus (h : LeavesChannel c d e) (hc : c < 256) {r : Reg} {i : Nat} (v : Word) (hr : r ∈ statusRegs)
    (hi : i < 256) : LeavesChannel c d (e.wr r i v) := by
  have hne : ∀ q ∈ statusRegs, q ≠ MTR_CREEPCNT ∧ q ≠ MTR_PLSSTAT := by decide
  exact h.trans (wr hc v (List.mem_cons_of_mem _ (List.mem_cons_of_mem _ hr)) hi (fun hq => absurd hq (hne r hr).1)
    (fun hq => absurd hq (hne r hr).2))

theorem LeavesChannel.setBitStatus (h : LeavesChannel c d e) (hc : c < 256) {r : Reg} {i n : Nat} (x : Bool) (hr : r ∈ statusRegs)
    (hi : i < 256) : LeavesChannel c d (e.setBit r i n x) := h.wrStatus hc _ hr hi

theorem LeavesChannel.setFldStatus (h : LeavesChannel c d e) (hc : c < 256) {r : Reg} {i hi lo v : Nat} (hr : r ∈ statusRegs)
    (hin : i < 256) : LeavesChannel c d (e.setFld r i hi lo v) := h.wrStatus hc _ hr hin

theorem LeavesChannel.wrPulse (h : LeavesChannel c d e) (hc : c < 256) {n : Nat} (v : Word) (hn : n < 4)
    (hcfg : bits (d.pulseCfg n) 20 16 ≠ c) : LeavesChannel c d (e.wr MTR_PLSSTAT n v) :=
  h.trans (wr hc v (by decide) (by omega) (fun hq => absurd hq (by decide)) (fun _ => by rwa [h.pulseCfg hn]))

theorem LeavesChannel.setPulse (h : LeavesChannel c d e) {n : Nat} (x : PulseRec) (hn : n < 4) (hcfg : bits (d.pulseCfg n) 20 16 ≠ c) :
    LeavesChannel c d { e with mtr := { e.mtr with pulse := kvSet e.mtr.pulse n x {} } } :=
  h.trans
    { live := rfl, regs := fun _ _ _ => rfl, chan := rfl, variant := rfl, stop := rfl, lastStamp := rfl, win := rfl
      mts := fun _ _ => rfl, creep := rfl
      pulse := fun m _ hm => ⟨congrArg PulseRec.acc (kvGet_kvSet_other _ (fun hmn => hcfg (by rwa [← h.pulseCfg hn, ← hmn])) _ _ _), rfl⟩ }

theorem LeavesChannel.incCreep (h : LeavesChannel c d e) (hc : c < 256) {j : Nat} (hj : j < 256) (hjc : j ≠ c) :
    LeavesChannel c d (e.inc MTR_CREEPCNT j) :=
  h.trans (wr hc _ (by decide) hj (fun _ => hjc) (fun hq => absurd hq (by decide)))

/-- A change of the metering state beside the configuration in force, the sample's stamps, the channels and the pulse outputs. -/
theorem LeavesChannel.withMtr (h : LeavesChannel c d e) {m : MtrState} (hl : m.live = e.mtr.live) (hs : m.stop = e.mtr.stop)
    (ht : m.lastStamp = e.mtr.lastStamp) (hp : m.pulse = e.mtr.pulse) (hch : m.chan = e.mtr.chan) :
    LeavesChannel c d { e with mtr := m } := by
  have hx : Dev.mtrC { e with mtr := m } c = e.mtrC c := by unfold Dev.mtrC; rw [hch]
  exact h.trans (of_regs rfl rfl hl hs ht hp (by rw [hx]) (by rw [hx]))

theorem LeavesChannel.setMtrC (h : LeavesChannel c d e) {j : Nat} {x : MtrChan}
    (hx : c = j → x.registered = (e.mtrC c).registered ∧ x.win = (e.mtrC c).win) : LeavesChannel c d (e.setMtrC j x) := by
  have hy : ((e.setMtrC j x).mtrC c).registered = (e.mtrC c).registered ∧ ((e.setMtrC j x).mtrC c).win = (e.mtrC c).win := by
    by_cases hj : c = j
    · subst hj
      simpa using hx rfl
    · simp [Dev.mtrC_setMtrC_other e hj]
  exact h.trans (of_regs rfl rfl rfl rfl rfl rfl hy.1 hy.2)

/-- Channel j's own state with neither its windows nor what it has registered changed. -/
theorem LeavesChannel.setMtrC_same (h : LeavesChannel c d e) {j : Nat} {x : MtrChan} (hx : x.registered = (e.mtrC j).registered)
    (hw : x.win = (e.mtrC j).win) : LeavesChannel c d (e.setMtrC j x) :=
  h.setMtrC (fun hj => by subst hj; exact ⟨hx, hw⟩)

theorem LeavesChannel.ev (h : LeavesChannel c d e) (hc : c < 256) (n : Nat) : LeavesChannel c d (e.ev 0x48 n) := by
  rw [Dev.ev_metrology]
  exact h.setBitStatus hc _ (by decide) (by omega)

theorem LeavesChannel.when (h : LeavesChannel c d e) {p : Bool} {f : Dev → Dev} (hf : LeavesChannel c d (f e)) :
    LeavesChannel c d (e.when p f) := by
  cases p
  · exact h
  · exact hf

theorem LeavesChannel.ite {p : Prop} [Decidable p] (h : LeavesChannel c d e) {g : Dev} (hg : LeavesChannel c d g) :
    LeavesChannel c d (if p then e else g) := by
  split
  · exact h
  · exact hg

theorem LeavesChannel.each (h : LeavesChannel c d e) {α : Type} {l : List α} {f : α → Dev → Dev}
    (hf : ∀ x ∈ l, ∀ g, LeavesChannel c d g → LeavesChannel c d (f x g)) : LeavesChannel c d (e.each l f) :=
  Dev.each_induction h hf

/-! ### The parts of a channel's sample -/

theorem LeavesChannel.meteringGap (h : LeavesChannel c d e) (hc : c < 256) {j : Nat} (hj : j < 256) (n : Nat) :
    LeavesChannel c d (e.meteringGap j n) := by
  have hgap := (h.setMtrC_same (j := j) (x := { e.mtrC j with gaps := (e.mtrC j).gaps + n }) rfl rfl).setBitStatus hc
    (r := MTR_CHSTAT) (i := j) (n := 8) true (by decide) hj
  unfold Dev.meteringGap
  dsimp only
  split_ifs
  · exact hgap.ev hc 1
  · exact hgap

theorem LeavesChannel.p1ms (h : LeavesChannel c d e) (hc : c < 256) {j : Nat} (hj : j < 256) (stamp : Nat) (p : Option Int) :
    LeavesChannel c d (e.p1ms j stamp p) := by
  have hset : ∀ x : MtrChan, x.registered = (e.mtrC j).registered → x.win = (e.mtrC j).win → LeavesChannel c d (e.setMtrC j x) :=
    fun x => h.setMtrC_same
  have hmean : ∀ {g : Dev} (v : Word), LeavesChannel c d g → LeavesChannel c d (g.wr MTR_P1MS j v) :=
    fun v hg => hg.wrStatus hc v (by decide) hj
  unfold Dev.p1ms
  cases p with
  | none =>
    dsimp only
    split_ifs with hend hvalid
    · simp at hvalid
    · simp at hvalid
    · exact (hset _ (by rfl) (by rfl)).of_mtr rfl rfl rfl
    · exact hset _ rfl rfl
    · exact hset _ rfl rfl
  | some v =>
    dsimp only
    split_ifs
    · exact (hmean _ (hset _ (by rfl) (by rfl))).of_mtr rfl rfl rfl
    · exact hmean _ (hset _ (by rfl) (by rfl))
    · exact (hset _ (by rfl) (by rfl)).of_mtr rfl rfl rfl
    · exact hset _ rfl rfl
    · exact hset _ rfl rfl

/-- Energy of another channel reaches no pulse output of channel c. -/
theorem LeavesChannel.pulseEnergy (h : LeavesChannel c d e) (hc : c < 256) {j : Nat} (hjc : j ≠ c) (exporting : Bool) (u : Nat) :
    LeavesChannel c d (e.pulseEnergy j exporting u) := by
  unfold Dev.pulseEnergy
  refine h.each (fun n hn g hg => ?_)
  have hn4 : n < 4 := List.mem_range.1 hn
  have hother : bits (g.pulseCfg n) 20 16 = j → bits (d.pulseCfg n) 20 16 ≠ c := fun hj => by
    rw [← hg.pulseCfg hn4, hj]
    exact hjc
  dsimp only
  split_ifs with hcfg hover
  · obtain ⟨-, hj, -⟩ := hcfg
    refine LeavesChannel.when ?_ (LeavesChannel.ev ?_ hc 4)
    all_goals exact ((hg.setPulse _ hn4 (hother hj)).wrPulse hc _ hn4 (hother hj)).wrPulse hc _ hn4 (hother hj)
  · obtain ⟨-, hj, -⟩ := hcfg
    exact (hg.setPulse _ hn4 (hother hj)).wrPulse hc _ hn4 (hother hj)
  · exact hg

theorem LeavesChannel.meterChan (h : LeavesChannel c d e) (hc : c < 256) {j : Nat} (hj : j < 256) (hjc : j ≠ c) (stamp : Nat) :
    LeavesChannel c d (e.meterChan stamp j) := by
  have hset : ∀ {g : Dev} (x : MtrChan), LeavesChannel c d g → LeavesChannel c d (g.setMtrC j x) :=
    fun x hg => hg.setMtrC (fun hcj => absurd hcj.symm hjc)
  have hstat : ∀ {g : Dev} (n : Nat) (b : Bool), LeavesChannel c d g → LeavesChannel c d (g.setBit MTR_CHSTAT j n b) :=
    fun n b hg => hg.setBitStatus hc b (by decide) hj
  have hvalid : ∀ x b p, LeavesChannel c d (((e.setMtrC j x).setBit MTR_CHSTAT j 0 b).p1ms j stamp p) :=
    fun x b p => (hstat 0 b (hset x h)).p1ms hc hj stamp p
  unfold Dev.meterChan
  dsimp only
  split
  · exact ((hset _ h).meteringGap hc hj 1).p1ms hc hj stamp none
  · split_ifs
    · exact (hvalid _ _ _).incCreep hc hj hjc
    · exact hvalid _ _ _
    · exact hset _ (hvalid _ _ _)
    all_goals exact (hstat _ _ (hset _ (hvalid _ _ _))).pulseEnergy hc hjc _ _

/-! ### Ticks without waiting configuration -/

theorem Dev.putInForce_nil (h : d.mtr.live = []) : d.putInForce = d := by
  unfold Dev.putInForce; rw [if_pos h]

/-- Where the instants before t have been sampled, none is missed. -/
theorem Dev.missUntil_eq_self {t : Nat} (h : ∀ l ∈ d.mtr.lastStamp, t ≤ l + 100000) : d.missUntil t = d := by
  unfold Dev.missUntil
  cases hl : d.mtr.lastStamp with
  | none => rfl
  | some l =>
    have := h l hl
    have hn : (t - (l + 100000) + 99999) / 100000 = 0 := by omega
    dsimp only
    rw [if_pos hn]

theorem LeavesChannel.tick (h : LeavesChannel c d e) (hc : c < 256) (hl : d.mtr.live = []) (t : Nat) (fb : Bool) :
    LeavesChannel c d (e.tick t fb) := by
  have hput : ∀ {g : Dev}, LeavesChannel c d g → LeavesChannel c d g.putInForce :=
    fun hg => by rwa [Dev.putInForce_nil (hg.live.trans hl)]
  have htick : ∀ fl, LeavesChannel c d { e with mtr := { e.mtr with lastTick := some t, flags := fl } } :=
    fun _ => h.withMtr rfl rfl rfl rfl rfl
  unfold Dev.tick
  dsimp only
  generalize (if fb = true then e.mtr.flags ||| 1 else e.mtr.flags) = flags
  split_ifs
  · refine hput (LeavesChannel.setFldStatus (LeavesChannel.each ?_ ?_) hc (by decide) (by omega))
    · exact (htick flags).withMtr rfl rfl rfl rfl rfl
    · exact fun j _ g hg => hg.setMtrC_same rfl rfl
  · exact (htick flags).setFldStatus (r := MTR_LATCHSTAT) hc (by decide) (by omega)

theorem LeavesChannel.fallbackTick (h : LeavesChannel c d e) (hc : c < 256) (hl : d.mtr.live = []) (t : Nat) :
    LeavesChannel c d (e.fallbackTick t) := by
  unfold Dev.fallbackTick
  cases e.fallbackDue with
  | none => exact h
  | some due =>
    dsimp only
    split_ifs
    · exact h.tick hc hl due true
    · refine LeavesChannel.tick ?_ hc hl due true
      have hm : LeavesChannel c d { e with mtr := { e.mtr with lastCross := none } } := h.withMtr rfl rfl rfl rfl rfl
      exact ((hm.setBitStatus (r := MTR_LATCHSTAT) hc true (by decide) (by omega)).wrStatus (r := MTR_FREQ) hc 0 (by decide) (by omega)).ev hc 3
    · exact h

/-- Up to the instant that follows the last sample, the fallback ticks due are ticks alone: no instant between them is missed. -/
theorem LeavesChannel.placeTicks (h : LeavesChannel c d e) (hc : c < 256) (hl : d.mtr.live = []) {t : Nat}
    (ht : ∀ l ∈ d.mtr.lastStamp, t ≤ l + 100000) (k : Nat) : LeavesChannel c d (Dev.placeTicks t k e) := by
  induction k generalizing e with
  | zero => exact h
  | succ k ih =>
    unfold Dev.placeTicks
    cases hdue : e.fallbackDue with
    | none => exact h
    | some due =>
      dsimp only
      split_ifs with hle
      · rw [Dev.missUntil_eq_self (fun l hm => hle.trans (ht l (h.lastStamp ▸ hm)))]
        exact ih (h.fallbackTick hc hl due)
      · exact h

theorem LeavesChannel.fallbackTicks (h : LeavesChannel c d e) (hc : c < 256) (hl : d.mtr.live = []) {t : Nat}
    (ht : ∀ l ∈ d.mtr.lastStamp, t ≤ l + 100000) : LeavesChannel c d (e.fallbackTicks t) :=
  h.placeTicks hc hl ht _

theorem LeavesChannel.crossing (h : LeavesChannel c d e) (hc : c < 256) (hl : d.mtr.live = []) (t : Nat) :
    LeavesChannel c d (e.crossing t) := by
  have hwhen : ∀ {g : Dev} (p : Bool), LeavesChannel c d g → LeavesChannel c d (g.when p (fun f => f.tick t false)) :=
    fun p hg => hg.when (hg.tick hc hl t false)
  have hend : ∀ p : Bool, LeavesChannel c d (Dev.when { e with mtr := { e.mtr with lastCross := some t, hyst := false } } p
      (fun f => f.setBit MTR_LATCHSTAT 0 0 false)) := fun p => by
    have hm : LeavesChannel c d { e with mtr := { e.mtr with lastCross := some t, hyst := false } } := h.withMtr rfl rfl rfl rfl rfl
    exact hm.when (hm.setBitStatus hc false (by decide) (by omega))
  unfold Dev.crossing
  dsimp only
  refine LeavesChannel.ite h (hwhen _ ?_)
  split
  · exact LeavesChannel.ite (hend _) ((hend _).wrStatus (r := MTR_FREQ) hc _ (by decide) (by omega))
  · exact hend _

/-- A crossing between two samples lies at or before the second one. -/
theorem crossing_instant_le {v0 v1 : Int} {t0 stamp : Nat} (h0 : v0 < 0) (h1 : 0 ≤ v1) (ht : t0 + 100000 = stamp) :
    t0 + (rneDiv (-v0 * ((stamp - t0 : Nat) : Int)) (v1 - v0).toNat).toNat ≤ stamp := by
  have hlen : ((stamp - t0 : Nat) : Int) = 100000 := by omega
  have hspan : (((v1 - v0).toNat : Nat) : Int) = v1 - v0 := Int.toNat_of_nonneg (by omega)
  have hle := rneDiv_le (a := -v0 * ((stamp - t0 : Nat) : Int)) (n := 100000) (b := (v1 - v0).toNat) (by omega)
    (by rw [hlen, hspan]; omega)
  omega

theorem LeavesChannel.zeroCrossing (h : LeavesChannel c d e) (hc : c < 256) (hl : d.mtr.live = []) {stamp : Nat}
    (ht : ∀ l ∈ d.mtr.lastStamp, stamp ≤ l + 100000) : LeavesChannel c d (e.zeroCrossing stamp) := by
  have hticks : ∀ {g : Dev} {t : Nat}, t ≤ stamp → LeavesChannel c d g → LeavesChannel c d (g.fallbackTicks t) :=
    fun hle hg => hg.fallbackTicks hc hl (fun l hm => hle.trans (ht l hm))
  have hcross : ∀ {g : Dev} {t : Nat}, t ≤ stamp → LeavesChannel c d g → LeavesChannel c d ((g.fallbackTicks (t - 1)).crossing t) :=
    fun hle hg => (hticks (by omega) hg).crossing hc hl _
  have hstart : LeavesChannel c d (if e.mtr.started.isNone then { e with mtr := { e.mtr with started := some stamp } } else e) :=
    LeavesChannel.ite (by exact h.withMtr rfl rfl rfl rfl rfl) h
  unfold Dev.zeroCrossing
  dsimp only
  generalize (if e.mtr.started.isNone then { e with mtr := { e.mtr with started := some stamp } } else e) = g at hstart ⊢
  generalize (if e.mtrEn 0 then (e.mts 0).map (fun s => e.vNum 0 0 s) else none) = v
  cases v with
  | none => exact (hticks le_rfl hstart).withMtr rfl rfl rfl rfl rfl
  | some v1 =>
    dsimp only
    cases g.mtr.prevV with
    | none => exact (hticks le_rfl hstart).withMtr rfl rfl rfl rfl rfl
    | some p =>
      obtain ⟨t0, v0⟩ := p
      dsimp only
      split_ifs with hx
      · obtain ⟨hneg, hpos, -, hnext⟩ := hx
        exact (hticks le_rfl (hcross (crossing_instant_le hneg hpos hnext) hstart)).withMtr rfl rfl rfl rfl rfl
      · exact (hticks le_rfl hstart).withMtr rfl rfl rfl rfl rfl

/-! ### What a channel's sample reads -/

/-- The SDM channels and phases of a present metering channel (Table 8.1). -/
theorem mtrIo_zipIdx_lt {c : Nat} (hc : c < 17) : ∀ x ∈ (mtrIo c).zipIdx, x.1.1 < 256 ∧ x.1.2 < 256 ∧ x.2 < 3 := by
  unfold mtrIo
  split
  · decide
  · simp only [List.zipIdx_singleton, List.mem_singleton, forall_eq]
    omega

theorem LeavesChannel.phases (h : LeavesChannel c d e) (hc : c < 17) (stamp : Nat) : e.phases c stamp = d.phases c stamp := by
  have hen : e.mtrEn c = d.mtrEn c := by
    unfold Dev.mtrEn
    rw [h.inForce (by decide) (by omega) (by decide)]
  have hmts : ∀ i, i < 256 → e.mts i = d.mts i := fun i hi => by
    unfold Dev.mts Dev.bit Dev.fld
    rw [h.mts i hi]
  have hnum : ∀ ph, ph < 3 → e.vNum c ph = d.vNum c ph ∧ e.iNum c ph = d.iNum c ph := fun ph hph => by
    have hin : ∀ r ∈ [MTR_VSCL ph, MTR_VGAIN ph, MTR_VOFF ph, MTR_ISCL ph, MTR_IGAIN ph, MTR_IOFF ph],
        r.off < 4096 ∧ r.place ∉ meterPlaces := by
      interval_cases ph <;> decide
    have hf : ∀ r ∈ [MTR_VSCL ph, MTR_VGAIN ph, MTR_VOFF ph, MTR_ISCL ph, MTR_IGAIN ph, MTR_IOFF ph], e.inForce r c = d.inForce r c :=
      fun r hr => h.inForce (hin r hr).1 (by omega) (hin r hr).2
    simp only [List.forall_mem_cons] at hf
    obtain ⟨hvs, hvg, hvo, his, hig, hio, -⟩ := hf
    exact ⟨funext (fun x => by unfold Dev.vNum; rw [hvs, hvg, hvo]), funext (fun x => by unfold Dev.iNum; rw [his, hig, hio])⟩
  unfold Dev.phases
  rw [hen, h.stop]
  congr 1
  refine List.foldr_ext _ _ _ (fun x hx acc => ?_)
  obtain ⟨hv, hi, hph⟩ := mtrIo_zipIdx_lt hc x hx
  rw [hmts _ hv, hmts _ hi, (hnum _ hph).1, (hnum _ hph).2]

theorem RegistersNothing.gateOpen (h : RegistersNothing c d e) (hc : c < 256) (wins : List (List (Option Nat))) :
    e.gateOpen c wins = d.gateOpen c wins := by
  unfold Dev.gateOpen
  rw [h.inForce (r := MTR_IRATED) (by decide) hc (by decide), h.inForce (r := MTR_CHCFG) (by decide) hc (by decide)]

end

/-! ### The new samples -/

theorem Dev.meterSamples_at (d : Dev) (t : Nat) (xs : List Int) : (d.at t).meterSamples xs = (d.meterSamples xs).at t := by
  unfold Dev.meterSamples Dev.each
  exact List.foldl_hom (fun g : Dev => g.at t) (fun _ _ => rfl)

theorem Dev.meterSamples_regsBut (d : Dev) (xs : List Int) : RegsBut [SDM_MTS.place] d (d.meterSamples xs) := by
  have hin : d.variant.sdInputs ≤ 40 := by cases d.variant <;> decide
  refine Dev.each_induction (fun _ _ _ => rfl) (fun i hi g hg => hg.trans (regsBut_wr g _ (by decide) ?_ (by decide)))
  have := List.mem_range.1 hi
  omega

theorem Dev.meterSamples_mtr (d : Dev) (xs : List Int) : (d.meterSamples xs).mtr = d.mtr :=
  Dev.each_induction (P := fun g => g.mtr = d.mtr) rfl (fun _ _ _ hg => hg)

theorem Dev.meterSamples_variant (d : Dev) (xs : List Int) : (d.meterSamples xs).variant = d.variant :=
  Dev.each_induction (P := fun g => g.variant = d.variant) rfl (fun _ _ _ hg => hg)

theorem RegistersNothing.meterSamples (c : Nat) (d : Dev) (xs : List Int) : RegistersNothing c d (d.meterSamples xs) where
  live := by rw [Dev.meterSamples_mtr]
  regs := (Dev.meterSamples_regsBut d xs).mono (by decide)
  chan := by unfold Dev.mtrC; rw [Dev.meterSamples_mtr]
  pulse n hn _ := ⟨by rw [Dev.meterSamples_mtr], (Dev.meterSamples_regsBut d xs).rd (by decide) (by omega) (by decide)⟩

section
variable {c stamp : Nat} {d : Dev} {l : List (Int × Int)}

theorem Dev.missUntilTicks_eq_self (h : ∀ k ∈ d.mtr.lastStamp, stamp ≤ k + 100000) : d.missUntilTicks stamp = d := by
  unfold Dev.missUntilTicks
  cases hk : d.mtr.lastStamp with
  | none => rfl
  | some k =>
    have := h k hk
    dsimp only
    rw [if_neg (by omega)]

/-- Where no instant was missed and no configuration waits, all that precedes the channels' own part of a sample is its words. -/
theorem LeavesChannel.sampleReady (hc : c < 256) (hl : d.mtr.live = []) (xs : List Int)
    (ht : ∀ k ∈ d.mtr.lastStamp, stamp ≤ k + 100000) : LeavesChannel c (d.meterSamples xs) (d.sampleReady stamp xs) := by
  have hmiss : (d.at stamp).missUntilTicks stamp = d.at stamp := Dev.missUntilTicks_eq_self ht
  unfold Dev.sampleReady
  rw [hmiss, Dev.meterSamples_at]
  have hat : LeavesChannel c (d.meterSamples xs) ((d.meterSamples xs).at stamp) := (LeavesChannel.refl c _).of_mtr rfl rfl rfl
  refine hat.zeroCrossing hc ?_ ?_
  · rwa [Dev.meterSamples_mtr]
  · rwa [Dev.meterSamples_mtr]

/-! ### A sample with the gate closed -/

/-- The power of a sample, over calDen squared (R294). -/
def samplePower (l : List (Int × Int)) : Int := l.foldl (fun (a : Int) (v : Int × Int) => a + v.1 * v.2) 0

/-- What MTR_CREEPCNT holds after a sample of power p with the gate closed (R302). -/
def creepAfter (p : Int) (w : Word) : Word := if p = 0 then w else w32 (min (w.toNat + 1) 0xFFFFFFFF)

/-- A valid sample with the gate closed, but for the creep count. -/
def Dev.closedSample (d : Dev) (stamp c : Nat) (l : List (Int × Int)) : Dev :=
  ((d.setMtrC c { d.mtrC c with win := pushWins c (d.mtrC c).win (some l) }).setBit MTR_CHSTAT c 0 false).p1ms c stamp (some (samplePower l))

theorem Dev.meterChan_closed (hph : d.phases c stamp = some l)
    (hgate : d.gateOpen c (pushWins c (d.mtrC c).win (some l)) = false) :
    d.meterChan stamp c =
      if samplePower l ≠ 0 then (d.closedSample stamp c l).inc MTR_CREEPCNT c else d.closedSample stamp c l := by
  have hgate' : (d.setMtrC c { d.mtrC c with win := pushWins c (d.mtrC c).win (some l) }).gateOpen c
      (pushWins c (d.mtrC c).win (some l)) = false := hgate
  unfold Dev.meterChan
  dsimp only
  rw [hph]
  dsimp only
  rw [hgate']
  rfl

theorem RegistersNothing.closedSample (hc : c < 256) (d : Dev) (stamp : Nat) (l : List (Int × Int)) :
    RegistersNothing c d (d.closedSample stamp c l) ∧ (d.closedSample stamp c l).rd MTR_CREEPCNT c = d.rd MTR_CREEPCNT c := by
  have hwin : RegistersNothing c d (d.setMtrC c { d.mtrC c with win := pushWins c (d.mtrC c).win (some l) }) :=
    { live := rfl, regs := fun _ _ _ => rfl, chan := by rw [Dev.mtrC_setMtrC_same]; rfl, pulse := fun _ _ _ => ⟨rfl, rfl⟩ }
  have hrest := ((LeavesChannel.refl c (d.setMtrC c { d.mtrC c with win := pushWins c (d.mtrC c).win (some l) })).setBitStatus hc
    (r := MTR_CHSTAT) (n := 0) false (by decide) hc).p1ms hc hc stamp (some (samplePower l))
  exact ⟨hwin.trans hrest.toRegistersNothing, hrest.creep⟩

theorem RegistersNothing.meterChan_closed (hc : c < 256) (hph : d.phases c stamp = some l)
    (hgate : d.gateOpen c (pushWins c (d.mtrC c).win (some l)) = false) :
    RegistersNothing c d (d.meterChan stamp c) ∧
      (d.meterChan stamp c).rd MTR_CREEPCNT c = creepAfter (samplePower l) (d.rd MTR_CREEPCNT c) := by
  obtain ⟨hreg, hcreep⟩ := RegistersNothing.closedSample hc d stamp l
  rw [Dev.meterChan_closed hph hgate, creepAfter]
  by_cases hp : samplePower l = 0
  · rw [if_neg (not_not.2 hp), if_pos hp]
    exact ⟨hreg, hcreep⟩
  · rw [if_pos hp, if_neg hp, Dev.rd_inc_same, hcreep]
    exact ⟨hreg.trans (wr _ (by decide) hc (fun h => absurd h (by decide))), rfl⟩

/-- The channels of a metering sample, where channel c's gate is closed. -/
theorem RegistersNothing.meterChans_closed (hc : c < d.variant.mtrChannels) (hph : d.phases c stamp = some l)
    (hgate : d.gateOpen c (pushWins c (d.mtrC c).win (some l)) = false) :
    RegistersNothing c d (d.each d.mtrChans (fun j e => e.meterChan stamp j)) ∧
      (d.each d.mtrChans (fun j e => e.meterChan stamp j)).rd MTR_CREEPCNT c = creepAfter (samplePower l) (d.rd MTR_CREEPCNT c) := by
  have hcount : d.variant.mtrChannels ≤ 17 := by cases d.variant <;> decide
  have hlt : ∀ j ∈ d.mtrChans, j < 256 := fun j hj => by
    have := List.mem_range.1 hj
    omega
  have hnodup : d.mtrChans.Nodup := List.nodup_range
  obtain ⟨before, after, hsplit⟩ := List.append_of_mem (show c ∈ d.mtrChans from List.mem_range.2 hc)
  rw [hsplit] at hlt hnodup ⊢
  obtain ⟨hnot, -⟩ := List.nodup_cons.1 (List.nodup_middle.1 hnodup)
  have hothers : ∀ part : List Nat, part ⊆ before ++ after → ∀ e : Dev, LeavesChannel c e (e.each part (fun j g => g.meterChan stamp j)) :=
    fun part hpart e => (LeavesChannel.refl c e).each (fun j hj g hg => hg.meterChan (by omega)
      (hlt j (List.mem_append.2 ((List.mem_append.1 (hpart hj)).imp_right (List.mem_cons_of_mem c)))) (fun hjc => hnot (hjc ▸ hpart hj)) stamp)
  rw [Dev.each_append]
  have hb := hothers before (List.subset_append_left _ _) d
  generalize d.each before (fun j g => g.meterChan stamp j) = e at hb ⊢
  have hph' : e.phases c stamp = some l := by rw [hb.phases (by omega), hph]
  have hgate' : e.gateOpen c (pushWins c (e.mtrC c).win (some l)) = false := by rw [hb.win, hb.gateOpen (by omega), hgate]
  obtain ⟨hown, hcreep⟩ := RegistersNothing.meterChan_closed (by omega) hph' hgate'
  have ha := hothers after (List.subset_append_right _ _) (e.meterChan stamp c)
  exact ⟨(hb.toRegistersNothing.trans hown).trans ha.toRegistersNothing, ha.creep.trans (by rw [hcreep, hb.creep])⟩

/-- A sample of a new instant while the metrology island runs is taken by every channel (R294). -/
theorem Dev.meteringSample_taken (hup : (d.at stamp).up .metrology = true) (hlate : ∀ k ∈ d.mtr.lastStamp, k < stamp)
    (hgrid : stamp % 100000 = 0) (xs : List Int) :
    ∃ e, e = (d.sampleReady stamp xs).each (d.sampleReady stamp xs).mtrChans (fun j g => g.meterChan stamp j) ∧
      d.meteringSample stamp xs = { e with mtr := { e.mtr with lastStamp := some stamp } } := by
  refine ⟨_, rfl, ?_⟩
  unfold Dev.meteringSample
  cases hk : d.mtr.lastStamp with
  | none => simp [hup, hgrid, hk]
  | some k => simp [hup, hgrid, hk, hlate k hk]

/-- A valid metering sample taken while channel c's gate is closed. -/
theorem RegistersNothing.meteringSample_closed (hup : (d.at stamp).up .metrology = true) (hlate : ∀ k ∈ d.mtr.lastStamp, k < stamp)
    (hnext : ∀ k ∈ d.mtr.lastStamp, stamp ≤ k + 100000) (hgrid : stamp % 100000 = 0) (hl : d.mtr.live = [])
    (hc : c < d.variant.mtrChannels) (xs : List Int) (hph : (d.meterSamples xs).phases c stamp = some l)
    (hgate : d.gateOpen c (pushWins c (d.mtrC c).win (some l)) = false) :
    RegistersNothing c d (d.meteringSample stamp xs) ∧
      (d.meteringSample stamp xs).rd MTR_CREEPCNT c = creepAfter (samplePower l) (d.rd MTR_CREEPCNT c) := by
  have hcount : d.variant.mtrChannels ≤ 17 := by cases d.variant <;> decide
  have hwords := RegistersNothing.meterSamples c d xs
  have hready : LeavesChannel c (d.meterSamples xs) (d.sampleReady stamp xs) := LeavesChannel.sampleReady (by omega) hl xs hnext
  have hwin : ((d.sampleReady stamp xs).mtrC c).win = (d.mtrC c).win := by
    rw [hready.win]; unfold Dev.mtrC; rw [Dev.meterSamples_mtr]
  have hcreep : (d.sampleReady stamp xs).rd MTR_CREEPCNT c = d.rd MTR_CREEPCNT c :=
    hready.creep.trans ((Dev.meterSamples_regsBut d xs).rd (by decide) (by omega) (by decide))
  have hfront := hwords.trans hready.toRegistersNothing
  obtain ⟨hchans, hcreep'⟩ := RegistersNothing.meterChans_closed (d := d.sampleReady stamp xs) (stamp := stamp) (l := l)
    (by rwa [hready.variant, Dev.meterSamples_variant]) (by rw [hready.phases (by omega), hph])
    (by rw [hwin, hfront.gateOpen (by omega), hgate])
  obtain ⟨e, he, heq⟩ := Dev.meteringSample_taken hup hlate hgrid xs
  rw [heq, ← hcreep]
  rw [← he] at hchans hcreep'
  exact ⟨hfront.trans (hchans.trans { live := rfl, regs := fun _ _ _ => rfl, chan := rfl, pulse := fun _ _ _ => ⟨rfl, rfl⟩ }), hcreep'⟩

end

end Sys2Proof.Machine

namespace Sys2Proof
open Machine

theorem meterPlaces_below_billing : ∀ p ∈ meterPlaces, p.1 < 0x50 := by decide

/-- Settles O25: before channel c's own part the sample changes nothing that it reads, its own part with the gate closed counts at
most in MTR_CREEPCNT, and the other channels' parts reach neither its state nor its pulse outputs. -/
theorem aClosedGateRegistersNothing : Obligations.AClosedGateRegistersNothing := by
  unfold Obligations.AClosedGateRegistersNothing
  rintro s t0 c xs l ⟨hup, hnext, hgrid⟩ ⟨hlive, hc⟩ hph hgate
  have hstamp : ∀ k ∈ s.dev.mtr.lastStamp, k + 100000 = t0 := fun k hk => by
    rw [Option.mem_def] at hk
    simpa [hk] using hnext
  obtain ⟨hreg, hcreep⟩ := RegistersNothing.meteringSample_closed hup (fun k hk => by have := hstamp k hk; omega)
    (fun k hk => (hstamp k hk).ge) hgrid hlive hc xs hph hgate
  have hchan := hreg.chan
  simp only [MtrChan.registered, Prod.mk.injEq] at hchan
  obtain ⟨himp, hexp, hrunN, hrunE, hevE⟩ := hchan
  refine ⟨{ s with sys := s.sys.onDev (fun d => d.meteringSample t0 xs) }, rfl, himp, hexp, hrunN, hrunE, hevE, hreg.pulse, hcreep,
    ⟨rfl, rfl, fun _ _ => rfl⟩, fun k hlo _ v => hreg.regs k (fun hk => ?_) v⟩
  have := meterPlaces_below_billing _ hk
  omega

end Sys2Proof
end

section
/-! SUPPORT. How a billing method is served: the answer of its request, the check of its AUTH and the record of a failed one; the
acknowledgement of a session and a START without a free slot (spec/09_billing.md, R363, R370, R374, R377-R382). -/
namespace Sys2Proof.Machine

/-! ### Events and journal entries -/

@[simp] theorem Dev.acqNote_mbx (d : Dev) (code : Nat) : (d.acqNote code).mbx = d.mbx := by
  unfold Dev.acqNote; split <;> rfl

@[simp] theorem Dev.acqNote_regs (d : Dev) (code : Nat) : (d.acqNote code).regs = d.regs := by
  unfold Dev.acqNote; split <;> rfl

@[simp] theorem Dev.ev_mbx (d : Dev) (page n : Nat) : (d.ev page n).mbx = d.mbx := by
  unfold Dev.ev
  split
  · split
    · rfl
    · exact Dev.acqNote_mbx _ _
  · rfl

theorem Dev.ev_regs_other (d : Dev) {page k : Nat} (n : Nat) (h : k ≠ (BLK_EVF page).key 0 0) (v : Word) :
    kvGet (d.ev page n).regs k v = kvGet d.regs k v := by
  unfold Dev.ev
  split
  · split
    · exact Dev.wrB_regs_other d _ 0 0 _ h v
    · rw [Dev.acqNote_regs]
      exact Dev.wrB_regs_other d _ 0 0 _ h v
  · rfl

theorem Dev.ev_rd_other (d : Dev) {page : Nat} {r : Reg} {i : Nat} (n : Nat) (h : r.key i 0 ≠ (BLK_EVF page).key 0 0) :
    (d.ev page n).rd r i = d.rd r i := d.ev_regs_other n h _

section
variable (s : Sys) (kind mt : Nat) (loc : Int) (bank events bpnum : Nat) (diff : Int) (rest : List Byte)

theorem Sys.journal_dev : (s.journal kind mt loc bank events bpnum diff rest).dev =
    (s.dev.wr BIL_JSEQ 0 (w32 (((s.dev.rd BIL_JSEQ 0).toNat + 1) % 2 ^ 32))).ev 0x50 0 := by
  simp only [Sys.journal, Sys.onDev_dev, Sys.store_dev]

theorem Sys.journal_mbx : (s.journal kind mt loc bank events bpnum diff rest).dev.mbx = s.dev.mbx := by
  rw [Sys.journal_dev, Dev.ev_mbx, Dev.wr_mbx]

/-- A journal entry takes the next JSEQ (R363). -/
theorem Sys.journal_jseq : (s.journal kind mt loc bank events bpnum diff rest).dev.rd BIL_JSEQ 0 = s.dev.rd BIL_JSEQ 0 + 1 := by
  rw [Sys.journal_dev, Dev.ev_rd_other _ 0 (by decide), Dev.rd_wr_same]
  exact BitVec.eq_of_toNat_eq (by simp [BitVec.toNat_add])

end

/-! ### The request and its answer -/

section
variable {d e : Dev} {i : Initiator} {q : BilReq}

/-- A request of the initiator is in flight to the metrology island and has no response yet. -/
def Dev.AwaitsAnswer (d : Dev) (i : Initiator) : Prop := ∃ r, d.mbxReq 1 i = some r ∧ r.ready = none

theorem Dev.AwaitsAnswer.of_bilReq (h : d.bilReq i = some q) : d.AwaitsAnswer i := by
  unfold Dev.bilReq Dev.mbxService at h
  cases hr : d.mbxReq 1 i with
  | none => simp [hr] at h
  | some r =>
    by_cases hn : r.ready = none
    · exact ⟨r, hr, hn⟩
    · simp [hr, hn] at h

theorem Dev.AwaitsAnswer.congr (h : d.AwaitsAnswer i) (hm : e.mbx = d.mbx) : e.AwaitsAnswer i := by
  unfold Dev.AwaitsAnswer Dev.mbxReq at *
  rwa [hm]

/-- The response of R377 carries the RESULT behind the mailbox's own four bytes. -/
theorem Dev.AwaitsAnswer.bilAnswer_result (h : d.AwaitsAnswer i) (result : Nat) (data : List Byte) :
    (((d.bilAnswer i result data).mbxReq 1 i).bind (fun r => r.ready)).map (fun b => b.getD 4 0) = some (w8 result) := by
  obtain ⟨r, hr, hn⟩ := h
  have hfirst : (d.mbxBytes 1 i 0 2).length = 2 := by simp [Dev.mbxBytes]
  simp only [Dev.bilAnswer, Dev.mbxAnswer, hr, hn, Option.isNone_none, if_true]
  simp [Dev.mbxReq, Dev.setMbx, leBytes, hfirst, List.getD_eq_getElem?_getD, List.getElem?_append]

theorem Dev.bilAnswer_keeps (d : Dev) (i : Initiator) (result : Nat) (data : List Byte) :
    (d.bilAnswer i result data).regs = d.regs ∧ (d.bilAnswer i result data).bil = d.bil := by
  unfold Dev.bilAnswer Dev.mbxAnswer
  dsimp only
  split
  · split
    · exact ⟨rfl, rfl⟩
    · exact ⟨rfl, rfl⟩
  · exact ⟨rfl, rfl⟩

@[simp] theorem Dev.bilAnswer_regs (d : Dev) (i : Initiator) (result : Nat) (data : List Byte) :
    (d.bilAnswer i result data).regs = d.regs := (d.bilAnswer_keeps i result data).1

@[simp] theorem Dev.bilAnswer_bil (d : Dev) (i : Initiator) (result : Nat) (data : List Byte) :
    (d.bilAnswer i result data).bil = d.bil := (d.bilAnswer_keeps i result data).2

@[simp] theorem Dev.bilAnswer_rd (d : Dev) (i : Initiator) (result : Nat) (data : List Byte) (r : Reg) (n : Nat) :
    (d.bilAnswer i result data).rd r n = d.rd r n := by
  simp [Dev.rd, Dev.rdB]

/-- The check of an AUTH changes at most the open challenge (R378). -/
theorem Dev.bilAuth_device (d : Dev) (i : Initiator) (q : BilReq) :
    ∃ c, (d.bilAuth i q).2 = { d with bil := { d.bil with openCh := c } } := by
  have hkept : ∃ c, d = { d with bil := { d.bil with openCh := c } } := ⟨d.bil.openCh, rfl⟩
  unfold Dev.bilAuth
  dsimp only
  split_ifs
  · exact hkept
  · exact hkept
  · exact hkept
  · exact hkept
  · split
    · exact hkept
    · split_ifs
      · exact ⟨none, rfl⟩
      · exact ⟨none, rfl⟩
  · exact hkept

end

/-! ### Serving a method -/

/-- The device with its memories once the AUTH of a request has been checked (R378). -/
def Sys.afterAuth (s : Sys) (i : Initiator) (q : BilReq) : Sys := s.onDev (fun d => (d.bilAuth i q).2)

section
variable (s : Sys) (i : Initiator) (q : BilReq)

theorem Sys.afterAuth_eq : ∃ c, s.afterAuth i q = s.onDev (fun d => { d with bil := { d.bil with openCh := c } }) := by
  obtain ⟨c, hc⟩ := s.dev.bilAuth_device i q
  exact ⟨c, congrArg (fun d => { s with dev := d }) hc⟩

@[simp] theorem Sys.afterAuth_mem : (s.afterAuth i q).mem = s.mem := rfl

@[simp] theorem Sys.afterAuth_fuses : (s.afterAuth i q).fuses = s.fuses := rfl

@[simp] theorem Sys.afterAuth_mbx : (s.afterAuth i q).dev.mbx = s.dev.mbx := by
  obtain ⟨c, hc⟩ := s.afterAuth_eq i q; rw [hc]; rfl

@[simp] theorem Sys.afterAuth_regs : (s.afterAuth i q).dev.regs = s.dev.regs := by
  obtain ⟨c, hc⟩ := s.afterAuth_eq i q; rw [hc]; rfl

@[simp] theorem Sys.afterAuth_sess : (s.afterAuth i q).dev.bil.sess = s.dev.bil.sess := by
  obtain ⟨c, hc⟩ := s.afterAuth_eq i q; rw [hc]; rfl

@[simp] theorem Sys.afterAuth_startCheck (o : Nat) : (s.afterAuth i q).dev.startCheck o = s.dev.startCheck o := by
  obtain ⟨c, hc⟩ := s.afterAuth_eq i q; rw [hc]; rfl

end

/-- The initiator's request asks for method m of object o, on a device that serves it: a standby serves ACK alone (R382). -/
def MethodAsked (d : Dev) (i : Initiator) (q : BilReq) (m : Method) (o : BilObj) : Prop :=
  d.bilReq i = some q ∧ q.op = 3 ∧ q.obj = some o ∧ (m = .ack ∨ d.fld MTR_ROLE 0 1 0 ≠ 2)

theorem MethodAsked.served {d : Dev} {i : Initiator} {q : BilReq} {m : Method} {o : BilObj} (h : MethodAsked d i q m o) :
    ¬ (m ≠ .ack ∧ d.fld MTR_ROLE 0 1 0 = 2) := by
  obtain ⟨-, -, -, hrole⟩ := h
  tauto

section
variable {s t : Sys} {i : Initiator} {q : BilReq} {m : Method} {o : BilObj} {act : Sys → Sys × Nat} {r : Nat}

theorem Sys.bilMethod_badAuth (h : MethodAsked s.dev i q m o) (ha : (s.dev.bilAuth i q).1 = some r) :
    s.bilMethod i m o act =
      (if r = 4 then (s.afterAuth i q).failedAuth q r else s.afterAuth i q).onDev (fun d => d.bilAnswer i r []) := by
  have hserved := h.served
  obtain ⟨hreq, hop, hobj, -⟩ := h
  simp [Sys.bilMethod, Sys.bilServe, Sys.afterAuth, Sys.onDev, hreq, hop, hobj, hserved, ha]

theorem Sys.bilMethod_forbidden (h : MethodAsked s.dev i q m o) (ha : (s.dev.bilAuth i q).1 = none) (hm : mayRun m q.role = false) :
    s.bilMethod i m o act = (s.afterAuth i q).onDev (fun d => d.bilAnswer i 2 []) := by
  have hserved := h.served
  obtain ⟨hreq, hop, hobj, -⟩ := h
  simp [Sys.bilMethod, Sys.bilServe, Sys.afterAuth, Sys.onDev, hreq, hop, hobj, hserved, ha, hm]

theorem Sys.bilMethod_runs (h : MethodAsked s.dev i q m o) (ha : (s.dev.bilAuth i q).1 = none) (hm : mayRun m q.role = true)
    (hact : act (s.afterAuth i q) = (t, r)) : s.bilMethod i m o act = t.onDev (fun d => d.bilAnswer i r []) := by
  have hserved := h.served
  obtain ⟨hreq, hop, hobj, -⟩ := h
  unfold Sys.afterAuth Sys.onDev at hact
  simp [Sys.bilMethod, Sys.bilServe, hreq, hop, hobj, hserved, ha, hm, hact]

theorem Sys.bilMethod_unasked (h : ∀ q ∈ s.dev.bilReq i, q.op = 3 → q.obj ≠ some o) : s.bilMethod i m o act = s := by
  unfold Sys.bilMethod Sys.bilServe
  cases hreq : s.dev.bilReq i with
  | none => rfl
  | some q =>
    have hpick : (decide (q.op = 3) && decide (q.obj = some o)) = false := by simpa using h q hreq
    simp [hpick]

end

/-! ### ACK and START -/

/-- Slot k of session x acknowledged: the session record's state byte with ACKED, the slot free (R374). -/
def Sys.freeAcked (s : Sys) (k : Nat) (x : Sess) : Sys :=
  (s.store (sessSlot k + 256) [w8 (x.state ||| 16)]).onDev (fun d => (d.setSess k none).setBit BIL_SLOTUSE 0 k false)

section
variable (s : Sys) {k : Nat} (x : Sess)

theorem Sys.freeAcked_mbx : (s.freeAcked k x).dev.mbx = s.dev.mbx := rfl

theorem Sys.freeAcked_sess : kvGet (s.freeAcked k x).dev.bil.sess k none = none :=
  kvGet_kvSet_same s.dev.bil.sess k none none

theorem Sys.freeAcked_slotUse (hk : k < 32) : (s.freeAcked k x).dev.bit BIL_SLOTUSE 0 k = false :=
  Dev.bit_setBit_same _ BIL_SLOTUSE 0 hk false

theorem Sys.freeAcked_regs_other {n : Nat} (hn : n ≠ BIL_SLOTUSE.key 0 0) (v : Word) :
    kvGet (s.freeAcked k x).dev.regs n v = kvGet s.dev.regs n v :=
  Dev.wrB_regs_other (s.dev.setSess k none) BIL_SLOTUSE 0 0 _ hn v

theorem Sys.freeAcked_mem : (s.freeAcked k x).mem = memWrite s.mem (sessSlot k + 256) [w8 (x.state ||| 16)] := by
  simp only [Sys.freeAcked, Sys.onDev_mem, Sys.store_mem]

theorem Sys.freeAcked_stateByte : memByte (s.freeAcked k x).mem (sessSlot k + 256) = w8 (x.state ||| 16) := by
  rw [Sys.freeAcked_mem]
  exact memByte_memWrite_inside s.mem _ [_] (by unfold sessSlot; omega) (n := 0) Nat.one_pos

theorem Sys.freeAcked_mem_other {b : Nat} (hb : b < sessSlot k + 256 ∨ sessSlot k + 256 + 1 ≤ b) :
    memByte (s.freeAcked k x).mem b = memByte s.mem b := by
  rw [Sys.freeAcked_mem]
  exact memByte_memWrite_outside s.mem _ [_] hb

end

section
variable {s : Sys} {i : Initiator} {q : BilReq} {o k : Nat}

theorem Sys.sessionAck_signed {x : Sess} (h : MethodAsked s.dev i q .ack (.session o)) (ha : (s.dev.bilAuth i q).1 = none)
    (hm : mayRun .ack q.role = true) (hk : kvGet s.dev.bil.sess k none = some x) (ho : x.outlet = o) (hx : x.state.testBit 2 = true) :
    s.sessionAck i o k = ((s.afterAuth i q).freeAcked k x).onDev (fun d => d.bilAnswer i 0 []) :=
  Sys.bilMethod_runs h ha hm (by simp [hk, ho, hx, Sys.freeAcked])

theorem Sys.sessionAck_notSigned (h : MethodAsked s.dev i q .ack (.session o)) (ha : (s.dev.bilAuth i q).1 = none)
    (hm : mayRun .ack q.role = true)
    (hk : ((kvGet s.dev.bil.sess k none).map (fun x => decide (x.outlet = o) && x.state.testBit 2)).getD false = false) :
    s.sessionAck i o k = (s.afterAuth i q).onDev (fun d => d.bilAnswer i 6 []) := by
  refine Sys.bilMethod_runs h ha hm ?_
  rw [Sys.afterAuth_sess]
  cases hx : kvGet s.dev.bil.sess k none with
  | none => rfl
  | some x =>
    have hno : ¬ (x.outlet = o ∧ x.state.testBit 2 = true) := by simpa [hx] using hk
    exact if_neg hno

theorem Dev.startCheck_noSlot {d : Dev} (he : d.mtrEn (o + 1) = true) (hs : d.fld BIL_SESSTAT o 1 0 = 0)
    (hfull : ∀ k : Nat, k < 32 → (kvGet d.bil.sess k none).isSome = true) : d.startCheck o = (7, 0) := by
  have hnone : d.freeSlot = none := by
    refine List.find?_eq_none.2 (fun k hk => ?_)
    simp [Option.isSome_iff_ne_none.1 (hfull k (List.mem_range.1 hk))]
  simp [Dev.startCheck, he, hs, hnone]

theorem Sys.sessionStart_refused {r n : Nat} (h : MethodAsked s.dev i q .start (.session o)) (ha : (s.dev.bilAuth i q).1 = none)
    (hm : mayRun .start q.role = true) (hc : s.dev.startCheck o = (r, n)) (hr : r ≠ 0) (tag : List Byte) :
    s.sessionStart i o tag false = (s.afterAuth i q).onDev (fun d => d.bilAnswer i r []) := by
  unfold Sys.sessionStart
  rw [if_neg Bool.false_ne_true]
  exact Sys.bilMethod_runs h ha hm (by simp [hc, hr])

end

end Sys2Proof.Machine

namespace Sys2Proof
open Machine

section
variable {s : State} {i : Initiator} {q : BilReq} {r : Nat}

theorem bilAnswered_onDev {u : Sys} (h : u.dev.AwaitsAnswer i) (data : List Byte) :
    BilAnswered { s with sys := u.onDev (fun d => d.bilAnswer i r data) } i r :=
  h.bilAnswer_result r data

/-- An answer right after the check of the AUTH is all that a request brings about. -/
theorem answered_onlyRegs (hreq : s.dev.bilReq i = some q) :
    BilAnswered { s with sys := (s.sys.afterAuth i q).onDev (fun d => d.bilAnswer i r []) } i r ∧
      OnlyRegs s { s with sys := (s.sys.afterAuth i q).onDev (fun d => d.bilAnswer i r []) } [] :=
  ⟨bilAnswered_onDev ((Dev.AwaitsAnswer.of_bilReq hreq).congr (by simp)) [], rfl, rfl, fun _ _ => rfl, fun _ _ _ => by simp [State.dev]⟩

/-- A failed AUTH is answered with its code; code 4 takes a journal entry, every other one nothing (R378). -/
theorem failedAuth_answered (hreq : s.dev.bilReq i = some q) {u : Sys} (hu : u = (if r = 4 then (s.sys.afterAuth i q).failedAuth q r
      else s.sys.afterAuth i q).onDev (fun d => d.bilAnswer i r [])) :
    BilAnswered { s with sys := u } i r ∧ (r ≠ 4 → OnlyRegs s { s with sys := u } []) ∧
      (r = 4 → u.dev.rd BIL_JSEQ 0 = s.dev.rd BIL_JSEQ 0 + 1) := by
  by_cases h4 : r = 4
  · rw [if_pos h4] at hu
    subst hu
    refine ⟨bilAnswered_onDev ((Dev.AwaitsAnswer.of_bilReq hreq).congr ?_) [], absurd h4, fun _ => ?_⟩
    · exact (Sys.journal_mbx ..).trans (Sys.afterAuth_mbx ..)
    · calc _ = ((s.sys.afterAuth i q).failedAuth q r).dev.rd BIL_JSEQ 0 := Dev.bilAnswer_rd ..
        _ = (s.sys.afterAuth i q).dev.rd BIL_JSEQ 0 + 1 := Sys.journal_jseq ..
        _ = s.dev.rd BIL_JSEQ 0 + 1 := by simp [Dev.rd, Dev.rdB]
  · rw [if_neg h4] at hu
    subst hu
    obtain ⟨hans, honly⟩ := answered_onlyRegs (r := r) hreq
    exact ⟨hans, fun _ => honly, fun h => absurd h h4⟩

/-- An acknowledged slot: its session gone, its place in BIL_SLOTUSE and its state byte, and what else stays (R374). -/
theorem freeAcked_answered {k : Nat} (hreq : s.dev.bilReq i = some q) (x : Sess) (hk : k < 32) {t : State}
    (ht : t = { s with sys := ((s.sys.afterAuth i q).freeAcked k x).onDev (fun d => d.bilAnswer i 0 []) }) :
    kvGet t.dev.bil.sess k none = none ∧ t.dev.bit BIL_SLOTUSE 0 k = false ∧ memByte t.sys.mem (sessSlot k + 256) = w8 (x.state ||| 16) ∧
      BilAnswered t i 0 ∧ t.pending = s.pending ∧ t.sys.fuses = s.sys.fuses ∧ BytesKept s t (sessSlot k + 256) 1 ∧
      RegsKept s t [BIL_SLOTUSE.key 0 0] := by
  subst ht
  refine ⟨?sess, ?slotUse, ?stateByte, ?answer, rfl, ?fuses, fun b hb => ?bytes, fun n hn v => ?regs⟩
  case sess => simpa [State.dev] using Sys.freeAcked_sess (s.sys.afterAuth i q) x
  case slotUse => simpa [State.dev, Dev.bit] using Sys.freeAcked_slotUse (s.sys.afterAuth i q) x hk
  case stateByte => simpa using Sys.freeAcked_stateByte (s.sys.afterAuth i q) x
  case answer =>
    have hmbx : ((s.sys.afterAuth i q).freeAcked k x).dev.mbx = s.dev.mbx := (Sys.freeAcked_mbx ..).trans (Sys.afterAuth_mbx ..)
    exact bilAnswered_onDev ((Dev.AwaitsAnswer.of_bilReq hreq).congr hmbx) []
  case fuses => simp [Sys.freeAcked]
  case bytes => simpa using Sys.freeAcked_mem_other (s.sys.afterAuth i q) x hb
  case regs =>
    have hother := Sys.freeAcked_regs_other (s.sys.afterAuth i q) (k := k) x (List.ne_of_not_mem_cons hn) v
    simpa [State.dev] using hother

end

theorem ends_sessionAck {s : State} {i : Initiator} {o k : Nat} {u : Sys} {P : State → Prop} (h : s.sys.sessionAck i o k = u)
    (hp : P { s with sys := u }) : Ends (.sessionAck i o k) s P :=
  ⟨{ s with sys := u }, h ▸ rfl, hp⟩

theorem ends_sessionStart {s : State} {i : Initiator} {o : Nat} {tag : List Byte} {u : Sys} {P : State → Prop}
    (h : s.sys.sessionStart i o tag false = u) (hp : P { s with sys := u }) : Ends (.sessionStart i o tag false) s P :=
  ⟨{ s with sys := u }, h ▸ rfl, hp⟩

/-- Settles O32: once the AUTH is checked a method's request is refused or run; an ACK that runs frees a signed slot alone, and a
START that runs finds no slot where all 32 are in use. -/
theorem acknowledgementFreesASignedSlot : Obligations.AcknowledgementFreesASignedSlot := by
  unfold Obligations.AcknowledgementFreesASignedSlot
  refine ⟨?signed, ?notSigned, ?noSlot, ?forbidden, ?badAuth, ?unasked⟩
  case signed =>
    rintro s i q o k x ⟨hreq, hop, hobj⟩ ⟨hauth, hrole⟩ ⟨hslot, hout, hsig, hk⟩
    exact ends_sessionAck (Sys.sessionAck_signed ⟨hreq, hop, hobj, .inl rfl⟩ hauth hrole hslot hout hsig)
      (freeAcked_answered hreq x hk rfl)
  case notSigned =>
    rintro s i q o k ⟨hreq, hop, hobj⟩ ⟨hauth, hrole⟩ hslot
    exact ends_sessionAck (Sys.sessionAck_notSigned ⟨hreq, hop, hobj, .inl rfl⟩ hauth hrole hslot) (answered_onlyRegs hreq)
  case noSlot =>
    rintro s i q o tag ⟨hreq, hop, hobj, hactive, hauth⟩ ⟨hrole, hen, hfree⟩ hfull
    exact ends_sessionStart (Sys.sessionStart_refused ⟨hreq, hop, hobj, .inr hactive⟩ hauth hrole
      (Dev.startCheck_noSlot hen hfree hfull) (by decide) tag) (answered_onlyRegs hreq)
  case forbidden =>
    rintro s i q o k ⟨hreq, hop, hobj, hauth, hrole⟩
    exact ends_sessionAck (Sys.bilMethod_forbidden ⟨hreq, hop, hobj, .inl rfl⟩ hauth hrole) (answered_onlyRegs hreq)
  case badAuth =>
    rintro s i q o k r ⟨hreq, hop, hobj, hauth⟩
    exact ends_sessionAck (Sys.bilMethod_badAuth ⟨hreq, hop, hobj, .inl rfl⟩ hauth) (failedAuth_answered hreq rfl)
  case unasked =>
    rintro s i o k hnone
    exact ends_sessionAck (Sys.bilMethod_unasked hnone) rfl

end Sys2Proof
end

section
/-! SUPPORT. A safety cycle as its input pairs see it: what a sample makes of a pair of which a contact demands, what it leaves of the
other pairs, and that nothing after the samples writes a pair's status (spec/10_safety.md, R394, R409-R413). -/
namespace Sys2Proof.Machine

variable {d : Dev} {p : Nat}

/-! ### Words and tables -/

/-- A field that does not hold the replaced bit stays. -/
theorem bits_putBit_other (w : Word) {n a b : Nat} (hn : n < 32) (h : a < n ∨ n < b) (x : Bool) :
    bits (putBit w n x) a b = bits w a b := by
  apply Nat.eq_of_testBit_eq
  intro m
  unfold bits
  rw [Nat.testBit_mod_two_pow, Nat.testBit_shiftRight, Nat.testBit_mod_two_pow, Nat.testBit_shiftRight]
  by_cases hm : m < a + 1 - b
  · have hbit : bitOf (putBit w n x) (b + m) = bitOf w (b + m) := bitOf_putBit_other w (by omega) hn x
    unfold bitOf at hbit
    rw [hbit]
  · simp [hm]

/-- A read is its default, or the same whatever the default. -/
theorem kvGet_eq_default_or {α : Type} (m : KV α) (k : Nat) (v : α) : kvGet m k v = v ∨ ∀ e, kvGet m k e = kvGet m k v := by
  induction m with
  | nil => exact .inl rfl
  | cons q m ih =>
    simp only [kvGet_cons]
    by_cases hq : q.1 = k
    · simp [hq]
    · simpa [hq] using ih

/-- How many of each a part has of what a safety cycle goes through. -/
def cycleCounts (v : Variant) : List Nat := [v.inPairs, v.outPairs, v.outlets, v.cabinets, v.contexts, v.modems, 32 * v.modems]

/-- Each of them has its number in a key. -/
theorem index_lt (v : Variant) {n i : Nat} (hi : i ∈ List.range n) (hn : n ∈ cycleCounts v) : i < 256 := by
  have hcounts : ∀ m ∈ cycleCounts v, m < 256 := by cases v <;> decide
  exact (List.mem_range.1 hi).trans (hcounts n hn)

theorem pair_lt {v : Variant} {p : Nat} (hp : p < v.inPairs) : p < 256 := index_lt v (List.mem_range.2 hp) (by simp [cycleCounts])

/-! ### Registers and waiting accesses that an operation leaves alone -/

/-- The registers at the keys read as before, and so does the record of what waits. -/
structure KeepsKeys (ks : List Nat) (c d : Dev) : Prop where
  regs : ∀ k ∈ ks, ∀ v, kvGet d.regs k v = kvGet c.regs k v
  txn : d.txn = c.txn

section
variable {ks : List Nat} {c e : Dev}

theorem KeepsKeys.refl (ks : List Nat) (d : Dev) : KeepsKeys ks d d := ⟨fun _ _ _ => rfl, rfl⟩

theorem KeepsKeys.trans (h : KeepsKeys ks c d) (g : KeepsKeys ks d e) : KeepsKeys ks c e :=
  ⟨fun k hk v => (g.regs k hk v).trans (h.regs k hk v), g.txn.trans h.txn⟩

theorem KeepsKeys.mono {js : List Nat} (h : KeepsKeys ks c d) (hs : js ⊆ ks) : KeepsKeys js c d :=
  ⟨fun k hk => h.regs k (hs hk), h.txn⟩

theorem KeepsKeys.wr (h : KeepsKeys ks c d) {r : Reg} {i : Nat} (v : Word) (hk : r.key i 0 ∉ ks) : KeepsKeys ks c (d.wr r i v) :=
  h.trans ⟨fun _ hm e => Dev.wrB_regs_other d r i 0 v (fun heq => hk (heq ▸ hm)) e, rfl⟩

theorem KeepsKeys.of_regs (h : KeepsKeys ks c d) (hr : e.regs = d.regs) (ht : e.txn = d.txn) : KeepsKeys ks c e :=
  h.trans ⟨fun _ _ _ => by rw [hr], ht⟩

theorem KeepsKeys.ite {P : Prop} [Decidable P] (h : KeepsKeys ks c d) (g : KeepsKeys ks c e) : KeepsKeys ks c (if P then d else e) := by
  split
  · exact h
  · exact g

theorem KeepsKeys.acqNote (h : KeepsKeys ks c d) (code : Nat) : KeepsKeys ks c (d.acqNote code) := by
  unfold Dev.acqNote
  exact KeepsKeys.ite (h.of_regs rfl rfl) h

theorem KeepsKeys.ev (h : KeepsKeys ks c d) {page : Nat} (n : Nat) (hk : (BLK_EVF page).key 0 0 ∉ ks) : KeepsKeys ks c (d.ev page n) := by
  have hset : KeepsKeys ks c (d.setBit (BLK_EVF page) 0 n true) := h.wr _ hk
  unfold Dev.ev
  dsimp only
  split
  · split
    · exact hset
    · exact hset.acqNote _
  · exact h

theorem KeepsKeys.rd (h : KeepsKeys ks c d) {r : Reg} {i : Nat} (hk : r.key i 0 ∈ ks) : d.rd r i = c.rd r i := h.regs _ hk _

end

/-! ### One sample of a pair (R409-R413) -/

/-- A contact has changed from permitting to demanding since the last sample. -/
def Dev.pairFell (d : Dev) (p : Nat) : Bool :=
  (d.bit SIN_PSTAT p 4 && !(d.contactVals p).1) || (d.bit SIN_PSTAT p 5 && !(d.contactVals p).2)

/-- The discrepancy count at this sample (R410). -/
def Dev.discCount (d : Dev) (p : Nat) : Nat :=
  if (d.contactVals p).1 = (d.contactVals p).2 then 0 else min (d.fld SIN_PSTAT p 26 16 + 1) 2047

/-- A sample's first effect on a pair in use: its contacts and the discrepancy count are shown. -/
def Dev.pairSeen (d : Dev) (p : Nat) : Dev :=
  (((d.setBit SIN_PSTAT p 12 false).setBit SIN_PSTAT p 4 (d.contactVals p).1).setBit SIN_PSTAT p 5 (d.contactVals p).2).setFld
    SIN_PSTAT p 26 16 (d.discCount p)

/-- A reset request beside a change to demanding makes no difference (R412). -/
theorem Dev.pairSample_of_fell (h : d.pairFell p = true) (req : Bool) : d.pairSample p req = d.pairSample p false := by
  unfold Dev.pairFell at h
  unfold Dev.pairSample
  simp only [h, Bool.not_true, Bool.and_false]

/-- Where the contacts agree, a disagreement that ends is counted. -/
def Dev.pairAgreed (d : Dev) (p : Nat) : Dev := if d.pairState p = 2 then (d.pairSeen p).incFld SIN_PCNT p 15 0 else d.pairSeen p

theorem Dev.pairSample_unused (hu : d.pairUsed p = false) (req : Bool) :
    d.pairSample p req = (d.wr SIN_PSTAT p (if d.bit SIN_PCFG p 31 then 0x1000 else 0)).setBit SIN_DEMSUM 0 p true := by
  simp [Dev.pairSample, hu]

theorem Dev.pairSample_off (hu : d.pairUsed p = true) (h0 : d.pairState p = 0) (req : Bool) :
    d.pairSample p req = (d.setBit SIN_PSTAT p 12 false).setPairState p 1 := by
  simp [Dev.pairSample, hu, h0]

theorem Dev.pairSample_faulted (hu : d.pairUsed p = true) (hf : d.pairState p = 5 ∨ d.pairState p = 6) (req : Bool) :
    d.pairSample p req = if req && !d.pairFell p then (d.pairSeen p).pairReset p else d.pairSeen p := by
  have h0 : d.pairState p ≠ 0 := by omega
  simp only [Dev.pairSample, hu, h0, hf]
  rfl

theorem Dev.pairSample_disagreeing (hu : d.pairUsed p = true) (h0 : d.pairState p ≠ 0) (hf : ¬(d.pairState p = 5 ∨ d.pairState p = 6))
    (hab : (d.contactVals p).1 ≠ (d.contactVals p).2) (req : Bool) :
    d.pairSample p req =
      if clampN (d.fld SIN_PCFG p 10 0) 10 2000 ≤ d.discCount p then (d.pairSeen p).pairFault p 5 1
      else (d.pairSeen p).setPairState p 2 := by
  simp [Dev.pairSample, hu, h0, hf, hab, Dev.pairSeen, Dev.discCount]

theorem Dev.pairSample_agreeing (hu : d.pairUsed p = true) (h0 : d.pairState p ≠ 0) (hf : ¬(d.pairState p = 5 ∨ d.pairState p = 6))
    (hab : (d.contactVals p).1 = (d.contactVals p).2) (req : Bool) :
    d.pairSample p req =
      if !(d.contactVals p).1 then (d.pairAgreed p).setPairState p 1
      else if d.pairState p = 1 ∨ d.pairState p = 2 then (d.pairAgreed p).setPairState p 3
      else if d.pairState p = 3 then
        (if !d.bit SIN_PCFG p 25 || (req && !d.pairFell p) then (d.pairAgreed p).setPairState p 4 else d.pairAgreed p)
      else d.pairAgreed p := by
  unfold Dev.pairSample
  rw [if_neg (by simp [hu])]
  dsimp only
  rw [if_neg h0, if_neg hf, if_neg (not_not.2 hab)]
  rfl

/-! ### The state that a sample leaves a pair in -/

theorem Dev.pairState_setPairState (d : Dev) (hp : p < 256) {st : Nat} (hst : st < 8) : (d.setPairState p st).pairState p = st := by
  have hrd : (d.setPairState p st).rd SIN_PSTAT p = (d.setFld SIN_PSTAT p 2 0 st).rd SIN_PSTAT p :=
    Dev.rd_wr_other _ _ _ _ _ _ (Reg.key_ne_of_place (by decide) (by decide) (by decide) hp (by decide))
  calc _ = (d.setFld SIN_PSTAT p 2 0 st).fld SIN_PSTAT p 2 0 := congrArg (bits · 2 0) hrd
    _ = st := by rw [Dev.fld_setFld_same _ _ _ _ (by decide) (by decide)]; omega

theorem Dev.pairState_setFld {hi lo : Nat} (d : Dev) (p v : Nat) (hh : hi < 32) (hl : lo ≤ hi) (h2 : 2 < lo) :
    (d.setFld SIN_PSTAT p hi lo v).pairState p = d.pairState p := by
  unfold Dev.pairState Dev.fld
  rw [Dev.rd_setFld_same]
  exact bits_putBits_other _ _ hh hl (.inl h2)

theorem Dev.pairState_setBit {n : Nat} (d : Dev) (p : Nat) (x : Bool) (hn : n < 32) (h2 : 2 < n) :
    (d.setBit SIN_PSTAT p n x).pairState p = d.pairState p := by
  unfold Dev.pairState Dev.fld
  rw [Dev.rd_setBit_same]
  exact bits_putBit_other _ hn (.inl h2) x

theorem Dev.pairState_pairSeen (d : Dev) (p : Nat) : (d.pairSeen p).pairState p = d.pairState p := by
  unfold Dev.pairSeen
  rw [Dev.pairState_setFld _ _ _ (by decide) (by decide) (by decide), Dev.pairState_setBit _ _ _ (by decide) (by decide),
    Dev.pairState_setBit _ _ _ (by decide) (by decide), Dev.pairState_setBit _ _ _ (by decide) (by decide)]

/-- Whatever keeps a pair's status keeps its state. -/
theorem KeepsKeys.pairState {ks : List Nat} {c : Dev} (h : KeepsKeys ks c d) (hk : SIN_PSTAT.key p 0 ∈ ks) :
    d.pairState p = c.pairState p := congrArg (bits · 2 0) (h.rd hk)

theorem Dev.pairState_pairFault (d : Dev) (hp : p < 256) {st : Nat} (hst : st < 8) (code : Nat) :
    (d.pairFault p st code).pairState p = st := by
  have hne : ∀ {r : Reg} {i : Nat}, r.off < 4096 → i < 256 → SIN_PSTAT.place ≠ r.place → r.key i 0 ∉ [SIN_PSTAT.key p 0] :=
    fun ho hi hr hm => Reg.key_ne_of_place ho hi (by decide) hp hr (List.mem_singleton.1 hm).symm
  have hkeep : KeepsKeys [SIN_PSTAT.key p 0] ((d.setPairState p st).setFld SIN_PSTAT p 9 8 code) (d.pairFault p st code) :=
    (((KeepsKeys.refl _ _).wr _ (hne (by decide) (by decide) (by decide))).wr _ (hne (by decide) hp (by decide))).ev 0
      (hne (by decide) (by decide) (by decide))
  rw [hkeep.pairState (List.mem_singleton.2 rfl), Dev.pairState_setFld _ _ _ (by decide) (by decide) (by decide),
    Dev.pairState_setPairState _ hp hst]

/-- A pair in use and in no fault state of which a contact demands is in DEMAND or WAIT after the sample, or in DISCFAULT where the
discrepancy count has reached DISC (R410, R412). -/
theorem Dev.pairState_pairSample_demanding (hp : p < 256) (hu : d.pairUsed p = true) (h0 : d.pairState p ≠ 0)
    (hf : ¬(d.pairState p = 5 ∨ d.pairState p = 6)) (hd : (d.contactVals p).1 = false ∨ (d.contactVals p).2 = false) (req : Bool) :
    (d.pairSample p req).pairState p = 1 ∨ (d.pairSample p req).pairState p = 2 ∨
      ((d.pairSample p req).pairState p = 5 ∧ clampN (d.fld SIN_PCFG p 10 0) 10 2000 ≤ d.discCount p) := by
  by_cases hab : (d.contactVals p).1 = (d.contactVals p).2
  · have ha : (d.contactVals p).1 = false := by simpa [hab] using hd
    rw [Dev.pairSample_agreeing hu h0 hf hab, if_pos (by simp [ha])]
    exact .inl (Dev.pairState_setPairState _ hp (by decide))
  · rw [Dev.pairSample_disagreeing hu h0 hf hab]
    split
    case isTrue hdisc => exact .inr (.inr ⟨Dev.pairState_pairFault _ hp (by decide) 1, hdisc⟩)
    case isFalse => exact .inr (.inl (Dev.pairState_setPairState _ hp (by decide)))

/-- A pair in PERMIT without a discrepancy so far leaves it for DEMAND or WAIT, since DISC is at least 10 (R412). -/
theorem Dev.pairState_pairSample_permit (hp : p < 256) (hu : d.pairUsed p = true) (hst : d.pairState p = 4)
    (hc : d.fld SIN_PSTAT p 26 16 = 0) (hd : (d.contactVals p).1 = false ∨ (d.contactVals p).2 = false) (req : Bool) :
    (d.pairSample p req).pairState p = 1 ∨ (d.pairSample p req).pairState p = 2 := by
  have hcount : d.discCount p ≤ 1 := by
    unfold Dev.discCount
    rw [hc]
    split <;> omega
  have hdisc : 10 ≤ clampN (d.fld SIN_PCFG p 10 0) 10 2000 := by
    unfold clampN
    split_ifs <;> omega
  rcases Dev.pairState_pairSample_demanding hp hu (by omega) (by omega) hd req with h | h | ⟨-, h⟩
  · exact .inl h
  · exact .inr h
  · omega

/-- After a change to demanding a pair in use is neither in PERMIT nor in READY. -/
theorem Dev.pairState_pairSample_fell (hp : p < 256) (hu : d.pairUsed p = true) (hfell : d.pairFell p = true) (req : Bool) :
    (d.pairSample p req).pairState p ∈ [1, 2, 5, 6] := by
  have hd : (d.contactVals p).1 = false ∨ (d.contactVals p).2 = false := by
    unfold Dev.pairFell at hfell
    simp only [Bool.or_eq_true, Bool.and_eq_true, Bool.not_eq_true'] at hfell
    exact hfell.imp And.right And.right
  by_cases h0 : d.pairState p = 0
  · rw [Dev.pairSample_off hu h0, Dev.pairState_setPairState _ hp (by decide)]
    decide
  by_cases hf : d.pairState p = 5 ∨ d.pairState p = 6
  · rw [Dev.pairSample_of_fell hfell, Dev.pairSample_faulted hu hf, if_neg (by simp), Dev.pairState_pairSeen]
    simp [hf]
  · rcases Dev.pairState_pairSample_demanding hp hu h0 hf hd req with h | h | ⟨h, -⟩ <;> simp [h]

/-! ### What a sample leaves of the other pairs -/

/-- The keys of the registers that a sample of pair q may write. -/
def sampleKeys (q : Nat) : List Nat :=
  [SIN_PSTAT.key q 0, SIN_PCNT.key q 0, SIN_DEMSUM.key 0 0, SIN_FLTSUM.key 0 0, (BLK_EVF 0x5A).key 0 0]

section
variable {ks : List Nat} {c : Dev} {q : Nat}

theorem KeepsKeys.wrSampled (h : KeepsKeys ks c d) (hk : ks.Disjoint (sampleKeys q)) {r : Reg} {i : Nat} (v : Word)
    (hr : r.key i 0 ∈ sampleKeys q) : KeepsKeys ks c (d.wr r i v) := h.wr v (fun hm => hk hm hr)

theorem KeepsKeys.wrPstat (h : KeepsKeys ks c d) (hk : ks.Disjoint (sampleKeys q)) (v : Word) : KeepsKeys ks c (d.wr SIN_PSTAT q v) :=
  h.wrSampled hk v (by simp [sampleKeys])

theorem KeepsKeys.setPairState (h : KeepsKeys ks c d) (hk : ks.Disjoint (sampleKeys q)) (st : Nat) :
    KeepsKeys ks c (d.setPairState q st) := (h.wrPstat hk _).wrSampled hk _ (by simp [sampleKeys])

theorem KeepsKeys.pairSeen (h : KeepsKeys ks c d) (hk : ks.Disjoint (sampleKeys q)) : KeepsKeys ks c (d.pairSeen q) :=
  (((h.wrPstat hk _).wrPstat hk _).wrPstat hk _).wrPstat hk _

theorem KeepsKeys.pairFault (h : KeepsKeys ks c d) (hk : ks.Disjoint (sampleKeys q)) (st code : Nat) :
    KeepsKeys ks c (d.pairFault q st code) :=
  ((((h.setPairState hk st).wrPstat hk _).wrSampled hk _ (by simp [sampleKeys])).wrSampled hk _ (by simp [sampleKeys])).ev 0
    (fun hm => hk hm (by simp [sampleKeys]))

theorem KeepsKeys.pairReset (h : KeepsKeys ks c d) (hk : ks.Disjoint (sampleKeys q)) : KeepsKeys ks c (d.pairReset q) := by
  unfold Dev.pairReset
  exact KeepsKeys.ite ((h.setPairState hk 1).wrPstat hk _) h

/-- A sample of pair q writes no register but those of `sampleKeys q`. -/
theorem KeepsKeys.pairSample (h : KeepsKeys ks c d) (hk : ks.Disjoint (sampleKeys q)) (req : Bool) :
    KeepsKeys ks c (d.pairSample q req) := by
  cases hu : d.pairUsed q
  case false =>
    rw [Dev.pairSample_unused hu]
    exact (h.wrPstat hk _).wrSampled hk _ (by simp [sampleKeys])
  by_cases h0 : d.pairState q = 0
  · rw [Dev.pairSample_off hu h0]
    exact KeepsKeys.setPairState (h.wrPstat hk _) hk 1
  by_cases hf : d.pairState q = 5 ∨ d.pairState q = 6
  · rw [Dev.pairSample_faulted hu hf]
    exact ((h.pairSeen hk).pairReset hk).ite (h.pairSeen hk)
  by_cases hab : (d.contactVals q).1 = (d.contactVals q).2
  · have hagreed : KeepsKeys ks c (d.pairAgreed q) :=
      KeepsKeys.ite ((h.pairSeen hk).wrSampled hk _ (by simp [sampleKeys])) (h.pairSeen hk)
    have hto := fun st => hagreed.setPairState hk st
    rw [Dev.pairSample_agreeing hu h0 hf hab]
    exact (hto 1).ite ((hto 3).ite (((hto 4).ite hagreed).ite hagreed))
  · rw [Dev.pairSample_disagreeing hu h0 hf hab]
    exact ((h.pairSeen hk).pairFault hk 5 1).ite ((h.pairSeen hk).setPairState hk 2)

end
end Sys2Proof.Machine
end

section
/-! SUPPORT. Everything that a safety cycle does after the samples of the input pairs leaves a pair's status and what waits for an
island or a fence: connections, trips, the entry to Hold that a site trip brings, releases, claims and outputs (spec/10_safety.md, R394,
R414-R430; spec/01_architecture.md, R44). -/
namespace Sys2Proof.Machine

/-- Pair p, not in READY in c, shows the same status in d, and the same accesses wait. READY is left out since ending the moves of a
slot record whose module number is beyond every module could reach the pair's word otherwise (`PairHeld.modstat_key_ne`). -/
structure PairHeld (p : Nat) (c d : Dev) : Prop extends KeepsKeys [SIN_PSTAT.key p 0] c d where
  small : p < 256
  notReady : c.pairState p ≠ 3

/-- A register off the page of the safety inputs. -/
abbrev OffInputs (r : Reg) : Prop := r.page ≠ 0x5A ∧ r.off < 4096

theorem OffInputs.key_not_mem {r : Reg} {i p : Nat} (hr : OffInputs r) (hi : i < 256) (hp : p < 256) :
    r.key i 0 ∉ [SIN_PSTAT.key p 0] := by
  obtain ⟨hpage, hoff⟩ := hr
  have hplace : SIN_PSTAT.place ≠ r.place := fun h => hpage (congrArg Prod.fst h).symm
  exact fun hm => Reg.key_ne_of_place hoff hi (by decide) hp hplace (List.mem_singleton.1 hm).symm

namespace PairHeld

variable {p : Nat} {c d : Dev}

theorem with_keeps {e : Dev} (h : PairHeld p c d) (g : KeepsKeys [SIN_PSTAT.key p 0] c e) : PairHeld p c e := ⟨g, h.small, h.notReady⟩

theorem of_regs {e : Dev} (h : PairHeld p c d) (hr : e.regs = d.regs) (ht : e.txn = d.txn) : PairHeld p c e :=
  h.with_keeps (h.toKeepsKeys.of_regs hr ht)

theorem wr (h : PairHeld p c d) {r : Reg} {i : Nat} (v : Word) (hr : OffInputs r) (hi : i < 256) : PairHeld p c (d.wr r i v) :=
  h.with_keeps (h.toKeepsKeys.wr v (hr.key_not_mem hi h.small))

theorem setFld (h : PairHeld p c d) {r : Reg} {i : Nat} (hi lo v : Nat) (hr : OffInputs r) (hin : i < 256) :
    PairHeld p c (d.setFld r i hi lo v) := h.wr _ hr hin

theorem incFld (h : PairHeld p c d) {r : Reg} {i : Nat} (hi lo : Nat) (hr : OffInputs r) (hin : i < 256) :
    PairHeld p c (d.incFld r i hi lo) := h.wr _ hr hin

theorem setBit (h : PairHeld p c d) {r : Reg} {i : Nat} (n : Nat) (x : Bool) (hr : OffInputs r) (hi : i < 256) :
    PairHeld p c (d.setBit r i n x) := h.wr _ hr hi

theorem ite {e : Dev} {P : Prop} [Decidable P] (h : PairHeld p c d) (g : PairHeld p c e) : PairHeld p c (if P then d else e) := by
  split
  · exact h
  · exact g

theorem each {α : Type} {l : List α} {f : α → Dev → Dev} (h : PairHeld p c d)
    (hf : ∀ x ∈ l, ∀ g, PairHeld p c g → PairHeld p c (f x g)) : PairHeld p c (d.each l f) := Dev.each_induction h hf

/-! ### Events and the log -/

theorem acqNote (h : PairHeld p c d) (code : Nat) : PairHeld p c (d.acqNote code) := h.with_keeps (h.toKeepsKeys.acqNote code)

theorem ev (h : PairHeld p c d) {page : Nat} (n : Nat) (hp : page ≠ 0x5A) : PairHeld p c (d.ev page n) :=
  h.with_keeps (h.toKeepsKeys.ev n (OffInputs.key_not_mem ⟨hp, show 0x010 < 4096 by decide⟩ (by decide) h.small))

theorem logPutAt (h : PairHeld p c d) (s code stamp : Nat) (data : List Byte) : PairHeld p c (d.logPutAt s code stamp data) := by
  unfold Dev.logPutAt
  extract_lets q need lostEnt e q1 q2 d1
  have h1 : PairHeld p c d1 := h.of_regs rfl rfl
  have hlost : PairHeld p c ((d1.inc EVT_LOST 0).setBit EVT_LOSTSRC 0 (s % 16) true) :=
    (h1.incFld 31 0 (by decide) (by decide)).setBit _ _ (by decide) (by decide)
  exact ite (h.of_regs rfl rfl) (hlost.ev 1 (by decide))

theorem logPut (h : PairHeld p c d) (s code : Nat) (data : List Byte) : PairHeld p c (d.logPut s code data) := h.logPutAt s code _ data

/-! ### Trips (R422-R430) -/

theorem showStat (h : PairHeld p c d) {o : Nat} (ho : o < 256) : PairHeld p c (d.showStat o) := by
  unfold Dev.showStat
  exact ite (h.wr _ (by decide) (by decide)) (ite (h.wr _ (by decide) ho) (h.setFld _ _ _ (by decide) ho))

theorem showTrips (h : PairHeld p c d) : PairHeld p c d.showTrips := (h.wr _ (by decide) (by decide)).setBit _ _ (by decide) (by decide)

theorem xoutLow (h : PairHeld p c d) : PairHeld p c d.xoutLow := by
  unfold Dev.xoutLow
  exact h.ite ((h.setBit (r := SAF_XSTAT) (i := 0) 1 true (by decide) (by decide)).of_regs rfl rfl)

theorem latchCause (h : PairHeld p c d) {o : Nat} (ho : o < 256) (k stamp : Nat) : PairHeld p c (d.latchCause o k stamp) := by
  unfold Dev.latchCause
  extract_lets _ d1 _ d2 d3 d4 act d5
  have h1 : PairHeld p c d1 := ite (h.of_regs rfl rfl) (h.wr _ (by decide) ho)
  have h2 : PairHeld p c d2 := h1.of_regs rfl rfl
  have h3 : PairHeld p c d3 := ite h2 ((h2.wr _ (by decide) ho).wr _ (by decide) ho)
  have h4 : PairHeld p c d4 := ((h3.showStat ho).setBit _ _ (by decide) (by decide)).showTrips
  have h5 : PairHeld p c d5 := (h4.ev 0 (by decide)).logPutAt _ _ _ _
  exact ite (h5.of_regs rfl rfl) h5

theorem trip (h : PairHeld p c d) (o k stamp : Nat) : PairHeld p c (d.trip o k stamp) := by
  unfold Dev.trip
  extract_lets d1 _ d2
  split
  case isTrue => exact h
  case isFalse hgo =>
    have ho : o < d.variant.outlets := by
      by_contra hno
      exact hgo (by simp [hno])
    have h1 : PairHeld p c d1 := h.latchCause (index_lt d.variant (List.mem_range.2 ho) (by simp [cycleCounts])) k stamp
    have h2 : PairHeld p c d2 := ite (h1.of_regs rfl rfl) h1
    exact ite (h2.xoutLow.of_regs rfl rfl) h2

theorem lossTrip (h : PairHeld p c d) (k cause : Nat) : PairHeld p c (d.lossTrip k cause) :=
  h.each (fun o _ g hg => hg.trip o cause g.time)

theorem setConn (h : PairHeld p c d) {k : Nat} (hk : k < 256) (st : Nat) : PairHeld p c (d.setConn k st) := by
  unfold Dev.setConn
  extract_lets old x x1 x2 d1 d2
  have hx : PairHeld p c (d.setConnR k x2) := h.of_regs rfl rfl
  have h1 : PairHeld p c d1 := (hx.setFld 2 0 st (by decide) hk).logPut _ _ _
  have h2 : PairHeld p c d2 := ite ((h1.setBit k true (by decide) (by decide)).ev 0 (by decide)) (ite (h1.ev 1 (by decide)) h1)
  exact h.ite (h2.ite (h2.lossTrip k 9))

theorem connCycle (h : PairHeld p c d) {k : Nat} (hk : k < 256) : PairHeld p c (d.connCycle k) := by
  unfold Dev.connCycle
  extract_lets on d1
  have h1 : PairHeld p c d1 := (h.setConn hk 0).ite ((h.setConn hk 1).ite h)
  exact h1.ite (h1.lossTrip k 9)

/-! ### Levels (R44, R48) -/

theorem clearCtx (h : PairHeld p c d) {n : Nat} (hn : n < 256) (withY : Bool) : PairHeld p c (d.clearCtx n withY) := by
  have hstate : ∀ b : Bool, ∀ o ∈ (List.range 8).map (fun k => 0x108 + 4 * k) ++ [0x128, 0x12C, 0x130] ++ (if b then [0x134] else []),
      o < 4096 := by decide
  unfold Dev.clearCtx
  extract_lets offs d1
  have h1 : PairHeld p c d1 := h.each (fun o ho g hg =>
    hg.wr 0 ⟨show 0x100 + n ≠ 0x5A by omega, hstate withY o ho⟩ (by decide))
  exact (h1.wr _ (by decide) hn).ite h1

theorem islandsOn (h : PairHeld p c d) : PairHeld p c d.islandsOn :=
  h.each (fun _ _ _ hg => ite (hg.setFld _ _ _ (by decide) (by decide)) hg)

theorem pilResume (h : PairHeld p c d) : PairHeld p c d.pilResume :=
  h.each (fun n _ g hg => by
    unfold Dev.pilGenerate
    exact ite (ite (hg.of_regs rfl rfl) (hg.of_regs rfl rfl)) (hg.of_regs rfl rfl))

theorem plcSetMode (h : PairHeld p c d) {s : Nat} (hs : s < 256) (mode : Nat) : PairHeld p c (d.plcSetMode s mode) :=
  (h.setFld _ _ _ (by decide) hs).setFld _ _ _ (by decide) hs

theorem plcEnabled (h : PairHeld p c d) {s : Nat} (hs : s < 256) (was : Bool) : PairHeld p c (d.plcEnabled s was) := by
  have hon : PairHeld p c ((d.plcSetMode s (d.plcStart s)).setFld PLM_SSTAT s 3 2 1) :=
    (h.plcSetMode hs _).setFld _ _ _ (by decide) hs
  unfold Dev.plcEnabled
  exact ite (hon.of_regs rfl rfl) (ite (h.setFld _ _ _ (by decide) hs) h)

theorem plcSlaves_lt (d : Dev) : ∀ s ∈ d.plcSlaves, s < 256 :=
  fun _ hs => index_lt d.variant hs (by simp [cycleCounts])

theorem plcBoot (h : PairHeld p c d) : PairHeld p c d.plcBoot := by
  have hprofile : PairHeld p c (d.plcProfile d.profile) := by
    unfold Dev.plcProfile
    extract_lets d1
    have h1 : PairHeld p c d1 := h.each (fun m hm g hg =>
      hg.setBit _ _ (by decide) (index_lt d.variant hm (by simp [cycleCounts])))
    exact ite (h1.each (fun s hs g hg => hg.plcSetMode (plcSlaves_lt d1 s hs) 1)) h1
  exact hprofile.each (fun s hs g hg => hg.plcEnabled (plcSlaves_lt d s hs) false)

theorem lapseRequests (h : PairHeld p c d) : PairHeld p c d.lapseRequests := h.each (fun _ _ _ hg => hg.of_regs rfl rfl)

theorem rebuildAll (h : PairHeld p c d) : PairHeld p c d.rebuildAll := h.each (fun _ _ _ hg => ite (hg.of_regs rfl rfl) hg)

theorem levelExit (h : PairHeld p c d) (old : Level) : PairHeld p c (d.levelExit old) := by
  unfold Dev.levelExit
  extract_lets wipe
  have hwipe : PairHeld p c (wipe d) :=
    (h.each (fun n hn g hg => hg.clearCtx (index_lt d.variant hn (by simp [cycleCounts])) true)).each (fun _ _ _ hg => hg.of_regs rfl rfl)
  cases old with
  | hold => exact hwipe.lapseRequests.rebuildAll
  | standby => exact hwipe.islandsOn.pilResume.plcBoot
  | normal => exact h
  | limp => exact h

theorem showLevel (h : PairHeld p c d) (l : Level) : PairHeld p c (d.showLevel l) := by
  unfold Dev.showLevel
  extract_lets d1 _ d2
  have h1 : PairHeld p c d1 := (h.setFld _ _ _ (by decide) (by decide)).acqNote _
  have h2 : PairHeld p c d2 := ite (h1.of_regs rfl rfl) h1
  exact h.ite (h2.logPut _ _ _)

theorem tunAbort (h : PairHeld p c d) (why : Nat) : PairHeld p c (d.tunAbort why) := by
  have hstat : PairHeld p c ((d.setFld LPE_TUNSTAT 0 1 0 3).setFld LPE_TUNSTAT 0 23 20 why) :=
    (h.setFld _ _ _ (by decide) (by decide)).setFld _ _ _ (by decide) (by decide)
  unfold Dev.tunAbort
  have hclear : PairHeld p c (((d.setFld LPE_TUNSTAT 0 1 0 3).setFld LPE_TUNSTAT 0 23 20 why).setTun {}) := hstat.of_regs rfl rfl
  exact ite (hclear.ev 1 (by decide)) h

theorem setLevel (h : PairHeld p c d) (l : Level) : PairHeld p c (d.setLevel l) := by
  unfold Dev.setLevel
  extract_lets old shown _ d1 d2 _ d3
  have hshown : PairHeld p c shown := h.setBit _ _ (by decide) (by decide)
  have h1 : PairHeld p c d1 := ite (hshown.of_regs rfl rfl) h
  have h2 : PairHeld p c d2 := (h1.showLevel l).levelExit old
  have h3 : PairHeld p c d3 := ite (h2.of_regs rfl rfl) h2
  exact h1.ite (((h3.tunAbort 2).ite h3).of_regs rfl rfl)

/-! ### Entry to Hold (R44, R250) -/

theorem rgpShow (h : PairHeld p c d) : PairHeld p c d.rgpShow := by
  unfold Dev.rgpShow
  extract_lets st parked quar q d1
  have h1 : PairHeld p c d1 :=
    ((h.setFld _ _ _ (by decide) (by decide)).setFld _ _ _ (by decide) (by decide)).setFld _ _ _ (by decide) (by decide)
  exact (h1.wr _ (by decide) (by decide)).wr _ (by decide) (by decide)

/-- A module number whose status word would be the pair's own shows the pair's state, which is not Moving's 3. -/
theorem modstat_key_ne (h : PairHeld p c d) {m : Nat} (hm : d.modState m = 3) : RGP_MODSTAT.key m 0 ≠ SIN_PSTAT.key p 0 := by
  intro heq
  have hc : d.pairState p ≠ 3 := by
    rw [h.toKeepsKeys.pairState (List.mem_singleton.2 rfl)]
    exact h.notReady
  have hmod : bits (kvGet d.regs (SIN_PSTAT.key p 0) RGP_MODSTAT.reset) 2 0 = 3 := heq ▸ hm
  rcases kvGet_eq_default_or d.regs (SIN_PSTAT.key p 0) RGP_MODSTAT.reset with hreset | hsame
  · rw [hreset] at hmod
    exact absurd hmod (by decide)
  · exact hc ((congrArg (bits · 2 0) (hsame SIN_PSTAT.reset)).trans hmod)

theorem dropMoving (h : PairHeld p c d) (m : Nat) : PairHeld p c (if d.modState m = 3 then d.setModPlain m 0 else d) := by
  split
  case isTrue hm =>
    exact rgpShow (h.with_keeps (h.toKeepsKeys.wr _ (fun hin => h.modstat_key_ne hm (List.mem_singleton.1 hin))))
  case isFalse => exact h

theorem endMove (h : PairHeld p c d) {k : Nat} (hk : k < 256) (res : Nat) (late : Bool) : PairHeld p c (d.endMove k res late) := by
  have hshow : ∀ {g : Dev}, PairHeld p c g → PairHeld p c (g.showSlot k) := fun {g} hg => by
    unfold Dev.showSlot
    split
    · exact hg.wr _ (by decide) hk
    · exact hg.wr _ (by decide) hk
  unfold Dev.endMove
  split
  case h_1 => exact h
  case h_2 x _ =>
    extract_lets d1 ok d2
    have hslot : PairHeld p c (d.setSlot k none) := h.of_regs rfl rfl
    have h1 : PairHeld p c d1 := hslot.wr _ (by decide) hk
    have h2 : PairHeld p c d2 :=
      ite ((h1.incFld _ _ (by decide) (by decide)).ev 0 (by decide)) ((h1.incFld _ _ (by decide) (by decide)).ev 1 (by decide))
    exact (hshow (ite (h2.ev 2 (by decide)) h2)).rgpShow

theorem abandonMoves (h : PairHeld p c d) : PairHeld p c d.abandonMoves := by
  unfold Dev.abandonMoves
  extract_lets _ d1
  have h1 : PairHeld p c d1 := h.of_regs rfl rfl
  refine h1.each (fun x hx g hg => (hg.dropMoving x.2.modu).endMove ?_ 7 false)
  obtain ⟨k, hk, hslot⟩ := List.mem_filterMap.1 hx
  obtain ⟨r, -, rfl⟩ := Option.map_eq_some_iff.1 hslot
  exact (List.mem_range.1 hk).trans (by decide)

theorem endSatIntervals (h : PairHeld p c d) : PairHeld p c d.endSatIntervals := h.each (fun _ _ _ hg => ite (hg.of_regs rfl rfl) hg)

theorem arbIdle (h : PairHeld p c d) {a : Nat} (ha : a < 256) : PairHeld p c (d.arbIdle a) := by
  unfold Dev.arbIdle
  extract_lets d1
  have h1 : PairHeld p c d1 := ite ((h.wr _ (by decide) (by decide)).setBit _ _ (by decide) (by decide))
    ((h.wr _ (by decide) ha).setBit _ _ (by decide) ha)
  exact h1.of_regs rfl rfl

/-- The site, 16, and the outlets. -/
theorem target_lt {d : Dev} {o : Nat} (ho : o ∈ 16 :: List.range d.variant.outlets) : o < 256 := by
  rcases List.mem_cons.1 ho with rfl | ho
  · decide
  · exact index_lt d.variant ho (by simp [cycleCounts])

theorem frameIdle (h : PairHeld p c d) : PairHeld p c d.frameIdle :=
  (h.of_regs (e := { d with loop := { d.loop with due := [], inLane := [], notIn := [] } }) rfl rfl).each
    (fun _ ha _ hg => hg.arbIdle (target_lt ha))

theorem enterHold (h : PairHeld p c d) : PairHeld p c d.enterHold := by
  unfold Dev.enterHold
  extract_lets d1 d2 d3
  have h2 : PairHeld p c d2 := (h.setLevel .hold).abandonMoves.endSatIntervals.frameIdle
  have h3 : PairHeld p c d3 := h2.each (fun o _ g hg => hg.trip o 1 g.time)
  exact h.ite (ite (h3.of_regs rfl rfl) h3)

theorem enterLimp (h : PairHeld p c d) : PairHeld p c d.enterLimp := by
  unfold Dev.enterLimp
  exact ite ((h.setLevel .limp).of_regs rfl rfl) h

theorem addCause (h : PairHeld p c d) (n : Nat) : PairHeld p c (d.addCause n) := by
  have hset : PairHeld p c (d.setBit PWR_CAUSE 0 n true) := h.setBit _ _ (by decide) (by decide)
  exact hset.enterLimp.ite hset.enterHold

theorem siteTrip (h : PairHeld p c d) (k stamp : Nat) : PairHeld p c (d.siteTrip k stamp) := by
  unfold Dev.siteTrip
  extract_lets d1 d2 d3
  have h1 : PairHeld p c d1 := h.latchCause (by decide) k stamp
  have h2 : PairHeld p c d2 := h1.ite h1.xoutLow
  have h3 : PairHeld p c d3 := h2.each (fun o _ g hg => hg.trip o 0xC stamp)
  exact h.ite (h3.addCause 7)

theorem inputTrips (h : PairHeld p c d) : PairHeld p c d.inputTrips := by
  unfold Dev.inputTrips
  extract_lets d1 m d2
  have h1 : PairHeld p c d1 := h.each (fun o _ g hg => by
    extract_lets e1 e2
    have hg1 : PairHeld p c e1 := (hg.trip o 2 g.time).ite hg
    have hg2 : PairHeld p c e2 := (hg1.trip o 3 e1.time).ite hg1
    exact (hg2.trip o 8 e2.time).ite hg2)
  have h2 : PairHeld p c d2 := (h1.siteTrip 2 d1.time).ite h1
  exact (h2.siteTrip 3 d2.time).ite h2

/-! ### Releases, claims and outputs -/

theorem dropCauses (h : PairHeld p c d) {o : Nat} (ho : o < 256) (m : Nat) : PairHeld p c (d.dropCauses o m) := by
  unfold Dev.dropCauses
  extract_lets left _ d1 d2 keep _ d3
  have h1 : PairHeld p c d1 := ite (h.of_regs rfl rfl) (h.wr _ (by decide) ho)
  have h2 : PairHeld p c d2 := (h1.showStat ho).showTrips
  have h3 : PairHeld p c d3 := h2.of_regs rfl rfl
  exact h.ite (h2.ite (h3.logPut _ _ _))

theorem releaseStart (h : PairHeld p c d) {o : Nat} (ho : o < 256) (req : Bool) : PairHeld p c (d.releaseStart o req) := by
  unfold Dev.releaseStart
  extract_lets dual s hold _ d1
  have h1 : PairHeld p c d1 := h.of_regs rfl rfl
  exact h.ite (h1.ite (h1.dropCauses ho 2))

theorem releases (h : PairHeld p c d) (req before : Nat) : PairHeld p c (d.releases req before) :=
  h.each (fun _ ho _ hg => ite (hg.dropCauses (target_lt ho) _) ((hg.dropCauses (target_lt ho) _).releaseStart (target_lt ho) _))

theorem setPair (h : PairHeld p c d) {q : Nat} (hq : q < 256) (on : Bool) : PairHeld p c (d.setPair q on) := by
  unfold Dev.setPair
  extract_lets was _ d1
  have h1 : PairHeld p c d1 := (h.setBit (r := SOUT_ONSUM) (i := 0) q on (by decide) (by decide)).of_regs rfl rfl
  exact h.ite (h1.ite (h1.setFld _ _ _ (by decide) hq))

theorem outputCycle (h : PairHeld p c d) (held : Bool) {q : Nat} (hq : q < 256) : PairHeld p c (d.outputCycle held q) := by
  unfold Dev.outputCycle
  extract_lets m outs want d1
  have h1 : PairHeld p c d1 := ite (h.setFld _ _ _ (by decide) hq) h
  exact h1.setPair hq want

theorem clearOutFault (h : PairHeld p c d) {q : Nat} (hq : q < 256) (offNs : Nat) : PairHeld p c (d.clearOutFault q offNs) := by
  unfold Dev.clearOutFault
  exact ite ((h.setFld _ _ _ (by decide) hq).setFld _ _ _ (by decide) hq) h

theorem xoutCycle (h : PairHeld p c d) : PairHeld p c d.xoutCycle := by
  unfold Dev.xoutCycle
  exact ite (h.setBit _ _ (by decide) (by decide)) h

end PairHeld
end Sys2Proof.Machine
end

section
/-! SUPPORT. A safety cycle without an image to apply: what stands before the samples of the input pairs, the samples, and what follows
(spec/10_safety.md, R394, R412). -/
namespace Sys2Proof.Machine

variable {d : Dev} {p t fclrOff tcm : Nat}

/-- A cycle's start: the corrected errors are counted, a confirmed image applies, and the requests are taken. -/
def Dev.beforeSamples (d : Dev) (t tcm : Nat) : Dev :=
  let d0 := (d.at t).countTcm tcm
  let s := d0.saf
  let d1 := match s.confirmed with | some b => d0.applyImage b | none => d0
  { d1 with saf := { d1.saf with rst := 0, prst := 0, fclr := 0, onReq := if s.confirmed.isSome then s.onReq else none, cycleAt := t } }

/-- The samples of all input pairs, with the reset requests of a word. -/
def Dev.samples (d : Dev) (prst : Nat) : Dev := d.each d.inPairsL (fun p e => e.pairSample p (prst.testBit p))

/-- A cycle's rest, with the requests that stood at its start. -/
def Dev.afterSamples (d : Dev) (s : SafState) (fclrOff : Nat) : Dev :=
  let d4 := (d.each d.connsL (fun c e => e.connCycle c)).inputTrips
  let d5 := d4.each d4.outPairsL (fun p e =>
    if s.fclr.testBit p then e.clearOutFault p (if fclrOff.testBit p then 10000000 else 0) else e)
  let d6 := d5.releases s.rst s.cycleAt
  let d7 := d6.each (List.range d6.variant.outlets) (fun o e => e.publishClaim o)
  let d8 := match s.confirmed, s.onReq with
    | none, some m => d7.each d7.outPairsL (fun p e => e.setBit SOUT_PCTL p 0 (m.testBit p))
    | _, _ => d7
  let d9 := match d8.pair.onMask with
    | some m => { d8.each (d8.outPairsL.filter (fun p => d8.bit SOUT_PCFG p 24)) (fun p e => e.setBit SOUT_PCTL p 0 (m.testBit p)) with
                  pair := { d8.pair with onMask := none } }
    | none => d8
  let d10 := d9.each d9.outPairsL (fun p e => e.outputCycle s.confirmed.isSome p)
  let d11 := (d10.wr SOUT_KASTAT 0 (if d10.pwr.ifaceReset then 1 else 3)).xoutCycle
  d11.wr SAF_STAT 0 d11.safStat

/-- A cycle of a running safety island in its three parts. -/
theorem Dev.safetyCycle_eq (hup : d.up .safety = true) (ht : t % 1000000 = 0) :
    d.safetyCycle t fclrOff tcm = ((d.beforeSamples t tcm).samples d.saf.prst).afterSamples d.saf fclrOff := by
  have hrun : (d.at t).up .safety = true := hup
  unfold Dev.safetyCycle
  extract_lets d0
  rw [if_neg (by simp [d0, hrun, ht])]
  rfl

theorem Dev.beforeSamples_eq (hc : d.saf.confirmed = none) (tcm : Nat) :
    d.beforeSamples t tcm =
      { (d.at t).countTcm tcm with saf := { d.saf with rst := 0, prst := 0, fclr := 0, onReq := none, cycleAt := t } } := by
  have hc' : ((d.at t).countTcm tcm).saf.confirmed = none := hc
  simp only [Dev.beforeSamples, hc', hc]
  rfl

/-- What follows the samples leaves a pair's status. -/
theorem PairHeld.afterSamples {c : Dev} (h : PairHeld p c d) (s : SafState) (fclrOff : Nat) : PairHeld p c (d.afterSamples s fclrOff) := by
  have hout : ∀ {e : Dev} {q : Nat}, q ∈ e.outPairsL → q < 256 := fun {e q} hq => index_lt e.variant hq (by simp [cycleCounts])
  have hctl : ∀ {e : Dev} {l : List Nat} (m : Nat), PairHeld p c e → l ⊆ e.outPairsL →
      PairHeld p c (e.each l (fun q g => g.setBit SOUT_PCTL q 0 (m.testBit q))) :=
    fun m he hl => he.each (fun q hq g hg => hg.setBit _ _ (by decide) (hout (hl hq)))
  unfold Dev.afterSamples
  extract_lets d4 d5 d6 d7 d8 _ d9 d10 d11
  have h4 : PairHeld p c d4 :=
    (h.each (fun k hk g hg => hg.connCycle (index_lt d.variant hk (by simp [cycleCounts])))).inputTrips
  have h5 : PairHeld p c d5 := h4.each (fun q hq g hg => (hg.clearOutFault (hout hq) _).ite hg)
  have h6 : PairHeld p c d6 := h5.releases _ _
  have h7 : PairHeld p c d7 := h6.each (fun o ho g hg =>
    hg.wr _ (by decide) (index_lt d6.variant ho (by simp [cycleCounts])))
  have h8 : PairHeld p c d8 := by
    dsimp only [d8]
    split
    · exact hctl _ h7 (List.Subset.refl _)
    · exact h7
  have h9 : PairHeld p c d9 := by
    dsimp only [d9]
    split
    case h_1 m _ => exact (hctl m h8 (List.filter_subset_self _)).of_regs rfl rfl
    case h_2 => exact h8
  have h10 : PairHeld p c d10 := h9.each (fun q hq g hg => hg.outputCycle _ (hout hq))
  have h11 : PairHeld p c d11 := (h10.wr _ (by decide) (by decide)).xoutCycle
  exact h11.wr _ (by decide) (by decide)

/-! ### A pair among the samples of the others -/

/-- The registers that tell whether a pair is in use, its status and its contacts. -/
def viewKeys (p : Nat) : List Nat := [SIN_PSTAT.key p 0, SIN_PCFG.key p 0, SIN_FILT.key 0 0]

section
variable {c : Dev}

theorem KeepsKeys.view_pstat (h : KeepsKeys (viewKeys p) c d) : d.rd SIN_PSTAT p = c.rd SIN_PSTAT p := h.rd (by simp [viewKeys])

theorem KeepsKeys.view_pcfg (h : KeepsKeys (viewKeys p) c d) : d.rd SIN_PCFG p = c.rd SIN_PCFG p := h.rd (by simp [viewKeys])

theorem KeepsKeys.pairUsed (h : KeepsKeys (viewKeys p) c d) : d.pairUsed p = c.pairUsed p := by
  unfold Dev.pairUsed Dev.bit Dev.fld
  rw [h.view_pcfg]

theorem KeepsKeys.contactVals (h : KeepsKeys (viewKeys p) c d) : d.contactVals p = c.contactVals p := by
  have hfilt : d.rd SIN_FILT 0 = c.rd SIN_FILT 0 := h.rd (by simp [viewKeys])
  unfold Dev.contactVals Dev.bit
  rw [hfilt, h.view_pcfg]

theorem KeepsKeys.pairFell (h : KeepsKeys (viewKeys p) c d) : d.pairFell p = c.pairFell p := by
  unfold Dev.pairFell Dev.bit
  rw [h.view_pstat, h.contactVals]

end

theorem viewKeys_disjoint_sampleKeys {q : Nat} (hp : p < 256) (hq : q < 256) (h : q ≠ p) : (viewKeys p).Disjoint (sampleKeys q) := by
  intro k hk hs
  simp only [viewKeys, sampleKeys, Reg.key, SIN_PSTAT, SIN_PCFG, SIN_FILT, SIN_PCNT, SIN_DEMSUM, SIN_FLTSUM, BLK_EVF, List.mem_cons,
    List.not_mem_nil, or_false] at hk hs
  omega

/-- A pair stands once among the pairs, and none of the others shares a key with it. -/
theorem Dev.inPairsL_split (hp : p < d.variant.inPairs) :
    ∃ before after, d.inPairsL = before ++ p :: after ∧
      ∀ q ∈ before ++ after, q ≠ p ∧ (viewKeys p).Disjoint (sampleKeys q) := by
  have hnodup : d.inPairsL.Nodup := List.nodup_range
  obtain ⟨before, after, hsplit⟩ := List.append_of_mem (show p ∈ d.inPairsL from List.mem_range.2 hp)
  rw [hsplit] at hnodup
  obtain ⟨hnot, -⟩ := List.nodup_cons.1 (List.nodup_middle.1 hnodup)
  refine ⟨before, after, hsplit, fun q hq => ?_⟩
  have hne : q ≠ p := fun h => hnot (h ▸ hq)
  have hmem : q ∈ d.inPairsL := hsplit ▸ List.mem_append.2 ((List.mem_append.1 hq).imp_right (List.mem_cons_of_mem p))
  exact ⟨hne, viewKeys_disjoint_sampleKeys (pair_lt hp) (pair_lt (List.mem_range.1 hmem)) hne⟩

theorem KeepsKeys.samplesOf {ks : List Nat} {l : List Nat} (hl : ∀ q ∈ l, ks.Disjoint (sampleKeys q)) (d : Dev) (prst : Nat) :
    KeepsKeys ks d (d.each l (fun q e => e.pairSample q (prst.testBit q))) :=
  Dev.each_induction (KeepsKeys.refl ks d) (fun q hq _ hg => hg.pairSample (hl q hq) _)

/-- Pair p's own sample finds what the pair's registers hold before the samples, and the later ones leave its status. -/
theorem Dev.samples_pair (hp : p < d.variant.inPairs) (prst : Nat) :
    ∃ g, KeepsKeys (viewKeys p) d g ∧ KeepsKeys [SIN_PSTAT.key p 0] (g.pairSample p (prst.testBit p)) (d.samples prst) := by
  obtain ⟨before, after, hsplit, hothers⟩ := Dev.inPairsL_split hp
  refine ⟨_, KeepsKeys.samplesOf (fun q hq => (hothers q (List.mem_append_left _ hq)).2) d prst, ?_⟩
  have hafter := KeepsKeys.samplesOf (fun q hq => (hothers q (List.mem_append_right _ hq)).2)
    ((d.each before (fun q e => e.pairSample q (prst.testBit q))).pairSample p (prst.testBit p)) prst
  unfold Dev.samples
  rw [hsplit, Dev.each_append]
  exact hafter.mono (by simp [viewKeys])

/-- The samples with a reset request for a pair that changes to demanding are the samples without it (R412). -/
theorem Dev.samples_of_fell (hp : p < d.variant.inPairs) (hfell : d.pairFell p = true) : d.samples (2 ^ p) = d.samples 0 := by
  obtain ⟨before, after, hsplit, hothers⟩ := Dev.inPairsL_split hp
  have hsame : ∀ l ⊆ before ++ after, ∀ g : Dev,
      g.each l (fun q e => e.pairSample q ((2 ^ p).testBit q)) = g.each l (fun q e => e.pairSample q ((0 : Nat).testBit q)) :=
    fun l hl g => List.foldl_ext _ _ _ (fun e q hq => congrArg (e.pairSample q)
      ((Nat.testBit_two_pow_of_ne (hothers q (hl hq)).1.symm).trans (Nat.zero_testBit q).symm))
  have hbefore := KeepsKeys.samplesOf (fun q hq => (hothers q (List.mem_append_left _ hq)).2) d 0
  have hown := Dev.pairSample_of_fell (hbefore.pairFell.trans hfell) ((2 ^ p).testBit p)
  unfold Dev.samples
  rw [hsplit, Dev.each_append, Dev.each_append, hsame before (List.subset_append_left _ _)]
  change Dev.each (Dev.pairSample _ p _) after _ = Dev.each (Dev.pairSample _ p _) after _
  rw [hown, Nat.zero_testBit, hsame after (List.subset_append_right _ _)]

/-! ### The cycle -/

theorem KeepsKeys.beforeSamples (hp : p < 256) (hc : d.saf.confirmed = none) (t tcm : Nat) :
    KeepsKeys (viewKeys p) d (d.beforeSamples t tcm) := by
  have hkey : SAF_ECCCNT.key 0 0 ∉ viewKeys p := fun hm => by
    simp only [viewKeys, Reg.key, SIN_PSTAT, SIN_PCFG, SIN_FILT, SAF_ECCCNT, List.mem_cons, List.not_mem_nil, or_false] at hm
    omega
  have htime : KeepsKeys (viewKeys p) d (d.at t) := (KeepsKeys.refl _ d).of_regs rfl rfl
  have hcount : KeepsKeys (viewKeys p) d ((d.at t).countTcm tcm) := htime.wr _ hkey
  rw [Dev.beforeSamples_eq hc]
  exact hcount.of_regs rfl rfl

theorem Dev.beforeSamples_variant (hc : d.saf.confirmed = none) (t tcm : Nat) : (d.beforeSamples t tcm).variant = d.variant := by
  rw [Dev.beforeSamples_eq hc]
  rfl

/-- A cycle leaves a pair in the state of its own sample, unless that is READY, and nothing begins or ends to wait. -/
theorem Dev.safetyCycle_pair (hup : d.up .safety = true) (ht : t % 1000000 = 0) (hc : d.saf.confirmed = none)
    (hp : p < d.variant.inPairs) :
    ∃ g, KeepsKeys (viewKeys p) d g ∧ ((g.pairSample p (d.saf.prst.testBit p)).pairState p ≠ 3 →
      (d.safetyCycle t fclrOff tcm).txn = d.txn ∧
        (d.safetyCycle t fclrOff tcm).pairState p = (g.pairSample p (d.saf.prst.testBit p)).pairState p) := by
  have hsmall : p < 256 := pair_lt hp
  obtain ⟨g, hview, hown⟩ := Dev.samples_pair (d := d.beforeSamples t tcm) (by rwa [Dev.beforeSamples_variant hc]) d.saf.prst
  have hview' := (KeepsKeys.beforeSamples hsmall hc t tcm).trans hview
  have htxn := (KeepsKeys.refl [] g).pairSample (q := p) (by simp) (d.saf.prst.testBit p)
  refine ⟨g, hview', fun hready => ?_⟩
  have hheld := PairHeld.afterSamples ⟨hown, hsmall, hready⟩ d.saf fclrOff
  rw [Dev.safetyCycle_eq hup ht]
  exact ⟨(hheld.txn.trans htxn.txn).trans hview'.txn, hheld.toKeepsKeys.pairState (by simp)⟩

/-- A reset request for a pair that changes to demanding makes no difference to the cycle (R412). -/
theorem Dev.safetyCycle_of_fell (hup : d.up .safety = true) (ht : t % 1000000 = 0) (hc : d.saf.confirmed = none)
    (hp : p < d.variant.inPairs) (hprst : d.saf.prst = 2 ^ p) (hfell : d.pairFell p = true) :
    Dev.safetyCycle { d with saf := { d.saf with prst := 0 } } t fclrOff tcm = d.safetyCycle t fclrOff tcm := by
  have hview := KeepsKeys.beforeSamples (pair_lt hp) hc t tcm
  have hsame : Dev.beforeSamples { d with saf := { d.saf with prst := 0 } } t tcm = d.beforeSamples t tcm := by
    rw [Dev.beforeSamples_eq hc, Dev.beforeSamples_eq (by exact hc)]
    rfl
  have hsamples : (d.beforeSamples t tcm).samples (2 ^ p) = (d.beforeSamples t tcm).samples 0 :=
    Dev.samples_of_fell (by rwa [Dev.beforeSamples_variant hc]) (hview.pairFell.trans hfell)
  rw [Dev.safetyCycle_eq (by exact hup) ht, Dev.safetyCycle_eq hup ht, hsame, hprst, hsamples]
  rfl

/-- Where nothing waits for an island or a fence, nothing is released. -/
theorem Sys.releaseHeld_of_nothing {s : Sys} (hh : s.dev.txn.held = []) (hs : s.dev.txn.stores = []) (hr : s.dev.txn.reads = []) :
    s.releaseHeld = s := by
  have hwrites : s.releaseWrites = s := by
    unfold Sys.releaseWrites
    rw [hh]
    exact congrArg (fun l => s.onDev (fun d => { d with txn := { d.txn with held := l } })) hh.symm
  have hstores : s.releaseStores = s := by
    unfold Sys.releaseStores
    rw [hs]
    exact congrArg (fun l => s.onDev (fun d => { d with txn := { d.txn with stores := l } })) hs.symm
  have hreads : s.releaseReads = s := by
    unfold Sys.releaseReads
    rw [hr]
    exact congrArg (fun l => s.onDev (fun d => { d with txn := { d.txn with reads := l } })) hr.symm
  rw [Sys.releaseHeld, hwrites, hstores, hreads]

end Sys2Proof.Machine

namespace Sys2Proof
open Machine

/-- A cycle where nothing waits and nothing comes to wait is the device's cycle alone. -/
theorem exec_safetyCycle {s : State} {t f m : Nat} (hw : NothingWaits s) (ht : (s.dev.safetyCycle t f m).txn = s.dev.txn) :
    exec (.safetyCycle t ⟨f, m⟩) s = .next { s with sys := s.sys.onDev (fun d => d.safetyCycle t f m) } := by
  obtain ⟨hheld, hstores, hreads⟩ := hw
  change Host.Outcome.next { s with sys := (s.sys.onDev (fun d => d.safetyCycle t f m)).releaseHeld } = _
  rw [Sys.releaseHeld_of_nothing (by rwa [Sys.onDev_dev, ht]) (by rwa [Sys.onDev_dev, ht]) (by rwa [Sys.onDev_dev, ht])]

/-- Two states apart in the device alone answer a cycle alike where the devices' cycles are the same. -/
theorem exec_safetyCycle_congr {s : State} {d : Dev} {t f m : Nat} (h : d.safetyCycle t f m = s.dev.safetyCycle t f m) :
    exec (.safetyCycle t ⟨f, m⟩) { s with sys := { s.sys with dev := d } } = exec (.safetyCycle t ⟨f, m⟩) s := by
  change Host.Outcome.next { s with sys := Sys.releaseHeld { s.sys with dev := d.safetyCycle t f m } } = _
  rw [h]
  rfl

/-- Settles O34: a cycle leaves a pair as its own sample does; that sample takes PERMIT to DEMAND or WAIT, since DISC is at least 10, and
reads no reset request where a contact has changed to demanding. -/
theorem demandPrevailsWithinASample : Obligations.DemandPrevailsWithinASample := by
  unfold Obligations.DemandPrevailsWithinASample
  refine ⟨?leavesPermit, ?voidsRequest⟩
  case leavesPermit =>
    rintro s t0 f m p ⟨hup, ht, hc, hw⟩ ⟨hp, hu, hst, hcount⟩ hd
    have hsmall : p < 256 := pair_lt hp
    obtain ⟨g, hview, hcycle⟩ := Dev.safetyCycle_pair (fclrOff := f) (tcm := m) hup ht hc hp
    have hstate : (g.pairSample p (s.dev.saf.prst.testBit p)).pairState p = 1 ∨
        (g.pairSample p (s.dev.saf.prst.testBit p)).pairState p = 2 :=
      Dev.pairState_pairSample_permit hsmall (hview.pairUsed.trans hu) ((hview.pairState (by simp [viewKeys])).trans hst)
        ((congrArg (bits · 26 16) hview.view_pstat).trans hcount) (by rwa [hview.contactVals]) _
    obtain ⟨htxn, hpair⟩ := hcycle (by omega)
    exact ⟨_, exec_safetyCycle hw htxn, by rwa [← hpair] at hstate⟩
  case voidsRequest =>
    rintro s t0 f m p ⟨hup, ht, hc, hw⟩ ⟨hp, hu, hprst⟩ hfell
    have hsmall : p < 256 := pair_lt hp
    have hfell' : s.dev.pairFell p = true := by simpa [Dev.pairFell] using hfell
    obtain ⟨g, hview, hcycle⟩ := Dev.safetyCycle_pair (fclrOff := f) (tcm := m) hup ht hc hp
    have hstate := Dev.pairState_pairSample_fell hsmall (hview.pairUsed.trans hu) (hview.pairFell.trans hfell')
      (s.dev.saf.prst.testBit p)
    obtain ⟨htxn, hpair⟩ := hcycle (fun h => absurd (h ▸ hstate) (by decide))
    rw [← hpair] at hstate
    have hsame := Dev.safetyCycle_of_fell (fclrOff := f) (tcm := m) hup ht hc hp hprst hfell'
    refine ⟨_, exec_safetyCycle hw htxn, fun h => absurd (h ▸ hstate) (by decide), ?_⟩
    rw [exec_safetyCycle_congr hsame, exec_safetyCycle hw htxn]

end Sys2Proof
end
